-- ==== Sys2Proof/Word.lean ====
section
/-!
DEFINITION. The word types of the model: bytes, the 8-byte words of registers and records, and the 16-byte units of the links.
-/
namespace Sys2Proof

/-- One byte of a record, a pane or a data beat. -/
abbrev Byte := BitVec 8

/-- One 8-byte word of a register (R570) or of a record (R5). -/
abbrev Word := BitVec 64

/-- One 16-byte unit of a pane body (R323). -/
abbrev LinkUnit := BitVec 128

/-- A port index, 0 to 5 = X+, X−, Y+, Y−, Z+, Z− (01, subsystems). -/
abbrev PortIx := Fin 6

end Sys2Proof
end

