-- ==== Sys2Proof/Syntax.lean ====
section
/-!
DEFINITION. The commands of the block: one constructor of `Instr` for each row of spec/opcode_table.json, with the operands the
step needs. Objects inside the block are named by their numbers; what arrives from outside is carried as it arrives.
-/
namespace Sys2Proof

/-- How a fabric read came back (R552): data, FAULT, UE or PART_RESET. -/
inductive ReadResult where
  | data (bytes : List Byte)
  | fault
  | ue
  | partReset
  deriving DecidableEq, Repr

/-- An operation of a command buffer: channel index, ring index of its buffer (a count modulo 2³², R106) and operation index. -/
structure OpRef where
  chan : Nat
  ring : Nat
  op : Nat
  deriving DecidableEq, Repr

/-- An admin command: the Pavilion of its ring and the count of its entry (R86, R90). -/
structure AdminRef where
  pav : Nat
  entry : Nat
  deriving DecidableEq, Repr

/-- Where a released message waits for its consumer: a virtual channel of a port (R317), or the same node (R31). -/
inductive MsgSource where
  | port (p : PortIx) (vc : Nat)
  | sameNode
  deriving DecidableEq, Repr

/-- The instructions of the TAP (R11, R569): the public ones, and those that select the IEEE 1687 network and the IEEE 1500 wrappers (R545). -/
inductive TapInstr where
  | bypass
  | idcode
  | sample
  | extest
  | network
  | wrapper
  deriving DecidableEq, Repr

/-- The boundary-scan register (R569): the boundary signals of R550 that the model holds as levels. -/
structure Boundary where
  faultOut : Bool := false
  fatalOut : Bool := false
  rstReq : BitVec 2 := 0
  podTime : Word := 0
  podState : BitVec 2 := 0
  rotDbg : Bool := false
  deriving DecidableEq, Repr

/-- An access of the test port (R546, R547, R569): the FREEZE instrument with its FREEZE_AT, TRST_N, a TAP instruction, a data scan with what is
shifted in, or the capture of a domain. -/
inductive TestOp where
  | freeze (atTick : Option Word)
  | reset
  | instruct (i : TapInstr)
  | scan (tdi : Boundary)
  | capture (domain : Nat)
  deriving DecidableEq, Repr

/-- A REGWIN access (R558): the aperture signal, the 24-bit offset, the size in bytes and, for a write, the data. -/
structure RegAccess where
  channelPage : Bool
  offset : BitVec 24
  size : Nat
  write : Option Word
  deriving DecidableEq, Repr

/-- The engines that report a stop for a retiring channel (R119). -/
inductive EngineKind where
  | copy (cluster : Nat)
  | gather (slice : Nat)
  | atomic
  deriving DecidableEq, Repr

/-- Why a lane is lost (R374, R466): CDR lock, the lane PLL, or a fault the optical engine reports. -/
inductive LaneFault where
  | cdr
  | pll
  | optics
  deriving DecidableEq, Repr

/-- What one reading of an optical engine shows (R397, R398): no answer, or the module state, the lanes it reports faulty and
whether some monitor lies outside the board-table limits, for the lane monitors (lane, transmit power, bias, receive power). -/
inductive OpticsReading where
  | failed
  | status (moduleState : Byte) (faulty : List Nat) (monitors : List (Nat × Nat × Nat × Nat))
  deriving DecidableEq, Repr

/-- An SPDM request as the responder tells requests apart (R429, R430). `session` is the session the message was sent in. -/
inductive SpdmRequest where
  | getVersion
  | getCapabilities
  | negotiateAlgorithms (supported : Bool)
  | getDigests
  | getCertificate (slot : Nat) (offset : Nat) (len : Nat)
  | challenge (slot : Nat) (nonce : BitVec 256)
  | getMeasurements (session : Option Nat) (index : Nat) (signed : Bool)
  | keyExchange
  | finish (session : Nat)
  | keyUpdate (session : Nat)
  | heartbeat (session : Nat)
  | endSession (session : Nat)
  | wrongVersion
  | other (code : Byte)
  deriving DecidableEq, Repr

/-- What a checker or a unit reports to the fault controller (R487, R490, R491): the cause code, the source unit, access, Pavilion,
channel, engine, checker, status and address the capture holds. -/
structure ErrorReport where
  cause : BitVec 8
  unit : BitVec 8
  access : BitVec 4
  pav : BitVec 4
  channel : BitVec 12
  engine : BitVec 8
  checker : BitVec 10
  status : BitVec 8
  addr : BitVec 56
  deriving DecidableEq, Repr

/-- What the background scrubber finds in one entry (R486, R487): nothing, a corrected codeword at a checker, or an uncorrectable
one, with the object the entry belongs to. -/
inductive ScrubOutcome where
  | clean
  | corrected (checker : BitVec 10) (entry : Nat)
  | uncorrectable (checker : BitVec 10) (entry : Nat)
  deriving DecidableEq, Repr

/-- The level PWRM signals and the level each of the four detectors reports (R476). -/
structure DroopReading where
  pwrm : BitVec 2
  det0 : BitVec 2
  det1 : BitVec 2
  det2 : BitVec 2
  det3 : BitVec 2
  deriving DecidableEq, Repr

/-- RELEASE from the root of trust (R561): the image digest it verified, the digest the boot ROM computes over the code region
(R521), security version, node serial, table addresses, the pod configuration key, the trusted root keys and the certificate chain. -/
structure RotRelease where
  imageDigest : BitVec 384
  romDigest : BitVec 384
  securityVersion : Word
  serial : Word
  installAddr : Nat
  boardAddr : Nat
  podKey : BitVec 768
  rootKeys : List (BitVec 768)
  chain : List Byte
  deriving DecidableEq, Repr

/-- The commands, one constructor per row of spec/opcode_table.json. DESIGN CHOICE, log entry 144. -/
inductive Instr where
  /-- COLD_RESET_INPUT (R510). -/
  | coldResetInput (powerUp : Bool)
  /-- WARM_RESET_INPUT (R565). -/
  | warmResetInput
  /-- BLOCK_RESET_COMPLETE (R573). -/
  | blockResetComplete
  /-- REFCLK_LOSS (R466). -/
  | refclkLoss
  /-- REGWIN_ACCESS (R558). -/
  | regwinAccess (a : RegAccess)
  /-- REGISTER_WRITE (R558). -/
  | registerWrite (offset : BitVec 20) (value : Word)
  /-- ADMIN0_ENABLE (R124). -/
  | admin0Enable
  /-- ADMIN0_DISABLE (R124). -/
  | admin0Disable
  /-- PWC_FLUSH (R207). -/
  | pwcFlush
  /-- PWC_EN_WRITE (R208). -/
  | pwcEnWrite (en : Bool)
  /-- TRAIN_ENABLE_WRITE (R373). -/
  | trainEnableWrite (p : PortIx) (en : Bool)
  /-- TRAIN_RETRAIN_WRITE (R400). -/
  | trainRetrainWrite (p : PortIx)
  /-- TRAIN_TEST_WRITE (R399). -/
  | trainTestWrite (p : PortIx) (on : Bool)
  /-- TIME_SYNC_EN_WRITE (R303). -/
  | timeSyncEnWrite (en : Bool)
  /-- WATCHDOG_KICK (R522). -/
  | watchdogKick
  /-- LODGE_WATCHDOG (R522). -/
  | lodgeWatchdog
  /-- CONTAINED_ACKNOWLEDGE (R495). -/
  | containedAcknowledge
  /-- CAPTURE_RELEASE (R493). -/
  | captureRelease (fatal : Bool)
  /-- COUNTER_SAT_CLEAR (R518). -/
  | counterSatClear (offset : BitVec 20)
  /-- FAULT_INJECTION_ARM (R499). -/
  | faultInjectionArm (mode : BitVec 2) (checker : BitVec 10)
  /-- FAULT_INJECTION_TAKES_PLACE (R499). -/
  | faultInjectionTakesPlace
  /-- NOTICE_CONSUMED_WRITE (R530). -/
  | noticeConsumedWrite (consumed : BitVec 56)
  /-- FREEZE (R546). -/
  | freeze (dbg : Bool) (op : TestOp)
  /-- ADMIN_DOORBELL_NOTIFY (R101). -/
  | adminDoorbellNotify (pav : Nat)
  /-- ADMIN_DOORBELL_POLL (R102). -/
  | adminDoorbellPoll (pav : Nat)
  /-- ADMIN_DOORBELL_READ_DONE (R105). -/
  | adminDoorbellReadDone (pav : Nat) (res : ReadResult)
  /-- ADMIN_ENTRY_READ_DONE (R90). -/
  | adminEntryReadDone (pav : Nat) (res : ReadResult)
  /-- ADMIN_ENTRY_RETRY (R577). -/
  | adminEntryRetry (pav : Nat)
  /-- ADMIN_COMPLETION_WRITE (R88). -/
  | adminCompletionWrite (r : AdminRef)
  /-- CREATE_CHANNEL (R95). -/
  | createChannel (r : AdminRef)
  /-- DESTROY_CHANNEL (R96). -/
  | destroyChannel (r : AdminRef)
  /-- RESET_CHANNEL (R97). -/
  | resetChannel (r : AdminRef)
  /-- REGISTER_WINDOW (R177). -/
  | registerWindow (r : AdminRef)
  /-- RELEASE_WINDOW (R178). -/
  | releaseWindow (r : AdminRef)
  /-- LOAD_PROGRAM (R283). -/
  | loadProgram (r : AdminRef)
  /-- UNLOAD_PROGRAM (R287). -/
  | unloadProgram (r : AdminRef)
  /-- PAVILION_CREATE (R448). -/
  | pavilionCreate (r : AdminRef)
  /-- PAVILION_TEARDOWN (R453). -/
  | pavilionTeardown (r : AdminRef)
  /-- MEAS_OPEN (R201). -/
  | measOpen (r : AdminRef)
  /-- MEAS_SEAL (R201). -/
  | measSeal (r : AdminRef)
  /-- TT_LOAD (R312). -/
  | ttLoad (r : AdminRef)
  /-- PURGE (R362). -/
  | purge (r : AdminRef)
  /-- SPDM_MSG (R429). -/
  | spdmMsg (r : AdminRef) (req : SpdmRequest)
  /-- SVN_COMMIT (R460). -/
  | svnCommit (r : AdminRef)
  /-- EPOCH_COMMIT (R460). -/
  | epochCommit (r : AdminRef)
  /-- PAV_RESET (R506). -/
  | pavReset (r : AdminRef)
  /-- BLOCK_RESET (R506). -/
  | blockReset (r : AdminRef)
  /-- SERVICE_RESTORE (R517). -/
  | serviceRestore (r : AdminRef)
  /-- ANNEAL (R534). -/
  | anneal (r : AdminRef)
  /-- ANNEAL_RELEASE (R538). -/
  | annealRelease (r : AdminRef)
  /-- BELV_SET (R542). -/
  | belvSet (r : AdminRef)
  /-- QUERY_CHANNEL (R524). -/
  | queryChannel (r : AdminRef)
  /-- QUERY_PROGRAM (R524). -/
  | queryProgram (r : AdminRef)
  /-- QUERY_PAVILION (R524). -/
  | queryPavilion (r : AdminRef)
  /-- QUERY_LODGE_QUEUES (R524). -/
  | queryLodgeQueues (r : AdminRef)
  /-- DOORBELL_NOTIFY (R101). -/
  | doorbellNotify (ch : Nat)
  /-- DOORBELL_SWEEP (R102). -/
  | doorbellSweep
  /-- DOORBELL_READ_DONE (R103). -/
  | doorbellReadDone (ch : Nat) (res : ReadResult)
  /-- RING_ENTRY_READ_DONE (R98). -/
  | ringEntryReadDone (ch : Nat) (res : ReadResult)
  /-- BUFFER_READ_DONE (R142). -/
  | bufferReadDone (ch : Nat) (ring : Nat) (res : ReadResult)
  /-- ADMIT_OPERATION (R142). -/
  | admitOperation
  /-- NOP (R149). -/
  | nop (o : OpRef)
  /-- PUT (R150). -/
  | put (o : OpRef)
  /-- PUT_INLINE (R151). -/
  | putInline (o : OpRef)
  /-- GET (R150). -/
  | get (o : OpRef)
  /-- COPY (R152). -/
  | copy (o : OpRef)
  /-- KVMOVE (R190). -/
  | kvmove (o : OpRef)
  /-- ATOMIC (R155). -/
  | atomic (o : OpRef)
  /-- WAIT (R159). -/
  | wait (o : OpRef)
  /-- SIGNAL (R158). -/
  | signal (o : OpRef)
  /-- FENCE (R42). -/
  | fence (o : OpRef)
  /-- GATHER_RUN (R156). -/
  | gatherRun (o : OpRef)
  /-- TAG_GRANT (R186). -/
  | tagGrant (pav : Nat)
  /-- MEASURE_STAGING_GRANT (R205). -/
  | measureStagingGrant (slot : Nat)
  /-- REQUEST_ISSUE (R185). -/
  | requestIssue (o : OpRef)
  /-- PAGE_WALK_DONE (R175). -/
  | pageWalkDone (id : Nat) (res : ReadResult)
  /-- COMPLETION_TIMEOUT (R63). -/
  | completionTimeout (tag : Nat)
  /-- WAIT_WATCH_NOTIFY (R159). -/
  | waitWatchNotify (wid : Nat)
  /-- WAIT_POLL (R159). -/
  | waitPoll (o : OpRef)
  /-- SEMAPHORE_READ_DONE (R44). -/
  | semaphoreReadDone (o : OpRef) (res : ReadResult)
  /-- WAIT_TIMEOUT (R160). -/
  | waitTimeout (o : OpRef)
  /-- OPERATION_COMPLETE (R37). -/
  | operationComplete (o : OpRef)
  /-- BUFFER_COMPLETE (R38). -/
  | bufferComplete (ch : Nat)
  /-- SIGNAL_WORD_WRITE (R135). -/
  | signalWordWrite (ch : Nat)
  /-- ENGINE_STOPPED (R119). -/
  | engineStopped (ch : Nat) (engine : EngineKind)
  /-- CHANNEL_RETIRE_COMPLETE (R120). -/
  | channelRetireComplete (ch : Nat)
  /-- DRAIN_COMPLETE (R118). -/
  | drainComplete (ch : Nat)
  /-- FABRIC_DATA_RESPONSE (R552). -/
  | fabricDataResponse (f : Nat) (txid : Nat) (bytes : List Byte)
  /-- FABRIC_VISIBLE_RESPONSE (R552). -/
  | fabricVisibleResponse (f : Nat) (txid : Nat)
  /-- FABRIC_FAULT_RESPONSE (R552). -/
  | fabricFaultResponse (f : Nat) (txid : Nat)
  /-- FABRIC_UE_RESPONSE (R552). -/
  | fabricUeResponse (f : Nat) (txid : Nat)
  /-- FABRIC_PART_RESET (R512). -/
  | fabricPartReset (f : Nat) (txid : Nat)
  /-- WATCH_REFUSED (R557). -/
  | watchRefused (wid : Nat)
  /-- PANE_TRANSMIT (R334). -/
  | paneTransmit (p : PortIx)
  /-- CODEWORD_RECEIVE (R369). -/
  | codewordReceive (p : PortIx) (lane : Nat) (bytes : List Byte)
  /-- ALIGNMENT_MARKER (R371). -/
  | alignmentMarker (p : PortIx) (lane : Nat) (bytes : List Byte)
  /-- LANE_FAIL (R374). -/
  | laneFail (p : PortIx) (lane : Nat) (why : LaneFault)
  /-- DATA_PANE (R345). -/
  | dataPane (p : PortIx)
  /-- ACK_PANE (R344). -/
  | ackPane (p : PortIx)
  /-- IDLE_PANE (R337). -/
  | idlePane (p : PortIx)
  /-- NAK_PANE (R347). -/
  | nakPane (p : PortIx)
  /-- RETIRE_FENCE (R352). -/
  | retireFence (p : PortIx)
  /-- VOID_FENCE (R362). -/
  | voidFence (p : PortIx)
  /-- SLOT_FREED (R340). -/
  | slotFreed (p : PortIx) (slot : Nat)
  /-- NAK_REREPORT (R347). -/
  | nakRereport (p : PortIx)
  /-- ACK_TIMER_EXPIRY (R348). -/
  | ackTimerExpiry (p : PortIx)
  /-- CREDIT_TIMEOUT (R342). -/
  | creditTimeout (p : PortIx)
  /-- RESUME (R358). -/
  | resume (p : PortIx)
  /-- RESUME_TIMER (R358). -/
  | resumeTimer (p : PortIx)
  /-- OUT_OF_SERVICE_CTRL (R360). -/
  | outOfServiceCtrl (p : PortIx)
  /-- WRITE_B (R326). -/
  | writeB (src : MsgSource)
  /-- WRITE_S (R326). -/
  | writeS (src : MsgSource)
  /-- WRITE_X (R326). -/
  | writeX (src : MsgSource)
  /-- READ_B (R326). -/
  | readB (src : MsgSource)
  /-- READ_X (R326). -/
  | readX (src : MsgSource)
  /-- ATOMIC_MESSAGE (R197). -/
  | atomicMessage (src : MsgSource)
  /-- COPY_REQ (R188). -/
  | copyReq (src : MsgSource)
  /-- RELAY_TIMEOUT (R188). -/
  | relayTimeout (tag : Nat)
  /-- KV_CMD (R190). -/
  | kvCmd (src : MsgSource)
  /-- KV_WRITE (R191). -/
  | kvWrite (src : MsgSource)
  /-- RESPONSE (R61). -/
  | response (src : MsgSource)
  /-- OPERAND (R240). -/
  | operand (src : MsgSource)
  /-- CREDIT (R239). -/
  | credit (src : MsgSource)
  /-- MGMT_MESSAGE (R529). -/
  | mgmtMessage (p : PortIx)
  /-- TIME_PANE_SEND (R303). -/
  | timePaneSend (p : PortIx)
  /-- TIME_PANE (R305). -/
  | timePane (p : PortIx)
  /-- TIME_HOLDOVER (R306). -/
  | timeHoldover
  /-- TIME_REPARENT (R306). -/
  | timeReparent
  /-- HELLO (R382). -/
  | hello (p : PortIx)
  /-- RETRAIN (R384). -/
  | retrain (p : PortIx)
  /-- CONFIG (R382). -/
  | config (p : PortIx)
  /-- CONFIG_ACK (R382). -/
  | configAck (p : PortIx)
  /-- TUNE_REQ (R385). -/
  | tuneReq (p : PortIx)
  /-- TUNE_RSP (R385). -/
  | tuneRsp (p : PortIx)
  /-- TUNE_DONE (R386). -/
  | tuneDone (p : PortIx)
  /-- GO (R382). -/
  | go (p : PortIx)
  /-- READY (R382). -/
  | ready (p : PortIx)
  /-- LOOP_REQ (R399). -/
  | loopReq (p : PortIx)
  /-- IDENT (R410). -/
  | ident (p : PortIx)
  /-- IDENT_ACK (R411). -/
  | identAck (p : PortIx)
  /-- TRAINING_MSG_TIMEOUT (R383). -/
  | trainingMsgTimeout (p : PortIx)
  /-- TUNING_TIMEOUT (R383). -/
  | tuningTimeout (p : PortIx)
  /-- MARGIN_MEASURED (R386). -/
  | marginMeasured (p : PortIx) (ratios : List (Nat × Nat))
  /-- DOWN_RETRY (R375). -/
  | downRetry (p : PortIx)
  /-- LANE_BER (R389). -/
  | laneBer (p : PortIx) (lane : Nat)
  /-- WIDTH_REQ (R389). -/
  | widthReq (p : PortIx)
  /-- WIDTH_ACK (R389). -/
  | widthAck (p : PortIx)
  /-- WIDTH_GO (R390). -/
  | widthGo (p : PortIx)
  /-- WIDTH_REQ_TIMEOUT (R389). -/
  | widthReqTimeout (p : PortIx)
  /-- SPARE_IN (R391). -/
  | spareIn (p : PortIx)
  /-- LPS_REQ (R393). -/
  | lpsReq (p : PortIx)
  /-- LPS_ACK (R393). -/
  | lpsAck (p : PortIx)
  /-- LPS_EXIT (R394). -/
  | lpsExit (p : PortIx)
  /-- LPS_CHOOSE (R474). -/
  | lpsChoose (p : PortIx)
  /-- LPS_WAKE (R394). -/
  | lpsWake (p : PortIx)
  /-- P3_SIGNAL_RETURN (R394). -/
  | p3SignalReturn (p : PortIx)
  /-- OPTICS_POLL (R398). -/
  | opticsPoll (p : PortIx) (reading : OpticsReading)
  /-- OPTICS_IBI (R398). -/
  | opticsIbi (p : PortIx) (reading : OpticsReading)
  /-- OPTICS_MGMT_RETRY (R398). -/
  | opticsMgmtRetry (p : PortIx) (answered : Bool)
  /-- L_HELLO (R441). -/
  | lHello (p : PortIx)
  /-- L_REPLY (R441). -/
  | lReply (p : PortIx)
  /-- L_CERT (R442). -/
  | lCert (p : PortIx)
  /-- L_PROOF (R442). -/
  | lProof (p : PortIx)
  /-- L_DONE (R441). -/
  | lDone (p : PortIx)
  /-- HANDSHAKE_TIMEOUT (R442). -/
  | handshakeTimeout (p : PortIx)
  /-- HANDSHAKE_RETRY (R442). -/
  | handshakeRetry (p : PortIx)
  /-- KEY_OFFER (R450). -/
  | keyOffer (p : PortIx)
  /-- KEY_ACCEPT (R445). -/
  | keyAccept (p : PortIx)
  /-- KEY_SWITCH (R445). -/
  | keySwitch (p : PortIx)
  /-- KEY_REJECT (R450). -/
  | keyReject (p : PortIx)
  /-- KEY_REJECT_RETRY (R445). -/
  | keyRejectRetry (p : PortIx) (key : Nat)
  /-- KEY_LOST (R458). -/
  | keyLost (p : PortIx)
  /-- KEY_ROTATION_DUE (R444). -/
  | keyRotationDue (p : PortIx) (key : Nat)
  /-- KEY_ROTATION_STALL (R444). -/
  | keyRotationStall (p : PortIx) (key : Nat)
  /-- WAVE (R422). -/
  | wave (p : PortIx)
  /-- WAVE_SEND (R422). -/
  | waveSend (p : PortIx)
  /-- LINK_EVENT (R424). -/
  | linkEvent (p : PortIx)
  /-- NODE_EVENT (R532). -/
  | nodeEvent (p : PortIx)
  /-- NODE_READY (R421). -/
  | nodeReady
  /-- STARTUP_BOUND (R421). -/
  | startupBound
  /-- POD_STATE_REPORT (R423). -/
  | podStateReport
  /-- ANNEAL_REQ (R535). -/
  | annealReq (p : PortIx)
  /-- ANNEAL_TA (R72). -/
  | annealTa
  /-- ANNEAL_DONE_MSG (R536). -/
  | annealDoneMsg (p : PortIx)
  /-- ANNEAL_BOUND (R75). -/
  | annealBound
  /-- ANNEAL_RELEASE_MSG (R538). -/
  | annealReleaseMsg (p : PortIx)
  /-- ANNEAL_TR (R76). -/
  | annealTr
  /-- TRIGGER_OBSERVED (R290). -/
  | triggerObserved (slot : Nat) (res : ReadResult)
  /-- TRIGGER_POLL (R290). -/
  | triggerPoll (slot : Nat)
  /-- RUN_START (R291). -/
  | runStart (slot : Nat)
  /-- CHUNK_COMBINE (R291). -/
  | chunkCombine (slot : Nat) (step : Nat)
  /-- STEP_TIMEOUT (R293). -/
  | stepTimeout (slot : Nat) (step : Nat)
  /-- RUN_END (R292). -/
  | runEnd (slot : Nat)
  /-- TT_EPOCH (R312). -/
  | ttEpoch (p : PortIx)
  /-- TT_WINDOW_OPEN (R311). -/
  | ttWindowOpen (p : PortIx)
  /-- TT_WINDOW_CLOSE (R311). -/
  | ttWindowClose (p : PortIx)
  /-- HANG_DECLARED (R502). -/
  | hangDeclared (pav : Nat)
  /-- PAV0_HANG (R503). -/
  | pav0Hang
  /-- CORRECTED_ERROR (R490). -/
  | correctedError (e : ErrorReport)
  /-- CONTAINED_ERROR (R490). -/
  | containedError (e : ErrorReport)
  /-- FATAL_ERROR (R496). -/
  | fatalError (e : ErrorReport)
  /-- ACK_TIMEOUT (R495). -/
  | ackTimeout
  /-- FATAL_HOLD_EXPIRY (R497). -/
  | fatalHoldExpiry
  /-- FAULT_PULSE_END (R494). -/
  | faultPulseEnd
  /-- SCRUB (R486). -/
  | scrub (outcome : ScrubOutcome)
  /-- DROOP_RISE (R478). -/
  | droopRise (src : DroopReading)
  /-- DROOP_FALL_STEP (R477). -/
  | droopFallStep (src : DroopReading)
  /-- PWRM_DOM_ACK (R472). -/
  | pwrmDomAck (domain : Nat)
  /-- PWRM_NO_ACK (R472). -/
  | pwrmNoAck (domain : Nat)
  /-- PWRM_LTR_HINT (R473). -/
  | pwrmLtrHint (hint : BitVec 16)
  /-- ENGINE_IDLE_E1 (R470). -/
  | engineIdleE1 (e : Nat)
  /-- ENGINE_DEEP_SLEEP (R475). -/
  | engineDeepSleep (e : Nat)
  /-- ENGINE_WAKE (R471). -/
  | engineWake (e : Nat)
  /-- BELV_SAMPLE (R544). -/
  | belvSample (set : Nat)
  /-- NOTICE_WRITE (R530). -/
  | noticeWrite
  /-- ROT_RELEASE (R521). -/
  | rotRelease (m : RotRelease)
  /-- ROT_IDENTITY (R426). -/
  | rotIdentity (priv : BitVec 384) (pub : BitVec 768)
  /-- ROT_REPLY (R562). -/
  | rotReply (done : Bool) (value : Word)
  /-- ROT_REPLY_TIMEOUT (R562). -/
  | rotReplyTimeout
  /-- TABLE_LOAD (R406). -/
  | tableLoad
  /-- ROUTE_TABLE_BUILT (R575). -/
  | routeTableBuilt
  /-- TRIGGER_WATCH_NOTIFY (R290). -/
  | triggerWatchNotify (slot : Nat)
  /-- MEASURE_LEAF_HASHED (R205). -/
  | measureLeafHashed (slot : Nat) (leaf : Nat)
  deriving DecidableEq, Repr

end Sys2Proof
end

