-- ==== Sys2Proof/Machine/Bits.lean ====
section
/-!
DEFINITION. Bit fields, byte orders and small numeric helpers used by every record, register and pane layout.
-/
namespace Sys2Proof.Machine

/-- Bits `hi` down to `lo` of a word, as a number (R5: bit 0 is the least significant). -/
def bits {n : Nat} (w : BitVec n) (hi lo : Nat) : Nat := (w.toNat >>> lo) % 2 ^ (hi + 1 - lo)

/-- Bit `i` of a word. -/
def bit {n : Nat} (w : BitVec n) (i : Nat) : Bool := w.getLsbD i

/-- `v` placed at bit `lo` of a width of `len` bits; higher bits of `v` are cut off. -/
def place (v lo len : Nat) : Nat := (v % 2 ^ len) <<< lo

/-- A Boolean as 0 or 1. -/
def b2n (b : Bool) : Nat := if b then 1 else 0

/-- Little-endian value of a byte list, byte 0 lowest (R5). -/
def leNat : List Byte → Nat
  | [] => 0
  | b :: r => b.toNat + 256 * leNat r

/-- Big-endian value of a byte list, byte 0 highest (R6). -/
def beNat (l : List Byte) : Nat := l.foldl (fun a b => a * 256 + b.toNat) 0

/-- The `n` low bytes of a value, least significant first (R5). -/
def leBytes : Nat → Nat → List Byte
  | 0, _ => []
  | n + 1, v => BitVec.ofNat 8 v :: leBytes n (v / 256)

/-- The `n` low bytes of a value, most significant first (R6). -/
def beBytes (n v : Nat) : List Byte := (leBytes n v).reverse

/-- The bytes `at` to `at + n − 1` of a record. -/
def slice (l : List Byte) (start n : Nat) : List Byte := (l.drop start).take n

/-- The little-endian field of `n` bytes at byte `start` of a record. -/
def leAt (l : List Byte) (start n : Nat) : Nat := leNat (slice l start n)

/-- The big-endian field of `n` bytes at byte `start` of a pane body or training message. -/
def beAt (l : List Byte) (start n : Nat) : Nat := beNat (slice l start n)

/-- The 8-byte word number `i` of a record. -/
def wordAt (l : List Byte) (i : Nat) : Word := BitVec.ofNat 64 (leAt l (8 * i) 8)

/-- A record of bytes cut into its 8-byte words. -/
def wordsOf (l : List Byte) (n : Nat) : List Word := (List.range n).map (wordAt l)

/-- A byte list padded with zeros, or cut, to `n` bytes. -/
def padTo (n : Nat) (l : List Byte) : List Byte := l.take n ++ List.replicate (n - l.length) 0

/-- A value held to a range; values outside read back clamped (the register tables). -/
def clampNat (lo hi v : Nat) : Nat := if v < lo then lo else if hi < v then hi else v

/-- Division rounding up. -/
def ceilDiv (a b : Nat) : Nat := if b = 0 then 0 else (a + b - 1) / b

/-- `a − b` modulo `m`. -/
def subMod (m a b : Nat) : Nat := (a % m + m - b % m) % m

/-- Ticks of pod time in a number of microseconds (R10: 1.2 GHz). -/
def usTicks (us : Nat) : Nat := us * 1200

/-- Whether `ticks` of pod time are at least `ns` nanoseconds (6 ticks are 5 ns). -/
def nsElapsed (ticks ns : Nat) : Bool := decide (6 * ns ≤ 5 * ticks)

/-- The pieces of a byte range that each lie in one aligned block of `block` bytes, in ascending order (R33, R551). The first
argument is fuel; a range of `len` bytes has at most `len` pieces. -/
def splitAtBlocks (block : Nat) : Nat → Nat → Nat → List (Nat × Nat)
  | 0, _, _ => []
  | fuel + 1, start, len =>
    if len = 0 then []
    else
      let n := min len (block - start % block)
      (start, n) :: splitAtBlocks block fuel (start + n) (len - n)

/-- The fabric pieces of a range: each within one naturally aligned 256-byte block (R551). DEDUCED, log entry 57. -/
def fabricPieces (addr len : Nat) : List (Nat × Nat) := splitAtBlocks 256 (len / 256 + 2) addr len

/-- Length of the request that starts at `off` with `remaining` bytes to go: to the next 4 KiB boundary of the remote offset (R33). -/
def requestLen (off remaining : Nat) : Nat := min remaining (4096 - off % 4096)

/-- Bit mask with the bits named set. -/
def maskOf (l : List Nat) : Nat := l.foldl (fun m i => m ||| (1 <<< i)) 0

/-- The set bits of a mask, in ascending order, among the low `n`. -/
def bitsSet (n m : Nat) : List Nat := (List.range n).filter (fun i => m.testBit i)

/-- Whether all bits of `w` outside `mask` are zero: the check of reserved bits (R9). -/
def onlyBits {n : Nat} (w : BitVec n) (mask : Nat) : Bool := decide (w &&& ~~~(BitVec.ofNat n mask) = 0)

end Sys2Proof.Machine
end

