-- ==== Sys2Proof/Config.lean ====
section
/-!
DEFINITION. What an implementation or the outside fixes and the spec leaves open: the free values of the model. Every constant
here is opaque: it has no body, so no claim can rest on a value of it.
-/
namespace Sys2Proof

/-- What a free value stands for. Each is a value the spec says is drawn, estimated or left open (DESIGN CHOICE, log entry 7). -/
inductive FreeKind where
  | oosNonce        -- R515: drawn at random at each entry into OUT_OF_SERVICE
  | session         -- R439: session number chosen by the leader
  | nonce           -- R440: NONCE, NT, NR
  | ephemeral       -- R441: ephemeral private key
  | annealId        -- R534: drawn by the Lodge firmware
  | retryAfter      -- R527: estimate of the Lodge firmware
  | signatureNonce  -- ECDSA per-signature secret
  | tuneCommand     -- R385: the receiver's own tuning algorithm
  | keyTag          -- a value the far end computes that the spec does not give
  | spdm            -- bytes of SPDM messages (DMTF SPDM 1.3), which the spec does not give
  | carrierByte     -- content the spec leaves undefined
  | pageTokens      -- PAGE_TOKENS_LOG2 of a destination window on another node (R193), which no message carries
  | timeRate        -- R306: the rate correction a node chooses for an offset
  | codeword        -- R499: which entry or beat the next codeword at a checker belongs to
  | stopTime        -- R546: when the clock of a domain stopped, within 64 slow cycles of the others
  | busyCycles      -- R539: how many cycles an engine was busy, which is timing
  | dynAddr         -- R396: the dynamic address the Lodge firmware assigns to an optical engine
  | adminStatus     -- the status of a command whose last write fails, which no rule gives
  deriving DecidableEq, Repr

/-- The free values: one stream of naturals per kind, read at a counter of the state. Nothing constrains it. -/
opaque Config.free : FreeKind → Nat → Nat

/-- R569: TEST_MFR is tied by the carrier to its own manufacturer identity. -/
opaque Config.testMfr : BitVec 11

/-- R432: the SHA-384 digest of the Lodge boot ROM, fixed by the part. -/
opaque Config.bootRomDigest : List Byte

/-- IEEE 754 leaves open whether zero times infinity plus a quiet NaN signals the invalid operation (DESIGN CHOICE, log entry 12). -/
opaque Config.fmaNanInvalid : Bool

/-- R432: the bytes of the image a library descriptor expands into, by descriptor, block (origin and extents), node and program, which only its
digest depends on (DESIGN CHOICE, log entry 13). -/
opaque Config.libraryImage (descriptor : List Byte) (block : List Nat) (node program : Nat) : List Byte

end Sys2Proof
end

