-- ==== Sys2Proof/Machine/Float.lean ====
section
/-!
DEFINITION. The number formats (R209 to R226, R232): exact values, K16 and binary32, their one rounding, the arithmetic of R213 to R219 and the
stochastic draws of R224 and R225.
-/
namespace Sys2Proof.Machine

/-! ### Format codes (R209) -/

def fInt32 : Nat := 0
def fUint32 : Nat := 1
def fInt64 : Nat := 2
def fK16 : Nat := 3
def fB32 : Nat := 4
def fB64 : Nat := 5
def fB128 : Nat := 6
def fK32x2 : Nat := 7

/-- The size of a format in bytes (R209). -/
def formatSize (f : Nat) : Nat :=
  if f = fK16 then 2 else if f = fInt32 || f = fUint32 || f = fB32 then 4 else if f = fB128 then 16 else 8

/-- The integer formats (R220). -/
def isIntFmt (f : Nat) : Bool := f == fInt32 || f == fUint32 || f == fInt64

/-! ### Value flags (R133) -/

def flSat : Nat := 1
def flNan : Nat := 2
def flVarClamp : Nat := 4
def flInvalid : Nat := 8
def flOverflow : Nat := 16
def flUnderflow : Nat := 32
def flNegM2 : Nat := 64

/-- A computation that may raise value flags: the flags raised so far are its state (R273). -/
abbrev Flagged (α : Type) := StateM Nat α

/-- Value flags raised. -/
def raise (f : Nat) : Flagged Unit := modify (fun x => x ||| f)

/-! ### Exact values -/

/-- A value as the arithmetic sees it: NaN, an infinity, or a signed m × 2^e held exactly (R213, R229). -/
inductive Num where
  | nan
  | inf (neg : Bool)
  | fin (neg : Bool) (m : Nat) (e : Int)
  deriving DecidableEq, Repr

def Num.zero : Num := .fin false 0 0
def Num.one : Num := .fin false 1 0

/-- A number as an exact value. -/
def Num.ofNat (n : Nat) : Num := .fin false n 0
def Num.ofInt (n : Int) : Num := .fin (decide (n < 0)) n.natAbs 0

def Num.isNan : Num → Bool
  | .nan => true
  | _ => false
def Num.isZero : Num → Bool
  | .fin _ m _ => m == 0
  | _ => false
def Num.isInf : Num → Bool
  | .inf _ => true
  | _ => false
def Num.isNeg : Num → Bool
  | .nan => false
  | .inf n => n
  | .fin n _ _ => n

def Num.negate : Num → Num
  | .nan => .nan
  | .inf n => .inf (!n)
  | .fin n m e => .fin (!n) m e

/-- The value scaled by a power of two, exactly. -/
def Num.scale (x : Num) (k : Int) : Num :=
  match x with
  | .fin n m e => .fin n m (e + k)
  | y => y

/-- The magnitude at an exponent not above its own, as an integer with its sign. -/
def signedAt (neg : Bool) (m : Nat) (e low : Int) : Int :=
  let v : Int := m <<< (e - low).toNat
  if neg then -v else v

/-- The exact sum of two finite values. A zero sum of unlike signs is +0 (R216: signs of zero are carried as IEEE 754 requires). -/
def finAdd (n1 : Bool) (m1 : Nat) (e1 : Int) (n2 : Bool) (m2 : Nat) (e2 : Int) : Num :=
  let e := min e1 e2
  let s := signedAt n1 m1 e1 e + signedAt n2 m2 e2 e
  .fin (if s = 0 then n1 && n2 else decide (s < 0)) s.natAbs e

/-- The exact sum; the flag says that opposite infinities were added. -/
def Num.addExact : Num → Num → Num × Bool
  | .nan, _ => (.nan, false)
  | _, .nan => (.nan, false)
  | .inf a, .inf b => if a = b then (.inf a, false) else (.nan, true)
  | .inf a, _ => (.inf a, false)
  | _, .inf b => (.inf b, false)
  | .fin n1 m1 e1, .fin n2 m2 e2 => (finAdd n1 m1 e1 n2 m2 e2, false)

/-- The exact product; the flag says that zero and infinity were multiplied. -/
def Num.mulExact : Num → Num → Num × Bool
  | .nan, _ => (.nan, false)
  | _, .nan => (.nan, false)
  | .inf a, .inf b => (.inf (a != b), false)
  | .inf a, .fin b m _ => if m = 0 then (.nan, true) else (.inf (a != b), false)
  | .fin a m _, .inf b => if m = 0 then (.nan, true) else (.inf (a != b), false)
  | .fin n1 m1 e1, .fin n2 m2 e2 => (.fin (n1 != n2) (m1 * m2) (e1 + e2), false)

/-- The order by value (R232): +0 and −0 are equal. NaN is not compared. -/
def Num.lt : Num → Num → Bool
  | .nan, _ => false
  | _, .nan => false
  | .inf a, .inf b => a && !b
  | .inf a, _ => a
  | _, .inf b => !b
  | .fin n1 m1 e1, .fin n2 m2 e2 =>
    let e := min e1 e2
    decide (signedAt n1 m1 e1 e < signedAt n2 m2 e2 e)

/-- Equality by value; NaN equals nothing. -/
def Num.eqv (a b : Num) : Bool := !a.isNan && !b.isNan && !a.lt b && !b.lt a

/-! ### Rounding (R212, R213, R223, R226, R231) -/

/-- How a value is rounded: the modes of R223, the stochastic one with its draw, and the two directions of R231. -/
inductive Round where
  | nearest
  | zero
  | stochastic (r : Nat)
  | up
  | down
  deriving DecidableEq, Repr

/-- Whether the remainder `r` of `2^k` moves the kept part `q` away from zero. -/
def Round.moves (mode : Round) (neg : Bool) (q r k : Nat) : Bool :=
  match mode with
  | .nearest => decide (2 ^ k < 2 * r) || (decide (2 * r = 2 ^ k) && q % 2 == 1)
  | .zero => false
  | .stochastic d => decide (2 ^ 32 ≤ (if k ≤ 32 then r <<< (32 - k) else r >>> (k - 32)) + d)
  | .up => decide (0 < r) && !neg
  | .down => decide (0 < r) && neg

/-- A magnitude m × 2^e rounded to units of 2^lsb, and whether bits were lost. -/
def roundTo (mode : Round) (neg : Bool) (m : Nat) (e lsb : Int) : Nat × Bool :=
  if lsb ≤ e then (m <<< (e - lsb).toNat, false)
  else
    let k := (lsb - e).toNat
    let q := m >>> k
    let r := m % 2 ^ k
    (if mode.moves neg q r k then q + 1 else q, decide (r ≠ 0))

/-- The weight of the last place of a value at a precision, with subnormals below `emin` (R212, R213). -/
def lastPlace (prec : Nat) (emin : Int) (m : Nat) (e : Int) : Int := max (m.log2 + e - (prec - 1)) emin

/-- q × 2^lsb exceeds maxm × 2^maxe. -/
def exceeds (q : Nat) (lsb : Int) (maxm : Nat) (maxe : Int) : Bool :=
  if maxe ≤ lsb then decide (maxm < q <<< (lsb - maxe).toNat) else decide (maxm <<< (maxe - lsb).toNat < q)

/-- The bits below the leading one of `q`, aligned to `w` bits. -/
def fraction (w q : Nat) : Nat := (q <<< w) >>> q.log2 % 2 ^ w

/-! ### binary32 (R213 to R216) -/

/-- A binary32 pattern as a value. -/
def b32 (w : BitVec 32) : Num :=
  let neg := bit w 31
  let ex := bits w 30 23
  let fr := bits w 22 0
  if ex = 0 then .fin neg fr (-149)
  else if ex = 255 then (if fr = 0 then .inf neg else .nan)
  else .fin neg (2 ^ 23 + fr) ((ex : Int) - 150)

/-- A signalling NaN pattern (R215). -/
def b32Signalling (w : BitVec 32) : Bool := bits w 30 23 == 255 && bits w 22 0 != 0 && !bit w 22

def b32Nan : BitVec 32 := 0x7FC00000
def b32Inf (neg : Bool) : BitVec 32 := if neg then 0xFF800000 else 0x7F800000

/-- The pattern of a sign and q × 2^lsb that is a binary32 value. -/
def b32Word (neg : Bool) (q : Nat) (lsb : Int) : BitVec 32 :=
  let s := b2n neg <<< 31
  if q = 0 then BitVec.ofNat 32 s
  else
    let t : Int := q.log2 + lsb
    if t < -126 then BitVec.ofNat 32 (s + q <<< (lsb + 149).toNat)
    else BitVec.ofNat 32 (s + (t + 127).toNat <<< 23 + fraction 23 q)

/-- An exact value rounded once to binary32, with its overflow and underflow (R213, R214, R226): tininess is detected after rounding, and
in stochastic mode on the result delivered. -/
def roundB32 (mode : Round) (neg : Bool) (m : Nat) (e : Int) : BitVec 32 × Nat :=
  if m = 0 then (b32Word neg 0 0, 0)
  else
    let lsb := lastPlace 24 (-149) m e
    let q := roundTo mode neg m e lsb
    if exceeds q.1 lsb (2 ^ 24 - 1) 104 then
      let away := match mode with
        | .nearest => true
        | .stochastic _ => true
        | .zero => false
        | .up => !neg
        | .down => neg
      (if away then b32Inf neg else b32Word neg (2 ^ 24 - 1) 104, flOverflow)
    else
      let u := match mode with
        | .stochastic _ => (q.1, lsb)
        | _ => ((roundTo mode neg m e (m.log2 + e - 23)).1, m.log2 + e - 23)
      let tiny := u.1 == 0 || decide ((u.1.log2 : Int) + u.2 < -126)
      (b32Word neg q.1 lsb, if q.2 && tiny then flUnderflow else 0)

/-- A value rounded to nearest-even in binary32 inside an operation; a NaN raises NAN (R215, R223). -/
def Num.round32 (x : Num) : Flagged Num :=
  match x with
  | .nan => do
    raise flNan
    return .nan
  | .inf n => return .inf n
  | .fin n m e => do
    let r := roundB32 .nearest n m e
    raise r.2
    return b32 r.1

/-- The pattern a value that is a binary32 value has inside the engine: the sign of a zero is kept (R216). -/
def Num.bits32 (x : Num) : BitVec 32 :=
  match x with
  | .nan => b32Nan
  | .inf n => b32Inf n
  | .fin n m e => (roundB32 .nearest n m e).1

/-- The pattern written or sent: every NaN canonical, every zero +0 (R215, R216). -/
def Num.write32 (x : Num) : BitVec 32 := if x.isZero then 0 else x.bits32

/-- An operand read as binary32: a signalling NaN raises FP_INVALID (R215). -/
def read32 (w : BitVec 32) : Flagged Num := do
  if b32Signalling w then raise flInvalid
  return b32 w

/-- Addition, rounded once to nearest-even (R213, R223). -/
def Num.add (a b : Num) : Flagged Num := do
  let r := a.addExact b
  if r.2 then raise flInvalid
  r.1.round32

/-- Subtraction. -/
def Num.sub (a b : Num) : Flagged Num := a.add b.negate

/-- Multiplication. -/
def Num.mul (a b : Num) : Flagged Num := do
  let r := a.mulExact b
  if r.2 then raise flInvalid
  r.1.round32

/-- Fused multiply-add a × b + c, rounded once. Zero times infinity plus a quiet NaN raises FP_INVALID or not as the implementation has it
(IEEE 754; DESIGN CHOICE, log entry 12). -/
def Num.fma (a b c : Num) : Flagged Num := do
  if a.isNan || b.isNan then (Num.nan).round32
  else
    let p := a.mulExact b
    if p.2 then
      if !c.isNan || Config.fmaNanInvalid then raise flInvalid
      (Num.nan).round32
    else
      let r := p.1.addExact c
      if r.2 then raise flInvalid
      r.1.round32

/-- MIN or MAX by R232: NaN where either operand is NaN; of equal operands the first. -/
def Num.pick (wantMin : Bool) (a b : Num) : Flagged Num := do
  if a.isNan || b.isNan then
    raise flNan
    return .nan
  else if a.lt b then return (if wantMin then a else b)
  else if b.lt a then return (if wantMin then b else a)
  else return a

/-! ### K16 (R210 to R212) -/

/-- A K16 pattern as a value. -/
def k16 (w : BitVec 16) : Num :=
  let neg := bit w 15
  let ex := bits w 14 10
  let fr := bits w 9 0
  if ex = 31 && fr = 1023 then .nan
  else if ex = 0 then .fin neg fr (-24)
  else .fin neg (1024 + fr) ((ex : Int) - 25)

/-- The pattern of a sign and q × 2^lsb that is a K16 value. -/
def k16Word (neg : Bool) (q : Nat) (lsb : Int) : BitVec 16 :=
  let s := b2n neg <<< 15
  if q = 0 then BitVec.ofNat 16 s
  else
    let t : Int := q.log2 + lsb
    if t < -14 then BitVec.ofNat 16 (s + q <<< (lsb + 24).toNat)
    else BitVec.ofNat 16 (s + (t + 15).toNat <<< 10 + fraction 10 q)

/-- ±130,944. -/
def k16Max (neg : Bool) : BitVec 16 := if neg then 0xFFFE else 0x7FFE

/-- An exact value rounded once to K16, saturating (R212); a zero keeps its sign inside the engine. -/
def roundK16 (mode : Round) (neg : Bool) (m : Nat) (e : Int) : BitVec 16 × Nat :=
  if m = 0 then (k16Word neg 0 0, 0)
  else
    let lsb := lastPlace 11 (-24) m e
    let q := (roundTo mode neg m e lsb).1
    if exceeds q lsb 2046 6 then (k16Max neg, flSat) else (k16Word neg q lsb, 0)

/-- The pattern a value that is a K16 value has inside the engine. -/
def Num.bits16 (x : Num) : BitVec 16 :=
  match x with
  | .nan => 0x7FFF
  | .inf n => k16Max n
  | .fin n m e => (roundK16 .nearest n m e).1

/-- The pattern written or sent (R211, R216). -/
def Num.write16 (x : Num) : BitVec 16 := if x.bits16 = 0x8000 then 0 else x.bits16

/-- A K16 sum of the atomic unit (R199): the exact sum rounded once. -/
def k16Add (a b : BitVec 16) : Flagged (BitVec 16) := do
  match (k16 a).addExact (k16 b) with
  | (.fin n m e, _) =>
    let r := roundK16 .nearest n m e
    raise r.2
    return (if r.1 = 0x8000 then 0 else r.1)
  | _ =>
    raise flNan
    return 0x7FFF

/-! ### K32x2 (R217 to R219) -/

/-- An error-free step of R218: rounded to nearest-even in binary32, its flags not reported (R219 reports those of the HI steps). -/
def Num.quiet (f : Flagged Num) : Num := (f.run 0).1

/-- twosum of R218, given the rounded sum. DEDUCED, log entry 66. -/
def twoErr (a b s : Num) : Num :=
  let bb := Num.quiet (s.sub a)
  Num.quiet ((Num.quiet (a.sub (Num.quiet (s.sub bb)))).add (Num.quiet (b.sub bb)))

/-- The sum of two pairs (R218, R219). -/
def addPair (h l xh xl : Num) : Flagged (Num × Num) := do
  let s ← h.add xh
  if s.isNan || s.isInf then return (s, Num.zero)
  else
    let t := Num.quiet ((Num.quiet (l.add xl)).add (twoErr h xh s))
    let hi ← s.add t
    if hi.isNan || hi.isInf then return (hi, Num.zero)
    else return (hi, Num.quiet (t.sub (Num.quiet (hi.sub s))))

/-! ### Integers (R220) -/

/-- The value of an integer pattern of a format. -/
def intOf (f : Nat) (v : Nat) : Int :=
  let w := 8 * formatSize f
  if f = fUint32 then ((v % 2 ^ w : Nat) : Int) else (BitVec.ofNat w v).toInt

/-- The range of an integer format. -/
def intRange (f : Nat) : Int × Int :=
  if f = fUint32 then (0, 2 ^ 32 - 1) else if f = fInt32 then (-2 ^ 31, 2 ^ 31 - 1) else (-2 ^ 63, 2 ^ 63 - 1)

/-- A value as a pattern of a format, wrapped. -/
def intBits (f : Nat) (v : Int) : Nat := (v % (2 ^ (8 * formatSize f) : Nat)).toNat

/-- A sum, wrapping or saturating with SAT (R220). -/
def intAdd (f : Nat) (sat : Bool) (a b : Int) : Flagged Int := do
  let r := a + b
  let g := intRange f
  if g.1 ≤ r && r ≤ g.2 then return r
  else if sat then
    raise flSat
    return (if r < g.1 then g.1 else g.2)
  else return intOf f (intBits f r)

/-! ### Stochastic draws (R224, R225) -/

/-- One step of the Galois register (R225). -/
def lfsrStep (s : Nat) : Nat := if s % 2 = 1 then (s / 2) ^^^ 0x80200003 else s / 2

/-- The register of a lane at the start of a run (R224). -/
def lfsrSeed (seed lane : Nat) : Nat := if seed ^^^ lane = 0 then 0xFFFFFFFF else seed ^^^ lane

/-- The register after a number of steps. -/
def lfsrAfter : Nat → Nat → Nat
  | s, 0 => s
  | s, n + 1 => lfsrAfter (lfsrStep s) n

/-- Draw number `n`, from 0, of a lane. -/
def drawAt (seed lane n : Nat) : Nat := lfsrAfter (lfsrSeed seed lane) (n + 1)

end Sys2Proof.Machine
end

