-- ==== Sys2Proof/Machine/Table.lean ====
section
/-!
DEFINITION. Sparse tables: a list of (key, value) pairs in one canonical form, keys strictly rising and no value equal to what an
unlisted key reads as, so that equal tables are equal data. The byte memory of a Gather run is one of them.
-/
namespace Sys2Proof.Machine

/-- A sparse table of values keyed by number. -/
abbrev Table (α : Type) := List (Nat × α)

/-- The value at a key; an unlisted key reads as `d`. -/
def Table.get {α : Type} (d : α) : Table α → Nat → α
  | [], _ => d
  | (k, v) :: r, i => if k = i then v else Table.get d r i

/-- The table without the key. -/
def Table.erase {α : Type} (t : Table α) (i : Nat) : Table α := t.filter (fun p => p.1 != i)

/-- The table with one pair placed before the first larger key. -/
def Table.insert {α : Type} : Table α → Nat → α → Table α
  | [], i, v => [(i, v)]
  | (k, w) :: r, i, v => if i < k then (i, v) :: (k, w) :: r else (k, w) :: Table.insert r i v

/-- The table with the value at one key replaced; writing what an unlisted key reads as removes the entry. -/
def Table.put {α : Type} [DecidableEq α] (d : α) (t : Table α) (i : Nat) (v : α) : Table α :=
  if v = d then t.erase i else (t.erase i).insert i v

/-- The keys listed. -/
def Table.keys {α : Type} (t : Table α) : List Nat := t.map Prod.fst

/-- The canonical form: keys strictly rising and no value equal to the default. -/
def Table.wf {α : Type} [DecidableEq α] (d : α) (t : Table α) : Bool :=
  decide (t.Pairwise (fun a b => a.1 < b.1)) && t.all (fun p => decide (p.2 ≠ d))

/-- Byte memory of the block (R284): cells in canonical form; an unlisted address reads as zero. -/
abbrev Memory := List Host.Cell

/-- The canonical form of a byte memory. -/
def Memory.wf (m : Memory) : Bool := Table.wf (0 : Byte) m

/-- One byte of a memory. -/
def Memory.read (m : Memory) (a : Nat) : Byte := Table.get 0 m a

/-- One byte written. -/
def Memory.write (m : Memory) (a : Nat) (b : Byte) : Memory := Table.put 0 m a b

/-- `n` bytes from address `a` on. -/
def Memory.readBytes (m : Memory) (a n : Nat) : List Byte := (List.range n).map (fun i => m.read (a + i))

/-- Bytes written from address `a` on. -/
def Memory.writeBytes : Memory → Nat → List Byte → Memory
  | m, _, [] => m
  | m, a, b :: r => Memory.writeBytes (m.write a b) (a + 1) r

end Sys2Proof.Machine
end

