-- ==== Sys2Proof/Machine/Records.lean ====
section
/-!
DEFINITION. The decoded forms of the records held in carrier memory: command buffer headers and operations (R127 to R157), window
descriptors (R164), program images (R278 to R281) and conversion descriptors (R227).
-/
namespace Sys2Proof.Machine

/-- A command buffer header (R127). -/
structure BufHeader where
  opCount : Nat
  recordEn : Bool
  sigwordEn : Bool
  fenceEntry : Bool
  layerId : Nat
  operatorId : Nat
  recordAddr : Nat
  sigOffset : Nat
  sigWindow : Nat
  sigNode : Nat
  sigValue : Word
  attrBin : Nat
  userTag : Word
  deriving DecidableEq, Repr

/-- A remote address (R30, R147). -/
structure Remote where
  node : Nat
  window : Nat
  offset : Nat
  deriving DecidableEq, Repr

/-- The fields of KVMOVE (R153). -/
structure KvMove where
  srcWindow : Nat
  srcNode : Nat
  dstWindow : Nat
  dstNode : Nat
  srcSeq : Nat
  dstSeq : Nat
  srcToken : Nat
  dstToken : Nat
  tokenCount : Nat
  layerFirst : Nat
  layerCount : Nat
  hgFirst : Nat
  hgCount : Nat
  deriving DecidableEq, Repr

/-- The fields of an ATOMIC (R154, R155). -/
structure AtomicOp where
  tgt : Remote
  subop : Nat
  fmt : Nat
  ret : Bool
  resultAddr : Nat
  operand : Word
  operand2 : Word
  newLo : Word
  newHi : Word
  deriving DecidableEq, Repr

/-- The fields of GATHER_RUN (R156). -/
structure GatherRunOp where
  program : Nat
  progTag : Nat
  input : Nat
  output : Nat
  count : Nat
  seed : Nat
  seedEn : Bool
  doneSem : Nat
  deriving DecidableEq, Repr

/-- The source of a COPY: local or remote (SRC_REMOTE). -/
inductive CopySource where
  | localAddr (a : Nat)
  | remote (r : Remote)
  deriving DecidableEq, Repr

/-- The semaphore of a SIGNAL: local or remote (REMOTE). -/
inductive SemTarget where
  | localAddr (a : Nat)
  | remote (r : Remote)
  deriving DecidableEq, Repr

/-- What an operation does, with its fields (R146). -/
inductive OpBody where
  | nop
  | put (src : Nat) (dst : Remote) (len measureSlot : Nat)
  | putInline (dst : Remote) (len : Nat) (data : List Byte)
  | get (dst : Nat) (src : Remote) (len measureSlot : Nat)
  | copy (src : CopySource) (dst : Remote) (len measureSlot : Nat)
  | kvmove (k : KvMove)
  | atomic (a : AtomicOp)
  | wait (sem : Nat) (threshold : Word) (timeoutNs : Nat)
  | signal (sem : SemTarget) (mode : Nat) (value : Word)
  | fence
  | gatherRun (g : GatherRunOp)
  deriving DecidableEq, Repr

/-- An operation as decoded: ORDERED, MEASURE, its dependencies and its body (R139). -/
structure Operation where
  ordered : Bool
  measure : Bool
  deps : List Nat
  body : OpBody
  deriving DecidableEq, Repr

/-- The kind of a window (R164). -/
inductive WinKind where
  | linear
  | paged
  | kvPaged
  deriving DecidableEq, Repr

/-- A window descriptor (R164). -/
structure WinDesc where
  kind : WinKind
  permR : Bool
  permW : Bool
  permA : Bool
  pav : Nat
  pageLog2 : Nat
  size : Nat
  seqCount : Nat
  maxTokensLog2 : Nat
  base : Nat
  layers : Nat
  hgTotal : Nat
  pageTokensLog2 : Nat
  entryBytes : Nat
  deriving DecidableEq, Repr

/-- A job block: origin and extents (R417). -/
structure Block where
  x0 : Nat
  y0 : Nat
  z0 : Nat
  bx : Nat
  by_ : Nat
  bz : Nat
  deriving DecidableEq, Repr

end Sys2Proof.Machine
end

