-- ==== Sys2Proof/Machine/TypesFabric.lean ====
section
/-!
DEFINITION. The boundary: counters, fabric accesses (R551 to R554), write-watch (R556, R557), messages on the links (R323 to R332) and the
pins and interrupt beats (R550, R567).
-/
namespace Sys2Proof.Machine

/-- A 32-bit error or event counter with its SATURATED bit (R518). -/
structure Counter where
  saturated : Bool := false
  count : BitVec 32 := 0
  deriving DecidableEq, Repr

/-- The register word of a counter: SATURATED in bit 63, COUNT in bits 31:0 (the register tables of every chapter). -/
def Counter.word (c : Counter) : Word := BitVec.ofNat 64 (b2n c.saturated <<< 63 + c.count.toNat)

/-- How one access ends: what the carrier answers (R552), or an internal checker that finds its beat uncorrectable (R487). -/
inductive FabResult where
  | data (bytes : List Byte)
  | visible
  | fault
  | ue
  | partReset
  | internal (checker : Nat)
  deriving DecidableEq, Repr

/-- The read result of a command operand as a carrier answer. -/
def FabResult.ofRead : ReadResult → FabResult
  | .data b => .data b
  | .fault => .fault
  | .ue => .ue
  | .partReset => .partReset

/-- The operation of a fabric access (R551). -/
inductive FabOp where
  | read
  | write
  | atomic
  deriving DecidableEq, Repr

/-- Why a channel doorbell record is read (R95, R97, R101, R102, R118). -/
inductive DbWhy where
  | normal
  | reset
  | drain
  deriving DecidableEq, Repr

/-- A range of carrier memory that a command or the Lodge firmware reads whole: what an admin command names, or a configuration table (R404). -/
inductive ContentKey where
  | admin (r : AdminRef)
  | installation
  | board
  deriving DecidableEq, Repr

/-- What a fabric access is for: where its answer goes. Channels are named with their generation, ring entries with the serial number of
their read and admin rings with the count of their starts, so that the answer to a read of an earlier one finds nothing; `gone` is an access whose answer nothing waits for any more. -/
inductive FabUse where
  | doorbell (ch gen : Nat) (why : DbWhy)
  | ringEntry (ch gen ring serial : Nat)
  | buffer (ch gen ring start : Nat)
  | record (ch gen ring : Nat)
  | nodeReset (ch : Nat)
  | adminDoorbell (pav epoch : Nat)
  | adminEntry (pav epoch : Nat)
  | adminCompletion (pav : Nat)
  | tagRead (tag use off : Nat)
  | opStore (o : OpRef) (gen : Nat)
  | semRead (o : OpRef) (gen : Nat)
  | semAtomic (o : OpRef) (gen : Nat)
  | walk (id : Nat)
  | creq (id off : Nat)
  | gatherIn (slot tag run step lane chunk operand off : Nat)
  | gatherOut (slot tag run step : Nat)
  | runStatus (slot tag : Nat)
  | doneSem (slot tag : Nat)
  | trigger (slot tag : Nat)
  | content (k : ContentKey) (off : Nat)
  | digest (r : AdminRef)
  | spdm (r : AdminRef) (len : Nat)
  | notice
  | belv (set : Nat)
  | gone
  deriving DecidableEq, Repr

/-- One fabric access as issued on a port (R551). An atomic is answered by its old value and by VISIBLE, in either order: `old` and
`vis` hold what has come. -/
structure FabAccess where
  fport : Nat
  txid : Nat
  op : FabOp
  addr : Nat
  len : Nat
  pav : Nat
  data : List Byte := []
  subop : Nat := 0
  fmt : Nat := 0
  use : FabUse
  old : Option (List Byte) := none
  vis : Bool := false
  deriving DecidableEq, Repr

/-- A fabric access that has no port yet: every port of its Pavilion holds 1,024 accesses (R551, R578). -/
structure FabRequest where
  op : FabOp
  addr : Nat
  len : Nat
  pav : Nat
  data : List Byte := []
  subop : Nat := 0
  fmt : Nat := 0
  use : FabUse
  deriving DecidableEq, Repr

/-- A range being read whole (R12): its pieces so far, or how its read failed. -/
structure ContentRead where
  key : ContentKey
  len : Nat
  got : List (Nat × List Byte) := []
  failed : Option ReadResult := none
  deriving DecidableEq, Repr

/-- The fabric ports (R551, R578): accesses outstanding, oldest first; accesses waiting for a TXID; every access sent, in order;
the ranges being read whole. -/
structure Fabric where
  out : List FabAccess := []
  waiting : List FabRequest := []
  sent : List FabAccess := []
  contents : List ContentRead := []
  deriving DecidableEq, Repr

/-- A WATCH_CMD message (R556). -/
inductive WatchCmd where
  | arm (wid line pav : Nat)
  | disarm (wid : Nat)
  deriving DecidableEq, Repr

/-- The write-watch channel (R556, R557): armed WIDs, the armed ones whose ARM the carrier refused, and every command sent. -/
structure Watches where
  armed : List Nat := []
  refused : List Nat := []
  sent : List WatchCmd := []
  deriving DecidableEq, Repr

/-- A message of the links: a header unit and the units that follow it (R323, R325). -/
structure Msg where
  hdr : LinkUnit
  body : List LinkUnit := []
  deriving DecidableEq, Repr

/-- A message queued for sending: on one virtual channel and sub-stream of a port, or to the node's own completer. `ready` is false
while its data is still being read (R187). `stream` is the channel index + 1 of a request, or 0. A transit message has its inbound port + 1, its
unit stream there, and the pool slot of each of its units (R24); `whole` once its last unit has come, `dead` once its key index is retired at the
inbound port (R351). -/
structure TxMsg where
  msg : Msg
  vc : Nat
  key : Nat
  sub : Nat
  ready : Bool := true
  stream : Nat := 0
  tag : Option Nat := none
  inbound : Nat := 0
  inStream : Nat := 0
  slots : List Nat := []
  whole : Bool := true
  dead : Bool := false
  deriving DecidableEq, Repr

/-- A released message waiting for its consumer, with its key index (its Pavilion) and the pool slots whose units it holds
(R339). Same-node messages hold no slot. `dead` once its key index is retired (R351). -/
structure RxMsg where
  msg : Msg
  key : Nat
  slots : List Nat := []
  dead : Bool := false
  deriving DecidableEq, Repr

/-- The level of a reset request on RST_REQ (R566). -/
inductive RstReq where
  | none
  | warm
  | cold
  deriving DecidableEq, Repr

/-- What the test port last shifted out (R547, R569): the bypass bit, IDCODE, the boundary-scan register, or the capture of a domain with the time its
clock stopped and its stored codewords. -/
inductive TestData where
  | bypass
  | idcode (word : BitVec 32)
  | boundary (b : Boundary)
  | capture (domain : Nat) (stopped : Word) (entries : List (List Byte))
  deriving DecidableEq, Repr

/-- Requests to the root of trust (R561). -/
inductive RotRequest where
  | extend (index : Nat) (digest : List Byte)
  | counterRead (counter : Nat)
  | counterRaise (counter : Nat) (value : Word)
  deriving DecidableEq, Repr

/-- A beat of PWRM_DOM_REQ (R563). -/
structure DomBeat where
  on : Bool
  domain : Nat
  deriving DecidableEq, Repr

/-- The signals of the boundary the block drives or samples (R550). Output lists grow at their end (DESIGN CHOICE, log entry 5). -/
structure Pins where
  faultOut : Bool := false
  fatalOut : Bool := false
  rstReq : RstReq := .none
  msi : List (BitVec 6) := []
  rotTx : List RotRequest := []
  domReq : List DomBeat := []
  regAnswers : List Word := []
  regHeld : List RegAccess := []
  rotDbg : Bool := false
  tapIr : TapInstr := .idcode
  preload : Boundary := {}
  tdo : TestData := .bypass
  deriving DecidableEq, Repr

end Sys2Proof.Machine
end

