-- ==== Sys2Proof/Machine/TypesGather.lean ====
section
/-!
DEFINITION. The state of the Gather engine (R235 to R300): program images, program slots, operand streams, runs.
-/
namespace Sys2Proof.Machine

/-- A conversion descriptor (R227). -/
structure ConvDesc where
  outFmt : Nat
  rmode : Nat := 0
  scale : Option (BitVec 32) := none
  bias : Option (BitVec 32) := none
  clip : Option (BitVec 32 × BitVec 32) := none
  deriving DecidableEq, Repr

/-- The sources of operands and sends (R281). -/
inductive Source where
  | input
  | output
  | acc
  | rx0
  | rx1
  | result
  deriving DecidableEq, Repr

/-- A send of a step (R280). -/
structure Send where
  peer : Nat
  dir : Nat
  src : Source
  slotId : Nat
  lateGo : Bool
  deriving DecidableEq, Repr

/-- An RX stream of a step (R280). -/
structure RxStream where
  peer : Nat
  fmt : Nat
  deriving DecidableEq, Repr

/-- A step of a program (R280): its number in the list, the element format it takes regions in, and C of R579 as `chunk`, 0 for a step without
streams and sends. A ring step of a library program (R297) is two of these with one number, a half of the part's data each. -/
structure GStep where
  gop : Nat
  fnMode : Nat
  sat : Bool
  write : Bool
  accWr : Bool
  k : Nat
  g : Nat
  wrConv : Nat
  txConv : Nat
  rowLen : Nat
  indexBase : Nat
  segFirst : Nat
  segCount : Nat
  txSegFirst : Nat
  txSegCount : Nat
  ops : List Source
  tx0 : Option Send
  tx1 : Option Send
  rx0 : Option RxStream
  rx1 : Option RxStream
  chunk : Nat
  num : Nat := 0
  elem : Nat := 0
  deriving DecidableEq, Repr

/-- A program (R278, R279), with the SHA-384 digest of its image as placed (R432); of a library program, the axes its ranks run over (R296). -/
structure Program where
  elemFmt : Nat
  chunkLog2 : Nat
  persistent : Bool
  nseg : Nat
  accKib : Nat
  timeoutUs : Nat
  count : Nat
  seed : Nat
  trigger : Nat
  done : Nat
  input : Nat
  output : Nat
  status : Nat
  convs : List ConvDesc
  steps : List GStep
  imageLen : Nat
  digest : List Byte := []
  library : Bool := false
  axes : Nat := 7
  deriving DecidableEq, Repr

/-- One chunk of an operand stream in its slot (R239, R240): run modulo 256, step, sender, TXI, chunk index, class, and its parts. -/
structure HeldChunk where
  run : Nat
  step : Nat
  src : Nat
  txi : Bool
  chunk : Nat
  cls : Nat
  parts : List (Nat × Nat × List Byte) := []
  deriving DecidableEq, Repr

/-- The three things a step works through chunk by chunk: the combining, and the sends whose source is not RESULT. -/
inductive WorkLane where
  | main
  | send0
  | send1
  deriving DecidableEq, Repr

/-- Where one of them stands: chunks done, the chunks whose local operands were asked for (R27), what has come of them (chunk, operand, offset,
bytes), the chunks of RX streams that alone are missing for the next, and since when that has been so (R293). -/
structure Work where
  done : Nat := 0
  asked : Nat := 0
  pieces : List (Nat × Nat × Nat × List Byte) := []
  lack : Nat := 0
  since : Option Nat := none
  deriving DecidableEq, Repr

/-- Where a send of a step stands at the slot rules (R311): not judged, waiting for a window, or begun. -/
inductive SendPhase where
  | fresh
  | waiting
  | begun
  deriving DecidableEq, Repr

/-- A send of a step: its phase, chunks produced and not yet sent, and since when it holds no chunk credit (R293). -/
structure SendState where
  phase : SendPhase := .fresh
  queue : List (Nat × List Byte) := []
  noCredit : Option Nat := none
  deriving DecidableEq, Repr

/-- The progress of one step of a run. -/
structure StepState where
  main : Work := {}
  s0 : Work := {}
  s1 : Work := {}
  t0 : SendState := {}
  t1 : SendState := {}
  deriving DecidableEq, Repr

/-- How a run ends (R292): in progress, its status record being written, its completion semaphore being updated. -/
inductive RunPhase where
  | running
  | record
  | semaphore
  deriving DecidableEq, Repr

/-- A run in progress (R291): number, operation for a GATHER_RUN with its channel and generation, regions, element count, seed, flags,
progress by step, accumulator area, and the failure once found (status, step); `halt` once the slice was told to stop it (R119). -/
structure Run where
  num : Nat
  op : Option OpRef
  gen : Nat
  input : Nat
  output : Nat
  count : Nat
  seed : Nat
  done : Nat
  start : Word
  flags : Nat := 0
  steps : Table StepState := []
  acc : Memory := []
  failed : Option (Nat × Nat) := none
  phase : RunPhase := .running
  halt : Bool := false
  deriving DecidableEq, Repr

/-- A program slot that holds a program (R285 to R290): its tag, Pavilion and slice; the runs begun; the run in progress; the GATHER_RUNs
that wait (R156); chunk credits spent by step and send; chunks held; the trigger's base, last value and watch; the UNLOAD_PROGRAMs that wait for the
run to stop; `kill` once its Pavilion is killed or torn down and the program leaves at the run's end (R288). -/
structure GSlot where
  tag : Nat
  pav : Nat
  slice : Nat
  prog : Program
  runs : Nat := 0
  run : Option Run := none
  queue : List OpRef := []
  spent : Table Nat := []
  held : List HeldChunk := []
  base : Option Nat := none
  seen : Nat := 0
  faulted : Bool := false
  lastPoll : Nat := 0
  unload : List AdminRef := []
  kill : Bool := false
  deriving DecidableEq, Repr

/-- A LOAD_PROGRAM whose programs read their triggers for the first time (R290): its results and the slots still to be read. -/
structure LoadWait where
  cmd : AdminRef
  slots : List Nat
  r1 : Nat
  r2 : Nat
  r3 : Nat
  deriving DecidableEq, Repr

/-- The Gather engine: the registers of R276 and R313, the program slots, the slice enables as last written (R276), the LOAD_PROGRAMs whose
trigger reads are outstanding, and the program slot each slice served last (R237). -/
structure Gather where
  ctl : Word := 0x3F
  knotSel : Word := 0
  progSel : Word := 0
  progTag : BitVec 32 := 1
  slots : Table (Option GSlot) := []
  want : Nat := 0x3F
  loads : List LoadWait := []
  turn : Table Nat := []
  deriving DecidableEq, Repr

/-- The program of a slot. -/
def Gather.slot (g : Gather) (i : Nat) : Option GSlot := Table.get none g.slots i

/-- The slice that holds a program; 0 for an empty slot. -/
def Gather.sliceOf (g : Gather) (i : Nat) : Nat :=
  match g.slot i with
  | some q => q.slice
  | none => 0

end Sys2Proof.Machine
end

