-- ==== Sys2Proof/Machine/Convert.lean ====
section
/-!
DEFINITION. The output converter of a Gather slice (R227 to R231).
-/
namespace Sys2Proof.Machine

/-- An element value: a K16 or binary32 value, a K32x2 pair, or an integer. -/
inductive Val where
  | num (x : Num)
  | pair (h l : Num)
  | int (v : Int)
  deriving DecidableEq, Repr

/-- Rounding to odd at 64 significant bits (R229). -/
def roundOdd (m : Nat) (e : Int) : Nat × Int :=
  if m.log2 < 64 then (m, e)
  else
    let k := m.log2 - 63
    ((m >>> k) ||| (if m % 2 ^ k = 0 then 0 else 1), e + k)

/-- The rounding a descriptor selects (R223); `r` is the draw. -/
def ConvDesc.mode (d : ConvDesc) (r : Nat) : Round :=
  if d.rmode = 0 then .nearest else if d.rmode = 1 then .zero else .stochastic r

/-- A value rounded into K16 or binary32, with the flags of R212 and R214. -/
def roundInto (fmt : Nat) (mode : Round) (x : Num) : Num × Nat :=
  match x with
  | .nan => (.nan, flNan)
  | .inf n => if fmt = fK16 then (k16 (k16Max n), flSat) else (.inf n, 0)
  | .fin n m e =>
    if fmt = fK16 then
      let r := roundK16 mode n m e
      (k16 r.1, r.2)
    else
      let r := roundB32 mode n m e
      (b32 r.1, r.2)

/-- Clipping after rounding (R231): the bounds are rounded inward and raise no flag. -/
def ConvDesc.clipped (d : ConvDesc) (x : Num) : Num :=
  match d.clip with
  | none => x
  | some b =>
    let lo := (roundInto d.outFmt .up (b32 b.1)).1
    let hi := (roundInto d.outFmt .down (b32 b.2)).1
    if x.isNan then x else if x.lt lo then lo else if hi.lt x then hi else x

/-- A floating-point accumulator value through the converter (R229, R230). -/
def ConvDesc.convert (d : ConvDesc) (r : Nat) (acc : Num) : Flagged Num := do
  let p := acc.mulExact (match d.scale with
    | some w => b32 w
    | none => Num.one)
  if p.2 then raise flInvalid
  let q := p.1.addExact (match d.bias with
    | some w => b32 w
    | none => Num.zero)
  if q.2 then raise flInvalid
  let x := match q.1 with
    | .fin n m e => .fin n (roundOdd m e).1 (roundOdd m e).2
    | y => y
  let y := roundInto d.outFmt (d.mode r) x
  raise y.2
  return d.clipped y.1

/-- The bytes of a K16 or binary32 value as written or sent (R211, R215, R216). -/
def numBytes (fmt : Nat) (x : Num) : List Byte :=
  if fmt = fK16 then leBytes 2 x.write16.toNat else leBytes 4 x.write32.toNat

/-- The bytes of a K32x2 pair as written, normalised (R217): HI is the rounded sum and LO what the rounding left, so that no value changes. A pair
whose HI is NaN or infinite represents HI. DEDUCED, log entry 162. -/
def pairBytes (h l : Num) : Flagged (List Byte) := do
  let s ← if h.isNan || h.isInf then h.round32 else h.add l
  return leBytes 4 s.write32.toNat ++ leBytes 4 (if s.isNan || s.isInf then 0 else (Num.quiet (((h.addExact l).1.addExact s.negate).1.round32)).write32.toNat)

/-- An accumulator value through the converter, as bytes of OUT_FMT (R228, R229). A pair is taken as HI + LO whatever its HI is.
DESIGN CHOICE, log entry 163. -/
def ConvDesc.bytes (d : ConvDesc) (accFmt r : Nat) (v : Val) : Flagged (List Byte) :=
  match v with
  | .int i => return leBytes (formatSize accFmt) (intBits accFmt i)
  | .pair h l =>
    if d.outFmt = fK32x2 then pairBytes h l
    else do
      let s := h.addExact l
      if s.2 then raise flInvalid
      let x ← d.convert r s.1
      return numBytes d.outFmt x
  | .num x => do
    let y ← d.convert r x
    return numBytes d.outFmt y

/-- The conversion of descriptor 0: the accumulator format, unrounded (R280). -/
def defaultConv (accFmt : Nat) : ConvDesc := { outFmt := accFmt }

/-- Whether a conversion makes a draw for each value (R225, R243). -/
def ConvDesc.draws (d : ConvDesc) (accFmt : Nat) : Bool :=
  d.rmode == 2 && !isIntFmt accFmt && (d.outFmt == fK16 || d.outFmt == fB32)

/-- An enabled parameter that is NaN. -/
def nanParam (o : Option (BitVec 32)) : Bool :=
  match o with
  | some w => (b32 w).isNan
  | none => false

/-- No enable bit is set. -/
def ConvDesc.plain (d : ConvDesc) : Bool := d.scale.isNone && d.bias.isNone && d.clip.isNone

/-- Conditions of R228 and R223 that do not depend on the accumulator: whatever it is, an output format that is not K16 or binary32 is an integer
format or K32x2, with no enable bit. -/
def ConvDesc.ok (d : ConvDesc) : Bool :=
  d.rmode != 3 && !nanParam d.scale && !nanParam d.bias &&
    (d.outFmt == fK16 || d.outFmt == fB32 || ((isIntFmt d.outFmt || d.outFmt == fK32x2) && d.plain)) &&
    (match d.clip with
      | some b => !(b32 b.1).isNan && !(b32 b.2).isNan && !(b32 b.2).lt (b32 b.1)
      | none => true)

/-- The conditions of R228 for an accumulator format. -/
def ConvDesc.okFor (d : ConvDesc) (accFmt : Nat) : Bool :=
  d.ok &&
    (if isIntFmt accFmt then d.outFmt == accFmt
     else if d.outFmt = fK32x2 then accFmt == fK32x2
     else d.outFmt == fK16 || d.outFmt == fB32)

end Sys2Proof.Machine
end

