-- ==== Sys2Proof/Machine/FuncUnits.lean ====
section
/-!
DEFINITION. The function units of the Gather engine (R248, R265 to R272, R277): knots, segments, range reduction, the Newton step and the special
values.
-/
namespace Sys2Proof.Machine

/-- The functions, with the codes of GATHER.KNOT_SEL.FUNC (R276). -/
inductive Func where
  | exp2
  | log2
  | recip
  | rsqrt
  deriving DecidableEq, Repr

def Func.ofCode (c : Nat) : Func := if c = 0 then .exp2 else if c = 1 then .log2 else if c = 2 then .recip else .rsqrt

/-- The segments of a layout (R265). -/
def Func.segments (f : Func) (fine : Bool) : Nat :=
  match f with
  | .rsqrt => if fine then 256 else 64
  | _ => if fine then 256 else 32

/-- The largest number below 2^k, from `a` on, that meets a property that holds up to some bound. -/
def largest (p : Nat → Bool) : Nat → Nat → Nat
  | 0, a => a
  | k + 1, a => if p (a + 2 ^ k) then largest p k (a + 2 ^ k) else largest p k a

/-- A value known between t and t + 1 units of 2^lsb, exact only when told so, rounded to binary32 (R266). -/
def knotOf (t : Nat) (exact : Bool) (lsb : Int) : Num := b32 (roundB32 .nearest false (2 * t + b2n (!exact)) (lsb - 1)).1

/-- 2^(j/256): t is the integer part of 2^24 × 2^(j/256), found exactly. -/
def knotExp2 (j : Nat) : Num :=
  let bound := 2 ^ (24 * 256 + j)
  let t := largest (fun m => decide (m ^ 256 ≤ bound)) 26 0
  knotOf t (t ^ 256 == bound) (-24)

/-- `n` binary digits of log2 of x / 2^200, for 1 ≤ x / 2^200 < 2, by repeated squaring with 200 fraction bits. -/
def log2Digits : Nat → Nat → Nat → Nat
  | 0, _, acc => acc
  | n + 1, x, acc =>
    let y := (x * x) >>> 200
    if 2 ^ 201 ≤ y then log2Digits n (y / 2) (2 * acc + 1) else log2Digits n y (2 * acc)

/-- log2(1 + j/256): 64 digits of an irrational value, but for the two end knots. The 200 fraction bits of the squaring leave more than
100 correct digits beyond those. -/
def knotLog2 (j : Nat) : Num :=
  if j = 0 then Num.zero
  else if j = 256 then Num.one
  else knotOf (log2Digits 64 ((256 + j) * 2 ^ 192) 0) false (-64)

/-- 256 / (256 + j). -/
def knotRecip (j : Nat) : Num :=
  let a := 256 * 2 ^ 40
  knotOf (a / (256 + j)) (a % (256 + j) == 0) (-40)

/-- 1/√(p/q): t² p ≤ q 2^60 bounds t. -/
def knotRsqrt (p q : Nat) : Num :=
  let bound := q * 2 ^ 60
  let t := largest (fun m => decide (m * m * p ≤ bound)) 31 0
  knotOf t (t * t * p == bound) (-30)

/-- knot_j of a layout (R265, R266). -/
def Func.knot (f : Func) (fine : Bool) (j : Nat) : Num :=
  let n := f.segments fine
  match f with
  | .exp2 => knotExp2 (j * (256 / n))
  | .log2 => knotLog2 (j * (256 / n))
  | .recip => knotRecip (j * (256 / n))
  | .rsqrt => if 2 * j ≤ n then knotRsqrt (n / 2 + j) (n / 2) else knotRsqrt (2 * j) (n / 2)

/-- GATHER.KNOT_DATA (R276): 0 beyond the segment count. -/
def knotData (func : Nat) (fine : Bool) (j : Nat) : BitVec 32 :=
  let f := Func.ofCode func
  if f.segments fine < j then 0 else (f.knot fine j).bits32

/-- The interpolation in segment j at t (R267): one rounding. -/
def Func.interpolate (f : Func) (fine : Bool) (j : Nat) (t : Num) : Num :=
  let k := f.knot fine j
  let slope := ((f.knot fine (j + 1)).addExact k.negate).1
  Num.quiet (slope.fma t k)

/-- The scaling of R268: exact unless the result is subnormal; from 2^128 on R272 gives the infinity. Underflow is never raised. -/
def scaleResult (x : Num) (k : Int) : Flagged Num := do
  match x.scale k with
  | .fin n m e =>
    let r := roundB32 .nearest n m e
    if r.2 = flOverflow then raise flOverflow
    return b32 r.1
  | y => return y

/-- `r` with at most 24 significant bits kept (R267). -/
def keep24 (r : Nat) : Nat := if r.log2 < 24 then r else r >>> (r.log2 - 23) <<< (r.log2 - 23)

/-- exp2 of a finite argument (R268, R272). -/
def exp2Fin (fine : Bool) (neg : Bool) (m : Nat) (e : Int) : Flagged Num := do
  let y := Num.fin neg m e
  if !y.lt (Num.ofNat 128) then
    raise flOverflow
    return .inf false
  else if y.lt (Num.ofInt (-150)) then return Num.zero
  else
    let v : Int := if 0 ≤ e + 32 then signedAt neg m (e + 32) 0 else (signedAt neg m 0 0) / ((2 ^ (-(e + 32)).toNat : Nat) : Int)
    let i := v / 2 ^ 32
    let u := (v % 2 ^ 32).toNat
    let low := 32 - (Func.segments .exp2 fine).log2
    scaleResult (Func.interpolate .exp2 fine (u >>> low) (.fin false (keep24 (u % 2 ^ low)) (-(low : Int)))) i

/-- The segment and the place in it of a mantissa m / 2^log2(m), for segments of 1/n (R267). -/
def segmentOf (m n : Nat) : Nat × Num :=
  let t := m.log2
  let p := (m - 2 ^ t) * n
  (p >>> t, .fin false (p % 2 ^ t) (-(t : Int)))

/-- log2 of a positive argument (R268). -/
def log2Fin (fine : Bool) (m : Nat) (e : Int) : Flagged Num :=
  let g := segmentOf m (Func.segments .log2 fine)
  (Num.ofInt (e + m.log2)).add (Func.interpolate .log2 fine g.1 g.2)

/-- One Newton step (R271). -/
def refineRecip (x r0 : Num) : Num :=
  let c := Num.quiet (x.negate.fma r0 Num.one)
  Num.quiet (r0.fma c r0)
def refineRsqrt (x r0 : Num) : Num :=
  let h := Num.quiet (r0.mul r0)
  let c := Num.quiet (x.negate.fma h Num.one)
  Num.quiet ((Num.quiet (r0.mul (.fin false 1 (-1)))).fma c r0)

/-- recip of a finite argument that is not zero (R268, R271, R272). -/
def recipFin (fine refine neg : Bool) (m : Nat) (e : Int) : Flagged Num :=
  let t : Int := m.log2
  let g := segmentOf m (Func.segments .recip fine)
  let r0 := Func.interpolate .recip fine g.1 g.2
  let r := if refine then refineRecip (.fin false m (-t)) r0 else r0
  scaleResult (if neg then r.negate else r) (-(e + t))

/-- rsqrt of a positive argument (R268, R271, R272): m in [1, 4) when the exponent is odd. -/
def rsqrtFin (fine refine : Bool) (m : Nat) (e : Int) : Flagged Num :=
  let t : Int := m.log2
  let odd : Int := (e + t) % 2
  let half := Func.segments .rsqrt fine / 2
  let g := segmentOf m half
  let r0 := Func.interpolate .rsqrt fine (g.1 + (if odd = 1 then half else 0)) g.2
  let r := if refine then refineRsqrt (.fin false m (odd - t)) r0 else r0
  scaleResult r (-((e + t) / 2))

/-- An invalid argument (R272, R215). -/
def funcInvalid : Flagged Num := do
  raise (flInvalid ||| flNan)
  return .nan

/-- One function evaluation (R265 to R272); FN_MODE bit 0 selects fine segments, bit 1 the Newton step (R248). -/
def evalFunc (f : Func) (mode : Nat) (x : Num) : Flagged Num :=
  let fine := mode % 2 == 1
  let refine := mode / 2 % 2 == 1
  match x with
  | .nan => do
    raise flNan
    return .nan
  | .inf neg => match f with
    | .exp2 => return (if neg then Num.zero else .inf false)
    | .log2 => if neg then funcInvalid else return .inf false
    | .recip => return .fin neg 0 0
    | .rsqrt => if neg then funcInvalid else return Num.zero
  | .fin neg m e => match f with
    | .exp2 => exp2Fin fine neg m e
    | .log2 => if m = 0 then return .inf true else if neg then funcInvalid else log2Fin fine m e
    | .recip => if m = 0 then return .inf neg else recipFin fine refine neg m e
    | .rsqrt => if m = 0 then return .inf neg else if neg then funcInvalid else rsqrtFin fine refine m e

end Sys2Proof.Machine
end

