-- ==== Sys2Proof/Machine/GatherOps.lean ====
section
/-!
DEFINITION. The operations of the Gather engine on elements (R221, R222, R233, R243 to R264, R282): layouts, accumulator formats, the canonical
tree, every GOP, and the bytes read and written.
-/
namespace Sys2Proof.Machine

/-! ### Operation codes (R247) -/

def gSum : Nat := 0x01
def gMax : Nat := 0x02
def gMin : Nat := 0x03
def gSumRow : Nat := 0x04
def gMaxRow : Nat := 0x05
def gMinRow : Nat := 0x06
def gMove : Nat := 0x08
def gSmxRow : Nat := 0x10
def gSmxMerge : Nat := 0x11
def gAttnMerge : Nat := 0x12
def gAttnFinal : Nat := 0x13
def gMomRow : Nat := 0x18
def gMomMerge : Nat := 0x19
def gMomFinal : Nat := 0x1A
def gSsqRow : Nat := 0x1C
def gSsqMerge : Nat := 0x1D
def gSsqFinal : Nat := 0x1E
def gTopkRow : Nat := 0x20
def gTopkMerge : Nat := 0x21
def gExp2 : Nat := 0x30
def gLog2 : Nat := 0x31
def gRecip : Nat := 0x32
def gRsqrt : Nat := 0x33

def isFn (gop : Nat) : Bool := decide (gExp2 ≤ gop) && decide (gop ≤ gRsqrt)

/-- The GOPs that reduce rows (R245). -/
def isRow (gop : Nat) : Bool := gop ∈ [gSumRow, gMaxRow, gMinRow, gSmxRow, gMomRow, gSsqRow, gTopkRow]

/-- The GOPs of one to eight operands (R245). -/
def isMulti (gop : Nat) : Bool := gop ∈ [gSum, gMax, gMin, gSmxMerge, gAttnMerge, gMomMerge, gSsqMerge, gTopkMerge]

/-- The GOPs whose result bypasses the converter (R246). -/
def isRecord (gop : Nat) : Bool :=
  gop ∈ [gSmxRow, gSmxMerge, gMomRow, gMomMerge, gSsqRow, gSsqMerge, gTopkRow, gTopkMerge, gAttnMerge]

/-- The arrangements of an element (R249, R282). -/
inductive Layout where
  | num
  | row
  | smx
  | attn
  | mom
  | ssq
  | top
  | two
  | attnOut
  deriving DecidableEq, Repr

/-- The layout of a GOP's operands; none for a reserved code (R247). -/
def gopIn (gop : Nat) : Option Layout :=
  if gop = gSum || gop = gMax || gop = gMin || gop = gMove || isFn gop then some .num
  else if isRow gop then some .row
  else if gop = gSmxMerge then some .smx
  else if gop = gAttnMerge || gop = gAttnFinal then some .attn
  else if gop = gMomMerge || gop = gMomFinal then some .mom
  else if gop = gSsqMerge || gop = gSsqFinal then some .ssq
  else if gop = gTopkMerge then some .top
  else none

/-- The layout of a GOP's result. -/
def gopOut (gop : Nat) : Option Layout :=
  if gop = gSum || gop = gMax || gop = gMin || gop = gMove || isFn gop || gop = gSumRow || gop = gMaxRow || gop = gMinRow then some .num
  else if gop = gSmxRow || gop = gSmxMerge then some .smx
  else if gop = gAttnMerge then some .attn
  else if gop = gAttnFinal then some .attnOut
  else if gop = gMomRow || gop = gMomMerge then some .mom
  else if gop = gSsqRow || gop = gSsqMerge then some .ssq
  else if gop = gMomFinal || gop = gSsqFinal then some .two
  else if gop = gTopkRow || gop = gTopkMerge then some .top
  else none

/-- The accumulator format (R222, R262); none where LOAD_PROGRAM refuses the combination. -/
def accFormat (gop elem : Nat) : Option Nat :=
  if gop = gSum || gop = gSumRow then
    (if elem = fK16 then some fB32 else if elem = fB32 || elem = fK32x2 || isIntFmt elem then some elem else none)
  else if gop = gMax || gop = gMin || gop = gMaxRow || gop = gMinRow then
    (if elem = fK16 || elem = fB32 || isIntFmt elem then some elem else none)
  else if gop = gMove then (if elem = fK16 || elem = fB32 || elem = fK32x2 || isIntFmt elem then some elem else none)
  else if gop = gTopkRow || gop = gTopkMerge then
    (if elem = fK16 || elem = fB32 || elem = fInt32 || elem = fUint32 then some elem else none)
  else if (gopIn gop).isSome then (if elem = fK16 || elem = fB32 then some fB32 else none)
  else none

/-- An RX format widens exactly to an accumulator format (R222, R283). -/
def widens (rx acc : Nat) : Bool := rx == acc || (rx == fK16 && (acc == fB32 || acc == fK32x2)) || (rx == fB32 && acc == fK32x2)

/-- The shape parameters of a step. -/
structure Shape where
  rowLen : Nat
  g : Nat
  k : Nat

/-- The size E of an element (R249, R282). -/
def Layout.size (l : Layout) (fmt : Nat) (p : Shape) : Nat :=
  match l with
  | .num => formatSize fmt
  | .row => p.rowLen * formatSize fmt
  | .two => 2 * formatSize fmt
  | .smx => 8
  | .mom => 16
  | .ssq => 16
  | .attn => 8 + 4 * p.g
  | .attnOut => 8 + p.g * formatSize fmt
  | .top => 8 * p.k

/-- The size of one accumulator group of an attention layout; none for the others. -/
def Layout.group (l : Layout) (fmt : Nat) (p : Shape) : Option Nat :=
  match l with
  | .attn => some (4 * p.g)
  | .attnOut => some (p.g * formatSize fmt)
  | _ => none

/-- The byte ranges (offset, length) of elements `first` to `first + n − 1` of a region of `total` elements (R282): an attention region has its
records first and then its accumulators. -/
def Layout.ranges (l : Layout) (fmt : Nat) (p : Shape) (first n total : Nat) : List (Nat × Nat) :=
  match l.group fmt p with
  | some w => [(8 * first, 8 * n), (8 * total + w * first, w * n)]
  | none => [(first * l.size fmt p, n * l.size fmt p)]

/-! ### Elements -/

/-- An entry of a top-k list (R261): value, whether its pattern is a signalling NaN, index. -/
structure TopEntry where
  v : Val
  snan : Bool := false
  idx : Nat
  deriving DecidableEq, Repr

/-- An element of a region or a chunk (R249). -/
inductive Elem where
  | val (v : Val)
  | row (l : List Val)
  | smx (m s : Num) (o : List Num)
  | stat (n : Nat) (a b : Num)
  | top (l : List TopEntry)
  | two (a b : Val)
  | attnOut (m s : Num) (o : List Num)
  deriving DecidableEq, Repr

/-- One value of a format, widened to an accumulator format (R222). -/
def readVal (fmt acc : Nat) (l : List Byte) (at' : Nat) : Flagged Val := do
  if isIntFmt fmt then return .int (intOf fmt (leAt l at' (formatSize fmt)))
  else if fmt = fK32x2 then
    let h ← read32 (BitVec.ofNat 32 (leAt l at' 4))
    let x ← read32 (BitVec.ofNat 32 (leAt l (at' + 4) 4))
    return .pair h x
  else
    let x ← if fmt = fK16 then pure (k16 (BitVec.ofNat 16 (leAt l at' 2))) else read32 (BitVec.ofNat 32 (leAt l at' 4))
    return (if acc = fK32x2 then .pair x Num.zero else .num x)

/-- A binary32 field of a record. -/
def readField (l : List Byte) (at' : Nat) : Flagged Num := read32 (BitVec.ofNat 32 (leAt l at' 4))

def emptyIdx : Nat := 0xFFFFFFFF

/-- An entry of a list (R249, R262). -/
def readEntry (fmt : Nat) (l : List Byte) (at' : Nat) : TopEntry :=
  let idx := leAt l (at' + 4) 4
  if idx = emptyIdx then { v := .int 0, idx := idx }
  else if isIntFmt fmt then { v := .int (intOf fmt (leAt l at' 4)), idx := idx }
  else if fmt = fK16 then { v := .num (k16 (BitVec.ofNat 16 (leAt l at' 2))), idx := idx }
  else { v := .num (b32 (BitVec.ofNat 32 (leAt l at' 4))), snan := b32Signalling (BitVec.ofNat 32 (leAt l at' 4)), idx := idx }

/-- M2 of an input record: a negative one counts as +0 and raises NEG_M2 (R257). -/
def readM2 (l : List Byte) (at' : Nat) : Flagged Num := do
  let x ← readField l at'
  if x.isNeg then
    raise flNegM2
    return Num.zero
  else return x

/-- Element `i` of `n` elements whose bytes are `l` in their layout. -/
def readElem (lay : Layout) (fmt acc : Nat) (p : Shape) (n : Nat) (l : List Byte) (i : Nat) : Flagged Elem := do
  let at' := i * lay.size fmt p
  match lay with
  | .num =>
    let v ← readVal fmt acc l at'
    return .val v
  | .row =>
    let vs ← (List.range p.rowLen).mapM (fun j => readVal fmt acc l (at' + j * formatSize fmt))
    return .row vs
  | .smx =>
    let m ← readField l at'
    let s ← readField l (at' + 4)
    return .smx m s []
  | .mom =>
    let a ← readField l (at' + 8)
    let b ← readM2 l (at' + 12)
    return .stat (leAt l at' 4) a b
  | .ssq =>
    let a ← readField l (at' + 8)
    let b ← readField l (at' + 12)
    return .stat (leAt l at' 4) a b
  | .top => return .top ((List.range p.k).map (fun j => readEntry fmt l (at' + 8 * j)))
  | .two =>
    let a ← readVal fmt acc l at'
    let b ← readVal fmt acc l (at' + formatSize fmt)
    return .two a b
  | .attn =>
    let m ← readField l (8 * i)
    let s ← readField l (8 * i + 4)
    let o ← (List.range p.g).mapM (fun j => readField l (8 * n + (i * p.g + j) * 4))
    return .smx m s o
  | .attnOut => return .attnOut .nan .nan []

/-- All `n` elements of a byte list. -/
def readElems (lay : Layout) (fmt acc : Nat) (p : Shape) (n : Nat) (l : List Byte) : Flagged (List Elem) :=
  (List.range n).mapM (readElem lay fmt acc p n l)

/-! ### The canonical tree (R244) -/

/-- The list reduced by the tree that splits after the largest power of two smaller than its length. The first argument is fuel. -/
def tree {α : Type} (op : α → α → Flagged α) (d : α) : Nat → List α → Flagged α
  | _, [] => pure d
  | _, [a] => pure a
  | 0, a :: _ => pure a
  | n + 1, l => do
    let k := 2 ^ (l.length - 1).log2
    let a ← tree op d n (l.take k)
    let b ← tree op d n (l.drop k)
    op a b

/-- The tree over a list of any length below 2^64. -/
def reduce {α : Type} (op : α → α → Flagged α) (d : α) (l : List α) : Flagged α := tree op d 64 l

/-! ### Sums, maxima and minima (R250, R232) -/

def sumVal (acc : Nat) (sat : Bool) (a b : Val) : Flagged Val :=
  match a, b with
  | .int x, .int y => do
    let r ← intAdd acc sat x y
    return .int r
  | .pair h l, .pair h' l' => do
    let r ← addPair h l h' l'
    return .pair r.1 r.2
  | .num x, .num y => do
    let r ← x.add y
    return .num r
  | a, _ => pure a

def pickVal (wantMin : Bool) (a b : Val) : Flagged Val :=
  match a, b with
  | .int x, .int y => pure (.int (if wantMin == decide (x ≤ y) then x else y))
  | .num x, .num y => do
    let r ← x.pick wantMin y
    return .num r
  | a, _ => pure a

/-- The binary operation of SUM, MAX and MIN and their row forms. -/
def binVal (gop acc : Nat) (sat : Bool) : Val → Val → Flagged Val :=
  if gop = gSum || gop = gSumRow then sumVal acc sat else pickVal (gop == gMin || gop == gMinRow)

/-! ### Softmax and attention (R251 to R254) -/

def Val.toNum : Val → Num
  | .num x => x
  | .pair h _ => h
  | .int i => Num.ofInt i

def smxRow (mode : Nat) (xs : List Num) : Flagged Elem := do
  let m ← reduce (fun a b => a.pick false b) Num.zero xs
  let ts ← xs.mapM (fun x => do
    let d ← x.sub m
    evalFunc .exp2 mode d)
  let s ← reduce Num.add Num.zero ts
  return .smx m s []

/-- SMX_MERGE and ATTN_MERGE of records a and b (R252, R253). -/
def smxMerge (mode : Nat) (ma sa : Num) (oa : List Num) (mb sb : Num) (ob : List Num) : Flagged Elem := do
  if ma.isNan || sa.isNan || mb.isNan || sb.isNan then
    raise flNan
    return .smx .nan .nan (oa.map (fun _ => Num.nan))
  else
    let m ← ma.pick false mb
    if ma.eqv m then
      let f ← if mb.eqv m then pure Num.one else do
        let d ← mb.sub m
        evalFunc .exp2 mode d
      let s ← sb.fma f sa
      let o ← (oa.zip ob).mapM (fun q => q.2.fma f q.1)
      return .smx m s o
    else
      let d ← ma.sub m
      let f ← evalFunc .exp2 mode d
      let s ← sa.fma f sb
      let o ← (oa.zip ob).mapM (fun q => q.1.fma f q.2)
      return .smx m s o

def attnFinal (mode : Nat) (m s : Num) (o : List Num) : Flagged Elem := do
  if s.isNan then
    raise flNan
    return .attnOut m s (o.map (fun _ => Num.nan))
  else if s.isZero then return .attnOut m s (o.map (fun _ => Num.zero))
  else
    let r ← evalFunc .recip mode s
    let l ← o.mapM (fun x => do
      let p := x.mulExact r
      if p.2 then raise flInvalid
      return p.1)
    return .attnOut m s l

/-! ### Moments and sums of squares (R255 to R260) -/

/-- float(n): binary32, rounded to nearest-even. -/
def floatN (n : Nat) : Num := Num.quiet ((Num.ofNat n).round32)

/-- n_a + n_b as uint32, saturating with SAT. -/
def satN (n : Nat) : Flagged Nat := do
  if n ≤ 0xFFFFFFFF then return n
  else
    raise flSat
    return 0xFFFFFFFF

/-- recip with refine always applied; FN_MODE selects only its segments (R256). -/
def refinedRecip (mode : Nat) (x : Num) : Flagged Num := evalFunc .recip (mode % 2 + 2) x

def momMerge (mode : Nat) (a b : Nat × Num × Num) : Flagged (Nat × Num × Num) := do
  if a.1 = 0 then return b
  else if b.1 = 0 then return a
  else
    let n ← satN (a.1 + b.1)
    let r ← refinedRecip mode (floatN n)
    let wb ← (floatN b.1).mul r
    let d ← b.2.1.sub a.2.1
    let mean ← d.fma wb a.2.1
    let dd ← d.mul d
    let w ← (floatN a.1).mul wb
    let corr ← dd.mul w
    let q ← a.2.2.add b.2.2
    let m2 ← q.add corr
    return (n, mean, m2)

def momFinal (mode n : Nat) (mean m2 : Num) : Flagged Elem := do
  if n = 0 then return .two (.num Num.zero) (.num Num.zero)
  else
    let r ← refinedRecip mode (floatN n)
    let v ← m2.mul r
    return .two (.num mean) (.num v)

def ssqMerge (a b : Nat × Num × Num) : Flagged (Nat × Num × Num) := do
  let n ← satN (a.1 + b.1)
  let x ← a.2.1.add b.2.1
  let y ← a.2.2.add b.2.2
  return (n, x, y)

def ssqRow (xs : List Num) : Flagged Elem := do
  let s1 ← reduce Num.add Num.zero xs
  let sq ← xs.mapM (fun x => x.mul x)
  let s2 ← reduce Num.add Num.zero sq
  return .stat xs.length s1 s2

def ssqFinal (mode n : Nat) (s1 s2 : Num) : Flagged Elem := do
  if n = 0 then return .two (.num Num.zero) (.num Num.zero)
  else
    let r ← evalFunc .recip mode (floatN n)
    let mean ← s1.mul r
    let q ← s2.mul r
    let v ← mean.negate.fma mean q
    if v.lt Num.zero then
      raise flVarClamp
      return .two (.num mean) (.num Num.zero)
    else return .two (.num mean) (.num v)

/-! ### Top-k (R233, R261 to R264) -/

/-- The place of an entry's kind in the rank: values, NaN, empty. -/
def TopEntry.tier (e : TopEntry) : Nat :=
  if e.idx = emptyIdx then 2 else match e.v with
    | .num .nan => 1
    | _ => 0

def Val.gt : Val → Val → Bool
  | .int a, .int b => decide (b < a)
  | .num a, .num b => b.lt a
  | _, _ => false

/-- An entry ranks strictly above another (R233, R261). -/
def TopEntry.above (a b : TopEntry) : Bool :=
  if a.tier != b.tier then decide (a.tier < b.tier)
  else if a.tier = 2 then false
  else if a.tier = 1 then decide (a.idx < b.idx)
  else if a.v.gt b.v then true
  else if b.v.gt a.v then false
  else decide (a.idx < b.idx)

/-- An entry placed behind every entry it does not rank above. -/
def placeEntry (e : TopEntry) : List TopEntry → List TopEntry
  | [] => [e]
  | x :: r => if e.above x then e :: x :: r else x :: placeEntry e r

def emptyEntry : TopEntry := { v := .int 0, idx := emptyIdx }

/-- The K highest-ranked entries of a list, in rank order. -/
def topK (k : Nat) (l : List TopEntry) : List TopEntry :=
  let r := l.foldl (fun acc e => (placeEntry e acc).take k) []
  r ++ List.replicate (k - r.length) emptyEntry

/-- A list read from memory is in rank order (R264). -/
def inRankOrder : List TopEntry → Bool
  | a :: b :: r => !b.above a && inRankOrder (b :: r)
  | _ => true

/-! ### One element of a step -/

/-- What a step computes with. -/
structure GopParams where
  gop : Nat
  acc : Nat
  sat : Bool
  mode : Nat
  indexBase : Nat
  shape : Shape

/-- Two operands of a merge GOP combined (R245). -/
def GopParams.merge (p : GopParams) (a b : Elem) : Flagged Elem :=
  match a, b with
  | .val x, .val y => do
    let r ← binVal p.gop p.acc p.sat x y
    return .val r
  | .smx ma sa oa, .smx mb sb ob => smxMerge p.mode ma sa oa mb sb ob
  | .stat n x y, .stat n' x' y' => do
    let r ← if p.gop = gMomMerge then momMerge p.mode (n, x, y) (n', x', y') else ssqMerge (n, x, y) (n', x', y')
    return .stat r.1 r.2.1 r.2.2
  | .top l, .top l' => pure (.top (topK p.shape.k (l ++ l')))
  | a, _ => pure a

/-- A GOP of one operand applied to an element (R245). -/
def GopParams.unary (p : GopParams) (a : Elem) : Flagged Elem :=
  match a with
  | .val v =>
    if isFn p.gop then do
      let r ← evalFunc (Func.ofCode (p.gop - gExp2)) p.mode v.toNum
      return .val (.num r)
    else pure (.val v)
  | .row l =>
    if p.gop = gSmxRow then smxRow p.mode (l.map Val.toNum)
    else if p.gop = gMomRow then do
      let r ← reduce (momMerge p.mode) (0, Num.zero, Num.zero) (l.map (fun v => (1, v.toNum, Num.zero)))
      return .stat r.1 r.2.1 r.2.2
    else if p.gop = gSsqRow then ssqRow (l.map Val.toNum)
    else if p.gop = gTopkRow then
      pure (.top (topK p.shape.k ((List.range l.length).map (fun i => { v := l.getD i (.int 0), idx := p.indexBase + i }))))
    else do
      let r ← reduce (binVal p.gop p.acc p.sat) (.int 0) l
      return .val r
  | .smx m s o => attnFinal p.mode m s o
  | .stat n x y => if p.gop = gMomFinal then momFinal p.mode n x y else ssqFinal p.mode n x y
  | e => pure e

/-- One result element from the operands of a step in the order they are named (R245, R246). -/
def GopParams.combine (p : GopParams) (l : List Elem) : Flagged Elem :=
  if isMulti p.gop then reduce p.merge (.two (.int 0) (.int 0)) l
  else match l with
    | a :: _ => p.unary a
    | [] => pure (.two (.int 0) (.int 0))

/-! ### Bytes written and sent -/

/-- A binary32 field of a record as written (R215, R216). -/
def fieldBytes (x : Num) : Flagged (List Byte) := do
  if x.isNan then raise flNan
  return leBytes 4 x.write32.toNat

/-- A NaN kept in a list raises NAN, a signalling one FP_INVALID too (R215, R263). -/
def TopEntry.flagged (e : TopEntry) : Flagged Unit :=
  match e.v with
  | .num .nan => if e.idx != emptyIdx then raise (if e.snan then flNan ||| flInvalid else flNan) else pure ()
  | _ => pure ()

/-- An entry of a list kept in the accumulator area: the sign of a zero stays. -/
def entryKept (acc : Nat) (e : TopEntry) : Flagged (List Byte) := do
  e.flagged
  let v := match e.v with
    | .num x => padTo 4 (if acc = fK16 then leBytes 2 x.bits16.toNat else leBytes 4 x.bits32.toNat)
    | .int i => leBytes 4 (intBits acc i)
    | .pair h _ => leBytes 4 h.bits32.toNat
  return v ++ leBytes 4 e.idx

/-- An entry of a list as written (R249, R262, R263). -/
def entryBytes (acc : Nat) (e : TopEntry) : Flagged (List Byte) := do
  e.flagged
  let v := match e.v with
    | .int i => leBytes 4 (intBits acc i)
    | .num x => padTo 4 (numBytes acc x)
    | .pair h _ => leBytes 4 h.write32.toNat
  return v ++ leBytes 4 e.idx

def concatM (l : List (Flagged (List Byte))) : Flagged (List Byte) := do
  let r ← l.mapM id
  return r.flatten

/-- An element as written or sent: its record bytes and its accumulator bytes (R246, R249, R282). `draw j` is the draw of the element's
`j`-th rounding (R243). -/
def Elem.out (d : ConvDesc) (acc : Nat) (draw : Nat → Nat) (e : Elem) : Flagged (List Byte × List Byte) := do
  match e with
  | .val v =>
    let b ← d.bytes acc (draw 0) v
    return (b, [])
  | .row l =>
    let b ← concatM ((List.range l.length).map (fun j => d.bytes acc (draw j) (l.getD j (.int 0))))
    return (b, [])
  | .two a b =>
    let x ← d.bytes acc (draw 0) a
    let y ← d.bytes acc (draw 1) b
    return (x ++ y, [])
  | .smx m s o =>
    let a ← fieldBytes m
    let b ← fieldBytes s
    let c ← concatM (o.map fieldBytes)
    return (a ++ b, c)
  | .attnOut m s o =>
    let a ← fieldBytes m
    let b ← fieldBytes s
    let c ← concatM ((List.range o.length).map (fun j => d.bytes acc (draw j) (.num (o.getD j Num.zero))))
    return (a ++ b, c)
  | .stat n a b =>
    let x ← fieldBytes a
    let y ← fieldBytes b
    return (leBytes 4 n ++ leBytes 4 0 ++ x ++ y, [])
  | .top l =>
    let b ← concatM (l.map (entryBytes acc))
    return (b, [])

/-- A binary32 value kept in the accumulator area, the sign of a zero kept (R216); a value that is not yet one is rounded to nearest-even
(R223), and a NaN raises NAN (R215). -/
def keep32 (x : Num) : Flagged (List Byte) := do
  let y ← x.round32
  return leBytes 4 y.bits32.toNat

/-- A value in the accumulator area: its accumulator format, unrounded (R243). -/
def accVal (acc : Nat) (v : Val) : Flagged (List Byte) :=
  match v with
  | .int i => return leBytes (formatSize acc) (intBits acc i)
  | .pair h l => do
    if h.isNan || l.isNan then raise flNan
    return leBytes 4 h.bits32.toNat ++ leBytes 4 l.bits32.toNat
  | .num x => if acc = fK16 then do
      if x.isNan then raise flNan
      return leBytes 2 x.bits16.toNat
    else keep32 x

/-- An element in the accumulator area, with the flags that keeping its values raises (R214, R215, R263). The exact products of ATTN_FINAL are
rounded there. -/
def Elem.accBytes (acc : Nat) (e : Elem) : Flagged (List Byte × List Byte) := do
  match e with
  | .val v =>
    let b ← accVal acc v
    return (b, [])
  | .row l =>
    let b ← concatM (l.map (accVal acc))
    return (b, [])
  | .two a b =>
    let x ← accVal acc a
    let y ← accVal acc b
    return (x ++ y, [])
  | .smx m s o =>
    let a ← keep32 m
    let b ← keep32 s
    let c ← concatM (o.map keep32)
    return (a ++ b, c)
  | .attnOut m s o =>
    let a ← keep32 m
    let b ← keep32 s
    let c ← concatM (o.map keep32)
    return (a ++ b, c)
  | .stat n a b =>
    let x ← keep32 a
    let y ← keep32 b
    return (leBytes 4 n ++ leBytes 4 0 ++ x ++ y, [])
  | .top l =>
    let b ← concatM (l.map (entryKept acc))
    return (b, [])

/-- The roundings one element makes in the converter (R243). -/
def Layout.roundings (l : Layout) (p : Shape) : Nat :=
  match l with
  | .num => 1
  | .two => 2
  | .attnOut => p.g
  | .row => p.rowLen
  | _ => 0

end Sys2Proof.Machine
end

