-- ==== Sys2Proof/Machine/TypesXfer.lean ====
section
/-!
DEFINITION. The state of the transfer side: windows and the page-walk cache (R163 to R180), tags and requests (R61 to R63, R185 to R188),
KVMOVE jobs (R190 to R196), requests at the completer (R20, R53 to R57, R181) and the measurement path (R201 to R206).
-/
namespace Sys2Proof.Machine

/-- A registered window; `opening` names the REGISTER_WINDOW whose completion is not yet written (R177), `releasing` names the RELEASE_WINDOW in progress, or a release without a command (R178, R502). `bad` marks an
entry found uncorrectable (R487). -/
structure WinEntry where
  desc : WinDesc
  bad : Bool := false
  opening : Option AdminRef := none
  releasing : Bool := false
  releaseCmd : Option AdminRef := none
  deriving DecidableEq, Repr

/-- A translation of the page-walk cache (R174): most recently used first in its list. `users` are the requests in progress that took
it. KV translations carry the KVMOVE that read them. -/
structure PwcEntry where
  win : Nat
  page : Nat
  addr : Nat
  job : Option Nat
  users : List Nat
  deriving DecidableEq, Repr

/-- Whose request a tag holds: an operation, a signal word (R136), a relayed copy (R188) or a KVMOVE job at this node (R190). -/
inductive TagOwner where
  | op (o : OpRef)
  | sigWord (ch : Nat)
  | relay (creq : Nat)
  | kv (job : Nat)
  deriving DecidableEq, Repr

/-- What the request under a tag does, and so what its response completes (R37, R187, R188, R203). -/
inductive TagKind where
  | write
  | read
  | copyReq
  | kvCmd
  | atomic
  | measuredRead
  deriving DecidableEq, Repr

/-- A tag in use (R61): its use count, the channel and generation of the request, its owner, the part of the operation it carries
(`off`, `len`), its route's first hop and destination, the copy engine that formed it (R184), and the local source bytes still to read. -/
structure TagAlloc where
  tag : Nat
  use : Nat
  chan : Nat
  cgen : Nat
  pav : Nat
  owner : TagOwner
  kind : TagKind
  dest : Nat
  off : Nat
  len : Nat
  cluster : Nat := 0
  engine : Nat := 0
  issued : Nat := 0
  timeoutUs : Nat := 64
  need : Nat := 0
  got : List (Nat × List Byte) := []
  failed : Nat := 0
  withdrawn : Bool := false
  deriving DecidableEq, Repr

/-- The tag store (R62, R186, R487): tags never used from `fresh` on, freed ones in first-in first-out order, use counts, the tags
in use, and those withdrawn (R487). -/
structure TagStore where
  fresh : Nat := 0
  freed : List Nat := []
  uses : Table Nat := []
  used : List TagAlloc := []
  waiting : List (Nat × TagOwner) := []
  dead : List Nat := []
  late : Nat := 0
  deriving DecidableEq, Repr

/-- Where a KVMOVE is in its order of R193: layer and run token and head group (relative), and bytes of the run already formed. -/
structure KvCursor where
  layer : Nat := 0
  token : Nat := 0
  hg : Nat := 0
  bytes : Nat := 0
  deriving DecidableEq, Repr

/-- A KVMOVE performed at this node (R190 to R193): for an own operation, or for a requester named by its command header. -/
structure KvJob where
  id : Nat
  op : Option OpRef
  hdr : LinkUnit
  chan : Nat
  cgen : Nat
  pav : Nat
  move : KvMove
  timeoutUs : Nat
  ordered : Bool := false
  cluster : Nat := 0
  seqRead : Bool := false
  pageList : Nat := 0
  seqLen : Nat := 0
  ready : Bool := false
  walking : Option Nat := none
  held : Option (Nat × Nat) := none
  cursor : KvCursor := {}
  nreq : Nat := 0
  allFormed : Bool := false
  out : Nat := 0
  status : Nat := 0
  silent : Bool := false
  deriving DecidableEq, Repr

/-- What a request at the completer does (R326, R197, R188, R191). -/
inductive CKind where
  | write
  | read
  | atomic (subop fmt : Nat) (operand operand2 newLo newHi : Word)
  | copy (dst : Remote) (timeoutUs : Nat)
  | sigWord
  | kvWrite (slot layer hg firstToken tokenCount entry16 skip16 : Nat)
  | kvCmd (timeoutUs : Nat) (move : KvMove)
  deriving DecidableEq, Repr

/-- A request at the completer: taken from its queue and not yet answered (R20, R36). `pages` are the table entries still to walk,
`trans` the translations held, `move` the destination's part of the KVMOVE a KV write request belongs to, `issued` whether its accesses were issued, `out` how many are outstanding. -/
structure CReq where
  id : Nat
  port : Option PortIx
  slots : List Nat
  vc : Nat
  pav : Nat
  hdr : LinkUnit
  ordered : Bool
  hasEntry : Bool
  kind : CKind
  win : Nat
  off : Nat
  len : Nat
  data : List Byte
  pages : List Nat := []
  walking : Bool := false
  move : Nat := 0
  trans : List (Nat × Nat) := []
  issued : Bool := false
  out : Nat := 0
  got : List (Nat × List Byte) := []
  status : Nat := 0
  flags : Nat := 0
  relayed : Bool := false
  ended : Bool := false
  deriving DecidableEq, Repr

/-- A KVMOVE at its destination node, while a request of it is there (R172): the source node, Pavilion, channel generation, window and
sequence slot its requests name; `list` is the page list once the sequence entry has been read. -/
structure KvDest where
  id : Nat
  src : Nat
  pav : Nat
  cgen : Nat
  win : Nat
  slot : Nat
  list : Option Nat := none
  deriving DecidableEq, Repr

/-- The data of a measured relayed request that has returned and waits to be written to its target (R203). -/
structure HeldWrite where
  op : OpRef
  part : TagAlloc
  data : List Byte
  deriving DecidableEq, Repr

/-- The states of a measurement slot (R201). -/
inductive MeasState where
  | closed
  | opened
  | failed
  deriving DecidableEq, Repr

/-- A leaf in a SHA-384 unit or hashed (R205): the bytes that have entered the unit in order, or the digest. -/
structure Leaf where
  index : Nat
  entered : List Byte := []
  digest : Option (List Byte) := none
  deriving DecidableEq, Repr

/-- A measurement slot (R201 to R206): `cursor` is where the next operation is placed, `staged` holds bytes that arrived ahead of
their leaf's hash cursor. -/
structure MeasSlot where
  state : MeasState := .closed
  handle : BitVec 32 := 0
  objLen : Nat := 0
  label : Nat := 0
  cursor : Nat := 0
  leaves : List Leaf := []
  staged : List (Nat × List Byte) := []
  deriving DecidableEq, Repr

/-- A measured request that holds staging, or waits for it (R205): its slot, positions and source. -/
structure Staging where
  slot : Nat
  pos : Nat
  len : Nat
  fromReserve : Bool
  deriving DecidableEq, Repr

/-- A MEAS_SEAL whose log entry at the root of trust is outstanding (R433, R562). -/
structure SealWait where
  cmd : AdminRef
  slot : Nat
  deriving DecidableEq, Repr

/-- A frame of 64 issue slots of a cluster (R110, R478): slots taken, those of real-time channels and of class BULK, and the channels
last served. -/
structure Frame where
  slots : Nat := 0
  rt : Nat := 0
  bulk : Nat := 0
  lastRt : Nat := 0
  last : Nat := 0
  deriving DecidableEq, Repr

/-- The transfer side. -/
structure Xfer where
  wins : Table (Option WinEntry) := []
  winCtl : Bool := true
  pwc : List PwcEntry := []
  tags : TagStore := {}
  jobs : List KvJob := []
  creqs : List CReq := []
  dests : List KvDest := []
  held : List HeldWrite := []
  nextId : Nat := 0
  localQ : List TxMsg := []
  frames : Table Frame := []
  meas : Table MeasSlot := []
  staging : List Staging := []
  stagingWait : List (Nat × OpRef) := []
  deriving DecidableEq, Repr

end Sys2Proof.Machine
end

