-- ==== Sys2Proof/Machine/Messages.lean ====
section
/-!
DEFINITION. The messages of the links (R323 to R332): their header units, argument units and lengths.
-/
namespace Sys2Proof.Machine

/-- A unit from a number. -/
def unit (n : Nat) : LinkUnit := BitVec.ofNat 128 n

/-- A unit of 16 bytes, byte 0 in bits 127:120 (R323). -/
def unitOfBytes (l : List Byte) : LinkUnit := unit (beNat (padTo 16 l))

/-- Bytes cut into units, the last filled with zeros. The first argument is the number of units. -/
def unitsOf : Nat → List Byte → List LinkUnit
  | 0, _ => []
  | n + 1, l => unitOfBytes l :: unitsOf n (l.drop 16)

/-- The data units of a byte list. -/
def dataUnits (l : List Byte) : List LinkUnit := unitsOf (ceilDiv l.length 16) l

/-- The bytes of units, in order. -/
def unitBytes (l : List LinkUnit) : List Byte := l.flatMap (fun u => beBytes 16 u.toNat)

/-! ### Header units -/

/-- KIND (R325). -/
def Msg.kind (m : Msg) : Nat := bits m.hdr 127 124

def kPad : Nat := 0x0
def kWriteB : Nat := 0x1
def kWriteS : Nat := 0x2
def kWriteX : Nat := 0x3
def kReadB : Nat := 0x4
def kReadX : Nat := 0x5
def kAtomic : Nat := 0x6
def kCopyReq : Nat := 0x7
def kKvCmd : Nat := 0x8
def kKvWrite : Nat := 0x9
def kResponse : Nat := 0xA
def kOperand : Nat := 0xB
def kCredit : Nat := 0xC
def kMgmt : Nat := 0xD

/-- DEST of every message (R327, R330, R331, R332). -/
def hdrDest (u : LinkUnit) : Nat := bits u 122 110
/-- SRC of every message. -/
def hdrSrc (u : LinkUnit) : Nat := bits u 109 97
/-- ORD of a request (R327). -/
def hdrOrd (u : LinkUnit) : Bool := bit u 123
def hdrTag (u : LinkUnit) : Nat := bits u 96 83
def hdrUse (u : LinkUnit) : Nat := bits u 82 77
def hdrSgen (u : LinkUnit) : Nat := bits u 76 69
def hdrCgen (u : LinkUnit) : Nat := bits u 68 61
def hdrWindow (u : LinkUnit) : Nat := bits u 60 45
def hdrOffset (u : LinkUnit) : Nat := bits u 44 5
def hdrLc (u : LinkUnit) : Nat := bits u 4 0
/-- STATUS, FLAGS and LEN of a RESPONSE (R330). -/
def rspStatus (u : LinkUnit) : Nat := bits u 60 53
def rspFlags (u : LinkUnit) : Nat := bits u 52 46
def rspLen (u : LinkUnit) : Nat := bits u 45 33
/-- The fields of an OPERAND (R331). -/
def opdTxi (u : LinkUnit) : Bool := bit u 123
def opdSlot (u : LinkUnit) : Nat := bits u 96 91
def opdRun (u : LinkUnit) : Nat := bits u 90 83
def opdStep (u : LinkUnit) : Nat := bits u 82 73
def opdRank (u : LinkUnit) : Nat := bits u 72 60
def opdChunk (u : LinkUnit) : Nat := bits u 59 44
def opdPart (u : LinkUnit) : Nat := bits u 43 38
def opdFmt (u : LinkUnit) : Nat := bits u 37 34
def opdUnits (u : LinkUnit) : Nat := bits u 33 26
/-- COUNT of a CREDIT (R331). -/
def crdCount (u : LinkUnit) : Nat := bits u 72 71
/-- UNITS, MTYPE and SUB of an MGMT message (R332, R531). -/
def mgmtUnits (u : LinkUnit) : Nat := bits u 96 89
def mgmtType (u : LinkUnit) : Nat := bits u 88 81
def mgmtSub (u : LinkUnit) : Nat := bits u 80 79

/-- A request header unit (R327). -/
def mkReqHdr (kind : Nat) (ord : Bool) (dest src tag use sgen cgen window offset lc : Nat) : LinkUnit :=
  unit (place kind 124 4 + place (b2n ord) 123 1 + place dest 110 13 + place src 97 13 + place tag 83 14 + place use 77 6 +
    place sgen 69 8 + place cgen 61 8 + place window 45 16 + place offset 5 40 + place lc 0 5)

/-- A RESPONSE header unit that echoes a request header (R330, R61). -/
def mkRspHdr (req : LinkUnit) (src status flags len : Nat) : LinkUnit :=
  unit (place kResponse 124 4 + place (hdrSrc req) 110 13 + place src 97 13 + place (hdrTag req) 83 14 + place (hdrUse req) 77 6 +
    place (hdrSgen req) 69 8 + place (hdrCgen req) 61 8 + place status 53 8 + place flags 46 7 + place len 33 13)

/-- An OPERAND header unit (R331). -/
def mkOpdHdr (txi : Bool) (dest src slot run step rank chunk part fmt units : Nat) : LinkUnit :=
  unit (place kOperand 124 4 + place (b2n txi) 123 1 + place dest 110 13 + place src 97 13 + place slot 91 6 + place run 83 8 +
    place step 73 10 + place rank 60 13 + place chunk 44 16 + place part 38 6 + place fmt 34 4 + place (units - 1) 26 8)

/-- A CREDIT header unit (R331). -/
def mkCrdHdr (txi : Bool) (dest src slot run step count : Nat) : LinkUnit :=
  unit (place kCredit 124 4 + place (b2n txi) 123 1 + place dest 110 13 + place src 97 13 + place slot 91 6 + place run 83 8 +
    place step 73 10 + place count 71 2)

/-- An MGMT message (R332, R531). -/
def mkMgmt (dest src mtype sub : Nat) (payload : List LinkUnit) : Msg :=
  { hdr := unit (place kMgmt 124 4 + place dest 110 13 + place src 97 13 + place payload.length 89 8 + place mtype 81 8 + place sub 79 2),
    body := payload }

/-- The extension unit of WRITE_X and READ_X (R328). -/
def mkExt (len : Nat) : LinkUnit := unit (place len 0 13)

/-- The argument units of an ATOMIC (R328): one, two for CAS64, three for CAS128. -/
def mkAtomicArgs (subop fmt : Nat) (operand operand2 newLo newHi : Word) : List LinkUnit :=
  let a1 := unit (place subop 120 8 + place fmt 117 3 + operand.toNat)
  if subop = 0x08 then [a1, unit (place operand2.toNat 64 64)]
  else if subop = 0x09 then [a1, unit (place operand2.toNat 64 64 + newLo.toNat), unit (place newHi.toNat 64 64)]
  else [a1]

/-- The argument unit of a COPY_REQ (R328). -/
def mkCopyArg (dst : Remote) (len timeoutUs : Nat) : LinkUnit :=
  unit (place dst.node 115 13 + place dst.window 99 16 + place dst.offset 59 40 + place len 46 13 + place timeoutUs 32 14)

/-- The argument units of a KV_CMD (R328). -/
def mkKvArgs (k : KvMove) (timeoutUs : Nat) : List LinkUnit :=
  [ unit (place k.dstNode 115 13 + place k.dstWindow 99 16 + place k.srcSeq 67 32 + place k.dstSeq 35 32 + place timeoutUs 21 14),
    unit (place k.srcToken 106 22 + place k.dstToken 84 22 + place k.tokenCount 61 23 + place k.layerFirst 45 16 +
      place k.layerCount 29 16 + place k.hgFirst 21 8 + place k.hgCount 12 9) ]

/-- The KVMOVE a KV_CMD asks for (R327, R328). -/
def kvOfCmd (m : Msg) : KvMove :=
  let a := m.body.getD 0 0
  let b := m.body.getD 1 0
  { srcWindow := hdrWindow m.hdr, srcNode := hdrDest m.hdr, dstWindow := bits a 114 99, dstNode := bits a 127 115,
    srcSeq := bits a 98 67, dstSeq := bits a 66 35, srcToken := bits b 127 106, dstToken := bits b 105 84,
    tokenCount := bits b 83 61, layerFirst := bits b 60 45, layerCount := bits b 44 29, hgFirst := bits b 28 21,
    hgCount := bits b 20 12 }

/-- The KV address unit of a KV_WRITE (R329). -/
def mkKvAddr (slot layer hg firstToken tokenCount entry16 skip16 len16 : Nat) : LinkUnit :=
  unit (place slot 96 32 + place layer 80 16 + place hg 72 8 + place firstToken 50 22 + place tokenCount 41 9 + place entry16 29 12 +
    place skip16 17 12 + place len16 8 9)

/-- A write request of a length at an offset before its data (R326): WRITE_S up to 32 bytes, WRITE_B to the 4 KiB boundary, else
WRITE_X with its extension unit. -/
def mkWriteHead (mkHdr : Nat → Nat → LinkUnit) (offset n : Nat) : Msg :=
  if n ≤ 32 then { hdr := mkHdr kWriteS (n - 1) }
  else if n = 4096 - offset % 4096 then { hdr := mkHdr kWriteB 0 }
  else { hdr := mkHdr kWriteX 0, body := [mkExt n] }

/-- The data units put behind the head of a write or KV write request. -/
def Msg.fill (m : Msg) (data : List Byte) : Msg :=
  if m.kind = kWriteS then { m with body := unitsOf 2 (padTo 32 data) } else { m with body := m.body ++ dataUnits data }

/-- A read request message of a length at an offset (R326). -/
def mkRead (mkHdr : Nat → Nat → LinkUnit) (offset len : Nat) : Msg :=
  if len = 4096 - offset % 4096 then { hdr := mkHdr kReadB 0 } else { hdr := mkHdr kReadX 0, body := [mkExt len] }

/-- How many units follow a header (R325), once its first following unit is known where the count depends on it; none where the KIND
is reserved (R333). -/
def unitsAfter (h : LinkUnit) (first : Option LinkUnit) : Option Nat :=
  let k := bits h 127 124
  if k = kWriteB then some (ceilDiv (4096 - hdrOffset h % 4096) 16)
  else if k = kWriteS then some 2
  else if k = kWriteX then some (match first with
    | none => 1
    | some u => 1 + ceilDiv (bits u 12 0) 16)
  else if k = kReadB then some 0
  else if k = kReadX then some 1
  else if k = kAtomic then some (match first with
    | none => 1
    | some u => if bits u 127 120 = 0x08 then 2 else if bits u 127 120 = 0x09 then 3 else 1)
  else if k = kCopyReq then some 1
  else if k = kKvCmd then some 2
  else if k = kKvWrite then some (match first with
    | none => 1
    | some u => 1 + bits u 16 8)
  else if k = kResponse then some (ceilDiv (rspLen h) 16)
  else if k = kOperand then some (opdUnits h + 1)
  else if k = kCredit then some 0
  else if k = kMgmt then some (mgmtUnits h)
  else none

/-- The operand size of a format in bytes (R154). -/
def fmtSize (f : Nat) : Nat :=
  if f = 3 then 2 else if f = 0 || f = 1 || f = 4 then 4 else if f = 6 then 16 else 8

/-- Whether a format is permitted for a sub-operation (R155). -/
def subopFmtOk (subop fmt : Nat) : Bool :=
  match subop with
  | 0x00 => fmt == 0 || fmt == 2 || fmt == 3 || fmt == 4
  | 0x01 => fmt == 0 || fmt == 1 || fmt == 2
  | 0x02 => fmt ≤ 4
  | 0x03 => fmt ≤ 4
  | 0x04 => fmt == 5
  | 0x05 => fmt == 5
  | 0x06 => fmt == 5
  | 0x07 => fmt == 5
  | 0x08 => fmt == 5
  | 0x09 => fmt == 6
  | _ => false

/-- Whether a header has only the fields its KIND defines, in their ranges (R327 to R332, R333). -/
def hdrOk (h : LinkUnit) : Bool :=
  let k := bits h 127 124
  if k = kPad then decide (h = 0)
  else if 1 ≤ k && k ≤ 9 then
    (k == kWriteS || hdrLc h == 0) && (if k = kKvCmd || k = kKvWrite then hdrOffset h == 0 else true)
  else if k = kResponse then !bit h 123 && bits h 32 0 == 0 && decide (rspLen h ≤ 4096)
  else if k = kOperand then bits h 25 0 == 0
  else if k = kCredit then bits h 70 0 == 0 && (crdCount h == 1 || crdCount h == 2)
  else if k = kMgmt then !bit h 123 && (if mgmtType h = 1 || mgmtType h = 3 || mgmtType h = 4 then bits h 80 0 == 0
    else if mgmtType h = 2 || mgmtType h = 5 then bits h 78 0 == 0 else true)
  else false

/-- Whether the argument units of a message keep their reserved bits and ranges (R328, R329, R333). -/
def argsOk (m : Msg) : Bool :=
  let k := m.kind
  let a := m.body.getD 0 0
  if k = kWriteX || k = kReadX then bits a 127 13 == 0 && decide (1 ≤ bits a 12 0) && decide (bits a 12 0 ≤ 4096)
  else if k = kAtomic then
    let sub := bits a 127 120
    bits a 116 64 == 0 && (if 0x80 ≤ sub then decide (sub ≤ 0x82) && bits a 119 117 == 5 else subopFmtOk sub (bits a 119 117)) &&
    (if sub = 0x08 then bits (m.body.getD 1 0) 63 0 == 0 else true) && (if sub = 0x09 then bits (m.body.getD 2 0) 63 0 == 0 else true)
  else if k = kCopyReq then bits a 31 0 == 0 && decide (1 ≤ bits a 58 46) && decide (bits a 58 46 ≤ 4096)
  else if k = kKvCmd then bits a 20 0 == 0 && bits (m.body.getD 1 0) 11 0 == 0
  else if k = kKvWrite then bits a 7 0 == 0 && decide (1 ≤ bits a 16 8) && decide (bits a 16 8 ≤ 256) &&
    decide (1 ≤ bits a 49 41) && decide (bits a 49 41 ≤ 256)
  else true

/-- The data bytes a write message carries (R325, R326, R329). -/
def writeData (m : Msg) : List Byte :=
  if m.kind = kWriteS then (unitBytes m.body).take (hdrLc m.hdr + 1)
  else if m.kind = kWriteB then (unitBytes m.body).take (4096 - hdrOffset m.hdr % 4096)
  else if m.kind = kWriteX then (unitBytes (m.body.drop 1)).take (bits (m.body.getD 0 0) 12 0)
  else unitBytes (m.body.drop 1)

/-- The length a read message asks for (R326). -/
def readLen (m : Msg) : Nat :=
  if m.kind = kReadB then 4096 - hdrOffset m.hdr % 4096 else bits (m.body.getD 0 0) 12 0

/-- The data bytes of a RESPONSE (R330). -/
def rspData (m : Msg) : List Byte := (unitBytes m.body).take (rspLen m.hdr)

/-! ### Classes (R29, R317) -/

def clsMgmt : Nat := 0
def clsReq : Nat := 1
def clsRsp : Nat := 2
def clsBulk : Nat := 3
def clsColl : Nat := 4
def clsSched : Nat := 5

end Sys2Proof.Machine
end

