-- ==== Sys2Proof/Machine/TypesFault.lean ====
section
/-!
DEFINITION. The state of the fault controller (R490 to R504, R519), of the block resets (R505 to R511, R515, R573) and of the GLOBAL registers
(R572).
-/
namespace Sys2Proof.Machine

/-- The classes of R490. -/
inductive ErrClass where
  | corrected
  | contained
  | fatal
  deriving DecidableEq, Repr

/-- FLT.STATUS.CAP_CLASS of a class (R519). -/
def ErrClass.code : ErrClass → Nat
  | .corrected => 1
  | .contained => 2
  | .fatal => 3

/-- The first-error capture (R492): class, report and pod time. -/
structure Capture where
  cls : ErrClass
  report : ErrorReport
  tick : Word
  deriving DecidableEq, Repr

/-- A fatal error waiting for its reset (R496, R497): scope, cause, and when it occurred. -/
structure FatalState where
  cold : Bool
  cause : BitVec 8
  since : Nat
  deriving DecidableEq, Repr

/-- The fault controller (R519): its registers; when the acknowledge window began and whether it ended (R495); the pulse of FAULT_OUT (R494);
the fatal error that waits; last notices and interrupts (R490, R498); last activity by Pavilion (R501), kills not yet complete (R502); the
warm reset a command asked for, with its source (R506, R517); and the entries whose check bytes were inverted and which nothing has read since, by
checker, MODE and entry (R499). -/
structure Flt where
  ctl : Word := 0x0000002710003E89
  contained : Bool := false
  corrected : Bool := false
  multi : Bool := false
  hang : Bool := false
  capture : Option Capture := none
  hangCtl : Word := 0xC8
  lastHang : BitVec 32 := 0
  killed : BitVec 16 := 0
  p0Hang : Bool := false
  injArmed : Bool := false
  injDone : Bool := false
  injMode : BitVec 2 := 0
  injChecker : BitVec 10 := 0
  flaws : List (Nat × Nat × Nat) := []
  vec : Word := 0x3F3E3D3C
  ackStart : Nat := 0
  ackExpired : Bool := false
  pulseStart : Option Nat := none
  pulseEnd : Option Nat := none
  fatal : Option FatalState := none
  ceNotice : Table (Nat × Nat) := []
  ceMsi : Option Nat := none
  quiet : Table (Option Nat) := []
  p0Reported : Bool := false
  hanging : List Nat := []
  resetDue : Option (AdminRef × Nat) := none
  deriving DecidableEq, Repr

/-- The scope of a block reset (R505). -/
inductive ResetScope where
  | powerUp
  | warm
  | cold
  deriving DecidableEq, Repr

/-- GLOBAL.RESET_CAUSE.SCOPE (R572). -/
def ResetScope.code : ResetScope → Nat
  | .powerUp => 0
  | .warm => 1
  | .cold => 2

/-- A block reset in progress (R509, R510): scope, source (R572), the fatal cause behind it, whether it is recorded (R517), and when it
began (R565). -/
structure ResetRun where
  scope : ResetScope
  source : Nat
  fatalCause : BitVec 8
  recorded : Bool
  began : Nat := 0
  deriving DecidableEq, Repr

/-- The reset history timer of retained state (R515): completion ticks of the resets of the last 600 s, oldest first, the
OUT_OF_SERVICE state and its nonce, and the source generation (R62). The counters and the capture R511 retains stand in `Flt` and
in the counter table. -/
structure Retained where
  history : List Nat := []
  oos : Bool := false
  nonce : BitVec 32 := 0
  srcGen : BitVec 8 := 0
  clock : Nat := 0
  deriving DecidableEq, Repr

/-- GLOBAL (R572). The fields of INIT_STATUS other than SELFTEST_DONE are copies of other registers. -/
structure Global where
  serial : Word := 0
  ctl : Word := 0
  resetCause : Word := 0
  selftestDone : Bool := false
  deriving DecidableEq, Repr

end Sys2Proof.Machine
end

