-- ==== Sys2Proof/Machine/TypesFront.lean ====
section
/-!
DEFINITION. The state of the front end: admin rings and commands (R85 to R92, R105, R577), channels, buffers and operations (R78 to R121,
R131 to R145), doorbells, fetch and the WAIT watches (R159).
-/
namespace Sys2Proof.Machine

/-- The states of a channel (R82). -/
inductive ChanState where
  | free
  | active
  | paused
  | guilty
  | retiring
  | error
  deriving DecidableEq, Repr

/-- STATUS.STATE code of a channel state (R82). -/
def ChanState.code : ChanState → Nat
  | .free => 0
  | .active => 1
  | .paused => 2
  | .guilty => 3
  | .retiring => 4
  | .error => 5

/-- Where an operation stands (R142): decoded, in a scoreboard, taken by its engine, or ended. -/
inductive OpPhase where
  | decoded
  | admitted
  | running
  | ended
  deriving DecidableEq, Repr

/-- An operation of a buffer. `oper` is absent for a malformed operation (R162). `formed` counts the bytes of which requests were
formed, `allFormed` holds when no further request will be formed, `nreq` counts the requests formed, `written` the bytes a measured relayed copy has sent on to its target (R203), `out` requests and local accesses in
progress. `stopped` marks one that a stop of its channel ended or cut off (R114, R119). -/
structure OpSlot where
  oper : Option Operation := none
  phase : OpPhase := .decoded
  seq : Nat := 0
  formed : Nat := 0
  allFormed : Bool := false
  out : Nat := 0
  status : Nat := 0
  flags : Nat := 0
  cluster : Nat := 0
  base : Option Nat := none
  armed : Nat := 0
  wid : Option Nat := none
  lastRead : Nat := 0
  nreq : Nat := 0
  written : Nat := 0
  stopped : Bool := false
  deriving DecidableEq, Repr

/-- A buffer of a channel (R106 to R108, R127 to R137). `fail` is the first failure (status, operation) and `failAt` its tick, `failLate` when a stop of the channel came before it; `stopped` marks
a buffer such a stop met; `bad` is the first malformed operation with the first operation of its read,
`cut` the first operation that a faulted read never brought (R116). -/
structure Buffer where
  ring : Nat := 0
  addr : Nat := 0
  lines : Nat := 0
  hdr : Option BufHeader := none
  ops : List OpSlot := []
  read : Nat := 0
  reading : Bool := false
  pieces : List (Nat × List Byte) := []
  got : Bool := false
  faulty : Bool := false
  begun : Bool := false
  admitted : Nat := 0
  bad : Option (Nat × Nat) := none
  cut : Option Nat := none
  fail : Option (Nat × Nat) := none
  failAt : Nat := 0
  failLate : Bool := false
  stopped : Bool := false
  flagged : Bool := false
  flags : Nat := 0
  deriving DecidableEq, Repr

/-- The ring entry being read (R101), by the serial number of its read: `spec` while the doorbell read issued with it has not returned; an
answer that may not be used yet waits in `res`. -/
structure EntryRead where
  ring : Nat
  serial : Nat
  spec : Bool
  res : Option FabResult := none
  deriving DecidableEq, Repr

/-- A counted buffer whose record or signal word is still to come (R132, R135). -/
structure PendRecord where
  ring : Nat
  hdr : BufHeader
  recordOut : Bool
  sigDue : Bool
  deriving DecidableEq, Repr

/-- What follows a retirement (R120): the index becomes FREE, or ACTIVE again after RESET_CHANNEL (R97). -/
inductive AfterRetire where
  | free
  | reset (resume : Bool)
  deriving DecidableEq, Repr

/-- Where a retirement stands: engines stopping, records being written, the doorbell re-read of R97. -/
inductive RetireStage where
  | stopping
  | records
  | reread
  deriving DecidableEq, Repr

/-- A retirement in progress (R119, R120): the status of begun buffers, and whether a stop R114 began keeps first failures. -/
structure Retire where
  status : Nat
  keepFail : Bool
  next : AfterRetire
  stage : RetireStage
  deriving DecidableEq, Repr

/-- A draining channel (R118): the drain TAIL and whether its doorbell read is outstanding. -/
structure Drain where
  tail : Nat
  reading : Bool
  deriving DecidableEq, Repr

/-- One channel of the channel table (R78 to R84, R112). -/
structure Channel where
  state : ChanState := .free
  gen : BitVec 8 := 0
  typ : Nat := 0
  pav : Nat := 0
  ringBase : Nat := 0
  ringLog2 : Nat := 0
  doorbell : Nat := 0
  txn : Nat := 0
  tail : BitVec 32 := 0
  head : BitVec 32 := 0
  completed : Word := 0
  failOp : Nat := 0
  failStatus : Nat := 0
  cause : Nat := 0
  later : Nat := 0
  watched : Bool := false
  entry : Option EntryRead := none
  entrySeq : Nat := 0
  bufs : List Buffer := []
  recs : List PendRecord := []
  admSeq : Nat := 0
  drain : Option Drain := none
  retire : Option Retire := none
  stopping : List EngineKind := []
  guiltyStop : Bool := false
  cmd : Option AdminRef := none
  deriving DecidableEq, Repr

/-- An admin ring with its completion ring and doorbell (R85, R105, R124). `wanted` holds while an enable waits for the commands of
the previous enable (R124), `epoch` counts its starts. -/
structure AdminRing where
  enabled : Bool := false
  wanted : Bool := false
  base : Nat := 0
  log2 : Nat := 0
  cmpl : Nat := 0
  db : Nat := 0
  head : BitVec 32 := 0
  tail : BitVec 32 := 0
  taken : BitVec 16 := 0
  next : Nat := 0
  phase : Bool := true
  dbOut : Bool := false
  entryOut : Bool := false
  faultAt : Option Nat := none
  overrun : Bool := false
  lastPoll : Nat := 0
  epoch : Nat := 0
  deriving DecidableEq, Repr

/-- Where an admin command stands. `waiting` commands wait for an object that is busy or for the root of trust. -/
inductive CmdPhase where
  | taken
  | working
  | finished (status retryAfter r1 r2 r3 : Nat)
  deriving DecidableEq, Repr

/-- An admin command that was taken and whose completion is not yet written (R86, R90). -/
structure AdminCmd where
  pav : Nat
  entry : Nat
  words : List Word
  phase : CmdPhase := .taken
  deriving DecidableEq, Repr

/-- A fetch read waiting for the fetch unit (R109): its Pavilion and channel, and its accesses. -/
structure FetchWait where
  pav : Nat
  chan : Nat
  reqs : List FabRequest
  deriving DecidableEq, Repr

/-- The front end. `fetchRrPav` holds the Pavilion last served at each level of R109, `fetchRrChan` the channel last served at a level of a
Pavilion. -/
structure FrontEnd where
  admin0En : Bool := false
  admin0Ring : Word := 0x0400000000000000
  admin0Cmpl : Word := 0
  admin0Db : Word := 0
  sweep : Word := 0x3E8
  rtShareLo : Word := 0x1919191919191919
  rtShareHi : Word := 0x1919191919191919
  rings : Table AdminRing := []
  cmds : List AdminCmd := []
  doneQ : List AdminRef := []
  chans : Table Channel := []
  waits : List (Nat × OpRef) := []
  fetchQ : List FetchWait := []
  rrRt : Nat := 0
  rrPav : Nat := 0
  rrChan : Table Nat := []
  lastSweep : Nat := 0
  fetchRrPav : Table Nat := []
  fetchRrChan : Table Nat := []
  deriving DecidableEq, Repr

end Sys2Proof.Machine
end

