-- ==== Sys2Proof/Machine/TypesGate.lean ====
section
/-!
DEFINITION. The state of the Gatehouse (R426 to R462): keys, sessions and handshakes of a port, the tenant Pavilion, the identity and the
sealed-digest records; and of the torus (R401 to R425): tables, routes, the readiness wave.
-/
namespace Sys2Proof.Machine

/-- A key slot (R434): key, salt, mode and generation; since when it is current and how many panes it protected (R444). -/
structure KeySlot where
  key : List Byte
  salt : BitVec 32
  enc : Bool
  gen : BitVec 32
  panes : Nat := 0
  since : Nat := 0
  segs : Nat := 0
  deriving DecidableEq, Repr

/-- The null key of R434. -/
def KeySlot.null : KeySlot := { key := List.replicate 32 0, salt := 0, enc := false, gen := 0 }

/-- The key slots of one key index of a port: current and next, for each direction (R434). -/
structure KeyIndex where
  txCur : Option KeySlot := none
  txNext : Option KeySlot := none
  rxCur : Option KeySlot := none
  rxNext : Option KeySlot := none
  switchAt : Option Nat := none
  deriving DecidableEq, Repr

/-- A rotation or first keying this end has begun as transmitter (R445). -/
structure Rotation where
  key : Nat
  gen : BitVec 32
  nt : List Byte
  since : Nat
  retryAt : Option Nat := none
  queued : Bool := false
  deriving DecidableEq, Repr

/-- GATE.LINKp.SESSION (R462). -/
inductive Session where
  | none
  | handshake
  | up
  | failed
  deriving DecidableEq, Repr

/-- GATE.LINKp.SESSION (R462). -/
def Session.code : Session → Nat
  | .none => 0
  | .handshake => 1
  | .up => 2
  | .failed => 3

/-- A handshake in progress (R441): the messages heard, by their fields, and the secrets derived so far. -/
structure Handshake where
  session : BitVec 32
  start : Nat
  ephPriv : Nat
  hello : List Byte := []
  reply : List Byte := []
  ownChain : List Byte := []
  farChain : List Byte := []
  farTotal : Nat := 0
  sigF : List Byte := []
  sigL : List Byte := []
  proofSent : Bool := false
  proved : Bool := false
  doneSent : Bool := false
  deriving DecidableEq, Repr

/-- The Gatehouse's part of one port. -/
structure PortKeys where
  idx : Table KeyIndex := [(0, { txCur := some KeySlot.null, rxCur := some KeySlot.null })]
  seg : BitVec 16 := 0
  rxSeg : BitVec 16 := 0
  slot : Nat := 0
  rxSlot : Nat := 0
  session : Session := .none
  attempts : Nat := 0
  fail : Nat := 0
  hs : Option Handshake := none
  retryAt : Option Nat := none
  master : Option (List Byte × List Byte) := none
  leader : Bool := false
  sessions : Nat := 0
  number : BitVec 32 := 0
  rotations : List Rotation := []
  lostDue : Nat := 0
  disabled : Bool := false
  deriving DecidableEq, Repr

/-- The tenant Pavilion of the node (R446, R447) and its teardown (R453). -/
structure Tenant where
  num : Nat
  enc : Bool
  block : Block
  clusters : Nat
  slices : Nat
  fabPorts : Nat
  chBase : Nat
  chCount : Nat
  winBase : Nat
  winCount : Nat
  quota : Nat
  mismatch : BitVec 6 := 0
  teardown : Option AdminRef := none
  deriving DecidableEq, Repr

/-- A sealed-digest record (R432, R433). -/
structure SealRecord where
  label : Nat
  pav : Nat
  slot : Nat
  objLen : Nat
  digest : List Byte
  deriving DecidableEq, Repr

/-- An SPDM session (R430): its number and the Pavilion of its ring. -/
structure SpdmSession where
  num : Nat
  pav : Nat
  finished : Bool
  keyGen : Nat := 0
  deriving DecidableEq, Repr

/-- The identity of the node and what RELEASE gives besides (R426 to R428, R461, R561): key pair, trusted roots, certificate chain, image digest,
security version and the pod configuration key. `ready` is GATE.ID_STATUS.ID_READY. -/
structure Identity where
  ready : Bool := false
  priv : BitVec 384 := 0
  pub : BitVec 768 := 0
  rootKeys : List (BitVec 768) := []
  chain : List Byte := []
  imageDigest : BitVec 384 := 0
  securityVersion : Word := 0
  podKey : BitVec 768 := 0
  deriving DecidableEq, Repr

/-- The Gatehouse of the node (R462). `drained` has the key indices of each port whose twelve fences the port reported: nothing older under them
remains (R352). -/
structure Gate where
  rotate : Word := 0x00000E1000000028
  pavSel : Word := 0
  tenant : Option Tenant := none
  teardownId : BitVec 32 := 0
  records : List SealRecord := []
  spdmNegotiated : Bool := false
  spdm : List SpdmSession := []
  spdmNext : Nat := 0
  killing : List (AdminRef × Nat) := []
  drained : Table Nat := []
  deriving DecidableEq, Repr

/-- A node record of the installation table (R405). -/
structure NodeRecord where
  serial : Word
  ports : List (BitVec 32)
  deriving DecidableEq, Repr

/-- The installation table as accepted (R405). -/
structure InstallTable where
  ex : Nat
  ey : Nat
  ez : Nat
  master : Nat
  podId : BitVec 32
  epoch : Word
  nodes : List NodeRecord
  digest : List Byte
  deriving DecidableEq, Repr

/-- A port record of the board table (R407). -/
structure BoardPort where
  steps : Nat
  i3cSa : Nat
  txMin : Nat
  txMax : Nat
  biasMax : Nat
  rxMin : Nat
  taps : List (BitVec 16)
  deriving DecidableEq, Repr

/-- The board table as accepted (R407). -/
structure BoardTable where
  ports : List BoardPort
  digest : List Byte
  deriving DecidableEq, Repr

/-- The states of LODGE.TOPO_STATUS (R425). -/
inductive TopoState where
  | noTable
  | starting
  | ready
  | readyPartial
  | tableBad
  deriving DecidableEq, Repr

/-- LODGE.TOPO_STATUS.STATE (R425). -/
def TopoState.code : TopoState → Nat
  | .noTable => 0
  | .starting => 1
  | .ready => 2
  | .readyPartial => 3
  | .tableBad => 4

/-- What the IDENT exchange left for a port (R411, R425); `disabled` by R411 or R442, `miswired` by R411. -/
structure TopoPort where
  seenPort : Nat := 0
  seenNode : Nat := 0
  farResult : Nat := 0
  ownResult : Nat := 0
  disabled : Bool := false
  miswired : Bool := false
  deriving DecidableEq, Repr

/-- Places, routes and the readiness wave (R416, R421 to R425). READY and MISSING are bitmaps held as numbers; `reported` once the pod state was
reported, `allReported` once it was with READY holding every node (R423). -/
structure Topo where
  install : Option InstallTable := none
  board : Option BoardTable := none
  installAddr : Nat := 0
  boardAddr : Nat := 0
  tableCounter : Option Word := none
  node : Nat := 0
  x : Nat := 0
  y : Nat := 0
  z : Nat := 0
  state : TopoState := .noTable
  nodeReady : Bool := false
  routeBuilt : Bool := false
  unreach : Nat := 0
  nodeDown : Nat := 0
  ports : Table TopoPort := []
  sel : Word := 0
  ready : Nat := 0
  missing : Nat := 0
  changedAt : Nat := 0
  bound : Bool := false
  reported : Bool := false
  allReported : Bool := false
  waveDue : Table (Nat × Nat) := []
  waveSentAt : Table (Option Nat) := []
  linkEvents : Table (Nat × Nat) := []
  nodeEvents : Table Nat := []
  deriving DecidableEq, Repr

end Sys2Proof.Machine
end

