-- ==== Sys2Proof/Machine/TypesPane.lean ====
section
/-!
DEFINITION. The state of the pane layer of one port (R315 to R363): virtual-channel counts, Cullet, receive pool, unit streams, control
panes, resumption.
-/
namespace Sys2Proof.Machine

/-- The states of a link (R354), with the code of PL_STATUS.LINK_STATE (R363). -/
inductive LinkState where
  | training
  | up
  | degraded
  | retraining
  | down
  deriving DecidableEq, Repr

/-- PL_STATUS.LINK_STATE (R363). -/
def LinkState.code : LinkState → Nat
  | .training => 0
  | .up => 1
  | .degraded => 2
  | .retraining => 3
  | .down => 4

/-- In service: UP or DEGRADED (R354). -/
def LinkState.inService : LinkState → Bool
  | .up => true
  | .degraded => true
  | _ => false

/-- The credit counts of one virtual channel (R336, R337): USED and LAST as sender, RET and ALLOT as receiver, VC_MAX in force, the far
end's VC_MAX and the far end's DEMAND bit. -/
structure VcCount where
  used : Nat := 0
  last : Nat := 0
  ret : Nat := 0
  allot : Nat := 0
  max : Nat := 0x400
  farMax : Nat := 0x400
  demand : Bool := false
  changed : Bool := false
  deriving DecidableEq, Repr

/-- A sequenced pane kept in the Cullet (R343): a DATA pane or a FENCE, with the bytes of its header fields that never change, its body
as sent, how often it was retransmitted and how many retransmissions are due (R347, R348). `void` marks a VOID fence (R362). -/
structure CulletPane where
  seq : Nat
  fence : Bool
  vc : Nat
  key : Nat
  sub : Nat
  enc : Bool
  body : List Byte
  retx : Nat := 0
  resend : Nat := 0
  ackNow : Bool := false
  void : Bool := false
  deriving DecidableEq, Repr

/-- A pane the receiver holds above RX_NEXT (R345): its plain body, or nothing for a pane under a retired index (R351). -/
structure HeldPane where
  seq : Nat
  fence : Bool
  vc : Nat
  key : Nat
  sub : Nat
  body : Option (List Byte)
  deriving DecidableEq, Repr

/-- A slot of the receive pool in use (R339): what is still in it, a share for each message of this node and for each transit unit; `waiting` while its
pane is not released; the key index of a RETIRE fence in it, 0 for a VOID fence. -/
structure PoolSlot where
  seq : Nat
  vc : Nat
  left : Nat := 0
  waiting : Bool := true
  fenceKey : Option Nat := none
  deriving DecidableEq, Repr

/-- The parse state of one virtual channel and sub-stream (R324): the message in progress, with the pool slots it has units in when it is for this
node; `dead` once its key index is retired (R351). -/
structure ParseState where
  key : Nat := 0
  hdr : Option LinkUnit := none
  body : List LinkUnit := []
  need : Nat := 0
  slots : List Nat := []
  dead : Bool := false
  deriving DecidableEq, Repr

/-- The message of which units are being sent on one virtual channel and sub-stream (R323): its units not yet packed, each with its pool slot at the
inbound port, and the rest as for a queued message. -/
structure TxCur where
  key : Nat := 0
  units : List (LinkUnit × Nat) := []
  inbound : Nat := 0
  inStream : Nat := 0
  whole : Bool := true
  dead : Bool := false
  deriving DecidableEq, Repr

/-- A fence waiting to be sent (R352, R353): RETIRE of a key index, or VOID on a sub-stream. -/
structure FenceDue where
  vc : Nat
  key : Nat
  teardownId : Nat
  sub : Nat := 0
  void : Bool := false
  deriving DecidableEq, Repr

/-- A received pane that passed its CRC, waiting for the step of its type (R316), with the codeword slot and the pod time it arrived at. -/
structure RxPane where
  hdr : Word
  body : List Byte
  slot : Nat := 0
  tick : Nat := 0
  deriving DecidableEq, Repr

/-- What a port sends: a codeword (R367) or an alignment marker of one physical lane (R370), and after each the levels that physical lanes, a bit
mask, put out for it (R365). -/
inductive TxItem where
  | codeword (bytes : List Byte)
  | marker (lane : Nat) (bytes : List Byte)
  | symbols (lanes : Nat) (levels : List Nat)
  deriving DecidableEq, Repr

/-- The pane layer of one port. `rxRetx` counts the retransmissions received (R318). `resetDone` holds once a pane-state reset was done in this resumption, `anew` from a reset of the pane state
until a resumption completes, `blockReset` from a block reset until then (R358). -/
structure Pane where
  ctl : Word := 0x00000014000005DC
  vcMax0 : Word := 0x0400040004000400
  vcMax1 : Word := 0x0400040004000400
  vcMax2 : Word := 0x0400040004000400
  plId : BitVec 32 := 1
  link : LinkState := .down
  farOos : Bool := false
  retired : BitVec 16 := 0
  vcs : Table VcCount := []
  txNext : Nat := 0
  ackNext : Nat := 0
  cullet : List CulletPane := []
  rxNext : Nat := 0
  held : List HeldPane := []
  slots : List PoolSlot := []
  gaps : List (Nat × Nat) := []
  nakDue : List Nat := []
  ackDue : Bool := false
  sinceVector : Nat := 0
  rxRetx : Nat := 0
  crRot : Nat := 0
  parse : Table ParseState := []
  rxMsgs : List (Nat × RxMsg) := []
  rxq : List RxPane := []
  txq : List TxMsg := []
  cur : Table TxCur := []
  rrClass : Nat := 0
  rrDate : Table Nat := []
  rrSub : Table Nat := []
  rrIn : Table Nat := []
  fences : List FenceDue := []
  fenced : Table Nat := []
  ctrlDue : List (List Byte) := []
  ackStart : Option Nat := none
  ackTimeout : Nat := 0x5DC
  ackExpiries : Nat := 0
  creditStart : Nat := 0
  resuming : Bool := false
  resetDone : Bool := false
  anew : Bool := true
  blockReset : Bool := true
  heardResume : Bool := false
  farPlId : BitVec 32 := 0
  lastResume : Nat := 0
  grantRr : Nat := 0
  stalled : BitVec 16 := 0
  sent : List TxItem := []
  deriving DecidableEq, Repr

end Sys2Proof.Machine
end

