-- ==== Sys2Proof/Machine/TypesLane.lean ====
section
/-!
DEFINITION. The state of the lanes of one port (R364 to R400): lane status, training, width changes, lane power states, optical engine.
-/
namespace Sys2Proof.Machine

/-- The tuned taps of a transmitter (R385). -/
structure Taps where
  cm2 : Nat := 0
  cm1 : Nat := 0
  cp1 : Nat := 0
  deriving DecidableEq, Repr

/-- A page of the CMIS memory map the Lodge firmware uses (R397). -/
inductive CmisPage where
  | lower
  | identity
  | status (bank : Nat)
  deriving DecidableEq, Repr

/-- A transaction of the I3C bus of an engine (R396 to R398): SETDASA, a page read, or the transmit-output disable bits of a bank of page 10h. -/
inductive I3cOp where
  | setdasa (static dynamic : Nat)
  | read (page : CmisPage)
  | txDisable (bank mask : Nat)
  deriving DecidableEq, Repr

/-- One physical lane (R371, R386, R400). `place` counts its marker places since COUNT began (R370), `slot` its codeword slots in training (R435),
`errAt` holds the byte positions of the errors within the last 2^30 of its `rxBytes` bytes and `berOver` that they were more than LANE_BER_MAX allows
(R389), `check` the state of its PRBS checker (R399). -/
structure Lane where
  cdr : Bool := false
  markers : Nat := 0
  lastCount : Option Nat := none
  markerTick : Nat := 0
  missed : Nat := 0
  place : Nat := 0
  slot : Nat := 0
  usable : Bool := false
  fail : Nat := 0
  taps : Taps := {}
  pllLost : Bool := false
  errAt : List Nat := []
  rxBytes : Nat := 0
  berOver : Bool := false
  txOff : Bool := false
  check : Option Nat := none
  deriving DecidableEq, Repr

/-- The phases of a training (R382, R384). -/
inductive TrainPhase where
  | idle
  | lock
  | ident
  | going
  | relock
  | tune
  | measure
  | done
  | service
  deriving DecidableEq, Repr

/-- A configuration of a training (R379): ACTIVE, WIDTH, STEP, ACTION. -/
structure TrainCfg where
  active : Nat := 0
  width : Nat := 0
  step : Nat := 0
  action : Nat := 0
  deriving DecidableEq, Repr

/-- A TRAIN message as repeated (R376, R377): its code, its REJECT flag, its TSEQ and its arguments. -/
structure TrainMsg where
  code : Nat
  reject : Bool := false
  seq : BitVec 16
  args : List Byte
  deriving DecidableEq, Repr

/-- A training in progress (R376 to R386): the message repeated and the answer sent beside it, what the far end said, the
configuration in hand, the tuning and the judgements of R386; `heard` holds TSEQ + 1 of the last message of each code, `out` that the current message
has been sent, `identOwn` and `identFar` the two results of the identity exchange (R411). -/
structure Train where
  phase : TrainPhase := .idle
  initial : Bool := true
  identDue : Bool := true
  tseq : BitVec 16 := 0
  round : BitVec 8 := 0
  msg : Option TrainMsg := none
  ans : Option TrainMsg := none
  heard : Table Nat := []
  step : Nat := 0
  prev : TrainCfg := {}
  cfg : TrainCfg := {}
  farSerial : Word := 0
  farUsable : Nat := 0
  farSteps : Nat := 0
  farHeard : Bool := false
  ownPass : Option Nat := none
  farPass : Option Nat := none
  firstPass : Option Nat := none
  second : Bool := false
  identOwn : Option Nat := none
  identFar : Option Nat := none
  authSeen : Bool := false
  noAuthSeen : Bool := false
  readySent : Bool := false
  waiting : Option Nat := none
  tuneStart : Nat := 0
  start : Nat := 0
  roundStart : Nat := 0
  out : Bool := false
  deriving DecidableEq, Repr

/-- A width change in progress (R388 to R390); `before` holds the active lanes it began with. -/
structure WidthChange where
  own : Bool
  reason : Nat
  max : Nat
  farReason : Nat := 0
  farMax : Nat := 12
  farUsable : Nat := 0x1FFF
  leading : Bool := true
  acked : Bool := false
  goSent : Bool := false
  active : Nat := 0
  width : Nat := 0
  before : Nat := 0
  since : Nat
  deriving DecidableEq, Repr

/-- Lanes, training, lane power and optics of one port (R400). `active` and `width` are those of the direction sent, `rxActive` and
`rxWidth` those of the direction received (R390); `wide` holds the lanes a change of reason POWER may use (R388, DEDUCED, log entry 18); `txScr` and
`rxScr` are the scrambler states of the lanes (R366), `prbs` that of the PRBS generator (R399); `farLoop` holds the lanes looped for the far end, `loopAsked`
those it was asked to loop (R399). -/
structure LaneUnit where
  trainCtl : Word := 0x00000064004E0000
  retrainDue : Bool := false
  lanes : Table Lane := []
  active : Nat := 0
  width : Nat := 0
  rxActive : Nat := 0
  rxWidth : Nat := 0
  wide : Nat := 0
  step : Nat := 0
  leader : Bool := false
  farUsable : Nat := 0
  causeOwn : Nat := 0
  causeFar : Nat := 0
  eventTick : BitVec 32 := 0
  lpsState : Nat := 0
  lpsLimit : Nat := 4
  lpsOwn : Nat := 0
  lpsFar : Nat := 0
  lpsOwnWidth : Nat := 6
  lpsFarWidth : Nat := 6
  lpsSent : Bool := false
  idleSince : Option Nat := none
  testCtl : Word := 0
  farLoop : Option Nat := none
  loopAsked : Nat := 0
  moduleState : Byte := 0
  mgmtLost : Bool := false
  present : Bool := false
  i3cFails : Nat := 0
  lastPoll : Nat := 0
  dynAddr : Option Nat := none
  i3c : List I3cOp := []
  txScr : List Nat := []
  rxScr : List Nat := []
  prbs : Nat := 0x7FFFFFFF
  consecUncorr : Nat := 0
  downSince : Nat := 0
  farSerial : Word := 0
  laneOff : Nat := 0
  target : Nat := 0
  train : Train := {}
  change : Option WidthChange := none
  spareAt : Option Nat := none
  droopCap : Nat := 12
  deriving DecidableEq, Repr

end Sys2Proof.Machine
end

