-- ==== Sys2Proof/Machine/TypesTime.lean ====
section
/-!
DEFINITION. Pod time and the Timetable (R301 to R314).
-/
namespace Sys2Proof.Machine

/-- The states of pod time (R306), with the codes of TIME.STATUS.STATE (R314). -/
inductive TimeState where
  | unsynced
  | acquiring
  | synced
  | holdover
  deriving DecidableEq, Repr

/-- TIME.STATUS.STATE (R314). -/
def TimeState.code : TimeState → Nat
  | .unsynced => 0
  | .acquiring => 1
  | .synced => 2
  | .holdover => 3

/-- A Timetable as loaded (R308, R312): entries of (start, length, slot), the period and the EPOCH. -/
structure TimeTable where
  entries : List (Nat × Nat × Nat)
  period : Nat
  epoch : Nat
  deriving DecidableEq, Repr

/-- Pod time of the node (R301, R306, R314): `hold` is how many ticks the count still stands, `phase` what the rate correction has gathered
of a tick, `locked` whether the node has been SYNCED. -/
structure PodTime where
  now : Word := 0
  master : Nat := 0
  depth : Nat := 0xFF
  parent : Nat := 7
  state : TimeState := .unsynced
  ratePpb : BitVec 32 := 0
  theta : BitVec 32 := 0
  isMaster : Bool := false
  syncEn : Bool := false
  good : Nat := 0
  holdSince : Option Nat := none
  lastValid : Nat := 0
  hold : Nat := 0
  phase : Int := 0
  locked : Bool := false
  deriving DecidableEq, Repr

/-- A node named as the time master, or no longer (R301, R306, R314): a master is SYNCED at depth 0 without a parent, which ends HOLDOVER; one that
was master holds over. DEDUCED, log entry 81. -/
def PodTime.named (t : PodTime) (on : Bool) (node tick : Nat) : PodTime :=
  if on then { t with isMaster := true, master := node, depth := 0, parent := 7, state := .synced, holdSince := none, locked := true }
  else if t.isMaster then { t with isMaster := false, state := .holdover, holdSince := some tick, good := 0 }
  else t

/-- The time plane and the Timetable of one port (R303, R305, R308 to R312). -/
structure PortTime where
  seq : BitVec 16 := 0
  lastSent : Option Nat := none
  sentAt : List (Nat × Nat) := []
  farSeq : Nat := 0
  farTx : Nat := 0
  arrival : Nat := 0
  heard : Bool := false
  farState : Nat := 0
  farDepth : Nat := 0xFF
  active : Option TimeTable := none
  waiting : Option TimeTable := none
  opened : List (Nat × Nat) := []
  deriving DecidableEq, Repr

end Sys2Proof.Machine
end

