-- ==== Sys2Proof/Machine/TypesPort.lean ====
section
/-!
DEFINITION. One port: pane layer, lanes, keys and time.
-/
namespace Sys2Proof.Machine

/-- One of the six ports. -/
structure Port where
  pane : Pane := {}
  lane : LaneUnit := {}
  keys : PortKeys := {}
  time : PortTime := {}
  deriving DecidableEq, Repr

end Sys2Proof.Machine
end

