-- ==== Sys2Proof/Machine/TypesPower.lean ====
section
/-!
DEFINITION. The state of clocks, power domains and supply sag (R463 to R483), of the Lodge (R520 to R538, R548) and of Belvedere (R539 to
R544, R549).
-/
namespace Sys2Proof.Machine

/-- An engine domain, 84 to 95 (R469 to R471, R475): its state, since when it has no work, since when it wakes, and whether PWRM has
been asked to switch it on, when, and whether the report of R472 was made. -/
structure Engine where
  state : Nat := 0
  idleSince : Option Nat := none
  waking : Option Nat := none
  deriving DecidableEq, Repr

/-- An outstanding ON request to PWRM (R472, R563). -/
structure DomReq where
  domain : Nat
  since : Nat
  reported : Bool := false
  deriving DecidableEq, Repr

/-- Clocks and power (R483). -/
structure Power where
  fallback : Bool := false
  rootLock : Bool := false
  refOk : Bool := false
  level : Nat := 0
  pwrm : Nat := 0
  dets : List Nat := [0, 0, 0, 0]
  droopCtl : Word := 0xF0032
  fallStart : Nat := 0
  engLtr : Word := 0x00000064004007D0
  domainsOn : BitVec 96 := 0
  engines : Table Engine := []
  ltrPort : Table Word := []
  chosen : Table Nat := []
  hint : BitVec 16 := 0
  domReqs : List DomReq := []
  clocksLost : Bool := false
  frozen : Bool := false
  freezeAt : Option Nat := none
  stopTimes : List (Nat × Nat) := []
  deriving DecidableEq, Repr

/-- A notice waiting in the level 5 queue (R528, R530). -/
structure Notice where
  code : Nat
  tick : Word
  data : List Byte
  deriving DecidableEq, Repr

/-- An inbound MGMT message copied by the Lodge (R529): the port, the message. -/
structure InMgmt where
  port : PortIx
  msg : Msg
  deriving DecidableEq, Repr

/-- The states of an Anneal at a node (R548). -/
inductive AnnealState where
  | none
  | pending
  | annealed
  | releasing
  deriving DecidableEq, Repr

/-- LODGE.ANNEAL.STATE (R548). -/
def AnnealState.code : AnnealState → Nat
  | .none => 0
  | .pending => 1
  | .annealed => 2
  | .releasing => 3

/-- The Anneal of a Pavilion as this node holds it (R534 to R538): `counts` holds the port, COUNT and HELD of each DONE received. -/
structure Anneal where
  id : BitVec 32
  pav : Nat
  initiator : Nat
  ta : Nat
  state : AnnealState
  applied : Bool := false
  tr : Nat := 0
  counts : List (Nat × Nat × Nat) := []
  doneSent : Bool := false
  cmd : Option AdminRef := none
  deriving DecidableEq, Repr

/-- A request to the root of trust in progress (R562) and what waits for it. -/
structure RotWait where
  req : RotRequest
  sent : Nat
  cmd : Option AdminRef
  slot : Option Nat
  deriving DecidableEq, Repr

/-- A level 4 or 5 command waiting for the Lodge firmware (R525, R527). -/
structure LodgeItem where
  cmd : AdminRef
  level : Nat
  deriving DecidableEq, Repr

/-- The Lodge (R548). `oosPorts` are the ports on which the firmware was told of an OUT_OF_SERVICE far end (R360). `trusted` holds once the boot ROM has found the digest it was given (R521). `laidOutAt` and the table state stand in the topology. -/
structure Lodge where
  released : Bool := false
  running : Bool := false
  trusted : Bool := false
  releasedAt : Nat := 0
  wdog : Word := 0x64
  wdogStart : Nat := 0
  noticeRing : Word := 0x3B00000000000008
  noticeCons : BitVec 56 := 0
  produced : BitVec 56 := 0
  notices : List Notice := []
  overflowing : Bool := false
  overflowDue : Bool := false
  items : List LodgeItem := []
  inbound : List InMgmt := []
  annealId : BitVec 32 := 0
  annealPav : BitVec 4 := 0
  annealHeld : BitVec 6 := 0
  annealLate : Bool := false
  anneals : List Anneal := []
  flooded : List (BitVec 32) := []
  oosPorts : BitVec 6 := 0
  rot : List RotWait := []
  deriving DecidableEq, Repr

/-- A Belvedere counter set (R542 to R544). -/
structure BelvSet where
  enabled : Bool := false
  faulted : Bool := false
  suspended : Bool := false
  owner : Nat := 0
  lastSeq : BitVec 32 := 0
  ring : Nat := 0
  log2 : Nat := 4
  list : List Nat := []
  periodUs : Nat := 1
  trace : BitVec 32 := 0
  produced : Word := 0
  overrun : Word := 0
  late : Word := 0
  pending : Bool := false
  readOut : Bool := false
  record : List Byte := []
  outstanding : Nat := 0
  first : Bool := true
  lastTick : Nat := 0
  deriving DecidableEq, Repr

/-- Belvedere: its sets, and the 64-bit counters of R539 by (scope, ID); scope 16 is the node's own (P0) scope, else the Pavilion. -/
structure Belvedere where
  sets : Table BelvSet := []
  counts : Table Word := []
  deriving DecidableEq, Repr

end Sys2Proof.Machine
end

