-- ==== Sys2Proof/Machine/State.lean ====
section
/-!
DEFINITION. The state of the block, its reset, and the reasons a step can stop.
-/
namespace Sys2Proof.Machine

/-- The reasons a step stops with a fault. -/
inductive Fault where
  /-- Raised by the five fabric responses and the read-done commands when the carrier answers an access that is not outstanding,
  or with a kind or length that R552 does not allow for it. Safe: the carrier broke its obligations (R553). -/
  | carrierProtocol
  deriving DecidableEq, Repr

/-- The reasons a step is refused. -/
inductive Refusal where
  /-- Raised by an arm of `exec` that has no meaning yet. Safe: nothing is claimed about it. -/
  | notModelled (mnemonic : String)
  deriving DecidableEq, Repr

/-- The state of the block: every register, table, buffer, queue, timer and pin the spec gives it, and the queue of commands that
wait. Sub-structures follow the chapters; each field's default is its value at power-up. -/
structure State where
  pending : List Instr := []
  pins : Pins := {}
  global : Global := {}
  counters : Table Counter := []
  fab : Fabric := {}
  watch : Watches := {}
  front : FrontEnd := {}
  xfer : Xfer := {}
  gather : Gather := {}
  time : PodTime := {}
  ports : Vector Port 6 := Vector.replicate 6 {}
  topo : Topo := {}
  gate : Gate := {}
  ident : Identity := {}
  power : Power := {}
  flt : Flt := {}
  lodge : Lodge := {}
  belv : Belvedere := {}
  resetRun : Option ResetRun := none
  retained : Retained := {}
  freeCount : Nat := 0
  deriving DecidableEq, Repr

/-- The machine right after power-up (R510, R511): every field at its reset value, and the power-up reset running, so that its
completion is the next event (DEDUCED, log entry 3). -/
def State.reset : State :=
  { resetRun := some { scope := .powerUp, source := 0, fatalCause := 0, recorded := false } }

end Sys2Proof.Machine
end

