-- ==== Sys2Proof/Machine/Ops.lean ====
section
/-!
DEFINITION. The named operations every family shares: updates of one part of the state, counters (R518), the fault controller (R490 to
R498), interrupts (R567), notices (R528), fabric accesses (R551, R578), watches (R556) and Belvedere counts (R539).
-/
namespace Sys2Proof.Machine

/-- The outcome of a command. -/
abbrev Out := Host.Outcome State Fault Refusal

/-- What an ordinary command leaves as it was: the queue, GLOBAL (R572), the identity (R426, R461), a block reset in progress, and the retained state
(R511). Only resets, SERVICE_RESTORE, register writes and the messages of the root of trust go further. -/
def State.keep (s t : State) : State :=
  { t with pending := s.pending, global := s.global, ident := s.ident, resetRun := s.resetRun, retained := s.retained }

/-- The outcome of an ordinary command that is due when `due` holds; one that is not due changes nothing (DESIGN CHOICE, log entry 2). -/
def act (due : Bool) (s t : State) : Out := .next (bif due then s.keep t else s)

/-- The outcome of a command that may change everything. -/
def actAll (due : Bool) (s t : State) : Out := .next (bif due then t else s)

/-! ### Updates of one part -/

def State.modPins (s : State) (f : Pins → Pins) : State := { s with pins := f s.pins }
def State.modGlobal (s : State) (f : Global → Global) : State := { s with global := f s.global }
def State.modFab (s : State) (f : Fabric → Fabric) : State := { s with fab := f s.fab }
def State.modWatch (s : State) (f : Watches → Watches) : State := { s with watch := f s.watch }
def State.modFront (s : State) (f : FrontEnd → FrontEnd) : State := { s with front := f s.front }
def State.modXfer (s : State) (f : Xfer → Xfer) : State := { s with xfer := f s.xfer }
def State.modGather (s : State) (f : Gather → Gather) : State := { s with gather := f s.gather }
def State.modTime (s : State) (f : PodTime → PodTime) : State := { s with time := f s.time }
def State.modTopo (s : State) (f : Topo → Topo) : State := { s with topo := f s.topo }
def State.modGate (s : State) (f : Gate → Gate) : State := { s with gate := f s.gate }
def State.modPower (s : State) (f : Power → Power) : State := { s with power := f s.power }
def State.modFlt (s : State) (f : Flt → Flt) : State := { s with flt := f s.flt }
def State.modLodge (s : State) (f : Lodge → Lodge) : State := { s with lodge := f s.lodge }
def State.modBelv (s : State) (f : Belvedere → Belvedere) : State := { s with belv := f s.belv }

/-- One port. -/
def State.port (s : State) (p : PortIx) : Port := s.ports[p]

/-- One port replaced. -/
def State.setPort (s : State) (p : PortIx) (v : Port) : State := { s with ports := s.ports.set p v }

/-- One port changed. -/
def State.modPort (s : State) (p : PortIx) (f : Port → Port) : State := s.setPort p (f (s.port p))

def State.modPane (s : State) (p : PortIx) (f : Pane → Pane) : State := s.modPort p (fun q => { q with pane := f q.pane })
def State.modLane (s : State) (p : PortIx) (f : LaneUnit → LaneUnit) : State := s.modPort p (fun q => { q with lane := f q.lane })
def State.modKeys (s : State) (p : PortIx) (f : PortKeys → PortKeys) : State := s.modPort p (fun q => { q with keys := f q.keys })
def State.modPTime (s : State) (p : PortIx) (f : PortTime → PortTime) : State := s.modPort p (fun q => { q with time := f q.time })
def State.modTrain (s : State) (p : PortIx) (f : Train → Train) : State := s.modLane p (fun l => { l with train := f l.train })

/-- The six ports in order. -/
def allPorts : List PortIx := [0, 1, 2, 3, 4, 5]

/-- Every port changed. -/
def State.modPorts (s : State) (f : Port → Port) : State := { s with ports := s.ports.map f }

/-- Pod time as a number (R301). -/
def State.podTime (s : State) : Nat := s.time.now.toNat

/-- The moment by the clock of R515, which every tick advances and no exchange of R306 moves: what every timer counts from. -/
def State.now (s : State) : Nat := s.retained.clock

/-- The ticks since a moment. -/
def State.since (s : State) (t : Nat) : Nat := s.now - t

/-- Whether a number of microseconds has passed since a moment. DESIGN CHOICE, log entry 143. -/
def State.usPassed (s : State) (t us : Nat) : Bool := decide (t + usTicks us ≤ s.now)

/-- Whether a number of nanoseconds has passed since a moment. -/
def State.nsPassed (s : State) (t ns : Nat) : Bool := decide (t ≤ s.now) && nsElapsed (s.now - t) ns

/-- Whether a number of nanoseconds had passed since a moment before this tick: what comes in the cycle of the expiry itself is still
in time (R160, R293). DEDUCED, log entry 148. -/
def State.nsExpired (s : State) (t ns : Nat) : Bool := decide (t < s.now) && nsElapsed (s.now - 1 - t) ns

/-- The next free value of a kind (DESIGN CHOICE, log entry 7). -/
def State.freeVal (s : State) (k : FreeKind) : Nat := Config.free k s.freeCount

/-- The counter of free values advanced. -/
def State.drawn (s : State) : State := { s with freeCount := s.freeCount + 1 }

/-- The logic of the block runs: no block reset in progress, block clocks running (R466, R546). -/
def State.clocked (s : State) : Bool := s.resetRun.isNone && !s.power.clocksLost && !s.power.frozen

/-- The engines run: clocked, and no fatal error waits for its reset (R496). -/
def State.live (s : State) : Bool := s.clocked && s.flt.fatal.isNone

/-- The link layer runs: block clocks running, and no cold block reset in progress (R496, R507). -/
def State.linkLive (s : State) : Bool :=
  !s.power.clocksLost && !s.power.frozen && (match s.resetRun with | some r => r.scope == .warm | none => true)

/-! ### Engines (R467, R469) -/

/-- One engine. -/
def Power.engine (w : Power) (e : Nat) : Engine := Table.get {} w.engines e

/-- One engine changed. -/
def Power.modEngine (w : Power) (e : Nat) (f : Engine → Engine) : Power := { w with engines := Table.put {} w.engines e (f (w.engine e)) }

/-- An engine takes work: it is in E0 or E1, from which it wakes within 10 ns (R469, R471). -/
def State.awake (s : State) (e : Nat) : Bool := decide ((s.power.engine e).state < 2)

/-! ### Offsets of the counters in the setup window (R570) -/

def ctrRegwinErr : Nat := 0x00040
def ctrDiscard : Nat := 0x30020
def ctrTimeout : Nat := 0x30110
def ctrTtLate (p : PortIx) : Nat := 0x40080 + 8 * p.val
def ctrTtOverrun (p : PortIx) : Nat := 0x400C0 + 8 * p.val
def ctrTtMiss (p : PortIx) : Nat := 0x40100 + 8 * p.val
def ctrCe : Nat := 0xD0080
def ctrContained : Nat := 0xD0088
def ctrFatal : Nat := 0xD0090
def ctrHang : Nat := 0xD0098
def ctrBlockReset : Nat := 0xD00A0
def ctrNoKey : Nat := 0xB0080
def ctrRekey : Nat := 0xB0088
def ctrAuthFail : Nat := 0xB0090
def ctrOverflow : Nat := 0xF0040
def ctrDroop (l : Nat) : Nat := 0xC0080 + 8 * (l - 1)
def portBase (p : PortIx) : Nat := 0x50000 + p.val * 0x10000
def ctrCrcDrop (p : PortIx) : Nat := portBase p + 0x40
def ctrBadDrop (p : PortIx) : Nat := portBase p + 0x48
def ctrDup (p : PortIx) : Nat := portBase p + 0x50
def ctrReplay (p : PortIx) : Nat := portBase p + 0x58
def ctrRetired (p : PortIx) : Nat := portBase p + 0x60
def ctrPlDiscard (p : PortIx) : Nat := portBase p + 0x68
def ctrProtoErr (p : PortIx) : Nat := portBase p + 0x70
def ctrTransit (p : PortIx) : Nat := portBase p + 0x78
def ctrFecCw (p : PortIx) : Nat := portBase p + 0x140
def ctrFecUncorr (p : PortIx) : Nat := portBase p + 0x148
def ctrRetrain (p : PortIx) : Nat := portBase p + 0x150
def ctrLaneErr (p : PortIx) (k : Nat) : Nat := portBase p + 0x200 + 8 * k

/-- One counter of the block. -/
def State.counter (s : State) (off : Nat) : Counter := Table.get {} s.counters off

/-- A counter advanced by one: it sticks at 0xFFFF_FFFF and sets SATURATED there (R518). The flag says that it has just stuck. -/
def Counter.bump (c : Counter) : Counter × Bool :=
  if c.count = 0xFFFFFFFF then (c, false)
  else if c.count = 0xFFFFFFFE then ({ saturated := true, count := 0xFFFFFFFF }, true)
  else ({ c with count := c.count + 1 }, false)

/-- A counter of the block advanced, without the event of R518. -/
def State.bumpRaw (s : State) (off : Nat) : State :=
  { s with counters := Table.put {} s.counters off (s.counter off).bump.1 }

/-! ### Interrupts, capture, notices -/

/-- One beat of MSI; nothing while MSI_EN is 0 (R567). -/
def State.msi (s : State) (vec : Nat) : State :=
  if bit s.global.ctl 16 then s.modPins (fun p => { p with msi := p.msi ++ [BitVec.ofNat 6 vec] }) else s

/-- The first-error capture (R492): a higher class replaces, a later error of the same or a lower class sets MULTI. -/
def Flt.record (f : Flt) (cls : ErrClass) (e : ErrorReport) (tick : Word) : Flt :=
  match f.capture with
  | none => { f with capture := some { cls := cls, report := e, tick := tick } }
  | some c =>
    if c.cls.code < cls.code then { f with capture := some { cls := cls, report := e, tick := tick } }
    else { f with multi := true }

/-- A report with the fields that apply; CHANNEL 0xFFF and CHECKER 0x3FF mean none (R519). -/
def mkReport (cause : Nat) (unit : Nat := 0) (access : Nat := 0) (pav : Nat := 0) (channel : Nat := 0xFFF) (engine : Nat := 0)
    (checker : Nat := 0x3FF) (status : Nat := 0) (addr : Nat := 0) : ErrorReport :=
  { cause := BitVec.ofNat 8 cause, unit := BitVec.ofNat 8 unit, access := BitVec.ofNat 4 access, pav := BitVec.ofNat 4 pav,
    channel := BitVec.ofNat 12 channel, engine := BitVec.ofNat 8 engine, checker := BitVec.ofNat 10 checker,
    status := BitVec.ofNat 8 status, addr := BitVec.ofNat 56 addr }

/-- FAULT_OUT at a contained error (R494): a pulse when it is deasserted and at least 1 µs has passed since the last pulse ended, or
the level of mode 1. -/
def State.driveFaultOut (s : State) : State :=
  if bit s.flt.ctl 1 then
    if s.pins.faultOut then s else (s.modPins (fun p => { p with faultOut := true })).modFlt (fun f => { f with pulseStart := some s.now })
  else
    let free := match s.flt.pulseEnd with
      | none => true
      | some e => s.usPassed e 1
    if !s.pins.faultOut && free then
      (s.modPins (fun p => { p with faultOut := true })).modFlt (fun f => { f with pulseStart := some s.now })
    else s

/-- A contained error (R490, R494, R495, R498). -/
def State.raiseContained (s : State) (e : ErrorReport) : State :=
  let s1 := (s.bumpRaw ctrContained).modFlt (fun f => f.record .contained e s.time.now)
  let s2 := if s1.flt.contained then s1
    else (s1.modFlt (fun f => { f with contained := true, ackStart := s.now, ackExpired := false })).msi (bits s.flt.vec 13 8)
  s2.driveFaultOut

/-- The notice queue of level 5 (R528): a notice that finds 256 entries is dropped and counted, and the first drop is reported. -/
def State.notice (s : State) (code : Nat) (data : List Byte) : State :=
  if s.lodge.notices.length < 256 then
    s.modLodge (fun l => { l with notices := l.notices ++ [{ code := code, tick := s.time.now, data := padTo 16 data }] })
  else
    let s1 := s.bumpRaw ctrOverflow
    if s.lodge.overflowing then s1
    else (s1.modLodge (fun l => { l with overflowing := true, overflowDue := true })).raiseContained (mkReport 0x1E (unit := 0x0D))

/-- A corrected error (R490, R498, R528): counted, captured, at most one notice per checker and one interrupt per millisecond. -/
def State.raiseCorrected (s : State) (e : ErrorReport) : State :=
  let s1 := ((s.bumpRaw ctrCe).modFlt (fun f => { f with corrected := true })).modFlt (fun f => f.record .corrected e s.time.now)
  let k := e.checker.toNat
  let prev := Table.get (0, 0) s.flt.ceNotice k
  let s2 := if prev.1 = 0 || s.usPassed (prev.1 - 1) 1000 then
      (s1.modFlt (fun f => { f with ceNotice := Table.put (0, 0) f.ceNotice k (s.now + 1, 0) })).notice 0x05
        (leBytes 2 k ++ [0, 0] ++ leBytes 4 (prev.2 + 1))
    else s1.modFlt (fun f => { f with ceNotice := Table.put (0, 0) f.ceNotice k (prev.1, prev.2 + 1) })
  let due := match s.flt.ceMsi with
    | none => true
    | some t => s.usPassed t 1000
  if bit s.flt.ctl 0 && due then (s2.modFlt (fun f => { f with ceMsi := some s.now })).msi (bits s.flt.vec 5 0) else s2

/-- A counter of the block advanced; one that sticks raises COUNTER_SAT once (R518). -/
def State.bump (s : State) (off : Nat) : State :=
  if (s.counter off).bump.2 then (s.bumpRaw off).raiseCorrected (mkReport 0x03 (unit := 0x0F) (addr := off)) else s.bumpRaw off

/-- A counter advanced several times. -/
def State.bumpN (s : State) (off : Nat) : Nat → State
  | 0 => s
  | n + 1 => (s.bump off).bumpN off n

/-- A fatal error of a scope (R496, R497, R566). -/
def State.raiseFatal (s : State) (cold : Bool) (e : ErrorReport) : State :=
  let s1 := (s.bumpRaw ctrFatal).msi (bits s.flt.vec 21 16)
  let st : FatalState := { cold := cold, cause := e.cause, since := s.now }
  let cap : Capture := { cls := .fatal, report := e, tick := s.time.now }
  match s.flt.fatal with
  | none =>
    (s1.modFlt (fun f => { (f.record .fatal e s.time.now) with fatal := some st })).modPins (fun p =>
      { p with fatalOut := true, rstReq := if cold then .cold else if p.rstReq = .cold then .cold else .warm })
  | some old =>
    if cold && !old.cold then
      (s1.modFlt (fun f => { f with fatal := some st, capture := some cap })).modPins (fun p => { p with rstReq := .cold })
    else s1.modFlt (fun f => { f with multi := true })

/-! ### Belvedere counts (R539, R541) -/

/-- A 64-bit counter, by scope (16: the node) and ID, advanced by `n`; it wraps silently. -/
def State.belvAdd (s : State) (scope id n : Nat) : State :=
  s.modBelv (fun b =>
    { b with counts := Table.put 0 b.counts (scope * 65536 + id) (Table.get 0 b.counts (scope * 65536 + id) + BitVec.ofNat 64 n) })

/-- The ID of a counter: GROUP in bits 15:10, INDEX in bits 9:0 (R539). -/
def belvId (group index : Nat) : Nat := group * 1024 + index

/-! ### Watches (R556, R557) -/

/-- ARM of a WID on the line of an address. -/
def State.arm (s : State) (wid addr pav : Nat) : State :=
  s.modWatch (fun w => { w with armed := w.armed.filter (fun i => i != wid) ++ [wid], refused := w.refused.filter (fun i => i != wid),
                                sent := w.sent ++ [.arm wid (addr / 64) pav] })

/-- DISARM of a WID. -/
def State.disarm (s : State) (wid : Nat) : State :=
  if wid ∈ s.watch.armed then
    s.modWatch (fun w => { w with armed := w.armed.filter (fun i => i != wid), refused := w.refused.filter (fun i => i != wid),
                                  sent := w.sent ++ [.disarm wid] })
  else s

/-- A watch is held and not refused. -/
def State.watching (s : State) (wid : Nat) : Bool := decide (wid ∈ s.watch.armed) && !decide (wid ∈ s.watch.refused)

/-! ### Fabric ports (R551, R578) -/

/-- The fabric ports of a Pavilion (R447, R578): the tenant's, or those no tenant holds. DEDUCED, log entry 34. -/
def State.fabPortsOf (s : State) (pav : Nat) : List Nat :=
  match s.gate.tenant with
  | none => bitsSet 16 0xFFFF
  | some t => if pav = t.num then bitsSet 16 t.fabPorts else bitsSet 16 (0xFFFF ^^^ t.fabPorts)

/-- The accesses outstanding on a port. -/
def Fabric.count (f : Fabric) (p : Nat) : Nat := (f.out.filter (fun a => a.fport == p)).length

/-- The port with the fewest outstanding accesses, the lower number on a tie (R578); none when all hold 1,024. -/
def Fabric.pick (f : Fabric) (ports : List Nat) : Option Nat :=
  let best := ports.foldl (fun b p => match b with
    | none => some p
    | some q => if f.count p < f.count q then some p else some q) none
  match best with
  | none => none
  | some p => if f.count p < 1024 then some p else none

/-- The lowest TXID not in use on a port (DEDUCED, log entry 6). -/
def Fabric.freeTxid (f : Fabric) (p : Nat) : Nat :=
  match (List.range 1024).find? (fun t => !f.out.any (fun a => a.fport == p && a.txid == t)) with
  | some t => t
  | none => 0

/-- One access issued, with its 56-bit address, or waiting while every port of its Pavilion is full. -/
def State.issue (s : State) (r : FabRequest) : State :=
  match s.fab.pick (s.fabPortsOf r.pav) with
  | none => s.modFab (fun f => { f with waiting := f.waiting ++ [r] })
  | some p =>
    let a : FabAccess := { fport := p, txid := s.fab.freeTxid p, op := r.op, addr := r.addr % 2 ^ 56, len := r.len, pav := r.pav,
                           data := r.data, subop := r.subop, fmt := r.fmt, use := r.use }
    let bytes := match r.op with
      | .read => (5, r.len)
      | .write => (6, r.len)
      | .atomic => (7, 1)
    (s.modFab (fun f => { f with out := f.out ++ [a], sent := f.sent ++ [a] })).belvAdd 16 (belvId 0 bytes.1) bytes.2

/-- Several accesses issued in order. -/
def State.issueAll (s : State) (l : List FabRequest) : State := l.foldl State.issue s

/-- Accesses nothing waits for any more: their answers are dropped, and those not yet issued are not made. -/
def State.forget (s : State) (f : FabUse → Bool) : State :=
  s.modFab (fun b => { b with out := b.out.map (fun a => if f a.use then { a with use := .gone } else a),
                              waiting := b.waiting.filter (fun a => !f a.use) })

/-- The waiting accesses tried again, oldest first, when a port has come free. -/
def State.issueWaiting (s : State) : State :=
  (s.modFab (fun f => { f with waiting := [] })).issueAll s.fab.waiting

/-- The reads of a range, each in one aligned 256-byte block (R551); `use` is given the offset of the piece in the range. -/
def readPieces (addr len pav : Nat) (use : Nat → FabUse) : List FabRequest :=
  (fabricPieces addr len).map (fun p => { op := .read, addr := p.1, len := p.2, pav := pav, use := use (p.1 - addr) })

/-- The writes of a byte list at an address, each in one aligned 256-byte block. -/
def writePieces (addr : Nat) (data : List Byte) (pav : Nat) (use : Nat → FabUse) : List FabRequest :=
  (fabricPieces addr data.length).map (fun p =>
    { op := .write, addr := p.1, len := p.2, pav := pav, data := slice data (p.1 - addr) p.2, use := use (p.1 - addr) })

/-- Pieces of data put together in ascending offset. -/
def joinPieces (l : List (Nat × List Byte)) : List Byte :=
  (l.foldl (fun t p => Table.insert t p.1 p.2) ([] : Table (List Byte))).flatMap Prod.snd

/-! ### Ranges read whole (R12) -/

/-- What a range holds, once every piece has come or one has failed. -/
def ContentRead.result (c : ContentRead) : Option ReadResult :=
  match c.failed with
  | some r => some r
  | none => if (joinPieces c.got).length < c.len then none else some (.data (joinPieces c.got))

/-- The read of a range in progress or done. -/
def State.contentRead (s : State) (k : ContentKey) : Option ContentRead := s.fab.contents.find? (fun c => c.key == k)

/-- What a range held, once it has been read. -/
def State.content (s : State) (k : ContentKey) : Option ReadResult := (s.contentRead k).bind ContentRead.result

/-- A range is being read. -/
def State.readingContent (s : State) (k : ContentKey) : Bool := (s.contentRead k).any (fun c => c.result.isNone)

/-- A range is needed no more. -/
def State.dropContent (s : State) (k : ContentKey) : State := s.modFab (fun f => { f with contents := f.contents.filter (fun c => c.key != k) })

/-- A range read on the fabric ports. -/
def State.readContent (s : State) (k : ContentKey) (addr len pav : Nat) : State :=
  ((s.dropContent k).modFab (fun f => { f with contents := f.contents ++ [{ key := k, len := len }] })).issueAll (readPieces addr len pav (fun o => .content k o))

/-- What needs a range: its read is issued first, and what it does follows once the range has been read. -/
def State.readThen (s : State) (k : ContentKey) (addr len pav : Nat) (f : ReadResult → State → State) : State :=
  match s.content k with
  | none => s.readContent k addr len pav
  | some x => f x (s.dropContent k)

end Sys2Proof.Machine
end

