-- ==== Sys2Proof/Machine/Routes.lean ====
section
/-!
DEFINITION. Coordinates, routes, datelines, job blocks (R401 to R419), and the queueing of a message on its first hop or for the node itself
(R22, R31).
-/
namespace Sys2Proof.Machine

/-- The coordinates of a node ID (R401). -/
def nodeX (n : Nat) : Nat := n % 16
def nodeY (n : Nat) : Nat := n / 16 % 16
def nodeZ (n : Nat) : Nat := n / 256 % 32

/-- The node ID of coordinates (R401). -/
def nodeId (x y z : Nat) : Nat := z * 256 + y * 16 + x

/-- The coordinate of a node on axis 0 X, 1 Y, 2 Z. -/
def coord (n axis : Nat) : Nat := if axis = 0 then nodeX n else if axis = 1 then nodeY n else nodeZ n

/-- The extent of an axis. -/
def InstallTable.extent (t : InstallTable) (axis : Nat) : Nat := if axis = 0 then t.ex else if axis = 1 then t.ey else t.ez

/-- The record number of a node (R405). -/
def InstallTable.index (t : InstallTable) (n : Nat) : Nat := nodeX n + t.ex * (nodeY n + t.ey * nodeZ n)

/-- The record of a node. -/
def InstallTable.record (t : InstallTable) (n : Nat) : NodeRecord := t.nodes.getD (t.index n) { serial := 0, ports := [] }

/-- Whether a node ID names a node of the pod (R401): inside the extents and not vacant. -/
def InstallTable.names (t : InstallTable) (n : Nat) : Bool :=
  decide (n < 8192) && decide (nodeX n < t.ex) && decide (nodeY n < t.ey) && decide (nodeZ n < t.ez) && decide ((t.record n).serial ≠ 0)

/-- The way along one axis (R412): none, or the direction (true positive) and the hops. -/
def axisWay (n c d : Nat) : Option (Bool × Nat) :=
  let dpos := subMod n d c
  if dpos = 0 then none else if dpos ≤ n - dpos then some (true, dpos) else some (false, n - dpos)

/-- The port of an axis and direction: X+ 0, X− 1, Y+ 2, Y− 3, Z+ 4, Z− 5. -/
def axisPort (axis : Nat) (pos : Bool) : Nat := 2 * axis + (if pos then 0 else 1)

/-- PORT and HOPS of the route table for a destination (R412, R416): 6 for the node itself, 7 where the ID names no node. -/
def routeOf (t : InstallTable) (own dest : Nat) : Nat × Nat :=
  if !t.names dest then (7, 0)
  else if dest = own then (6, 0)
  else
    let ways := [0, 1, 2].map (fun a => axisWay (t.extent a) (coord own a) (coord dest a))
    let hops := ways.foldl (fun h w => h + (match w with | none => 0 | some q => q.2)) 0
    let first := ([0, 1, 2].map (fun a => (a, ways.getD a none))).findSome? (fun q => match q.2 with
      | none => none
      | some w => some (axisPort q.1 w.1))
    (first.getD 6, hops)

/-- The route table entry of a node (R416), when the table is built. -/
def State.routeEntry (s : State) (dest : Nat) : Nat × Nat × Bool :=
  match s.topo.install with
  | none => (7, 0, false)
  | some t => ((routeOf t s.topo.node dest).1, (routeOf t s.topo.node dest).2, s.topo.unreach.testBit dest)

/-- The neighbour of a node across a port (R402). -/
def neighbour (t : InstallTable) (n : Nat) (p : Nat) : Nat :=
  let a := p / 2
  let e := t.extent a
  let c := if p % 2 = 0 then (coord n a + 1) % e else (coord n a + e - 1) % e
  nodeId (if a = 0 then c else nodeX n) (if a = 1 then c else nodeY n) (if a = 2 then c else nodeZ n)

/-- Whether a port sends over the dateline link of its axis (R414). -/
def datelinePort (t : InstallTable) (own p : Nat) : Bool :=
  let c := coord own (p / 2)
  if p % 2 = 0 then c == t.extent (p / 2) - 1 else c == 0

/-- The dateline bit of a unit sent on a port (R414): `arrived` is the port it arrived on and the bit it arrived with. -/
def datelineBit (t : InstallTable) (own p : Nat) (arrived : Option (Nat × Bool)) : Bool :=
  match arrived with
  | none => datelinePort t own p
  | some (a, b) => if a / 2 = p / 2 then b || datelinePort t own p else datelinePort t own p

/-- The next port of a unit (R413): 6 to deliver, 7 for no node of the pod. A unit that arrived on an axis on which its destination
still differs goes on in its direction of travel: out of the port opposite the one it arrived on. -/
def nextPort (t : InstallTable) (own dest : Nat) (arrival : Option Nat) : Nat :=
  if dest = own then 6
  else match arrival with
    | none => (routeOf t own dest).1
    | some a =>
      if !t.names dest then 7
      else if coord dest (a / 2) ≠ coord own (a / 2) then (if a % 2 = 0 then a + 1 else a - 1)
      else (routeOf t own dest).1

/-! ### Job blocks -/

/-- Whether a node lies in a block (R417). -/
def Block.has (b : Block) (t : InstallTable) (n : Nat) : Bool :=
  t.names n && decide (subMod t.ex (nodeX n) b.x0 < b.bx) && decide (subMod t.ey (nodeY n) b.y0 < b.by_) &&
    decide (subMod t.ez (nodeZ n) b.z0 < b.bz)

/-- The limits of R417 on one axis. -/
def blockAxisOk (n o b : Nat) : Bool := decide (o < n) && decide (1 ≤ b) && (decide (b = n) || decide (b ≤ (n + 1) / 2))

/-- A block that R417 allows. -/
def Block.ok (b : Block) (t : InstallTable) : Bool :=
  blockAxisOk t.ex b.x0 b.bx && blockAxisOk t.ey b.y0 b.by_ && blockAxisOk t.ez b.z0 b.bz

/-- The block of the whole pod. -/
def podBlock (t : InstallTable) : Block := { x0 := 0, y0 := 0, z0 := 0, bx := t.ex, by_ := t.ey, bz := t.ez }

/-- The diameter of a block (R419). -/
def Block.diameter (b : Block) (t : InstallTable) : Nat :=
  (if b.bx = t.ex then b.bx / 2 else b.bx - 1) + (if b.by_ = t.ey then b.by_ / 2 else b.by_ - 1) +
    (if b.bz = t.ez then b.bz / 2 else b.bz - 1)

/-- The block of a Pavilion: the tenant's, or the whole pod for Pavilion 0 (R32, R403). -/
def State.blockOf (s : State) (pav : Nat) : Option Block :=
  match s.topo.install with
  | none => none
  | some t =>
    if pav = 0 then some (podBlock t)
    else match s.gate.tenant with
      | none => none
      | some q => if q.num = pav then some q.block else none

/-- Whether a node lies in the block of a Pavilion (R32, R403). -/
def State.inBlock (s : State) (pav node : Nat) : Bool :=
  match s.topo.install, s.blockOf pav with
  | some t, some b => b.has t node
  | _, _ => false

/-! ### Queueing a message -/

/-- A message queued at the node's own completer (6, R31) or on a port in its class (R22, R29, R414); nowhere for 7. -/
def State.sendVia (s : State) (p cls key : Nat) (m : Msg) (ready : Bool := true) (stream : Nat := 0) (tag : Option Nat := none) : State :=
  if p = 6 then
    s.modXfer (fun x => { x with localQ := x.localQ ++ [{ msg := m, vc := 2 * cls, key := key, sub := 0, ready := ready, stream := stream, tag := tag }] })
  else if h : p < 6 then
    let vc := 2 * cls + b2n (s.topo.install.any (fun t => datelineBit t s.topo.node p none))
    s.modPane ⟨p, h⟩ (fun q => { q with txq := q.txq ++ [{ msg := m, vc := vc, key := key, sub := 0, ready := ready, stream := stream, tag := tag }] })
  else s

/-- The first hop to a destination (R413). -/
def State.firstHop (s : State) (dest : Nat) : Nat :=
  match s.topo.install with
  | none => if dest = s.topo.node then 6 else 7
  | some t => nextPort t s.topo.node dest none

/-- A message queued for its destination: at the node's own completer (R31), or on the port of its first hop in its class (R22, R29,
R414). DEDUCED, log entry 91. -/
def State.sendMsg (s : State) (cls key dest : Nat) (m : Msg) (ready : Bool := true) (stream : Nat := 0) (tag : Option Nat := none) : State :=
  s.sendVia (s.firstHop dest) cls key m ready stream tag

/-- The data of a queued message filled in, by its tag, and the message made ready (R187). -/
def readyMsg (tag : Nat) (f : Msg → Msg) (l : List TxMsg) : List TxMsg :=
  l.map (fun q => if q.tag = some tag && !q.ready then { q with msg := f q.msg, ready := true } else q)

/-- The same in every queue of the node. -/
def State.fillMsg (s : State) (tag : Nat) (f : Msg → Msg) : State :=
  (s.modXfer (fun x => { x with localQ := readyMsg tag f x.localQ })).modPorts
    (fun q => { q with pane := { q.pane with txq := readyMsg tag f q.pane.txq } })

/-- A message that will never be sent taken out of the queues. -/
def State.dropMsg (s : State) (tag : Nat) : State :=
  (s.modXfer (fun x => { x with localQ := x.localQ.filter (fun q => q.tag != some tag || q.ready) })).modPorts
    (fun q => { q with pane := { q.pane with txq := q.pane.txq.filter (fun m => m.tag != some tag || m.ready) } })

end Sys2Proof.Machine
end

