-- ==== Sys2Proof/Machine/Images.lean ====
section
/-!
DEFINITION. Program images (R227, R228, R278 to R284, R579): their decoding and the checks of LOAD_PROGRAM.
-/
namespace Sys2Proof.Machine

/-- A conversion descriptor of 24 bytes (R227); none where a reserved bit is set. A field that is not enabled is ignored. -/
def decodeConv (l : List Byte) : Option ConvDesc :=
  let w0 := wordAt l 0
  let w1 := wordAt l 1
  let w2 := wordAt l 2
  if bits w0 31 9 != 0 || bits w2 63 32 != 0 then none
  else some
    { outFmt := bits w0 3 0, rmode := bits w0 5 4, scale := if bit w0 6 then some (BitVec.ofNat 32 (bits w0 63 32)) else none,
      bias := if bit w0 7 then some (BitVec.ofNat 32 (bits w1 31 0)) else none,
      clip := if bit w0 8 then some (BitVec.ofNat 32 (bits w1 63 32), BitVec.ofNat 32 (bits w2 31 0)) else none }

/-- A KIND of R281 as a source; none for KIND 0 and the reserved ones. -/
def sourceOf (k : Nat) : Option Source :=
  if k = 1 then some .input else if k = 2 then some .output else if k = 3 then some .acc else if k = 4 then some .rx0
  else if k = 5 then some .rx1 else if k = 6 then some .result else none

/-- A selector: its source; none where reserved bits are set. -/
def selector (v : Nat) : Option Source := if v % 32 = 0 then sourceOf (v / 32) else none

/-- A selector allowed for a step: the stream it names exists, and RESULT is no operand (R281, R283). -/
def sourceOk (rx0 rx1 asSend : Bool) (s : Source) : Bool :=
  match s with
  | .rx0 => rx0
  | .rx1 => rx1
  | .result => asSend
  | _ => true

/-- A send field (R280): none where a reserved bit is set or a checked field is reserved; `some none` where EN is 0. -/
def decodeSend (w : Word) : Option (Option Send) :=
  if bits w 63 37 != 0 then none
  else if !bit w 13 then some none
  else match selector (bits w 23 16) with
    | none => none
    | some s => if bits w 15 14 = 3 then none else some (some
        { peer := bits w 12 0, dir := bits w 15 14, src := s, slotId := bits w 35 24, lateGo := bit w 36 })

/-- The operands of a step: the selectors before the first KIND 0, the later ones zero (R281). DEDUCED, log entry 67. -/
def decodeSelectors (w : Word) : Option (List Source) :=
  let l := (List.range 8).map (fun i => bits w (8 * i + 7) (8 * i))
  let used := l.takeWhile (fun v => v / 32 != 0)
  if (l.drop used.length).all (fun v => v == 0) && !used.isEmpty then used.mapM selector else none

/-- The first axis on which a node differs from another. -/
def firstAxis (a b : Nat) : Option Nat := [0, 1, 2].find? (fun i => coord a i != coord b i)

/-- The job block wraps on an axis (R418). -/
def Block.wraps (b : Block) (t : InstallTable) (axis : Nat) : Bool :=
  if axis = 0 then b.bx == t.ex else if axis = 1 then b.by_ == t.ey else b.bz == t.ez

/-- DIR of a send is allowed (R280, R283). -/
def dirOk (t : InstallTable) (b : Block) (own : Nat) (s : Send) : Bool :=
  if s.dir = 0 then true
  else match firstAxis own s.peer with
    | none => false
    | some a => b.wraps t a || (match axisWay (t.extent a) (coord own a) (coord s.peer a) with
        | none => true
        | some w => w.1 == (s.dir == 1))

/-- The element size of a stream of a step in its format (R282, R579). -/
def GStep.elemSize (s : GStep) (asInput : Bool) (fmt : Nat) : Nat :=
  match (if asInput then gopIn s.gop else gopOut s.gop) with
  | some l => l.size fmt { rowLen := s.rowLen, g := s.g, k := s.k }
  | none => 0

/-- The format of a step's sends (R280, R246). -/
def GStep.sendFmt (s : GStep) (elem : Nat) (convs : List ConvDesc) : Nat :=
  let acc := (accFormat s.gop elem).getD 0
  if s.txConv = 0 then acc else ((convs[s.txConv - 1]?).map ConvDesc.outFmt).getD acc

/-- E of R579: the largest element of the streams and sends; 0 without any. -/
def GStep.largestElem (s : GStep) (elem : Nat) (convs : List ConvDesc) : Nat :=
  let tx (t : Option Send) : Nat := match t with
    | some q => s.elemSize (q.src != .result) (s.sendFmt elem convs)
    | none => 0
  let rx (r : Option RxStream) : Nat := match r with
    | some q => s.elemSize true q.fmt
    | none => 0
  max (max (rx s.rx0) (rx s.rx1)) (max (tx s.tx0) (tx s.tx1))

/-- A step decoded without its checks against the image (R280); none where a reserved bit or value is set. -/
def decodeStep (l : List Byte) : Option GStep :=
  let w0 := wordAt l 0
  let w1 := wordAt l 1
  let w2 := wordAt l 2
  let w6 := wordAt l 6
  if bits w0 15 13 != 0 || bit w0 23 || bits w0 39 35 != 0 || bits w0 47 46 != 0 || bits w0 63 54 != 0 || bits w6 15 14 != 0 ||
      bits w6 31 20 != 0 || bits w6 47 46 != 0 || bits w6 63 52 != 0 || wordAt l 7 != 0 then none
  else match decodeSelectors (wordAt l 3), decodeSend (wordAt l 4), decodeSend (wordAt l 5) with
    | some ops, some t0, some t1 => some
        { gop := bits w0 7 0, fnMode := bits w0 9 8, sat := bit w0 10, write := bit w0 11, accWr := bit w0 12, k := bits w0 22 16,
          g := bits w0 34 24, wrConv := bits w0 45 40, txConv := bits w0 53 48, rowLen := bits w1 31 0, indexBase := bits w1 63 32,
          segFirst := bits w2 15 0, segCount := bits w2 31 16, txSegFirst := bits w2 47 32, txSegCount := bits w2 63 48, ops := ops,
          tx0 := t0, tx1 := t1, rx0 := if bit w6 13 then some { peer := bits w6 12 0, fmt := bits w6 19 16 } else none,
          rx1 := if bit w6 45 then some { peer := bits w6 44 32, fmt := bits w6 51 48 } else none, chunk := 0 }
    | _, _, _ => none

/-- A conversion a step may name (R228, R246, R283). -/
def convOk (convs : List ConvDesc) (gop acc i : Nat) : Bool :=
  i == 0 || (!isRecord gop && (match convs[i - 1]? with
    | some d => d.okFor acc
    | none => false))

/-- The enabled sends of a step. -/
def GStep.sends (s : GStep) : List Send := s.tx0.toList ++ s.tx1.toList

/-- The BAD_COMMAND conditions of R283 on a step, but for directions. -/
def GStep.ok (s : GStep) (elem nseg chunkLog2 : Nat) (convs : List ConvDesc) : Bool :=
  match accFormat s.gop elem with
  | none => false
  | some acc =>
    let isTop := s.gop == gTopkRow || s.gop == gTopkMerge
    let isAttn := s.gop == gAttnMerge || s.gop == gAttnFinal
    let other := s.sends.any (fun t => t.src != .result)
    (if isTop then decide (1 ≤ s.k) && decide (s.k ≤ 64) else s.k == 0) &&
    (if isAttn then decide (1 ≤ s.g) && decide (s.g ≤ 1024) else s.g == 0) &&
    (if isRow s.gop then s.rowLen != 0 else s.rowLen == 0) &&
    (if s.gop = gTopkRow then decide (s.indexBase + s.rowLen ≤ 0xFFFFFFFF) else s.indexBase == 0) &&
    s.segCount != 0 && decide (s.segFirst + s.segCount ≤ nseg) && convOk convs s.gop acc s.wrConv && convOk convs s.gop acc s.txConv &&
    (s.rx0.toList ++ s.rx1.toList).all (fun r => widens r.fmt acc) &&
    (isMulti s.gop || s.ops.length == 1) && s.ops.all (sourceOk s.rx0.isSome s.rx1.isSome false) &&
    s.sends.all (fun t => sourceOk s.rx0.isSome s.rx1.isSome true t.src) &&
    (if other then s.txSegCount != 0 && decide (s.txSegFirst + s.txSegCount ≤ nseg) else s.txSegFirst == 0 && s.txSegCount == 0) &&
    (s.write || s.accWr || !s.sends.isEmpty) &&
    ((s.sends.isEmpty && s.rx0.isNone && s.rx1.isNone) || decide (0 < 2 ^ chunkLog2 / s.largestElem elem convs))

/-- A step as placed: with the element format it takes, and C of R579. -/
def GStep.withChunk (s : GStep) (elem chunkLog2 : Nat) (convs : List ConvDesc) : GStep :=
  if s.sends.isEmpty && s.rx0.isNone && s.rx1.isNone then { s with elem := elem }
  else { s with elem := elem, chunk := 2 ^ chunkLog2 / s.largestElem elem convs }

/-- The length of an image (R278). -/
def imageBytes (convs steps : Nat) : Nat := 64 + 64 * ceilDiv (24 * convs) 64 + 64 * steps

/-- What an image comes to: a program, or the status that refuses it. -/
inductive Loaded where
  | ok (p : Program)
  | refused (status : Nat)
  deriving DecidableEq, Repr

/-- BAD_COMMAND and DENIED (R89). -/
def badImage : Loaded := .refused 2

/-- A hand-written image (R278 to R283) of a node in a block. -/
def decodeImage (t : InstallTable) (b : Block) (own len : Nat) (l : List Byte) : Loaded :=
  let w0 := wordAt l 0
  let w1 := wordAt l 1
  let w2 := wordAt l 2
  let pers := bit w0 36
  let stepCount := bits w0 18 8
  let convCount := bits w0 45 40
  let elem := bits w0 27 24
  let chunkLog2 := bits w0 35 32
  let nseg := bits w1 15 0
  let acc := bits w1 27 16
  let us := bits w1 63 32
  let base := 64 + 64 * ceilDiv (24 * convCount) 64
  let headOk := bits w0 7 0 == 1 && bits w0 23 19 == 0 && bits w0 31 28 == 0 && bits w0 39 37 == 0 && bits w0 63 46 == 0 &&
    bits w1 31 28 == 0 && decide (1 ≤ stepCount) && decide (stepCount ≤ 1024) && (decide (elem ≤ 4) || elem == 7) &&
    decide (12 ≤ chunkLog2) && decide (chunkLog2 ≤ 18) && decide (convCount ≤ 32) && nseg != 0 && acc % 4 == 0 && decide (acc ≤ 2044) &&
    (us == 0 || (decide (100 ≤ us) && decide (us ≤ 1000000))) && bits w2 31 0 != 0 &&
    (!pers || ([3, 4, 5, 6, 7].all (fun i => bits (wordAt l i) 63 56 == 0) && bits (wordAt l 3) 2 0 == 0 && bits (wordAt l 4) 2 0 == 0 &&
      bits (wordAt l 7) 4 0 == 0))
  if !headOk || len != imageBytes convCount stepCount || l.length != len || !(slice l (64 + 24 * convCount) (base - 64 - 24 * convCount)).all (fun x => x == 0) then badImage
  else match (List.range convCount).mapM (fun i => decodeConv (slice l (64 + 24 * i) 24)),
      (List.range stepCount).mapM (fun i => decodeStep (slice l (base + 64 * i) 64)) with
    | some convs, some steps =>
      if !convs.all ConvDesc.ok || !steps.all (fun s => s.ok elem nseg chunkLog2 convs && s.sends.all (dirOk t b own)) then badImage
      else if steps.any (fun s => s.sends.any (fun q => !b.has t q.peer) || (s.rx0.toList ++ s.rx1.toList).any (fun q => !b.has t q.peer)) then .refused 6
      else .ok
        { elemFmt := elem, chunkLog2 := chunkLog2, persistent := pers, nseg := nseg, accKib := acc, timeoutUs := if us = 0 then 10000 else us,
          count := bits w2 31 0, seed := bits w2 63 32, trigger := bits (wordAt l 3) 55 0, done := bits (wordAt l 4) 55 0,
          input := bits (wordAt l 5) 55 0, output := bits (wordAt l 6) 55 0, status := bits (wordAt l 7) 55 0, convs := convs,
          steps := (steps.zipIdx).map (fun y => { y.1.withChunk elem chunkLog2 convs with num := y.2 }), imageLen := len, digest := sha384 l }
    | _, _ => badImage

/-- The operand-buffer footprint of a program in KiB (R284). -/
def Program.footprint (p : Program) : Nat :=
  let streams := p.steps.foldl (fun n s => n + (s.rx0.toList ++ s.rx1.toList).length) 0
  4 * ceilDiv (p.accKib + 2 * 2 ^ (p.chunkLog2 - 10) * streams) 4

/-- Its program-memory footprint in bytes (R284). -/
def Program.memory (p : Program) : Nat := 256 * ceilDiv p.imageLen 256

end Sys2Proof.Machine
end

