-- ==== Sys2Proof/Machine/Library.lean ====
section
/-!
DEFINITION. Library collectives (R245, R296 to R298, R300): library descriptors, their checks, and the programs they expand into. The spec
gives an expansion by its stages, steps, peers and orders; what it does not give is chosen here. DESIGN CHOICE, log entry 13.
-/
namespace Sys2Proof.Machine

/-! ### Library descriptors (R296) -/

/-- The GOPs a KIND allows. -/
def libGops (kind : Nat) : List Nat :=
  if kind = 1 || kind = 2 then [gSum, gMax, gMin] else if kind = 3 then [gMove]
  else if kind = 4 then [gSmxMerge, gAttnMerge, gMomMerge, gSsqMerge, gTopkMerge] else []

/-- The final GOP of an ALL_MERGE. -/
def libFinal (gop : Nat) : Option Nat :=
  if gop = gAttnMerge then some gAttnFinal else if gop = gMomMerge then some gMomFinal else if gop = gSsqMerge then some gSsqFinal else none

/-- The fields of a library descriptor. -/
structure LibDesc where
  kind : Nat
  gop : Nat
  elem : Nat
  axes : Nat
  persistent : Bool
  fnMode : Nat
  sat : Bool
  final : Bool
  k : Nat
  g : Nat
  conv : ConvDesc
  deriving DecidableEq, Repr

/-- The selected axes, X first. -/
def LibDesc.axisList (d : LibDesc) : List Nat := bitsSet 3 d.axes

/-- How many programs a descriptor expands into (R297): one for each selected axis, one for ALL_MERGE. -/
def LibDesc.count (d : LibDesc) : Nat := if d.kind = 4 then 1 else d.axisList.length

/-- The BAD_COMMAND conditions of a library descriptor (R228, R279, R280, R283, R296); words that only a persistent program uses are not checked
for another. -/
def libOk (l : List Byte) : Bool :=
  let w0 := wordAt l 0
  let gop := bits w0 19 12
  let elem := bits w0 23 20
  let pers := bit w0 27
  let final := bit w0 31
  let us := bits (wordAt l 11) 31 0
  let last := if final then (libFinal gop).getD gop else gop
  let pers5 : Bool := [8, 9, 10].all (fun i => bits (wordAt l i) 63 56 == 0) && bits (wordAt l 8) 2 0 == 0 && bits (wordAt l 9) 2 0 == 0 &&
    bits (wordAt l 10) 4 0 == 0
  bits w0 7 0 == 0x80 && decide (gop ∈ libGops (bits w0 11 8)) && bit w0 39 == false && bits w0 63 51 == 0 && bits w0 26 24 != 0 &&
  (pers || bits w0 11 8 == 4 || (bitsSet 3 (bits w0 26 24)).length == 1) && (!final || (libFinal gop).isSome) &&
  (if gop = gTopkMerge then decide (1 ≤ bits w0 38 32) && decide (bits w0 38 32 ≤ 64) else bits w0 38 32 == 0) &&
  (if gop = gAttnMerge then decide (1 ≤ bits w0 50 40) && decide (bits w0 50 40 ≤ 1024) else bits w0 50 40 == 0) &&
  bits (wordAt l 1) 31 0 != 0 && bits (wordAt l 2) 63 0 == 0 &&
  [6, 7].all (fun i => bits (wordAt l i) 63 56 == 0) && (!pers || pers5) &&
  bits (wordAt l 11) 63 32 == 0 && (us == 0 || (decide (100 ≤ us) && decide (us ≤ 1000000))) &&
  (slice l 96 32).all (fun x => x == 0) && (decide (elem ≤ 4) || elem == 7) &&
  (match accFormat gop elem, decodeConv (slice l 24 24) with
    | some acc, some d => if isRecord last then d.ok else d.okFor acc
    | _, _ => false)

/-- The fields of a descriptor whose conversion is decoded. -/
def libDesc (l : List Byte) (c : ConvDesc) : LibDesc :=
  let w0 := wordAt l 0
  { kind := bits w0 11 8, gop := bits w0 19 12, elem := bits w0 23 20, axes := bits w0 26 24, persistent := bit w0 27, fnMode := bits w0 29 28,
    sat := bit w0 30, final := bit w0 31, k := bits w0 38 32, g := bits w0 50 40, conv := c }

/-! ### Ranks (R296) -/

def Block.origin (b : Block) (axis : Nat) : Nat := if axis = 0 then b.x0 else if axis = 1 then b.y0 else b.z0
def Block.len (b : Block) (axis : Nat) : Nat := if axis = 0 then b.bx else if axis = 1 then b.by_ else b.bz

/-- A node's coordinate in a block. -/
def Block.place (b : Block) (t : InstallTable) (axis n : Nat) : Nat := subMod (t.extent axis) (coord n axis) (b.origin axis)

/-- The node at a coordinate of a block on one axis, all else as a given node has it. -/
def Block.nodeOn (b : Block) (t : InstallTable) (own axis i : Nat) : Nat :=
  let c := (b.origin axis + i) % t.extent axis
  nodeId (if axis = 0 then c else nodeX own) (if axis = 1 then c else nodeY own) (if axis = 2 then c else nodeZ own)

/-- The rank of a node over the selected axes of a block. -/
def Block.rank (b : Block) (t : InstallTable) (axes n : Nat) : Nat :=
  ((bitsSet 3 axes).foldl (fun (a : Nat × Nat) i => (a.1 + a.2 * b.place t i n, a.2 * b.len i)) (0, 1)).1

/-- The node of a rank over the selected axes. -/
def Block.ofRank (b : Block) (t : InstallTable) (axes own r : Nat) : Nat :=
  ((bitsSet 3 axes).foldl (fun (a : Nat × Nat) i => (b.nodeOn t a.1 i (a.2 % b.len i), a.2 / b.len i)) (own, r)).1

/-- How many ranks there are. -/
def Block.ranks (b : Block) (axes : Nat) : Nat := (bitsSet 3 axes).foldl (fun a i => a * b.len i) 1

/-! ### The stages of a ring (R297, R298) -/

/-- One stage: its axis and extent; the segment its own block starts at; the segments of each of its sub-blocks. -/
structure Stage where
  axis : Nat
  n : Nat
  start : Nat
  len : Nat
  deriving DecidableEq, Repr

/-- The stages over axes, outermost first: each divides the block the node owns after the one before. The innermost sub-block has two segments, one
for each half. -/
def stagesOf (b : Block) (t : InstallTable) (own : Nat) : Nat → List Nat → List Stage
  | _, [] => []
  | start, a :: r =>
    let len := r.foldl (fun n i => n * b.len i) 2
    { axis := a, n := b.len a, start := start, len := len } :: stagesOf b t own (start + b.place t a own * len) r

/-- The ring order on an axis: by coordinate where the block wraps, folded elsewhere. -/
def ringOrder (wraps : Bool) (n : Nat) : List Nat :=
  if wraps then List.range n
  else (List.range n).filter (fun i => i % 2 == 0) ++ ((List.range n).filter (fun i => i % 2 == 1)).reverse

/-- A half of a stage as one node sees it: the ring, its place in it, and whether data moves forward. -/
structure RingHalf where
  order : List Nat
  q : Nat
  forward : Bool

/-- The coordinate `x` places behind this node, against the direction data moves in. -/
def RingHalf.back (h : RingHalf) (x : Nat) : Nat :=
  h.order.getD (if h.forward then subMod h.order.length h.q x else (h.q + x) % h.order.length) 0

/-- What every step of an expansion has in common. -/
def LibDesc.step (d : LibDesc) (num : Nat) : GStep :=
  { gop := d.gop, fnMode := d.fnMode, sat := d.sat, write := false, accWr := false, k := d.k, g := d.g, wrConv := 0, txConv := 0, rowLen := 0,
    indexBase := 0, segFirst := 0, segCount := 1, txSegFirst := 0, txSegCount := 0, ops := [], tx0 := none, tx1 := none, rx0 := none,
    rx1 := none, chunk := 0, num := num, elem := d.elem }

/-- A ring step of one half (`x`): it receives one range from the node behind and sends another to the node ahead. -/
def GStep.ring (s : GStep) (x : Nat) (send recv : Nat × Nat) (src : Source) (prev next dir fmt : Nat) : GStep :=
  let tx : Option Send := some { peer := next, dir := dir, src := src, slotId := 0, lateGo := false }
  let rx : Option RxStream := some { peer := prev, fmt := fmt }
  { s with
    segFirst := recv.1, segCount := recv.2, txSegFirst := send.1, txSegCount := send.2,
    tx0 := if x = 0 then tx else none, tx1 := if x = 0 then none else tx, rx0 := if x = 0 then rx else none, rx1 := if x = 0 then none else rx }

/-- The halves a stage runs at once: two on an axis on which the block wraps, one elsewhere. -/
def ringHalves (wraps : Bool) : List Nat := if wraps then [0, 1] else [0]

/-- The segments of a half of the sub-block of a coordinate. -/
def Stage.range (g : Stage) (wraps : Bool) (x j : Nat) : Nat × Nat :=
  if wraps then (g.start + j * g.len + x * (g.len / 2), g.len / 2) else (g.start + j * g.len, g.len)

/-- A stage at one node: what its steps are built from. -/
structure StageAt where
  g : Stage
  wraps : Bool
  q : Nat
  nodes : List Nat

def stageAt (b : Block) (t : InstallTable) (own : Nat) (g : Stage) : StageAt :=
  let w := b.wraps t g.axis
  { g := g, wraps := w, q := ((ringOrder w g.n).findIdx? (fun i => i == b.place t g.axis own)).getD 0,
    nodes := (List.range g.n).map (fun i => b.nodeOn t own g.axis i) }

/-- One step of a stage: a step for each half, in which `f` gives the sub-blocks sent and received and completes it. -/
def StageAt.steps (a : StageAt) (base : GStep) (fmt : Nat) (src : Source) (f : RingHalf → Nat × Nat) (complete : RingHalf → Source → GStep → GStep) :
    List GStep :=
  (ringHalves a.wraps).map (fun x =>
    let h : RingHalf := { order := ringOrder a.wraps a.g.n, q := a.q, forward := x == 0 }
    let j := f h
    complete h (if x = 0 then .rx0 else .rx1)
      (base.ring x (a.g.range a.wraps x j.1) (a.g.range a.wraps x j.2) src (a.nodes.getD (h.back 1) 0) (a.nodes.getD (h.back (a.g.n - 1)) 0)
        (if a.wraps then x + 1 else 0) fmt))

/-- Step `i` of a reduce-scatter stage (R298): what comes has been combined over the nodes behind, and this node's operand is combined with it, the
operand of the lower ranks named first (R245). The last step of the last stage writes the result. -/
def LibDesc.reduceStep (d : LibDesc) (a : StageAt) (acc num i : Nat) (first last : Bool) : List GStep :=
  let own : Source := if first then .input else .acc
  a.steps (d.step num) acc (if i = 0 then own else .acc) (fun h => (h.back (i + 1), h.back (i + 2))) (fun h rx s =>
    let lower := (List.range (i + 1)).all (fun y => decide (h.back 0 < h.back (y + 1)))
    let fin := last && i + 2 == a.g.n
    { s with ops := if lower then [own, rx] else [rx, own], write := fin, accWr := !fin, wrConv := if fin then 1 else 0 })

/-- Step `i` of an all-gather stage: what comes is written as it is, in the output format, and sent on in the next step. -/
def LibDesc.gatherStep (d : LibDesc) (a : StageAt) (num i : Nat) : List GStep :=
  a.steps { d.step num with gop := gMove, sat := false, fnMode := 0, elem := d.conv.outFmt } d.conv.outFmt .output
    (fun h => (h.back i, h.back (i + 1))) (fun _ rx s => { s with ops := [rx], write := true })

/-- The reduce-scatter stages, each of n − 1 steps. -/
def LibDesc.reduceSteps (d : LibDesc) (acc : Nat) : Bool → Nat → List StageAt → List GStep
  | _, _, [] => []
  | first, num, a :: r =>
    (List.range (a.g.n - 1)).flatMap (fun i => d.reduceStep a acc (num + i) i first r.isEmpty) ++ d.reduceSteps acc false (num + (a.g.n - 1)) r

/-- The all-gather stages. -/
def LibDesc.gatherSteps (d : LibDesc) : Nat → List StageAt → List GStep
  | _, [] => []
  | num, a :: r => (List.range (a.g.n - 1)).flatMap (fun i => d.gatherStep a (num + i) i) ++ d.gatherSteps (num + (a.g.n - 1)) r

/-- A step that brings segments of the input to the output through the final conversion. -/
def LibDesc.copyStep (d : LibDesc) (num first count : Nat) : GStep :=
  { d.step num with ops := [.input], write := true, wrConv := 1, segFirst := first, segCount := count }

/-- The steps of program `p` of ALL_REDUCE, REDUCE_SCATTER and ALL_GATHER (R297): it takes part `p` and visits the axes rotated left by `p`. -/
def LibDesc.ringSteps (d : LibDesc) (b : Block) (t : InstallTable) (own p : Nat) : List GStep :=
  let visit := d.axisList.rotateLeft p
  let part := 2 * b.ranks d.axes
  let stages := stagesOf b t own (p * part) (if d.kind = 3 then visit.reverse else visit)
  let ats := (stages.filter (fun g => g.n != 1)).map (stageAt b t own)
  let mine := match stages.getLast? with
    | some g => g.start + b.place t g.axis own * g.len
    | none => p * part
  let sum := (ats.map (fun a => a.g.n - 1)).sum
  if ats.isEmpty then [d.copyStep 0 (p * part) part]
  else if d.kind = 3 then d.copyStep 0 mine 2 :: d.gatherSteps 1 ats.reverse
  else d.reduceSteps ((accFormat d.gop d.elem).getD 0) true 0 ats ++ (if d.kind = 1 then d.gatherSteps sum ats.reverse else [])

/-! ### ALL_MERGE (R298) -/

/-- The direction an exchange by recursive doubling takes on an axis (R26): the shorter way round where the block wraps, and of two equal ways the
positive one for even coordinates; toward the partner elsewhere. -/
def exchangeDir (wraps : Bool) (n c dist : Nat) : Nat :=
  if wraps && 2 * dist == n then (if c % 2 = 0 then 1 else 2) else if c / dist % 2 = 0 then 1 else 2

/-- The axis a rank and its partner differ on, and how far along it. -/
def partnerAxis (b : Block) : List Nat → Nat → Nat × Nat
  | [], _ => (0, 1)
  | a :: r, dist => if dist < b.len a then (a, dist) else partnerAxis b r (dist / b.len a)

/-- A merge step: the operand of the lower ranks is named first (R245). -/
def LibDesc.mergeStep (d : LibDesc) (num acc peer : Nat) (cur : Source) (lower : Bool) : GStep :=
  { d.step num with ops := if lower then [cur, .rx0] else [.rx0, cur], accWr := true, rx0 := some { peer := peer, fmt := acc } }

/-- A step that keeps the current operand, and sends it where a peer is given. -/
def LibDesc.keepStep (d : LibDesc) (num : Nat) (cur : Source) (peer : Option Nat) : GStep :=
  { d.step num with
    ops := [cur], accWr := true, tx0 := peer.map (fun p => { peer := p, dir := 0, src := .result, slotId := 0, lateGo := false }) }

/-- Step `s` of recursive doubling: rank r and rank r XOR 2^s exchange their operands, and both merge the lower with the upper. -/
def LibDesc.doubleStep (d : LibDesc) (b : Block) (t : InstallTable) (own acc s : Nat) : GStep :=
  let r := b.rank t d.axes own
  let peer := b.ofRank t d.axes own (r ^^^ 2 ^ s)
  let cur : Source := if s = 0 then .input else .acc
  let x := partnerAxis b d.axisList (2 ^ s)
  { d.mergeStep s acc peer cur (!r.testBit s) with
    txSegCount := 1
    tx0 := some { peer := peer, dir := exchangeDir (b.wraps t x.1) (b.len x.1) (b.place t x.1 own) x.2, src := cur, slotId := 0, lateGo := false } }

/-- Level `i` of the canonical tree on the way to rank 0: of two neighbouring groups the upper one's first rank sends to the lower one's. -/
def LibDesc.upStep (d : LibDesc) (b : Block) (t : InstallTable) (own acc i : Nat) : GStep :=
  let r := b.rank t d.axes own
  let cur : Source := if i = 0 then .input else .acc
  if r % 2 ^ (i + 1) = 0 && decide (r + 2 ^ i < b.ranks d.axes) then d.mergeStep i acc (b.ofRank t d.axes own (r + 2 ^ i)) cur true
  else d.keepStep i cur (if r % 2 ^ (i + 1) = 2 ^ i then some (b.ofRank t d.axes own (r - 2 ^ i)) else none)

/-- Level `i` on the way back, as step `num`. -/
def LibDesc.downStep (d : LibDesc) (b : Block) (t : InstallTable) (own acc num i : Nat) : GStep :=
  let r := b.rank t d.axes own
  if r % 2 ^ (i + 1) = 2 ^ i then
    { d.step num with ops := [.rx0], accWr := true, rx0 := some { peer := b.ofRank t d.axes own (r - 2 ^ i), fmt := acc } }
  else d.keepStep num .acc (if r % 2 ^ (i + 1) = 0 && decide (r + 2 ^ i < b.ranks d.axes) then some (b.ofRank t d.axes own (r + 2 ^ i)) else none)

/-- The steps of an ALL_MERGE: recursive doubling for a power of two of ranks, else the canonical tree to rank 0 and back; then the result is
written, by the final GOP where FINAL asks for it. -/
def LibDesc.mergeSteps (d : LibDesc) (b : Block) (t : InstallTable) (own : Nat) : List GStep :=
  let n := b.ranks d.axes
  let acc := (accFormat d.gop d.elem).getD 0
  let levels := if n ≤ 1 then 0 else (n - 1).log2 + 1
  let l := if 2 ^ levels = n then (List.range levels).map (d.doubleStep b t own acc)
    else (List.range levels).map (d.upStep b t own acc) ++
      ((List.range levels).map (fun j => d.downStep b t own acc (levels + j) (levels - 1 - j)))
  let gop := if d.final then (libFinal d.gop).getD d.gop else d.gop
  l ++ [{ d.step l.length with gop := gop, ops := [if levels = 0 then .input else .acc], write := true, wrConv := if isRecord gop then 0 else 1,
                               g := if gop = gMomFinal || gop = gSsqFinal then 0 else d.g }]

/-! ### The programs of a descriptor -/

/-- The number of steps of a program, in which the two halves of a ring step count once. -/
def stepTotal (l : List GStep) : Nat :=
  match l.getLast? with
  | some s => s.num + 1
  | none => 0

/-- Program `i` of a library set. -/
def LibDesc.program (d : LibDesc) (l : List Byte) (b : Block) (t : InstallTable) (own i : Nat) : Program :=
  let us := bits (wordAt l 11) 31 0
  let steps := if d.kind = 4 then d.mergeSteps b t own else d.ringSteps b t own i
  let wide := steps.any (fun s => decide (4096 < s.largestElem s.elem [d.conv]))
  let log := if wide then 13 else 12
  { elemFmt := d.elem, chunkLog2 := log, persistent := d.persistent, nseg := if d.kind = 4 then 1 else d.count * (2 * b.ranks d.axes),
    accKib := 0, timeoutUs := if us = 0 then 10000 else us, count := bits (wordAt l 1) 31 0, seed := bits (wordAt l 1) 63 32,
    trigger := bits (wordAt l 8) 55 0, done := bits (wordAt l 9) 55 0, input := bits (wordAt l 6) 55 0, output := bits (wordAt l 7) 55 0,
    status := bits (wordAt l 10) 55 0 + 32 * i, convs := [d.conv], steps := steps.map (fun s => s.withChunk s.elem log [d.conv]),
    imageLen := imageBytes 1 (stepTotal steps), library := true, axes := d.axes,
    digest := sha384 (Config.libraryImage l [b.x0, b.y0, b.z0, b.bx, b.by_, b.bz] own i) }

/-- The peers of a program. -/
def Program.peers (p : Program) : List Nat :=
  p.steps.flatMap (fun s => s.sends.map Send.peer ++ (s.rx0.toList ++ s.rx1.toList).map RxStream.peer)

/-- The programs of a library descriptor, or the status that refuses it. -/
def decodeLibrary (t : InstallTable) (b : Block) (own len : Nat) (l : List Byte) : Except Nat (List Program) :=
  match decodeConv (slice l 24 24) with
  | none => .error 2
  | some c =>
    if len != 128 || l.length != 128 || !libOk l then .error 2
    else
      let d := libDesc l c
      let ps := (List.range d.count).map (d.program l b t own)
      if ps.any (fun p => p.peers.any (fun n => !b.has t n)) then .error 6 else .ok ps

end Sys2Proof.Machine
end

