-- ==== Sys2Proof/Machine/Operands.lean ====
section
/-!
DEFINITION. The decoders of the records read from carrier memory: ring entries (R98, R99), buffer headers (R127, R129), operations (R139 to
R156, R162) and window descriptors (R164, R165).
-/
namespace Sys2Proof.Machine

/-- A local address field: bits 55:0 of a word with bits 63:56 reserved (R147). -/
def addrOk (w : Word) : Bool := bits w 63 56 == 0
def addrOf (w : Word) : Nat := bits w 55 0

/-- The first word of a remote address keeps its reserved bits (R147). -/
def remote1Ok (w : Word) : Bool := bits w 63 56 == 0

/-- A remote address of its two words (R147). -/
def remoteOf (w1 w2 : Word) : Remote := { node := bits w2 12 0, window := bits w1 55 40, offset := bits w1 39 0 }

/-- A ring entry (R98): BUFFER and LINES; none when it is faulty (R99). -/
def decodeEntry (l : List Byte) : Option (Nat × Nat) :=
  let w0 := wordAt l 0
  let w1 := wordAt l 1
  if bits w0 63 56 == 0 && bits w0 5 0 == 0 && bits w1 63 11 == 0 && decide (2 ≤ bits w1 10 0) && decide (bits w1 10 0 ≤ 1025)
  then some (bits w0 55 0, bits w1 10 0) else none

/-- A buffer header (R127) checked as R129 states; none when it is faulty. -/
def decodeHeader (l : List Byte) (lines : Nat) : Option BufHeader :=
  let w0 := wordAt l 0
  let w1 := wordAt l 1
  let w2 := wordAt l 2
  let w3 := wordAt l 3
  let w5 := wordAt l 5
  let recEn := bit w0 16
  let sigEn := bit w0 17
  let ok := bits w0 31 24 == 1 && bits w0 15 11 == 0 && bits w0 23 19 == 0 && bits w1 63 56 == 0 && bits w2 63 56 == 0 &&
    bits w3 63 13 == 0 && bits w5 63 8 == 0 && decide (wordAt l 7 = 0) && decide (1 ≤ bits w0 10 0) && decide (bits w0 10 0 ≤ 1024) &&
    bits w0 10 0 + 1 == lines && (!recEn || bits w1 4 0 == 0) && (!sigEn || bits w2 2 0 == 0)
  if ok then some
    { opCount := bits w0 10 0, recordEn := recEn, sigwordEn := sigEn, fenceEntry := bit w0 18, layerId := bits w0 47 32,
      operatorId := bits w0 63 48, recordAddr := bits w1 55 0, sigOffset := bits w2 39 0, sigWindow := bits w2 55 40,
      sigNode := bits w3 12 0, sigValue := wordAt l 4, attrBin := bits w5 7 0, userTag := wordAt l 6 }
  else none

/-- A range that runs past 2⁵⁶ − 1 (R148). -/
def pastEnd (a n : Nat) : Bool := decide (2 ^ 56 < a + n)

/-- Words that are all zero (R162). -/
def zeroWords (l : List Byte) (ws : List Nat) : Bool := ws.all (fun i => decide (wordAt l i = 0))

/-- The fields of PUT and GET share one layout (R150): local address, remote address, LENGTH, MEASURE_SLOT. -/
def decodePutGet (l : List Byte) (put : Bool) : Option OpBody :=
  let a := wordAt l 1
  let r1 := wordAt l 2
  let r2 := wordAt l 3
  let n := bits (wordAt l 4) 39 0
  let ok := addrOk a && remote1Ok r1 && bits r2 63 13 == 0 && bits (wordAt l 4) 63 40 == 0 && bits (wordAt l 5) 63 8 == 0 &&
    zeroWords l [6, 7] && decide (n ≠ 0) && !pastEnd (addrOf a) n
  if ok then
    if put then some (.put (addrOf a) (remoteOf r1 r2) n (bits (wordAt l 5) 7 0))
    else some (.get (addrOf a) (remoteOf r1 r2) n (bits (wordAt l 5) 7 0))
  else none

/-- PUT_INLINE (R151). -/
def decodePutInline (l : List Byte) : Option OpBody :=
  let r1 := wordAt l 1
  let r2 := wordAt l 2
  let n := bits r2 21 16
  let ok := remote1Ok r1 && bits r2 15 13 == 0 && bits r2 63 22 == 0 && zeroWords l [7] && decide (1 ≤ n) && decide (n ≤ 32) &&
    decide (bits r1 11 0 + n ≤ 4096)
  if ok then some (.putInline (remoteOf r1 r2) n (slice l 24 n)) else none

/-- COPY (R152). -/
def decodeCopy (l : List Byte) : Option OpBody :=
  let s1 := wordAt l 1
  let s2 := wordAt l 2
  let d1 := wordAt l 3
  let d2 := wordAt l 4
  let n := bits (wordAt l 5) 39 0
  let far := bit s2 16
  let ok := remote1Ok s1 && bits s2 15 13 == 0 && bits s2 63 17 == 0 && remote1Ok d1 && bits d2 63 13 == 0 &&
    bits (wordAt l 5) 63 40 == 0 && bits (wordAt l 6) 63 8 == 0 && zeroWords l [7] && decide (n ≠ 0) &&
    (far || !pastEnd (addrOf s1) n)
  if ok then some (.copy (if far then .remote (remoteOf s1 s2) else .localAddr (addrOf s1)) (remoteOf d1 d2) n (bits (wordAt l 6) 7 0))
  else none

/-- KVMOVE (R153). -/
def decodeKvMove (l : List Byte) : Option OpBody :=
  let w1 := wordAt l 1
  let w2 := wordAt l 2
  let w3 := wordAt l 3
  let w4 := wordAt l 4
  let w5 := wordAt l 5
  let w6 := wordAt l 6
  let k : KvMove :=
    { srcWindow := bits w1 15 0, srcNode := bits w1 28 16, dstWindow := bits w2 15 0, dstNode := bits w2 28 16,
      srcSeq := bits w3 31 0, dstSeq := bits w3 63 32, srcToken := bits w4 21 0, dstToken := bits w4 53 32, tokenCount := bits w5 22 0,
      layerFirst := bits w5 47 32, layerCount := bits w5 63 48, hgFirst := bits w6 7 0, hgCount := bits w6 16 8 }
  let ok := bits w1 63 29 == 0 && bits w2 63 29 == 0 && bits w4 31 22 == 0 && bits w4 63 54 == 0 && bits w5 31 23 == 0 &&
    bits w6 63 17 == 0 && zeroWords l [7] && decide (k.tokenCount ≠ 0) && decide (k.layerCount ≠ 0) && decide (k.hgCount ≠ 0) &&
    decide (k.hgCount ≤ 256) && decide (k.srcToken + k.tokenCount ≤ 4194304) && decide (k.dstToken + k.tokenCount ≤ 4194304) &&
    decide (k.hgFirst + k.hgCount ≤ 256) && decide (k.layerFirst + k.layerCount ≤ 65536)
  if ok then some (.kvmove k) else none

/-- ATOMIC (R47, R154, R155). DEDUCED, log entry 48. -/
def decodeAtomic (l : List Byte) : Option OpBody :=
  let t1 := wordAt l 1
  let t2 := wordAt l 2
  let w3 := wordAt l 3
  let operand := wordAt l 4
  let operand2 := wordAt l 5
  let newLo := wordAt l 6
  let newHi := wordAt l 7
  let sub := bits t2 23 16
  let fmt := bits t2 26 24
  let sz := fmtSize fmt
  let ret := bit w3 63
  let ra := bits w3 55 0
  let ok := remote1Ok t1 && bits t2 15 13 == 0 && bits t2 63 27 == 0 && bits w3 62 56 == 0 && subopFmtOk sub fmt &&
    bits t1 39 0 % sz == 0 && (!ret || (ra % sz == 0 && !pastEnd ra sz)) && (8 ≤ sz || decide (operand.toNat < 2 ^ (8 * sz))) &&
    (sub == 0x08 || sub == 0x09 || decide (operand2 = 0)) && (sub == 0x09 || (decide (newLo = 0) && decide (newHi = 0)))
  if ok then some (.atomic
    { tgt := remoteOf t1 t2, subop := sub, fmt := fmt, ret := ret, resultAddr := ra, operand := operand,
      operand2 := operand2, newLo := newLo, newHi := newHi }) else none

/-- WAIT (R157, R159, R160). -/
def decodeWait (l : List Byte) : Option OpBody :=
  let a := wordAt l 1
  let t := bits (wordAt l 3) 31 0
  let ok := addrOk a && bits a 2 0 == 0 && bits (wordAt l 3) 63 32 == 0 && zeroWords l [4, 5, 6, 7] && (t == 0 || decide (1000 ≤ t))
  if ok then some (.wait (addrOf a) (wordAt l 2) (if t = 0 then 10000000 else t)) else none

/-- SIGNAL (R157, R158). -/
def decodeSignal (l : List Byte) : Option OpBody :=
  let a := wordAt l 1
  let b := wordAt l 2
  let ok := addrOk a && bits a 2 0 == 0 && bits b 15 13 == 0 && bits b 63 19 == 0 && bits b 18 17 != 3 && zeroWords l [4, 5, 6, 7]
  if ok then some (.signal (if bit b 16 then .remote (remoteOf a b) else .localAddr (addrOf a)) (bits b 18 17) (wordAt l 3)) else none

/-- GATHER_RUN (R156, R157). -/
def decodeGatherRun (l : List Byte) : Option OpBody :=
  let w1 := wordAt l 1
  let i := wordAt l 2
  let o := wordAt l 3
  let w4 := wordAt l 4
  let d := wordAt l 5
  let w6 := wordAt l 6
  let ok := bits w1 7 6 == 0 && bits w1 63 40 == 0 && addrOk i && addrOk o && addrOk d && bits d 2 0 == 0 && bits w6 63 1 == 0 &&
    zeroWords l [7]
  if ok then some (.gatherRun
    { program := bits w1 5 0, progTag := bits w1 39 8, input := addrOf i, output := addrOf o,
      count := bits w4 31 0, seed := bits w4 63 32, seedEn := bit w6 0, doneSem := addrOf d }) else none

/-- The body of an operation by its OPCODE (R146); none when the code is reserved or a field breaks its rule (R162). -/
def decodeBody (code : Nat) (l : List Byte) : Option OpBody :=
  if code = 0x00 then (if zeroWords l [1, 2, 3, 4, 5, 6, 7] then some .nop else none)
  else if code = 0x01 then decodePutGet l true
  else if code = 0x02 then decodePutGet l false
  else if code = 0x03 then decodeCopy l
  else if code = 0x04 then decodePutInline l
  else if code = 0x08 then decodeKvMove l
  else if code = 0x10 then decodeAtomic l
  else if code = 0x20 then decodeWait l
  else if code = 0x21 then decodeSignal l
  else if code = 0x22 then (if zeroWords l [1, 2, 3, 4, 5, 6, 7] then some .fence else none)
  else if code = 0x30 then decodeGatherRun l
  else none

/-- ORDERED is permitted on the operation (R56, R146). -/
def orderedOk : OpBody → Bool
  | .put .. => true
  | .get .. => true
  | .copy (.localAddr _) .. => true
  | .putInline .. => true
  | .kvmove _ => true
  | .atomic _ => true
  | .signal .. => true
  | _ => false

/-- MEASURE is permitted on the operation (R141, R146). -/
def measureOk : OpBody → Bool
  | .put .. => true
  | .get .. => true
  | .copy .. => true
  | _ => false

/-- An operation of 64 bytes at its index (R139, R140, R146, R162); none when it is malformed. -/
def decodeOp (l : List Byte) (index : Nat) : Option Operation :=
  let w := wordAt l 0
  let deps := [(16, bits w 33 24), (17, bits w 43 34), (18, bits w 53 44), (19, bits w 63 54)].filterMap
    (fun p => if bit w p.1 then some p.2 else none)
  if bits w 15 10 != 0 || bits w 23 20 != 0 || deps.any (fun d => decide (index ≤ d)) then none
  else match decodeBody (bits w 7 0) l with
    | none => none
    | some b =>
      if (bit w 8 && !orderedOk b) || (bit w 9 && !measureOk b) then none
      else some { ordered := bit w 8, measure := bit w 9, deps := deps.eraseDups, body := b }

/-! ### Window descriptors -/

/-- A window descriptor of 32 bytes (R164, R165); none when it breaks them. -/
def decodeWindow (l : List Byte) : Option WinDesc :=
  let w0 := wordAt l 0
  let w1 := wordAt l 1
  let w2 := wordAt l 2
  let w3 := wordAt l 3
  let kind := bits w0 1 0
  let common := bits w0 7 5 == 0 && bits w0 15 12 == 0 && bits w0 63 21 == 0 && bits w2 63 56 == 0 && bits w3 63 48 == 0
  let base : WinDesc :=
    { kind := .linear, permR := bit w0 2, permW := bit w0 3, permA := bit w0 4, pav := bits w0 11 8, pageLog2 := 0,
      size := 0, seqCount := 0, maxTokensLog2 := 0, base := bits w2 55 0, layers := 0, hgTotal := 0, pageTokensLog2 := 0, entryBytes := 0 }
  let size := bits w1 40 0
  let sizeOk := bits w1 63 41 == 0 && decide (1 ≤ size) && decide (size ≤ 2 ^ 40)
  if kind = 0 then
    if common && bits w0 20 16 == 0 && sizeOk && bits w2 11 0 == 0 && decide (w3 = 0) then some { base with size := size } else none
  else if kind = 1 then
    if common && decide (12 ≤ bits w0 20 16) && decide (bits w0 20 16 ≤ 30) && sizeOk && bits w2 2 0 == 0 && decide (w3 = 0) then
      some { base with kind := .paged, pageLog2 := bits w0 20 16, size := size } else none
  else if kind = 2 then
    let mt := bits w1 36 32
    let pt := bits w3 28 25
    let eb := bits w3 47 32
    if common && bits w0 20 16 == 0 && bits w1 63 37 == 0 && decide (1 ≤ bits w1 31 0) && decide (4 ≤ mt) && decide (mt ≤ 22) &&
      bits w2 3 0 == 0 && decide (1 ≤ bits w3 15 0) && decide (1 ≤ bits w3 24 16) && decide (bits w3 24 16 ≤ 256) && decide (4 ≤ pt) &&
      decide (pt ≤ 10) && bits w3 31 29 == 0 && decide (16 ≤ eb) && decide (eb ≤ 65520) && eb % 16 == 0 && decide (pt ≤ mt) then
      some { base with kind := .kvPaged, seqCount := bits w1 31 0, maxTokensLog2 := mt, layers := bits w3 15 0, hgTotal := bits w3 24 16,
                       pageTokensLog2 := pt, entryBytes := eb }
    else none
  else none

end Sys2Proof.Machine
end

