-- ==== Sys2Proof/Machine/OpsFront.lean ====
section
/-!
DEFINITION. The shared operations of the front end: admin commands, channels and their ranges, fetch, beginning and failing buffers, ending
operations, stopping and retiring channels (R78 to R145).
-/
namespace Sys2Proof.Machine

/-! ### Status codes (R161) -/

def stOk : Nat := 0x00
def stFlagged : Nat := 0x01
def stMalformed : Nat := 0x10
def stWindowFault : Nat := 0x11
def stPermission : Nat := 0x12
def stBounds : Nat := 0x13
def stTimeout : Nat := 0x20
def stPeerTimeout : Nat := 0x21
def stWaitTimeout : Nat := 0x22
def stUncorrectable : Nat := 0x30
def stPartReset : Nat := 0x31
def stPeerDown : Nat := 0x32
def stKeyRetired : Nat := 0x33
def stAborted : Nat := 0x40
def stHangKilled : Nat := 0x41
def stNodeReset : Nat := 0x42

/-- The statuses of R161 in code order (R539). -/
def statusOrder : List Nat :=
  [stOk, stFlagged, stMalformed, stWindowFault, stPermission, stBounds, stTimeout, stPeerTimeout, stWaitTimeout, stUncorrectable,
    stPartReset, stPeerDown, stKeyRetired, stAborted, stHangKilled, stNodeReset]

/-- OK or OK_FLAGGED. -/
def goodStatus (st : Nat) : Bool := st == stOk || st == stFlagged

/-- The statuses that make a channel GUILTY (R114). -/
def guiltyStatus (st : Nat) : Bool :=
  st == stMalformed || st == stWindowFault || st == stPermission || st == stBounds || st == stTimeout || st == stPeerDown

/-- FAIL_OP of a header, a ring entry or a refusal by R130. -/
def failHeader : Nat := 0x7FF

/-- Round-robin: the first of a rising list after the last served, else the first. -/
def nextAfter (last : Nat) (l : List Nat) : Option Nat := (l.find? (fun i => decide (last < i))) <|> l.head?

/-! ### Admin commands -/

def State.ring (s : State) (pav : Nat) : AdminRing := Table.get {} s.front.rings pav
def State.modRing (s : State) (pav : Nat) (f : AdminRing → AdminRing) : State :=
  s.modFront (fun e => { e with rings := Table.put {} e.rings pav (f (Table.get {} e.rings pav)) })

/-- ADMIN_STATUS codes (R89). -/
def asOk : Nat := 0
def asBusy : Nat := 1
def asBadCommand : Nat := 2
def asNoResource : Nat := 3
def asBadHandle : Nat := 4
def asBadState : Nat := 5
def asDenied : Nat := 6

/-- Whether a command is the one named. -/
def AdminCmd.isRef (c : AdminCmd) (r : AdminRef) : Bool := c.pav == r.pav && c.entry == r.entry

/-- A command taken and not completed. -/
def State.cmd (s : State) (r : AdminRef) : Option AdminCmd := s.front.cmds.find? (fun c => c.isRef r)

/-- ADMIN_OP (R86). -/
def AdminCmd.op (c : AdminCmd) : Nat := bits (c.words.getD 0 0) 7 0
/-- ARG1 to ARG7 (R86). -/
def AdminCmd.arg (c : AdminCmd) (i : Nat) : Word := c.words.getD i 0
/-- COOKIE (R86). -/
def AdminCmd.cookie (c : AdminCmd) : Nat := bits (c.words.getD 0 0) 31 16
/-- The MGMT function code (R523). -/
def AdminCmd.fn (c : AdminCmd) : Nat := bits (c.arg 1) 15 0

/-- Whether the argument words named are zero. -/
def AdminCmd.zeroArgs (c : AdminCmd) (l : List Nat) : Bool := l.all (fun i => decide (c.arg i = 0))

/-- The phase of a command; a command that is begun leaves the shared queue of levels 4 and 5 (R525). -/
def State.setCmdPhase (s : State) (r : AdminRef) (p : CmdPhase) : State :=
  (s.modFront (fun e => { e with cmds := e.cmds.map (fun c => if c.isRef r then { c with phase := p } else c) })).modLodge
    (fun l => { l with items := l.items.filter (fun i => i.cmd != r) })

/-- A command that has no result yet. -/
def AdminCmd.unfinished (c : AdminCmd) : Bool :=
  match c.phase with
  | .finished .. => false
  | _ => true

/-- A command finished: its result waits for the completion write (R88, R90). One whose ring is gone has none. -/
def State.finish (s : State) (r : AdminRef) (status : Nat) (r1 : Nat := 0) (r2 : Nat := 0) (r3 : Nat := 0) (retryAfter : Nat := 0) : State :=
  if (s.cmd r).any AdminCmd.unfinished then
    (s.setCmdPhase r (.finished status retryAfter r1 r2 r3)).modFront (fun e => { e with doneQ := e.doneQ ++ [r] })
  else s

/-- A command whose work goes on beyond this step. -/
def State.working (s : State) (r : AdminRef) : State := s.setCmdPhase r .working

/-- Whether the command named is taken, not begun, and has the admin code given. -/
def State.cmdIs (s : State) (r : AdminRef) (op : Nat) : Bool :=
  match s.cmd r with
  | some c => c.op == op && c.phase == .taken
  | none => false

/-- Whether the command named is taken, not begun, and is the MGMT function given. -/
def State.mgmtIs (s : State) (r : AdminRef) (fn : Nat) : Bool :=
  match s.cmd r with
  | some c => c.op == 0x40 && c.fn == fn && c.phase == .taken
  | none => false

/-- The command named, or one of zeros. -/
def State.cmdD (s : State) (r : AdminRef) : AdminCmd := (s.cmd r).getD { pav := r.pav, entry := r.entry, words := [] }

/-! ### Channels -/

def State.chan (s : State) (i : Nat) : Channel := Table.get {} s.front.chans i
def State.setChan (s : State) (i : Nat) (c : Channel) : State := s.modFront (fun e => { e with chans := Table.put {} e.chans i c })
def State.modChan (s : State) (i : Nat) (f : Channel → Channel) : State := s.setChan i (f (s.chan i))

/-- The channels that hold anything. -/
def State.chanList (s : State) : List Nat := s.front.chans.keys

/-- The handle of a channel (R78). -/
def Channel.handle (c : Channel) (i : Nat) : Nat := place i 0 12 + place c.pav 12 4 + place c.gen.toNat 16 8

/-- The channel a handle names (R79). -/
def State.chanOf (s : State) (h : Nat) : Option Nat :=
  let i := h % 4096
  let c := s.chan i
  if h < 2 ^ 24 && c.state != .free && c.handle i == h then some i else none

/-- Whether an index lies in the channel range of a Pavilion (R81, R449). -/
def State.chanInRange (s : State) (pav i : Nat) : Bool :=
  match s.gate.tenant with
  | none => pav == 0
  | some t =>
    let inTenant := decide (t.chBase ≤ i) && decide (i < t.chBase + t.chCount)
    if pav = 0 then !inTenant else t.num == pav && inTenant

/-- The lowest FREE index of a Pavilion with no command in progress (R81). -/
def State.freeChan (s : State) (pav : Nat) : Option Nat :=
  (List.range 4096).find? (fun i => s.chanInRange pav i && (s.chan i).state == .free)

/-- A channel in RETIRING that drains (R118). -/
def Channel.draining (c : Channel) : Bool := c.state == .retiring && c.drain.isSome

/-- Whether the Anneal of a Pavilion holds at this node: T_A has come (R72, R535). -/
def State.annealed (s : State) (pav : Nat) : Bool :=
  s.lodge.anneals.any (fun a => a.pav == pav && (a.applied || decide (a.ta ≤ s.podTime)))

/-- A channel that may begin further buffers and fetch for them (R82, R118). -/
def State.fetches (s : State) (c : Channel) : Bool := s.live && (c.state == .active || c.draining)

/-- A channel that admits operations of begun buffers (R82, R114, R116, R118, R72). -/
def State.admits (s : State) (c : Channel) : Bool :=
  s.live && !c.guiltyStop && !s.annealed c.pav && (c.state == .active || c.state == .error || c.draining)

/-- The latest TAIL that counts: the drain TAIL of a draining channel (R118). -/
def Channel.limit (c : Channel) : BitVec 32 :=
  match c.drain with
  | some d => BitVec.ofNat 32 d.tail
  | none => c.tail

/-- The pending entries (R103). -/
def Channel.pendingCount (c : Channel) : Nat := (c.limit - c.head).toNat

/-- How many operations of a buffer will be admitted: up to the operations a faulted read never brought (R116). -/
def Buffer.count (b : Buffer) : Nat :=
  match b.cut with
  | some k => k
  | none => match b.hdr with
    | some h => h.opCount
    | none => 0

/-- Every operation of a begun buffer that will be admitted is admitted: none is of a refused buffer (R129, R130) nor from a read on that
holds a malformed operation (R142). -/
def Buffer.admittedAll (b : Buffer) : Bool :=
  decide (b.count ≤ b.admitted) || b.fail.any (fun f => f.2 == failHeader) || b.bad.any (fun k => decide (k.2 ≤ b.admitted))

/-- The buffers that have begun and not completed; the one that has not begun. -/
def Channel.begunBufs (c : Channel) : List Buffer := c.bufs.filter (fun b => b.begun)
def Channel.waitingBuf (c : Channel) : Option Buffer := c.bufs.find? (fun b => !b.begun)

/-- Whether a further buffer can begin admission (R108). -/
def Channel.canBegin (c : Channel) : Bool := decide (c.begunBufs.length < 4) && c.begunBufs.all (fun b => b.admittedAll)

def Channel.modBuf (c : Channel) (ring : Nat) (f : Buffer → Buffer) : Channel :=
  { c with bufs := c.bufs.map (fun b => if b.ring = ring then f b else b) }
def Channel.buf (c : Channel) (ring : Nat) : Option Buffer := c.bufs.find? (fun b => b.ring == ring)
def Buffer.modOp (b : Buffer) (i : Nat) (f : OpSlot → OpSlot) : Buffer := { b with ops := b.ops.modify i f }

/-- One operation of a channel. -/
def State.opOf (s : State) (o : OpRef) : Option OpSlot :=
  match (s.chan o.chan).buf o.ring with
  | none => none
  | some b => b.ops[o.op]?
def State.modOp (s : State) (o : OpRef) (f : OpSlot → OpSlot) : State :=
  s.modChan o.chan (fun c => c.modBuf o.ring (fun b => b.modOp o.op f))

/-- The operations of a channel with their references, in ring order and index order. -/
def Channel.allOps (c : Channel) (i : Nat) : List (OpRef × OpSlot) :=
  c.bufs.flatMap (fun b => (List.range b.ops.length).filterMap (fun k => (b.ops[k]?).map (fun o => ({ chan := i, ring := b.ring, op := k }, o))))

/-- The operation body of a slot. -/
def OpSlot.body (o : OpSlot) : OpBody := match o.oper with
  | some p => p.body
  | none => .nop

/-- LENGTH and MEASURE_SLOT of a measured operation (R202). -/
def OpBody.measure : OpBody → Option (Nat × Nat)
  | .put _ _ n m => some (n, m)
  | .get _ _ n m => some (n, m)
  | .copy _ _ n m => some (n, m)
  | _ => none

/-! ### Fetch (R107, R109) -/

def FabUse.isFetch : FabUse → Bool
  | .ringEntry .. => true
  | .buffer .. => true
  | .adminEntry .. => true
  | _ => false

/-- The fetch read an access belongs to: a buffer read is several accesses (R551). -/
def FabUse.fetchKey : FabUse → FabUse
  | .buffer i g r _ => .buffer i g r 0
  | u => u

/-- Fetch reads outstanding. -/
def State.fetchOut (s : State) : Nat :=
  ((s.fab.out.map (fun a => a.use) ++ s.fab.waiting.map (fun a => a.use)).filter FabUse.isFetch |>.map FabUse.fetchKey).eraseDups.length

/-- The fetch level of a channel's read (R109): real-time 1; demand 3, for a buffer that has begun or can begin; prefetch 4. -/
def Channel.fetchLevel (c : Channel) (begun : Bool) : Nat := if c.typ = 2 then 1 else if begun || c.canBegin then 3 else 4

/-- What a waiting fetch read is for. -/
def FetchWait.use (f : FetchWait) : FabUse := ((f.reqs.head?).map FabRequest.use).getD .gone

/-- The level of a waiting fetch read (R109), by what its channel is at now: a prefetch becomes a demand read once its buffer can begin. -/
def State.levelOf (s : State) (f : FetchWait) : Nat :=
  match f.use with
  | .adminEntry .. => 2
  | .buffer i _ r _ => (s.chan i).fetchLevel (((s.chan i).buf r).any (fun b => b.begun))
  | _ => (s.chan f.chan).fetchLevel false

/-- The fetch read served next (R109): of the lowest level, round-robin by channel at level 1, by Pavilion at level 2, and by Pavilion and
then by channel at levels 3 and 4. The pair is the level and the read. -/
def State.nextFetch (s : State) : Option (Nat × FetchWait) :=
  let e := s.front
  let l := e.fetchQ.map (fun f => (s.levelOf f, f))
  match [1, 2, 3, 4].find? (fun k => l.any (fun f => f.1 == k)) with
  | none => none
  | some k =>
    let at1 := l.filter (fun f => f.1 == k)
    let pavs := (List.range 16).filter (fun p => at1.any (fun f => f.2.pav == p))
    let at2 := if k = 1 then at1 else match nextAfter (Table.get 0 e.fetchRrPav k) pavs with
      | none => at1
      | some p => at1.filter (fun f => f.2.pav == p)
    let key (f : FetchWait) : Nat := if k = 1 then 16 else k * 16 + f.pav
    at2.foldl (fun b f =>
      let d (g : FetchWait) : Nat := (g.chan + 4096 - (Table.get 0 e.fetchRrChan (key g) + 1) % 4096) % 4096
      match b with
      | none => some f
      | some g => if d f.2 < d g.2 then some f else some g) none

/-- The fetch unit after a read it served. -/
def FrontEnd.served (e : FrontEnd) (k : Nat) (f : FetchWait) : FrontEnd :=
  { e with fetchQ := e.fetchQ.erase f, fetchRrPav := Table.put 0 e.fetchRrPav k f.pav,
           fetchRrChan := Table.put 0 e.fetchRrChan (if k = 1 then 16 else k * 16 + f.pav) f.chan }

/-- One waiting fetch read issued when fewer than 256 are outstanding. -/
def State.fetchOne (s : State) : State :=
  if s.fetchOut < 256 && s.live then
    match s.nextFetch with
    | none => s
    | some f => (s.modFront (fun e => e.served f.1 f.2)).issueAll f.2.reqs
  else s

/-- A fetch read handed to the fetch unit. -/
def State.fetch (s : State) (pav chan : Nat) (l : List FabRequest) : State :=
  (s.modFront (fun e => { e with fetchQ := e.fetchQ ++ [{ pav := pav, chan := chan, reqs := l }] })).fetchOne

/-- The fetch reads of a kind not yet issued, which are not made any more (R114, R116, R119). -/
def State.dropFetch (s : State) (f : FabUse → Bool) : State :=
  s.modFront (fun e => { e with fetchQ := e.fetchQ.filter (fun w => !f w.use) })

/-- The fetch reads of a channel; those of it for what has not begun admission. -/
def ofChan (i : Nat) : FabUse → Bool
  | .ringEntry c .. => c == i
  | .buffer c .. => c == i
  | _ => false
def Channel.ofUnbegun (c : Channel) (i : Nat) : FabUse → Bool
  | .ringEntry k .. => k == i
  | .buffer k _ r _ => k == i && (c.buf r).all (fun b => !b.begun)
  | _ => false

/-- The address of the ring entry at a count (R100). -/
def Channel.entryAddr (c : Channel) (k : Nat) : Nat := c.ringBase + 16 * (k % 2 ^ c.ringLog2)

/-- The read of the ring entry at HEAD. -/
def State.readEntry (s : State) (i : Nat) (spec : Bool) : State :=
  let c := s.chan i
  let k := c.head.toNat
  (s.modChan i (fun c => { c with entry := some { ring := k, serial := c.entrySeq, spec := spec }, entrySeq := c.entrySeq + 1 })).fetch c.pav i
    [{ op := .read, addr := c.entryAddr k, len := 16, pav := c.pav, use := .ringEntry i c.gen.toNat k c.entrySeq }]

/-- Whether the entry at HEAD may be read now (R103, R108): none read, and a real-time channel only when admission can begin. -/
def State.mayReadEntry (s : State) (i : Nat) : Bool :=
  let c := s.chan i
  s.fetches c && c.entry.isNone && c.waitingBuf.isNone && (c.typ != 2 || c.canBegin)

/-- Fetching goes on when entries are pending (R103). -/
def State.tryFetch (s : State) (i : Nat) : State :=
  let c := s.chan i
  if s.mayReadEntry i && decide (1 ≤ c.pendingCount) && decide (c.pendingCount ≤ 2 ^ c.ringLog2) then s.readEntry i false else s

/-- The next read of a buffer, at most 4 KiB (R107); none after a read that faulted (R116). -/
def State.readBuffer (s : State) (i : Nat) (ring : Nat) : State :=
  let c := s.chan i
  match c.buf ring with
  | none => s
  | some b =>
    if b.reading || b.cut.isSome || b.lines ≤ b.read then s
    else
      let n := min 64 (b.lines - b.read)
      let s1 := s.modChan i (fun c => c.modBuf ring (fun b => { b with read := b.read + n, reading := true, pieces := [] }))
      s1.fetch c.pav i (readPieces (b.addr + 64 * b.read) (64 * n) c.pav (fun off => .buffer i c.gen.toNat ring off))

/-! ### The hang detector's quiet time (R501) -/

/-- Something happened for a Pavilion: its quiet period starts again, and Pavilion 0 may be reported again (R503). -/
def State.activity (s : State) (pav : Nat) : State :=
  s.modFlt (fun f => { f with quiet := Table.put none f.quiet pav (some s.now), p0Reported := f.p0Reported && decide (pav ≠ 0) })

/-! ### Ending operations -/

/-- The dependencies of waiting operations settled in index order: an operation with a failed dependency ends ABORTED (R138). -/
def Buffer.settle (b : Buffer) : Buffer :=
  (List.range b.ops.length).foldl (fun b k => match b.ops[k]? with
    | none => b
    | some o =>
      if o.phase == .admitted && (match o.oper with
          | some p => p.deps.any (fun d => match b.ops[d]? with
            | some q => q.phase == .ended && !goodStatus q.status
            | none => false)
          | none => false)
      then b.modOp k (fun o => { o with phase := .ended, status := stAborted, allFormed := true }) else b) b

/-- The first failure of a buffer (R137): the first observed; at one tick the lower index. One after a stop of the channel counts only
where the stop left nothing uncompleted (R114). -/
def Buffer.noteFail (b : Buffer) (tick st k : Nat) : Buffer :=
  match b.fail with
  | none => { b with fail := some (st, k), failAt := tick, failLate := b.stopped }
  | some f => if b.failAt = tick && b.failLate = b.stopped && k < f.2 then { b with fail := some (st, k) } else b

/-- The effect of an operation's end on its buffer (R133, R137, R138). -/
def Buffer.endOp (b : Buffer) (tick k st fl : Nat) (own : Bool) : Buffer :=
  let b1 := b.modOp k (fun o => { o with phase := .ended, status := st, flags := fl, allFormed := true, out := 0 })
  let b2 := { b1 with flags := b1.flags ||| fl, flagged := b1.flagged || st == stFlagged }
  let b3 := if goodStatus st || !own then b2 else b2.noteFail tick st k
  b3.settle

/-- The watch of an ended WAIT released (R160). -/
def State.releaseWatch (s : State) (o : OpRef) : State :=
  match s.front.waits.find? (fun w => w.2 == o) with
  | none => s
  | some w => (s.modFront (fun e => { e with waits := e.waits.filter (fun v => v.1 != w.1) })).disarm w.1

/-- The engine that performs an operation (R145); none for the front end's own. -/
def State.engineOf (s : State) (o : OpSlot) : Option EngineKind :=
  match o.body with
  | .put .. => some (.copy o.cluster)
  | .putInline .. => some (.copy o.cluster)
  | .get .. => some (.copy o.cluster)
  | .copy .. => some (.copy o.cluster)
  | .kvmove _ => some (.copy o.cluster)
  | .atomic _ => some .atomic
  | .signal .. => some .atomic
  | .gatherRun g => some (.gather (s.gather.sliceOf g.program))
  | _ => none
/-- ATTR_BIN of a buffer. -/
def Buffer.bin (b : Buffer) : Nat := match b.hdr with
  | some h => h.attrBin
  | none => 0

/-- Belvedere's counts of an operation's end (R539, R540). -/
def State.countOpEnd (s : State) (pav bin st : Nat) : State :=
  ((s.belvAdd pav (belvId 0x10 0) 1).belvAdd pav (belvId 0x10 (8 + statusOrder.idxOf st)) 1).belvAdd pav (belvId 0x11 (4 * bin)) 1

/-! ### The slots of measured operations (R202, R204) -/

/-- The measurement slot an operation was given positions in. -/
def OpSlot.measSlot (o : OpSlot) : Option Nat :=
  match o.oper with
  | none => none
  | some p => if p.measure && o.base.isSome then p.body.measure.map Prod.snd else none

/-- Operations that have positions in a slot lose them. -/
def Channel.unbind (c : Channel) (m : Nat) : Channel :=
  { c with bufs := c.bufs.map (fun b => { b with ops := b.ops.map (fun o => if o.measSlot = some m then { o with base := none } else o) }) }

/-- What a slot leaves behind when its object ends: the bound channel's operations go on without it, and its staging comes free (R204,
R205). DEDUCED, log entry 149. -/
def State.unbindSlot (s : State) (m i : Nat) : State :=
  (s.modChan i (fun c => c.unbind m)).modXfer (fun x =>
    { x with staging := x.staging.filter (fun g => g.slot != m), stagingWait := x.stagingWait.filter (fun w => w.1 != m) })

/-- A measurement slot made FAILED (R204, R487). -/
def State.failSlot (s : State) (m : Nat) : State :=
  let q := Table.get ({} : MeasSlot) s.xfer.meas m
  if q.state == .opened then
    (s.modXfer (fun x => { x with meas := Table.put ({} : MeasSlot) x.meas m { q with state := .failed, staged := [], leaves := [] } })).unbindSlot
      m (q.handle.toNat % 4096)
  else s

/-- The measurement slots bound to a channel that retires become FAILED (R204). -/
def State.failSlots (s : State) (i : Nat) : State :=
  (s.xfer.meas.filter (fun p => p.2.state == .opened && p.2.handle.toNat % 4096 == i)).foldl (fun t p => t.failSlot p.1) s

/-- The operations of a buffer that have ended by a change of it. -/
def Buffer.newEnds (b t : Buffer) : List OpSlot :=
  (b.ops.zip t.ops).filterMap (fun p => if p.1.phase != .ended && p.2.phase == .ended then some p.2 else none)

/-- An operation that has ended is counted (R539, R540); a measured one that ended with any status but OK makes its slot FAILED (R204). -/
def State.noteEnd (s : State) (pav bin : Nat) (o : OpSlot) : State :=
  let s1 := s.countOpEnd pav bin o.status
  match o.measSlot with
  | some m => if o.status = stOk then s1 else s1.failSlot m
  | none => s1

/-- A buffer of a channel changed, with what follows for the operations that end by it. -/
def State.turnBuf (s : State) (i : Nat) (b : Buffer) (f : Buffer → Buffer) : State :=
  (b.newEnds (f b)).foldl (fun t o => t.noteEnd (s.chan i).pav b.bin o) (s.modChan i (fun c => c.modBuf b.ring f))

/-! ### Completion records and the counting of buffers (R38, R113, R131, R132) -/

/-- The lowest operation that did not complete with OK or OK_FLAGGED (R132). -/
def Buffer.firstOpen (b : Buffer) : Nat :=
  match b.ops.findIdx? (fun o => !(o.phase == .ended && goodStatus o.status)) with
  | some k => k
  | none => if b.ops.length < b.count then b.ops.length else 0

/-- Every admitted operation of a begun buffer has completed and no further one will be admitted (R38, R116). -/
def Buffer.complete (b : Buffer) : Bool :=
  b.begun && b.admittedAll && (b.ops.take b.admitted).all (fun o => o.phase == .ended)

/-- Every operation of a begun buffer completed: a stop left none uncompleted or unadmitted (R114). -/
def Buffer.whole (b : Buffer) : Bool := b.complete && b.ops.all (fun o => !o.stopped) && (decide (b.count ≤ b.admitted) || b.fail.any (fun f => f.2 == failHeader))

/-- The status and FAIL_OP of a buffer whose operations are over (R116, R132, R137). -/
def Buffer.finalStatus (b : Buffer) : Nat × Nat :=
  match b.fail with
  | some f => f
  | none => match b.cut with
    | some k => (stAborted, k)
    | none =>
      if b.ops.any (fun o => o.phase == .ended && !goodStatus o.status) then (stAborted, b.firstOpen)
      else (if b.flagged then stFlagged else stOk, 0)

/-- The status and FAIL_OP of a begun buffer of a channel that R114 stopped: the first failure it had before the stop, else ABORTED unless
every operation of it completed. -/
def Buffer.guiltyStatus (b : Buffer) : Nat × Nat :=
  if b.fail.isSome && !b.failLate || b.whole then b.finalStatus else (stAborted, b.firstOpen)

/-- The completion record of a buffer (R132). -/
def mkRecord (h : BufHeader) (count : Word) (st k gen flags tick : Nat) : List Byte :=
  leBytes 8 count.toNat ++ leBytes 8 (place st 0 8 + place k 8 11 + place gen 24 8 + place h.layerId 32 16 + place h.operatorId 48 16) ++
    leBytes 8 h.userTag.toNat ++ leBytes 8 (place flags 0 7 + place tick 32 32)

/-- A buffer counted in COMPLETED and its record write issued (R38, R113, R131, R132, R134, R135). HEAD passes a buffer that had
not begun (R120). -/
def State.countBuffer (s : State) (i : Nat) (b : Buffer) (st k : Nat) : State :=
  let c := s.chan i
  let count := c.completed + 1
  let good := goodStatus st
  let more := match b.hdr with
    | some h => if b.faulty || !(h.recordEn || (h.sigwordEn && good)) then [] else
        [{ ring := b.ring, hdr := h, recordOut := h.recordEn, sigDue := h.sigwordEn && good }]
    | none => []
  let s1 := s.modChan i (fun c =>
    { c with completed := count, bufs := c.bufs.filter (fun x => x.ring != b.ring),
             recs := c.recs ++ more, head := if b.begun then c.head else c.head + 1 })
  let s2 := ((s1.belvAdd 16 (belvId 0 1) 1).belvAdd c.pav (belvId 0x10 1) 1).belvAdd c.pav (belvId 0x11 (4 * b.bin + 3)) 1
  match b.hdr with
  | some h =>
    if b.faulty || !h.recordEn then s2
    else s2.issue { op := .write, addr := h.recordAddr, len := 32, pav := c.pav, data := mkRecord h count st k c.gen.toNat b.flags s.podTime,
                    use := .record i c.gen.toNat b.ring }
  | none => s2

/-- The head buffer of a channel, when it can be counted, with its status and FAIL_OP (R38, R114, R116). -/
def State.bufferDone (s : State) (i : Nat) : Option (Buffer × Nat × Nat) :=
  let c := s.chan i
  match c.bufs.head? with
  | none => none
  | some b =>
    if c.guiltyStop then (if b.begun && c.stopping.isEmpty then some (b, b.guiltyStatus) else none)
    else if c.state == .active || c.state == .paused || c.state == .error || c.draining then
      (if b.complete then some (b, b.finalStatus) else none)
    else none

/-- The buffers at the head of a channel that can be counted are, four at the most (R108, R113); the first argument is fuel. -/
def State.countHeads (s : State) (i : Nat) : Nat → State
  | 0 => s
  | n + 1 => match s.bufferDone i with
    | none => s
    | some b => (s.countBuffer i b.1 b.2.1 b.2.2).countHeads i n

/-- What a change of a channel's STATE finds counted (R113). -/
def State.counted (s : State) (i : Nat) : State := s.countHeads i 4

/-! ### Stopping a channel (R114, R116, R118, R119) -/

/-- What stops at once when a channel stops (R114, R119): operations not taken by an engine are dropped, the front end's own
operations end, and running operations form no further request. -/
def Buffer.stop (b : Buffer) : Buffer :=
  { b with
      stopped := b.stopped || b.begun,
      ops := b.ops.map (fun o =>
        let dropped := { o with phase := .ended, status := stAborted, allFormed := true, wid := none, stopped := true }
        match o.phase with
        | .admitted => dropped
        | .running => match o.body with
          | .wait .. => dropped
          | .nop => dropped
          | .fence => dropped
          | _ => if o.allFormed then o else { o with allFormed := true, stopped := true, status := if o.status = 0 then stAborted else o.status }
        | _ => o) }

/-- Returned data of measured relayed copies of a channel that is written on no more (R119). -/
def State.dropHeld (s : State) (i : Nat) : State :=
  (s.xfer.held.filter (fun w => w.op.chan == i)).foldl (fun t w => t.modOp w.op (fun q => { q with out := q.out - 1 }))
    (s.modXfer (fun x => { x with held := x.held.filter (fun w => w.op.chan != i) }))

/-- Every engine with work of the channel is told to stop (R114, R119): what waits for a tag or for staging waits no more. -/
def State.stopEngines (s : State) (i : Nat) (guilty : Bool) : State :=
  let waits := s.front.waits.filter (fun w => w.2.chan == i)
  let s1 := waits.foldl (fun t w => t.disarm w.1) s
  let halt (q : GSlot) : GSlot :=
    { q with queue := q.queue.filter (fun o => o.chan != i),
             run := q.run.map (fun r => if r.op.any (fun o => o.chan == i) then { r with halt := true } else r) }
  let ofOp (w : TagOwner) : Bool := match w with
    | .op o => o.chan == i
    | _ => false
  let s2 := ((s1.modGather (fun g => { g with slots := g.slots.map (fun p => (p.1, p.2.map halt)) })).modFront
    (fun e => { e with waits := e.waits.filter (fun w => w.2.chan != i) })).modXfer (fun x =>
      { x with stagingWait := x.stagingWait.filter (fun w => w.2.chan != i),
               tags := { x.tags with waiting := x.tags.waiting.filter (fun w => !ofOp w.2) } })
  let s3 := (s2.chan i).bufs.foldl (fun t b => t.turnBuf i b Buffer.stop) (s2.dropHeld i)
  let engines := ((s3.chan i).bufs.flatMap (fun b => b.ops.filterMap (fun o => if o.phase == .running then s.engineOf o else none))).eraseDups
  s3.modChan i (fun c => { c with stopping := engines, guiltyStop := guilty })

/-- Retirement begins (R113, R119, R120): what has completed is counted, the watch is disarmed, fetch stops, unfetched buffers are dropped,
the engines are told. -/
def State.startRetire (s : State) (i : Nat) (status : Nat) (keepFail : Bool) (next : AfterRetire) : State :=
  let s1 := (((s.counted i).dropFetch (ofChan i)).disarm i).modChan i (fun c =>
    { c with state := .retiring, drain := none, watched := false, entry := none, bufs := c.bufs.filter (fun b => b.got),
             retire := some { status := status, keepFail := keepFail, next := next, stage := .stopping } })
  (s1.stopEngines i false).failSlots i

/-- What has not begun admission is dropped, with its reads, and HEAD does not pass it (R114, R116). -/
def State.dropWaiting (s : State) (i : Nat) : State :=
  (s.dropFetch ((s.chan i).ofUnbegun i)).modChan i (fun c => { c with bufs := c.begunBufs, entry := none })

/-- A channel made GUILTY (R84, R113, R114, R118): a draining one retires as in Abort. -/
def State.guilty (s : State) (i st k : Nat) : State :=
  let c := s.chan i
  if c.state == .guilty || c.state == .error then s.modChan i (fun c => { c with later := c.later + 1 })
  else if c.draining then
    (s.modChan i (fun c => { c with failStatus := st, failOp := k })).startRetire i stAborted false .free
  else if c.state == .active || c.state == .paused then
    (((((s.counted i).dropWaiting i).dropFetch (ofChan i)).modChan i (fun c =>
      { c with state := .guilty, failStatus := st, failOp := k })).stopEngines i true)
  else s

/-- A malformed operation found in a later read of a begun buffer (R114, R142): the channel is GUILTY; one in ERROR keeps its state (R84), and
its admitted operations stop all the same. DEDUCED, log entry 150. -/
def State.malformedLater (s : State) (i k : Nat) : State :=
  let s1 := s.guilty i stMalformed k
  if (s.chan i).state == .error && !(s.chan i).guiltyStop then ((s1.counted i).dropFetch (ofChan i)).stopEngines i true else s1

/-- A channel put in ERROR (R84, R113, R116, R118): a draining one retires as in Abort. -/
def State.chanError (s : State) (i cause : Nat) : State :=
  let c := s.chan i
  if c.state == .guilty || c.state == .error then s.modChan i (fun c => { c with later := c.later + 1 })
  else if c.draining then (s.modChan i (fun c => { c with cause := cause })).startRetire i stAborted false .free
  else if c.state == .active || c.state == .paused then
    ((s.counted i).dropWaiting i).modChan i (fun c => { c with state := .error, cause := cause })
  else s

/-- The KVMOVE of an ended operation ends at this node: its job and its translations go (R172, R174). -/
def State.dropJobsOf (s : State) (o : OpRef) : State :=
  let ids := (s.xfer.jobs.filter (fun j => j.op == some o)).map KvJob.id
  if ids.isEmpty then s
  else s.modXfer (fun x =>
    { x with jobs := x.jobs.filter (fun j => j.op != some o),
             pwc := x.pwc.filter (fun e => match e.job with
               | some j => j ∉ ids
               | none => true) })

/-- Ticks an armed WAIT spent, added at its end (R539). -/
def State.countWait (s : State) (o : OpRef) : State :=
  match s.opOf o with
  | some q => match q.phase, q.body with
    | .running, .wait .. => s.belvAdd (s.chan o.chan).pav (belvId 0x10 24) (s.now - q.armed)
    | _, _ => s
  | none => s

/-- An operation ends with a status and flags (R37, R114, R137, R138, R204). -/
def State.endOp (s : State) (o : OpRef) (st fl : Nat) (own : Bool := true) : State :=
  match (s.chan o.chan).buf o.ring with
  | none => s
  | some b =>
    let s1 := ((((s.countWait o).releaseWatch o).dropJobsOf o).turnBuf o.chan b (fun b => b.endOp s.now o.op st fl own)).activity (s.chan o.chan).pav
    if guiltyStatus st && own then s1.guilty o.chan st o.op else s1

/-! ### Beginning a buffer -/

/-- The job-block check of a buffer's signal word (R130); before an installation table is accepted there is no block to check. DEDUCED, log
entry 156. -/
def State.sigRefused (s : State) (c : Channel) (b : Buffer) : Bool :=
  match b.hdr with
  | none => false
  | some h => h.sigwordEn && s.topo.install.isSome && !s.inBlock c.pav h.sigNode

/-- A fetched buffer begins admission when it can (R99, R106, R108, R129, R130, R142): HEAD counts it; a faulty or refused one
fails, and so does one whose first read holds a malformed operation. None begins during an Anneal (R72, R118). -/
def State.tryBegin (s : State) (i : Nat) : State :=
  let c := s.chan i
  match c.waitingBuf with
  | none => s
  | some b =>
    if b.got && s.fetches c && !s.annealed c.pav && c.canBegin then
      let s1 := (s.modChan i (fun c => { (c.modBuf b.ring (fun b => { b with begun := true })) with head := c.head + 1 })).activity c.pav
      if b.faulty then
        (s1.modChan i (fun c => c.modBuf b.ring (fun b => b.noteFail s.now stMalformed failHeader))).guilty i stMalformed failHeader
      else if s.sigRefused c b then
        (s1.modChan i (fun c => c.modBuf b.ring (fun b => b.noteFail s.now stPermission failHeader))).guilty i stPermission failHeader
      else match b.bad with
        | some k => (s1.modChan i (fun c => c.modBuf b.ring (fun b => b.noteFail s.now stMalformed k.1))).guilty i stMalformed k.1
        | none => s1.tryFetch i
    else s

end Sys2Proof.Machine
end

