-- ==== Sys2Proof/Machine/OpsMeasure.lean ====
section
/-!
DEFINITION. The measurement path (R201 to R206): staging, hash units, leaves and the Merkle digest.
-/
namespace Sys2Proof.Machine

/-- Bytes of a leaf (R206). -/
def leafBytes : Nat := 1048576

/-- The length of a leaf of a slot. -/
def MeasSlot.leafLen (m : MeasSlot) (i : Nat) : Nat := min leafBytes (m.objLen - i * leafBytes)

/-- The number of leaves of a slot. -/
def MeasSlot.leafCount (m : MeasSlot) : Nat := ceilDiv m.objLen leafBytes

/-- The first leaf from `i` on that is not hashed, over leaves in rising order. -/
def firstUnhashed : List Leaf → Nat → Nat
  | [], i => i
  | l :: r, i => if l.index = i && l.digest.isSome then firstUnhashed r (i + 1) else i

/-- The lowest unhashed leaf of a slot. -/
def MeasSlot.lowest (m : MeasSlot) : Nat := firstUnhashed m.leaves 0

/-- A leaf of a slot that has a unit or is hashed. -/
def MeasSlot.leaf (m : MeasSlot) (i : Nat) : Option Leaf := m.leaves.find? (fun l => l.index == i)

/-- How many bytes of a leaf have entered a unit. -/
def MeasSlot.enteredOf (m : MeasSlot) (i : Nat) : Nat :=
  match m.leaf i with
  | none => 0
  | some l => match l.digest with
    | some _ => m.leafLen i
    | none => l.entered.length

/-- The lowest unhashed position of a slot. -/
def MeasSlot.lowestPos (m : MeasSlot) : Nat := m.lowest * leafBytes + m.enteredOf m.lowest

/-- Whether every byte of a range has entered a unit (R204). -/
def MeasSlot.covers (m : MeasSlot) (pos len : Nat) : Bool :=
  (List.range ((pos + len - 1) / leafBytes + 1 - pos / leafBytes)).all (fun k =>
    let i := pos / leafBytes + k
    decide (min (pos + len) ((i + 1) * leafBytes) ≤ i * leafBytes + m.enteredOf i))

/-- A leaf placed among leaves in rising order. -/
def insertLeaf : List Leaf → Leaf → List Leaf
  | [], l => [l]
  | x :: r, l => if l.index < x.index then l :: x :: r else x :: insertLeaf r l

/-- One staged piece moved into its leaf's unit. DEDUCED, log entry 55. -/
def MeasSlot.enter (m : MeasSlot) (p : Nat × List Byte) : MeasSlot :=
  let i := p.1 / leafBytes
  let m1 := { m with staged := m.staged.filter (fun q => q.1 != p.1) }
  match m.leaf i with
  | none => { m1 with leaves := insertLeaf m1.leaves { index := i, entered := p.2 } }
  | some _ => { m1 with leaves := m1.leaves.map (fun l => if l.index = i then { l with entered := l.entered ++ p.2 } else l) }

/-- Units in use by all slots: each hashes one leaf at a time (R205). -/
def State.unitsUsed (s : State) : Nat := (s.xfer.meas.map (fun p => (p.2.leaves.filter (fun l => l.digest.isNone)).length)).sum

/-- Units that may hash at the droop level (R478). -/
def State.unitLimit (s : State) : Nat := if s.power.level = 0 then 32 else if s.power.level = 1 then 8 else 0

/-- A staged piece that can enter a unit now: at its leaf's cursor, or first of a leaf that takes a free unit. -/
def State.canEnter (s : State) (m : MeasSlot) (p : Nat × List Byte) : Bool :=
  s.unitLimit != 0 && (match m.leaf (p.1 / leafBytes) with
    | some l => l.digest.isNone && l.entered.length == p.1 % leafBytes
    | none => p.1 % leafBytes == 0 && decide (s.unitsUsed < s.unitLimit))

def State.meas (s : State) (k : Nat) : MeasSlot := Table.get ({} : MeasSlot) s.xfer.meas k
def State.setMeas (s : State) (k : Nat) (m : MeasSlot) : State :=
  s.modXfer (fun x => { x with meas := Table.put ({} : MeasSlot) x.meas k m })

/-- Staged pieces entered while one can; the first argument is fuel. -/
def State.drainMeas (s : State) (k : Nat) : Nat → State
  | 0 => s
  | n + 1 => match (s.meas k).staged.find? (fun p => s.canEnter (s.meas k) p) with
    | none => s
    | some p => ((s.setMeas k ((s.meas k).enter p)).belvAdd 16 (belvId 0x08 23) p.2.length).drainMeas k n

/-- Staging whose bytes have all entered comes free (R205). -/
def State.freeStaging (s : State) : State :=
  s.modXfer (fun x => { x with staging := x.staging.filter (fun g => (s.meas g.slot).state == .opened && !(s.meas g.slot).covers g.pos g.len) })

/-- Everything of a slot that can enter does. -/
def State.drainSlot (s : State) (k : Nat) : State := (s.drainMeas k ((s.meas k).staged.length + 1)).freeStaging

/-- Every slot drained, as after a unit has come free. -/
def State.drainAll (s : State) : State := s.xfer.meas.keys.foldl State.drainSlot s

/-- Bytes of a measured operation at an object position (R203): cut at the leaf boundary, staged, and entered where they can. -/
def State.feed (s : State) (k pos : Nat) (l : List Byte) : State :=
  if (s.meas k).state != .opened then s
  else
    let n := min l.length (leafBytes - pos % leafBytes)
    let ps := [(pos, l.take n)] ++ (if n < l.length then [(pos + n, l.drop n)] else [])
    (s.setMeas k { (s.meas k) with staged := (s.meas k).staged ++ ps }).drainSlot k

/-- The bytes of the reserve and of the shared part of the staging (R205). -/
def stagingReserve : Nat := 262144
def stagingShared : Nat := 8388608 - 262144

/-- Staging in use of one part. -/
def State.stagingUsed (s : State) (reserve : Bool) : Nat :=
  ((s.xfer.staging.filter (fun g => g.fromReserve == reserve)).map Staging.len).sum

/-- Whether a range lies in the lowest unhashed leaf of its slot. -/
def State.inLowest (s : State) (k pos len : Nat) : Bool :=
  decide (pos / leafBytes = (s.meas k).lowest) && decide ((pos + len - 1) / leafBytes = (s.meas k).lowest)

/-- Whether staging for a request is free (R205). DEDUCED, log entry 56. -/
def State.stagingFree (s : State) (k pos len : Nat) : Bool :=
  let r := s.inLowest k pos len
  decide (s.stagingUsed r + len ≤ if r then stagingReserve else stagingShared)

/-- Staging taken for a request. -/
def State.takeStaging (s : State) (k pos len : Nat) : State :=
  s.modXfer (fun x => { x with staging := x.staging ++ [{ slot := k, pos := pos, len := len, fromReserve := s.inLowest k pos len }] })

/-- The window of 32 MiB beyond the lowest unhashed position (R205). -/
def State.measWindow (s : State) (k pos len : Nat) : Bool := decide (pos + len ≤ (s.meas k).lowestPos + 33554432)

/-! ### The digest (R206) -/

/-- Nodes of a level combined by pairs; an odd last node is promoted unchanged. -/
def combineLevel : List (List Byte) → List (List Byte)
  | a :: b :: r => sha384 ([0x01] ++ a ++ b) :: combineLevel r
  | l => l

/-- Levels combined to one node; the first argument is fuel. -/
def merkleRoot : Nat → List (List Byte) → List Byte
  | 0, l => l.headD []
  | n + 1, l => if l.length ≤ 1 then l.headD [] else merkleRoot n (combineLevel l)

/-- The hash of a leaf. -/
def leafHash (i : Nat) (bytes : List Byte) : List Byte := sha384 ([0x00] ++ beBytes 8 i ++ bytes)

/-- The digest of an object of `n` bytes over the hashes of its leaves. -/
def objectDigest (n : Nat) (leaves : List (List Byte)) : List Byte := sha384 ([0x02] ++ beBytes 8 n ++ merkleRoot 40 leaves)

end Sys2Proof.Machine
end

