-- ==== Sys2Proof/Machine/OpsXfer.lean ====
section
/-!
DEFINITION. Tags, requests and their ends at the requester (R29, R33, R53, R54, R61 to R63, R77, R110, R184 to R188, R203, R205).
-/
namespace Sys2Proof.Machine

/-! ### Tags (R61, R62, R186) -/

/-- The tag quota of a Pavilion (R186, R448): the tenant's, and for Pavilion 0 what the tenant leaves. DEDUCED, log entry 33. -/
def State.quotaOf (s : State) (pav : Nat) : Nat :=
  match s.gate.tenant with
  | none => if pav = 0 then 16384 else 0
  | some t => if pav = 0 then 16384 - t.quota else if pav = t.num then t.quota else 0

/-- The next tag from `f` on that was not withdrawn before its first use (R487). -/
def skipDead (dead : List Nat) : Nat → Nat → Nat
  | 0, f => f
  | n + 1, f => if f ∈ dead then skipDead dead n (f + 1) else f

/-- The next free tag, first in first out. -/
def TagStore.next (t : TagStore) : Option Nat :=
  let f := skipDead t.dead t.dead.length t.fresh
  if f < 16384 then some f else t.freed.head?

/-- Whether a Pavilion may take a tag. -/
def State.tagFree (s : State) (pav : Nat) : Bool :=
  s.xfer.tags.next.isSome && decide ((s.xfer.tags.used.filter (fun a => a.pav == pav)).length < s.quotaOf pav)

/-- A tag taken: its use count advances (R62). -/
def TagStore.take (t : TagStore) (a : TagAlloc) : TagStore :=
  let tag := t.next.getD 0
  let use := (Table.get 0 t.uses tag + 1) % 64
  let f := skipDead t.dead t.dead.length t.fresh
  { t with fresh := if f < 16384 then f + 1 else f, freed := if f < 16384 then t.freed else t.freed.drop 1,
           uses := Table.put 0 t.uses tag use, used := t.used ++ [{ a with tag := tag, use := use }] }

/-- A tag freed joins the back of the order; a withdrawn one does not (R62, R487). -/
def TagStore.free (t : TagStore) (tag : Nat) : TagStore :=
  { t with used := t.used.filter (fun a => a.tag != tag),
           freed := if t.used.any (fun a => a.tag == tag && !a.withdrawn) then t.freed ++ [tag] else t.freed }

/-- The users of a translation: a request at the completer, or the request of a KVMOVE under a tag (R174). -/
def userReq (id : Nat) : Nat := 2 * id
def userTag (tag : Nat) : Nat := 2 * tag + 1

/-- A request no longer needs its translations. -/
def State.pwcLeave (s : State) (user : Nat) : State :=
  s.modXfer (fun x => { x with pwc := x.pwc.map (fun e => { e with users := e.users.filter (fun u => u != user) }) })

def State.tagAlloc (s : State) (tag : Nat) : Option TagAlloc := s.xfer.tags.used.find? (fun a => a.tag == tag)
/-- A tag freed; its translation is in use no more (R174), and something has happened for its Pavilion (R501). -/
def State.freeTag (s : State) (tag : Nat) : State :=
  let s1 := (s.modXfer (fun x => { x with tags := x.tags.free tag })).pwcLeave (userTag tag)
  match s.tagAlloc tag with
  | some a => s1.activity a.pav
  | none => s1
def State.modTag (s : State) (tag : Nat) (f : TagAlloc → TagAlloc) : State :=
  s.modXfer (fun x => { x with tags := { x.tags with used := x.tags.used.map (fun a => if a.tag = tag then f a else a) } })

/-- A tag taken for a request issued now. -/
def State.takeTag (s : State) (a : TagAlloc) : State :=
  (s.modXfer (fun x => { x with tags := x.tags.take { a with issued := s.now } })).belvAdd 16 (belvId 0 2) 1

/-- The tag that would be taken, as it will stand in the headers. -/
def State.nextTag (s : State) : Nat × Nat :=
  let tag := s.xfer.tags.next.getD 0
  (tag, (Table.get 0 s.xfer.tags.uses tag + 1) % 64)

/-- Whether a request waits for a tag. -/
def State.waitsTag (s : State) (o : TagOwner) : Bool := s.xfer.tags.waiting.any (fun w => w.2 == o)

/-! ### Classes and order -/

/-- The traffic class of an operation (R29). -/
def Channel.cls (c : Channel) (b : OpBody) : Nat :=
  match b with
  | .kvmove _ => clsBulk
  | _ => if c.typ = 1 then clsBulk else clsReq

/-- The completer node of the requests of an operation: the node its messages go to. -/
def OpBody.dest : OpBody → Option Nat
  | .put _ d _ _ => some d.node
  | .putInline d _ _ => some d.node
  | .get _ r _ _ => some r.node
  | .copy (.localAddr _) d _ _ => some d.node
  | .copy (.remote r) _ _ _ => some r.node
  | .kvmove k => some k.srcNode
  | .atomic a => some a.tgt.node
  | .signal (.remote r) _ _ => some r.node
  | _ => none

/-- The remote range an operation's requests split (R33, R185): its start offset and its length. -/
def OpBody.range : OpBody → Nat × Nat
  | .put _ d n _ => (d.offset, n)
  | .get _ r n _ => (r.offset, n)
  | .copy _ d n _ => (d.offset, n)
  | .putInline d n _ => (d.offset, n)
  | _ => (0, 1)

/-- The target of a measured copy from a remote source, which the requester relays (R203). -/
def Operation.relayTo (p : Operation) : Option Nat :=
  match p.body with
  | .copy (.remote _) d _ _ => if p.measure then some d.node else none
  | _ => none

/-- An operation still has requests of its own to form: of a relayed copy, reads of its source (R77, R203). -/
def OpSlot.more (q : OpSlot) : Bool := !q.allFormed && !((q.oper.bind Operation.relayTo).isSome && decide (q.body.range.2 ≤ q.formed))

/-- The nodes to which an operation of this node still has requests to form (R53, R54): a KVMOVE of the own node writes to the destination
(R190), and a measured relayed copy reads its source and writes to its target (R203). -/
def State.destsLeft (s : State) (q : OpSlot) : List Nat :=
  match q.oper with
  | none => []
  | some p => match p.body with
    | .kvmove k => if q.allFormed then [] else if k.srcNode = s.topo.node then [k.dstNode] else [k.srcNode]
    | b => (if q.more then b.dest.toList else []) ++ (if q.allFormed then [] else p.relayTo.toList)

/-- An operation of the channel admitted earlier that has not formed all its requests nor ended (R53, R54). -/
def OpSlot.unformed (q : OpSlot) : Bool :=
  (q.phase == .admitted || q.phase == .running) && !q.allFormed

/-- An ORDERED operation may form requests: no earlier operation still has requests to form to the same completer in the same class
(R54). -/
def State.orderOk (s : State) (o : OpRef) (q : OpSlot) (p : Operation) : Bool :=
  let c := s.chan o.chan
  !p.ordered || (c.allOps o.chan).all (fun e =>
    !(decide (e.2.seq < q.seq) && e.2.unformed && (s.destsLeft e.2).any (fun d => d ∈ s.destsLeft q) && c.cls e.2.body == c.cls p.body))

/-- Operations of the channel admitted before an operation and not ended. -/
def State.earlierOpen (s : State) (o : OpRef) (q : OpSlot) : List OpSlot :=
  (((s.chan o.chan).allOps o.chan).map Prod.snd).filter (fun e =>
    (e.phase == .admitted || e.phase == .running) && decide (e.seq < q.seq))

/-- Every dependency of an operation has completed with OK or OK_FLAGGED (R41, R138). -/
def State.depsDone (s : State) (o : OpRef) (p : Operation) : Bool :=
  match (s.chan o.chan).buf o.ring with
  | none => false
  | some b => p.deps.all (fun d => match b.ops[d]? with
    | some q => q.phase == .ended && goodStatus q.status
    | none => false)

/-- The nodes an operation names (R32). -/
def OpBody.nodes : OpBody → List Nat
  | .put _ d _ _ => [d.node]
  | .putInline d _ _ => [d.node]
  | .get _ r _ _ => [r.node]
  | .copy (.localAddr _) d _ _ => [d.node]
  | .copy (.remote r) d _ _ => [r.node, d.node]
  | .kvmove k => [k.srcNode, k.dstNode]
  | .atomic a => [a.tgt.node]
  | .signal (.remote r) _ _ => [r.node]
  | _ => []

/-- The node check of an operation (R32, R403, R575): a status where it is refused. Before the route table is built nothing is
checked; after a refused table every operation that names a node ends PEER_DOWN. -/
def State.nodeCheck (s : State) (pav : Nat) (b : OpBody) : Option Nat :=
  if b.nodes.isEmpty then none
  else if s.topo.state == .tableBad then some stPeerDown
  else if !s.topo.routeBuilt then none
  else if b.nodes.all (fun n => s.inBlock pav n) then none
  else some stPermission

/-- Whether an operation is performed by a copy engine (R145). -/
def OpBody.copyEngine : OpBody → Bool
  | .put .. => true
  | .putInline .. => true
  | .get .. => true
  | .copy .. => true
  | .kvmove _ => true
  | _ => false

/-- The clusters of a Pavilion (R447): a tenant's mask; Pavilion 0 has those no tenant holds. -/
def State.clustersOf (s : State) (pav : Nat) : List Nat :=
  match s.gate.tenant with
  | none => bitsSet 4 0xF
  | some t => if pav = t.num then bitsSet 4 t.clusters else bitsSet 4 (0xF ^^^ t.clusters)

/-- The operation named, where its engine can take it now: admitted, dependencies completed, no FENCE before it open (R41, R42, R142),
no Anneal applied (R72), the route table built where it names a node (R575), and a cluster there for a copy engine's (R449). -/
def State.takeable (s : State) (o : OpRef) : Option Operation :=
  match s.opOf o with
  | none => none
  | some q => match q.oper with
    | none => none
    | some p =>
      if s.live && q.phase == .admitted && !s.annealed (s.chan o.chan).pav && s.depsDone o p &&
          (s.topo.routeBuilt || p.body.nodes.isEmpty) && !(p.body.copyEngine && (s.clustersOf (s.chan o.chan).pav).isEmpty) && (s.earlierOpen o q).all (fun e => e.body != .fence) then some p else none

/-! ### The ends of requests -/

/-- A request or access of an operation ended well. -/
def State.opLess (s : State) (o : OpRef) (n : Nat) : State := s.modOp o (fun q => { q with out := q.out - n })

/-- A request or access of an operation failed: the first failure stands and no further request is formed (R77). -/
def State.opFail (s : State) (o : OpRef) (st n : Nat) : State :=
  let held := (s.xfer.held.filter (fun w => w.op == o)).length
  (s.modOp o (fun q => { q with status := if q.status = 0 then st else q.status, allFormed := true, out := q.out - n - held })).modXfer
    (fun x => { x with held := x.held.filter (fun w => w.op != o), tags := { x.tags with waiting := x.tags.waiting.filter (fun w => w.2 != .op o) },
                       stagingWait := x.stagingWait.filter (fun w => w.2 != o) })

/-- Payload bytes moved for an operation (R539, R540). -/
def State.countMoved (s : State) (o : OpRef) (index n : Nat) : State :=
  let c := s.chan o.chan
  let bin := match c.buf o.ring with
    | some b => b.bin
    | none => 0
  (s.belvAdd c.pav (belvId 0x10 index) n).belvAdd c.pav (belvId 0x11 (4 * bin + 1)) n

/-- The status and the cause of a failed access to carrier memory (R148, R183, R491, R512). -/
def FabResult.status : FabResult → Nat
  | .ue => stUncorrectable
  | .internal _ => stUncorrectable
  | .partReset => stPartReset
  | _ => stWindowFault
def FabResult.cause : FabResult → Nat
  | .ue => 0x12
  | .internal _ => 0x10
  | .partReset => 0x13
  | _ => 0x11

/-- The checker of R500 that reported a failure, or 0x3FF (R519). -/
def FabResult.checker : FabResult → Nat
  | .internal c => c
  | _ => 0x3FF

/-- The contained error of a failed access, with its address (R148, R183, R512). -/
def State.accessFault (s : State) (res : FabResult) (pav channel access addr : Nat) (unit : Nat := 2) (engine : Nat := 0) : State :=
  s.raiseContained (mkReport res.cause (unit := unit) (access := access) (pav := pav) (channel := channel) (engine := engine)
    (checker := res.checker) (status := res.status) (addr := addr))

/-- The generation of an operation's channel still is the one of the request. -/
def State.genOk (s : State) (i gen : Nat) : Bool := (s.chan i).gen.toNat == gen && (s.chan i).state != .free

/-! ### Forming requests -/

/-- The measurement slot and the object position of a measured operation (R202). -/
def OpSlot.measAt (q : OpSlot) : Option (Nat × Nat) :=
  match q.oper, q.base with
  | some p, some b => p.body.measure.map (fun m => (m.2, b))
  | _, _ => none

/-- Every byte of a measured operation has entered the measurement path (R204); one that failed waits for nothing. -/
def State.measuredIn (s : State) (q : OpSlot) : Bool :=
  q.status != 0 || (match q.measAt with
    | none => true
    | some (m, base) => (s.meas m).state != .opened || (s.meas m).covers base q.body.range.2)

/-- A measured operation's turn: every operation with earlier positions in its slot has formed its requests (R205). -/
def State.measTurn (s : State) (o : OpRef) (q : OpSlot) : Bool :=
  match q.measAt with
  | none => true
  | some (m, base) => ((s.chan o.chan).allOps o.chan).all (fun e => match e.2.measAt with
    | some (n, b) => !(n == m && decide (b < base) && e.2.unformed && e.2.more)
    | none => true)

/-- The length of the next request of an operation. -/
def OpSlot.nextLen (q : OpSlot) : Nat :=
  let r := q.body.range
  match q.body with
  | .putInline _ n _ => n
  | _ => requestLen (r.1 + q.formed) (r.2 - q.formed)

/-- A request header of an operation under the next tag (R327). -/
def State.reqHdr (s : State) (o : OpRef) (ord : Bool) (dest window offset kind lc : Nat) : LinkUnit :=
  mkReqHdr kind ord dest s.topo.node s.nextTag.1 s.nextTag.2 s.retained.srcGen.toNat (s.chan o.chan).gen.toNat window offset lc

/-- The copy engine that forms the next request of an operation: the four of its cluster in turn (R184). -/
def engineOfTurn (cluster n : Nat) : Nat := 4 * cluster + n % 4
def OpSlot.engine (q : OpSlot) : Nat := engineOfTurn q.cluster q.nreq

/-- The tag entry of a request of an operation. -/
def State.opTag (s : State) (o : OpRef) (kind : TagKind) (dest off len need : Nat) : TagAlloc :=
  let c := s.chan o.chan
  { tag := 0, use := 0, chan := o.chan, cgen := c.gen.toNat, pav := c.pav, owner := .op o, kind := kind, dest := dest, off := off, len := len,
    timeoutUs := c.txn, need := need, cluster := ((s.opOf o).map OpSlot.cluster).getD 0, engine := ((s.opOf o).map OpSlot.engine).getD 0 }

/-- An operation after one more request was formed: a measured relayed copy has its writes still to form (R203). -/
def OpSlot.formedMore (q : OpSlot) (n : Nat) : OpSlot :=
  { q with formed := q.formed + n, nreq := q.nreq + 1, out := q.out + 1,
           allFormed := decide (q.body.range.2 ≤ q.formed + n) && (q.oper.bind Operation.relayTo).isNone }

/-- One request of an operation takes its tag and is formed (R185, R187, R188, R203, R326). A request whose offset does not fit the
40-bit OFFSET lies beyond every window and fails with BOUNDS unsent (DEDUCED, log entry 9). -/
def State.formRequest (s : State) (o : OpRef) : State :=
  match s.opOf o with
  | none => s
  | some q => match q.oper with
    | none => s
    | some p =>
      let c := s.chan o.chan
      let cls := c.cls p.body
      let n := q.nextLen
      let tag := s.nextTag.1
      let use := s.nextTag.2
      let read (s : State) (addr : Nat) : State := s.issueAll (readPieces addr n c.pav (fun off => .tagRead tag use off))
      if 2 ^ 40 ≤ p.body.range.1 + q.formed then s.opFail o stBounds 0
      else match p.body with
      | .put src d _ _ =>
        let off := d.offset + q.formed
        let m := mkWriteHead (s.reqHdr o p.ordered d.node d.window off) off n
        read (((s.takeTag (s.opTag o .write d.node q.formed n n)).modOp o (fun q => q.formedMore n)).sendMsg cls c.pav d.node m
          (ready := false) (stream := o.chan + 1) (tag := some tag)) (src + q.formed)
      | .putInline d _ data =>
        let m := (mkWriteHead (s.reqHdr o p.ordered d.node d.window d.offset) d.offset n).fill data
        ((s.takeTag (s.opTag o .write d.node 0 n 0)).modOp o (fun q => q.formedMore n)).sendMsg cls c.pav d.node m
          (stream := o.chan + 1) (tag := some tag)
      | .get _ r _ _ =>
        let off := r.offset + q.formed
        let m := mkRead (s.reqHdr o p.ordered r.node r.window off) off n
        ((s.takeTag (s.opTag o .read r.node q.formed n 0)).modOp o (fun q => q.formedMore n)).sendMsg cls c.pav r.node m
          (stream := o.chan + 1) (tag := some tag)
      | .copy (.localAddr src) d _ _ =>
        let off := d.offset + q.formed
        let m := mkWriteHead (s.reqHdr o p.ordered d.node d.window off) off n
        read (((s.takeTag (s.opTag o .write d.node q.formed n n)).modOp o (fun q => q.formedMore n)).sendMsg cls c.pav d.node m
          (ready := false) (stream := o.chan + 1) (tag := some tag)) (src + q.formed)
      | .copy (.remote r) d _ _ =>
        let off := r.offset + q.formed
        if 2 ^ 40 ≤ off then s.opFail o stBounds 0
        else if p.measure then
          let m := mkRead (s.reqHdr o p.ordered r.node r.window off) off n
          ((s.takeTag (s.opTag o .measuredRead r.node q.formed n 0)).modOp o (fun q => q.formedMore n)).sendMsg cls c.pav r.node m
            (stream := o.chan + 1) (tag := some tag)
        else
          let m : Msg := { hdr := s.reqHdr o p.ordered r.node r.window off kCopyReq 0,
                           body := [mkCopyArg { d with offset := d.offset + q.formed } n c.txn] }
          ((s.takeTag (s.opTag o .copyReq r.node q.formed n 0)).modOp o (fun q => q.formedMore n)).sendMsg cls c.pav r.node m
            (stream := o.chan + 1) (tag := some tag)
      | .kvmove k =>
        let m : Msg := { hdr := s.reqHdr o p.ordered k.srcNode k.srcWindow 0 kKvCmd 0, body := mkKvArgs k c.txn }
        ((s.takeTag (s.opTag o .kvCmd k.srcNode 0 0 0)).modOp o (fun q => q.formedMore 1)).sendMsg cls c.pav k.srcNode m
          (stream := o.chan + 1) (tag := some tag)
      | .atomic a =>
        let m : Msg := { hdr := s.reqHdr o p.ordered a.tgt.node a.tgt.window a.tgt.offset kAtomic 0,
                         body := mkAtomicArgs a.subop a.fmt a.operand a.operand2 a.newLo a.newHi }
        (((s.takeTag (s.opTag o .atomic a.tgt.node 0 (fmtSize a.fmt) 0)).modOp o (fun q => q.formedMore 1)).belvAdd c.pav
          (belvId 0x10 5) 1).sendMsg cls c.pav a.tgt.node m (stream := o.chan + 1) (tag := some tag)
      | .signal (.remote r) mode v =>
        let m : Msg := { hdr := s.reqHdr o p.ordered r.node r.window r.offset kAtomic 0,
                         body := mkAtomicArgs (0x80 + mode) 5 v 0 0 0 }
        (((s.takeTag (s.opTag o .atomic r.node 0 8 0)).modOp o (fun q => q.formedMore 1)).belvAdd c.pav
          (belvId 0x10 5) 1).sendMsg cls c.pav r.node m (stream := o.chan + 1) (tag := some tag)
      | _ => s

/-! ### Responses (R37, R61, R187, R188, R203) -/

/-- The write half of a measured relayed copy: the data goes to the target under the next tag (R203). -/
def State.relayWrite (s : State) (o : OpRef) (a : TagAlloc) (data : List Byte) : State :=
  match ((s.opOf o).bind OpSlot.oper).map Operation.body with
  | some (.copy _ d _ _) =>
    let off := d.offset + a.off
    let c := s.chan o.chan
    let m := (mkWriteHead (s.reqHdr o false d.node d.window off) off data.length).fill data
    ((s.takeTag (s.opTag o .write d.node a.off data.length 0)).modOp o (fun q =>
      { q with written := q.written + data.length, nreq := q.nreq + 1, allFormed := decide (q.body.range.2 ≤ q.written + data.length) })).sendMsg (if c.typ = 1 then clsBulk else clsReq) c.pav d.node m
      (stream := o.chan + 1) (tag := some s.nextTag.1)
  | _ => s.opLess o 1

/-- Bytes of a measured operation fed to its slot (R203). -/
def State.feedOp (s : State) (o : OpRef) (off : Nat) (data : List Byte) : State :=
  match (s.opOf o).bind OpSlot.measAt with
  | none => s
  | some (m, base) => s.feed m (base + off) data

/-- Data of a measured relayed copy that has returned: it is written on, unless its operation has failed or was stopped (R77, R119); an
Anneal, or the lack of a tag, holds it back (R72, R186). -/
def State.relayOn (s : State) (o : OpRef) (a : TagAlloc) (data : List Byte) : State :=
  if (s.opOf o).all OpSlot.allFormed then s.opLess o 1
  else if s.annealed a.pav || !s.tagFree a.pav then s.modXfer (fun x => { x with held := x.held ++ [{ op := o, part := a, data := data }] })
  else s.relayWrite o a data

/-- The held data of an operation that can be written on now. -/
def State.heldWrite (s : State) (o : OpRef) : Option HeldWrite :=
  if s.annealed (s.chan o.chan).pav || !s.tagFree (s.chan o.chan).pav then none else s.xfer.held.find? (fun w => w.op == o)

/-- What a response does for the operation that sent the request. -/
def State.opResponse (s : State) (o : OpRef) (a : TagAlloc) (st fl : Nat) (data : List Byte) : State :=
  if !goodStatus st then s.opFail o st 1
  else
    let c := s.chan o.chan
    match a.kind with
    | .read =>
      match ((s.opOf o).bind OpSlot.oper).map Operation.body with
      | some (.get dst _ _ _) =>
        let ws := writePieces (dst + a.off) data c.pav (fun _ => .opStore o c.gen.toNat)
        ((((s.modOp o (fun q => { q with out := q.out - 1 + ws.length })).issueAll ws).feedOp o a.off data).countMoved o 3 data.length)
      | _ => s.opLess o 1
    | .measuredRead => (s.feedOp o a.off data).relayOn o a data
    | .atomic =>
      let s1 := s.modOp o (fun q => { q with flags := q.flags ||| fl })
      match ((s.opOf o).bind OpSlot.oper).map Operation.body with
      | some (.atomic x) =>
        if x.ret then s1.issue { op := .write, addr := x.resultAddr, len := fmtSize x.fmt, pav := c.pav, data := data.take (fmtSize x.fmt),
                                 use := .opStore o c.gen.toNat }
        else s1.opLess o 1
      | _ => s1.opLess o 1
    | _ => (s.opLess o 1).countMoved o 2 a.len

/-- The record of a signal word that did not arrive (R136). -/
def State.sigDrop (s : State) (ch st : Nat) : State :=
  s.raiseContained (mkReport 0x18 (unit := 1) (pav := (s.chan ch).pav) (channel := ch) (status := st))

/-! ### Arbitration of issue slots (R110, R478) -/

def State.frame (s : State) (cl : Nat) : Frame := Table.get ({} : Frame) s.xfer.frames cl

/-- The share of a Pavilion in percent (R122). -/
def FrontEnd.share (e : FrontEnd) (pav : Nat) : Nat :=
  if pav < 8 then bits e.rtShareLo (8 * pav + 6) (8 * pav) else bits e.rtShareHi (8 * (pav - 8) + 6) (8 * (pav - 8))

/-- Requests of an operation that supply sag holds back: BULK from level 2 on, and beyond 32 slots of a frame at level 1; normal channels
at level 3 (R478). -/
def State.shed (s : State) (c : Channel) (cls cl : Nat) : Bool :=
  (cls == clsBulk && (2 ≤ s.power.level || (s.power.level == 1 && decide (32 ≤ (s.frame cl).bulk)))) ||
    (s.power.level == 3 && c.typ != 2)

/-- A slot taken; the frame ends at 64. DEDUCED, log entry 50. -/
def Frame.take (f : Frame) (ch : Nat) (rt bulk : Bool) : Frame :=
  let g := { f with slots := f.slots + 1, rt := f.rt + b2n rt, bulk := f.bulk + b2n bulk, lastRt := if rt then ch else f.lastRt, last := ch }
  if 64 ≤ g.slots then { g with slots := 0, rt := 0, bulk := 0 } else g

/-- The slot an operation's request takes (R110). -/
def State.takeSlot (s : State) (o : OpRef) (q : OpSlot) : State :=
  if q.body.copyEngine then
    let c := s.chan o.chan
    let f := (s.frame q.cluster).take o.chan (c.typ == 2) (c.cls q.body == clsBulk)
    s.modXfer (fun x => { x with frames := Table.put ({} : Frame) x.frames q.cluster f })
  else s

/-- The requests outstanding in a cluster (R184). -/
def State.clusterLoad (s : State) (cl : Nat) : Nat :=
  (s.xfer.tags.used.filter (fun a => a.cluster == cl && (match a.kind with
    | .atomic => false
    | _ => true) && (match a.owner with
    | .op _ => true
    | .kv _ => true
    | _ => false))).length

/-- The cluster that takes an operation: the fewest requests outstanding, the lower number on a tie (R184). -/
def State.pickCluster (s : State) (pav : Nat) : Nat :=
  match (s.clustersOf pav).foldl (fun b c => match b with
    | none => some c
    | some d => if s.clusterLoad c < s.clusterLoad d then some c else some d) (none : Option Nat) with
  | some c => c
  | none => 0

end Sys2Proof.Machine
end

