-- ==== Sys2Proof/Machine/OpsGather.lean ====
section
/-!
DEFINITION. The Gather engine at work (R26 to R28, R73, R119, R224, R235 to R246, R273, R274, R282, R284 to R294, R308 to R311, R579):
Timetable windows, chunks, operand loads, combining, sends and credits, the ends of runs.
-/
namespace Sys2Proof.Machine

/-! ### Timetable windows (R308, R309) -/

/-- The window open at a moment: its slot and when it ends. -/
def TimeTable.windowAt (t : TimeTable) (now : Nat) : Option (Nat × Nat) :=
  if now < t.epoch || t.period = 0 then none
  else
    let ph := (now - t.epoch) % t.period
    (t.entries.find? (fun e => decide (e.1 ≤ ph) && decide (ph < e.1 + e.2.1))).map (fun e => (e.2.2, now - ph + e.1 + e.2.1))

/-- A slot has an entry. -/
def TimeTable.hasSlot (t : TimeTable) (slot : Nat) : Bool := t.entries.any (fun e => e.2.2 == slot)

/-- The window open at a port now: under the active Timetable, from TT_EPOCH on. -/
def State.window (s : State) (p : PortIx) : Option (Nat × Nat) := (s.port p).time.active.bind (fun t => t.windowAt s.podTime)

/-! ### Segments and chunks (R282, R579) -/

/-- S of R282. -/
def segLen (p : Program) (r : Run) : Nat := ceilDiv r.count p.nseg

/-- The elements of a segment range. -/
def segRange (p : Program) (r : Run) (first count : Nat) : Nat × Nat :=
  (min (first * segLen p r) r.count, min ((first + count) * segLen p r) r.count)

/-- C of a step; a step without streams and sends steps through memory in chunks of the chunk size (R291). -/
def GStep.perChunk (s : GStep) (p : Program) : Nat :=
  if s.chunk ≠ 0 then s.chunk else max 1 (2 ^ p.chunkLog2 / max 1 (s.elemSize true s.elem))

/-- The send of a step by number. -/
def GStep.tx (s : GStep) (i : Nat) : Option Send := if i = 0 then s.tx0 else s.tx1
def GStep.rx (s : GStep) (i : Nat) : Option RxStream := if i = 0 then s.rx0 else s.rx1

/-- The source of a send that is not RESULT. -/
def otherSource (t : Option Send) : Option Source :=
  match t with
  | some q => if q.src = .result then none else some q.src
  | none => none

/-- The operands of a lane of work. -/
def GStep.sources (s : GStep) (w : WorkLane) : List Source :=
  match w with
  | .main => s.ops
  | .send0 => (otherSource s.tx0).toList
  | .send1 => (otherSource s.tx1).toList

/-- The elements a lane of work covers; none where the step has no such send. -/
def GStep.laneRange (s : GStep) (p : Program) (r : Run) (w : WorkLane) : Nat × Nat :=
  match w with
  | .main => segRange p r s.segFirst s.segCount
  | _ => if (s.sources w).isEmpty then (0, 0) else segRange p r s.txSegFirst s.txSegCount

/-- How many chunks a range has: each segment is cut on its own (R579). -/
def chunkTotal (seg c : Nat) (g : Nat × Nat) : Nat :=
  if seg = 0 then 0 else (g.2 - g.1) / seg * ceilDiv seg c + ceilDiv ((g.2 - g.1) % seg) c

/-- Chunk `i` of a range: its first element and its elements. -/
def chunkAt (seg c : Nat) (g : Nat × Nat) (i : Nat) : Nat × Nat :=
  let per := ceilDiv seg c
  let start := g.1 + i / per * seg + i % per * c
  (start, min (min c (g.1 + (i / per + 1) * seg - start)) (g.2 - start))

/-- The index of the chunk that starts at an element of a range. -/
def chunkIndex (seg c : Nat) (g : Nat × Nat) (e : Nat) : Nat := (e - g.1) / seg * ceilDiv seg c + (e - g.1) % seg / c

def GStep.laneChunks (s : GStep) (p : Program) (r : Run) (w : WorkLane) : Nat := chunkTotal (segLen p r) (s.perChunk p) (s.laneRange p r w)
def GStep.laneChunk (s : GStep) (p : Program) (r : Run) (w : WorkLane) (i : Nat) : Nat × Nat :=
  chunkAt (segLen p r) (s.perChunk p) (s.laneRange p r w) i

def Run.step (r : Run) (k : Nat) : StepState := Table.get {} r.steps k
def Run.modStep (r : Run) (k : Nat) (f : StepState → StepState) : Run := { r with steps := Table.put {} r.steps k (f (r.step k)) }
def StepState.work (t : StepState) (w : WorkLane) : Work :=
  match w with
  | .main => t.main
  | .send0 => t.s0
  | .send1 => t.s1
def StepState.modWork (t : StepState) (w : WorkLane) (f : Work → Work) : StepState :=
  match w with
  | .main => { t with main := f t.main }
  | .send0 => { t with s0 := f t.s0 }
  | .send1 => { t with s1 := f t.s1 }
def StepState.tx (t : StepState) (i : Nat) : SendState := if i = 0 then t.t0 else t.t1
def StepState.modTx (t : StepState) (i : Nat) (f : SendState → SendState) : StepState :=
  if i = 0 then { t with t0 := f t.t0 } else { t with t1 := f t.t1 }

def allLanes : List WorkLane := [.main, .send0, .send1]
def WorkLane.code : WorkLane → Nat
  | .main => 0
  | .send0 => 1
  | .send1 => 2

/-! ### What a chunk reads and writes -/

def GStep.shape (s : GStep) : Shape := { rowLen := s.rowLen, g := s.g, k := s.k }
def GStep.accFmt (s : GStep) : Nat := (accFormat s.gop s.elem).getD 0
def GStep.inLayout (s : GStep) : Layout := (gopIn s.gop).getD .num
/-- DEDUCED, log entry 65. -/
def GStep.outLayout (s : GStep) : Layout := (gopOut s.gop).getD .num
def GStep.conv (s : GStep) (p : Program) (i : Nat) : ConvDesc :=
  if i = 0 then defaultConv s.accFmt else (p.convs[i - 1]?).getD (defaultConv s.accFmt)

/-- The format an operand is taken in (R221, R280). -/
def GStep.srcFmt (s : GStep) (q : Source) : Nat :=
  match q with
  | .input => s.elem
  | .output => s.elem
  | .rx0 => (s.rx0.map RxStream.fmt).getD 0
  | .rx1 => (s.rx1.map RxStream.fmt).getD 0
  | _ => s.accFmt

/-- The byte ranges of elements of a local operand (R282). -/
def GStep.srcRanges (s : GStep) (r : Run) (q : Source) (a n : Nat) : List (Nat × Nat) :=
  (s.inLayout.ranges (s.srcFmt q) s.shape a n r.count).filter (fun x => x.2 != 0)
def GStep.outRanges (s : GStep) (p : Program) (r : Run) (a n : Nat) : List (Nat × Nat) :=
  (s.outLayout.ranges (s.conv p s.wrConv).outFmt s.shape a n r.count).filter (fun x => x.2 != 0)
def GStep.accRanges (s : GStep) (r : Run) (a n : Nat) : List (Nat × Nat) :=
  (s.outLayout.ranges s.accFmt s.shape a n r.count).filter (fun x => x.2 != 0)

/-- The ranges of OUTPUT (true) and of the accumulator area (false) that elements of a lane read. -/
def GStep.laneReads (s : GStep) (r : Run) (w : WorkLane) (a n : Nat) : List (Bool × Nat × Nat) :=
  (s.sources w).flatMap (fun q => match q with
    | .output => (s.srcRanges r q a n).map (fun x => (true, x))
    | .acc => (s.srcRanges r q a n).map (fun x => (false, x))
    | _ => [])

/-- The ranges they write. -/
def GStep.laneWrites (s : GStep) (p : Program) (r : Run) (w : WorkLane) (a n : Nat) : List (Bool × Nat × Nat) :=
  match w with
  | .main => (if s.write then (s.outRanges p r a n).map (fun x => (true, x)) else []) ++
      (if s.accWr then (s.accRanges r a n).map (fun x => (false, x)) else [])
  | _ => []

/-- Two ranges of one region meet. -/
def meets (a b : Bool × Nat × Nat) : Bool :=
  a.1 == b.1 && decide (a.2.1 < b.2.1 + b.2.2) && decide (b.2.1 < a.2.1 + a.2.2)
def anyMeet (l m : List (Bool × Nat × Nat)) : Bool := l.any (fun a => m.any (meets a))

/-- The elements a lane has still to process: from its next chunk on. -/
def GStep.rest (s : GStep) (p : Program) (r : Run) (k : Nat) (w : WorkLane) : Nat × Nat :=
  let i := ((r.step k).work w).done
  if s.laneChunks p r w ≤ i then (0, 0)
  else
    let c := s.laneChunk p r w i
    (c.1, (s.laneRange p r w).2 - c.1)

/-- The number of a step by its place in the list. -/
def Program.numOf (p : Program) (k : Nat) : Nat := ((p.steps[k]?).map GStep.num).getD k

/-- The places of the steps before a number, and of those that have it. -/
def Program.before (p : Program) (num : Nat) : List (GStep × Nat) := (p.steps.zipIdx).filter (fun y => decide (y.1.num < num))
def Program.atNum (p : Program) (num : Nat) : List (GStep × Nat) := (p.steps.zipIdx).filter (fun y => y.1.num == num)

/-- Steps run in list order and overlap chunk by chunk (R291): every earlier step has combined as many chunks, or all of its own. -/
def reached (p : Program) (r : Run) (num i : Nat) : Bool :=
  (p.before num).all (fun y => decide (i < (r.step y.2).main.done) || decide (y.1.laneChunks p r .main ≤ (r.step y.2).main.done))

/-- What an earlier step has still to write does not meet these ranges (R291). -/
def writesOver (p : Program) (r : Run) (num : Nat) (l : List (Bool × Nat × Nat)) : Bool :=
  (p.before num).all (fun y => allLanes.all (fun v =>
    let e := y.1.rest p r y.2 v
    e.2 == 0 || !anyMeet (y.1.laneWrites p r v e.1 e.2) l))

/-- What an earlier step has still to read or write does not meet the chunk (R291): every write it will make to what the chunk reads or
writes, and every read it will make of what the chunk writes, comes first. The sends of a step read what earlier steps wrote. -/
def orderFree (p : Program) (r : Run) (k : Nat) (w : WorkLane) (a n : Nat) : Bool :=
  match p.steps[k]? with
  | none => false
  | some s =>
    let wr := s.laneWrites p r w a n
    writesOver p r s.num (s.laneReads r w a n ++ wr) &&
    (p.before s.num).all (fun y => allLanes.all (fun v =>
      let e := y.1.rest p r y.2 v
      e.2 == 0 || !anyMeet (y.1.laneReads r v e.1 e.2) wr)) &&
    (w != .main || [WorkLane.send0, .send1].all (fun v =>
      let e := s.rest p r k v
      e.2 == 0 || !anyMeet (s.laneReads r v e.1 e.2) wr))

/-- A write of the run to OUTPUT that is not yet reported visible meets a range (R291). -/
def State.writePending (s : State) (slot tag : Nat) (r : Run) (x : Nat × Nat) : Bool :=
  let hit (u : FabUse) (addr len : Nat) : Bool := match u with
    | .gatherOut i t n _ => i == slot && t == tag && n == r.num && decide (addr < r.output + x.1 + x.2) && decide (r.output + x.1 < addr + len)
    | _ => false
  s.fab.out.any (fun a => hit a.use a.addr a.len) || s.fab.waiting.any (fun a => hit a.use a.addr a.len)

/-! ### Slots and runs -/

def State.gslot (s : State) (i : Nat) : Option GSlot := s.gather.slot i
def State.setGslot (s : State) (i : Nat) (q : Option GSlot) : State := s.modGather (fun g => { g with slots := Table.put none g.slots i q })
def State.modGslot (s : State) (i : Nat) (f : GSlot → GSlot) : State := s.setGslot i ((s.gslot i).map f)
def State.modRun (s : State) (i : Nat) (f : Run → Run) : State := s.modGslot i (fun q => { q with run := q.run.map f })

/-- The slot and its run in progress that has not failed. -/
def State.running (s : State) (i : Nat) : Option (GSlot × Run) :=
  match s.gslot i with
  | none => none
  | some q => match q.run with
    | none => none
    | some r => if r.failed.isNone && r.phase == .running then some (q, r) else none

/-- The accesses of a run outstanding. -/
def State.runAccesses (s : State) (i tag num : Nat) : Nat :=
  let hit (u : FabUse) : Bool := match u with
    | .gatherIn j t n _ _ _ _ _ => j == i && t == tag && n == num
    | .gatherOut j t n _ => j == i && t == tag && n == num
    | .runStatus j t => j == i && t == tag
    | .doneSem j t => j == i && t == tag
    | _ => false
  (s.fab.out.filter (fun a => hit a.use)).length + (s.fab.waiting.filter (fun a => hit a.use)).length

/-- The channel of a run; 0xFFF for a persistent program. -/
def Run.chan (r : Run) : Nat := (r.op.map OpRef.chan).getD 0xFFF

/-- The contained error of a failed access of a run (R148, R274, R512). -/
def State.runFault (s : State) (q : GSlot) (r : Run) (res : FabResult) (access addr : Nat) : State :=
  s.raiseContained (mkReport res.cause (unit := 8) (access := access) (pav := q.pav) (channel := r.chan) (engine := q.slice) (status := res.status)
    (addr := addr))

/-- A result write of a run of a slot. -/
def isResultWrite (i tag : Nat) : FabUse → Bool
  | .gatherOut j t _ _ => j == i && t == tag
  | _ => false

/-- A run fails at a step (R274): result writes not yet issued are dropped, and no further result write or operand follows. -/
def State.failRun (s : State) (i st k : Nat) : State :=
  match s.gslot i with
  | none => s
  | some q =>
    (s.modFab (fun f => { f with waiting := f.waiting.filter (fun a => !isResultWrite i q.tag a.use) })).modRun i
      (fun r => if r.failed.isSome then r else { r with failed := some (st, q.prog.numOf k) })

/-! ### Chunk credits (R239, R242) -/

/-- The credit of a chunk goes back to its sender in the class of the chunk. -/
def State.returnCredit (s : State) (i pav : Nat) (c : HeldChunk) : State :=
  s.sendMsg c.cls pav c.src { hdr := mkCrdHdr c.txi c.src s.topo.node i c.run c.step 1 }

/-- A chunk discarded: counted, and its credit returned. -/
def State.discardChunk (s : State) (i pav : Nat) (c : HeldChunk) : State := (s.bump ctrDiscard).returnCredit i pav c

/-- Chunks held of a run that is over are discarded. -/
def State.discardRun (s : State) (i num : Nat) : State :=
  match s.gslot i with
  | none => s
  | some q =>
    let gone := q.held.filter (fun c => c.run == num % 256)
    gone.foldl (fun t c => t.discardChunk i q.pav c) (s.modGslot i (fun q => { q with held := q.held.filter (fun c => c.run != num % 256) }))

/-! ### Loading local operands (R27, R291) -/

/-- A step that has begun: a chunk of it was combined or made ready to send. -/
def Run.begun (r : Run) (k : Nat) : Bool := allLanes.any (fun w => decide (0 < ((r.step k).work w).done))

/-- Whether a lane may load the local operands of the next chunk not asked for: every chunk loads as early as what earlier steps have still to
write lets it (R27, R291); a run told to stop begins no further step (R119). -/
def State.askDue (s : State) (i : Nat) (q : GSlot) (r : Run) (k : Nat) (w : WorkLane) : Bool :=
  match q.prog.steps[k]? with
  | none => false
  | some t =>
    let d := ((r.step k).work w).asked
    let c := t.laneChunk q.prog r w d
    let rd := t.laneReads r w c.1 c.2
    (!r.halt || r.begun k) && decide (d < t.laneChunks q.prog r w) && writesOver q.prog r t.num rd &&
      rd.all (fun x => !x.1 || !s.writePending i q.tag r x.2)

/-- The reads of the local operands of chunk `j` of a lane. -/
def loadReads (i : Nat) (q : GSlot) (r : Run) (k : Nat) (w : WorkLane) (j : Nat) : List FabRequest :=
  match q.prog.steps[k]? with
  | none => []
  | some t =>
    let c := t.laneChunk q.prog r w j
    let read (n : Nat) (base : Nat) (x : Source) : List FabRequest :=
      ((t.srcRanges r x c.1 c.2).foldl (fun (acc : Nat × List FabRequest) g =>
        (acc.1 + g.2, acc.2 ++ readPieces (base + g.1) g.2 q.pav (fun off => .gatherIn i q.tag r.num k w.code j n (acc.1 + off)))) (0, [])).2
    ((t.sources w).zipIdx).flatMap (fun y => match y.1 with
      | .input => read y.2 r.input y.1
      | .output => read y.2 r.output y.1
      | _ => [])

/-- The operands of a lane's chunks asked for, one chunk after another, while they may be. The first argument is fuel. -/
def State.askLane (s : State) (i k : Nat) (w : WorkLane) : Nat → State
  | 0 => s
  | n + 1 => match s.running i with
    | none => s
    | some (q, r) =>
      if s.askDue i q r k w then
        ((s.modRun i (fun r => r.modStep k (fun t => t.modWork w (fun x => { x with asked := x.asked + 1 })))).issueAll
          (loadReads i q r k w ((r.step k).work w).asked)).askLane i k w n
      else s

/-! ### The chunks of RX streams (R240, R241, R331) -/

/-- Which stream number a source names. -/
def Source.rxIx : Source → Option Nat
  | .rx0 => some 0
  | .rx1 => some 1
  | _ => none

/-- The chunk of an RX stream as it is held: by SRC, and by TXI where both streams of a step have one peer. -/
def GSlot.findRx (q : GSlot) (num : Nat) (t : GStep) (x c : Nat) : Option HeldChunk :=
  match t.rx x with
  | none => none
  | some p =>
    let both := (q.prog.atNum t.num).any (fun y => (y.1.rx (1 - x)).any (fun o => o.peer == p.peer))
    q.held.find? (fun h => h.run == num % 256 && h.step == t.num && h.src == p.peer && h.chunk == c % 65536 && (!both || h.txi == (x == 1)))

/-- What is known of a chunk that should have a length and a format. -/
inductive ChunkState where
  | missing
  | bad
  | complete (data : List Byte)
  deriving DecidableEq, Repr

/-- A held chunk against the length and format its step expects (R241). DEDUCED, log entry 68. -/
def HeldChunk.check (h : HeldChunk) (fmt len : Nat) : ChunkState :=
  let parts := ceilDiv len 4096
  let units (j : Nat) : Nat := 16 * ceilDiv (min 4096 (len - 4096 * j)) 16
  if h.parts.any (fun p => decide (parts ≤ p.1) || p.2.1 != fmt || p.2.2.length != units p.1) then .bad
  else match (List.range parts).mapM (fun j => (h.parts.find? (fun p => p.1 == j)).map (fun p => p.2.2)) with
    | some l => .complete (l.flatten.take len)
    | none => .missing

/-- The chunk of an RX stream that a chunk of a lane takes: it starts at the same element of the step's own range; none where the stream
carries no such chunk. -/
def GStep.rxChunk (t : GStep) (p : Program) (r : Run) (w : WorkLane) (i : Nat) : Option Nat :=
  let c := t.laneChunk p r w i
  let g := t.laneRange p r .main
  if g.1 ≤ c.1 && decide (c.1 < g.2) then some (chunkIndex (segLen p r) (t.perChunk p) g c.1) else none

def stRx (q : GSlot) (r : Run) (t : GStep) (w : WorkLane) (i x : Nat) : ChunkState :=
  match t.rxChunk q.prog r w i with
  | none => .bad
  | some c => match q.findRx r.num t x c with
    | none => .missing
    | some h => h.check ((t.rx x).map RxStream.fmt |>.getD 0)
        ((t.inLayout.size ((t.rx x).map RxStream.fmt |>.getD 0) t.shape) * (t.laneChunk q.prog r w i).2)

/-- Whether a lane has a next chunk that may be worked on, its operands apart: earlier steps have come as far, and what they have still to read or
write does not meet it (R291); a run told to stop begins no further step (R119). -/
def chunkFree (q : GSlot) (r : Run) (k : Nat) (t : GStep) (w : WorkLane) : Bool :=
  let d := ((r.step k).work w).done
  let c := t.laneChunk q.prog r w d
  decide (d < t.laneChunks q.prog r w) && (!r.halt || r.begun k) && reached q.prog r t.num d && orderFree q.prog r k w c.1 c.2

/-- One operand of a lane's next chunk: `missing` while it has not come, `bad` where it is of the wrong format or length. -/
def operandState (q : GSlot) (r : Run) (k : Nat) (t : GStep) (w : WorkLane) (y : Source × Nat) : ChunkState :=
  let x := (r.step k).work w
  let c := t.laneChunk q.prog r w x.done
  match y.1 with
  | .acc => .complete ((t.srcRanges r .acc c.1 c.2).flatMap (fun g => r.acc.readBytes g.1 g.2))
  | .input | .output =>
    let l := joinPieces ((x.pieces.filter (fun z => z.1 == x.done && z.2.1 == y.2)).map (fun z => z.2.2))
    if l.length = ((t.srcRanges r y.1 c.1 c.2).map Prod.snd).sum then .complete l else .missing
  | .rx0 => stRx q r t w x.done 0
  | .rx1 => stRx q r t w x.done 1
  | .result => .complete []

/-- The bytes of a chunk's operands: `none` while one is missing, `some none` where one is of the wrong format or length. -/
def operandBytes (q : GSlot) (r : Run) (k : Nat) (w : WorkLane) : Option (Option (List (List Byte))) :=
  match q.prog.steps[k]? with
  | none => none
  | some t =>
    if !chunkFree q r k t w then none
    else
      let l := ((t.sources w).zipIdx).map (operandState q r k t w)
      if l.any (fun c => c == .missing) then none
      else some (l.mapM (fun c => match c with
        | .complete b => some b
        | _ => none))

/-- How many chunks of RX streams a lane's next chunk waits for, when nothing else is missing (R293); 0 else. DEDUCED, log entry 74. -/
def rxMissing (q : GSlot) (r : Run) (k : Nat) (w : WorkLane) : Nat :=
  match q.prog.steps[k]? with
  | none => 0
  | some t =>
    let l := ((t.sources w).zipIdx).filter (fun y => operandState q r k t w y == .missing)
    if chunkFree q r k t w && l.all (fun y => y.1.rxIx.isSome) then l.length else 0

/-- The timers of R293 after an event of a run: one starts when chunks of RX streams alone are missing, and anew when one of two has come. -/
def State.timeLane (s : State) (i k : Nat) (w : WorkLane) : State :=
  match s.running i with
  | none => s
  | some (q, r) =>
    let m := rxMissing q r k w
    if m = ((r.step k).work w).lack then s
    else s.modRun i (fun r => r.modStep k (fun t => t.modWork w (fun x => { x with lack := m, since := if m = 0 then none else some s.now })))

/-- Every step of a run looked at again: operands asked for, timers set. -/
def State.pumpRun (s : State) (i : Nat) : State :=
  match s.running i with
  | none => s
  | some (q, r) =>
    ((q.prog.steps).zipIdx).foldl (fun t y => allLanes.foldl (fun t w => (t.askLane i y.2 w (y.1.laneChunks q.prog r w)).timeLane i y.2 w) t) s

/-! ### Sends (R26, R73, R239, R311) -/

/-- The port a send leaves by (R280, R413): 6 for the node itself. -/
def State.sendPort (s : State) (t : Send) : Nat :=
  if t.dir = 0 || t.peer = s.topo.node then s.firstHop t.peer
  else match firstAxis s.topo.node t.peer with
    | some a => axisPort a (t.dir == 1)
    | none => s.firstHop t.peer

/-- A send judged at its first hop (R311): its phase, and the counter it advances. -/
def State.judge (s : State) (t : Send) : SendPhase × Option Nat :=
  if t.slotId = 0 then (.begun, none)
  else
    let p := s.sendPort t
    if h : p < 6 then
      let ix : PortIx := ⟨p, h⟩
      if (s.window ix).any (fun w => w.1 == t.slotId) then (.begun, none)
      else if (s.port ix).time.active.any (fun a => a.hasSlot t.slotId) then
        (if t.lateGo then (.begun, some (ctrTtLate ix)) else (.waiting, none))
      else (.begun, some (ctrTtMiss ix))
    else (.begun, none)

/-- The rank in the OPERAND units of a program (R240, R296): over the axes of its descriptor, or over all three for an image. -/
def State.rankOf (s : State) (pav axes : Nat) : Nat :=
  match s.topo.install, s.blockOf pav with
  | some t, some b => b.rank t axes s.topo.node
  | _, _ => 0

/-- One chunk sent: an OPERAND message for each 4 KiB part (R331). -/
def State.sendChunk (s : State) (i : Nat) (q : GSlot) (r : Run) (k x : Nat) (t : Send) (fmt c : Nat) (data : List Byte) : State :=
  let cls := if t.slotId = 0 then clsColl else clsSched
  (List.range (ceilDiv data.length 4096)).foldl (fun u j =>
    let l := slice data (4096 * j) 4096
    u.sendVia (u.sendPort t) cls q.pav
      { hdr := mkOpdHdr (x == 1) t.peer u.topo.node i (r.num % 256) (q.prog.numOf k) (u.rankOf q.pav q.prog.axes) (c % 65536) j fmt (ceilDiv l.length 16), body := dataUnits l }) s

/-- The credits a stream has left (R239). -/
def GSlot.credits (q : GSlot) (num x : Nat) : Nat := 2 - Table.get 0 q.spent (2 * num + x)

/-- The chunks of one send that can go now, two at the most. -/
def State.pumpSend (s : State) (i k x : Nat) : Nat → State
  | 0 => s
  | n + 1 => match s.running i with
    | none => s
    | some (q, r) => match (q.prog.steps[k]?).bind (fun t => (t.tx x).map (fun y => (t, y))) with
      | none => s
      | some (t, y) =>
        let z := (r.step k).tx x
        match z.queue with
        | [] => s
        | (c, data) :: rest =>
          if s.annealed q.pav then s
          else match z.phase with
            | .waiting => s
            | .fresh =>
              let j := s.judge y
              let s1 := s.modRun i (fun r => r.modStep k (fun t => t.modTx x (fun z => { z with phase := j.1 })))
              (match j.2 with
                | some o => s1.bump o
                | none => s1).pumpSend i k x n
            | .begun =>
              let c2 := 2 * t.num + x
              if q.credits t.num x = 0 then
                s.modRun i (fun r => r.modStep k (fun t => t.modTx x (fun z => { z with noCredit := z.noCredit <|> some s.now })))
              else
                let s1 := s.modGslot i (fun q => { q with spent := Table.put 0 q.spent c2 (Table.get 0 q.spent c2 + 1) })
                let s2 := s1.modRun i (fun r => r.modStep k (fun t => t.modTx x (fun z => { z with queue := rest, noCredit := none })))
                (s2.sendChunk i q r k x y (t.sendFmt t.elem q.prog.convs) c data).pumpSend i k x n

/-- Every send of a run tried. -/
def State.pumpSends (s : State) (i : Nat) : State :=
  match s.running i with
  | none => s
  | some (q, _) => (List.range q.prog.steps.length).foldl (fun t k => (t.pumpSend i k 0 5).pumpSend i k 1 5) s

/-! ### Stochastic draws (R224, R225, R243) -/

/-- How many elements of a range fall to a lane. -/
def inLane (lane : Nat) (g : Nat × Nat) : Nat := (g.2 + 255 - lane) / 256 - (g.1 + 255 - lane) / 256

/-- The draws an element's written values make, and those of its RESULT sends. -/
def GStep.writeDraws (t : GStep) (p : Program) : Nat :=
  if t.write && (t.conv p t.wrConv).draws t.accFmt then t.outLayout.roundings t.shape else 0
def GStep.resultDraws (t : GStep) (p : Program) : Nat :=
  if t.sends.any (fun y => y.src == .result) && (t.conv p t.txConv).draws t.accFmt then t.outLayout.roundings t.shape else 0

/-- The sources other than RESULT of a step's sends, each once, in the order of the sends. -/
def GStep.otherSources (t : GStep) : List Source := ((otherSource t.tx0).toList ++ (otherSource t.tx1).toList).eraseDups
def GStep.otherDraws (t : GStep) (p : Program) : Nat :=
  if (t.conv p t.txConv).draws t.accFmt then t.inLayout.roundings t.shape else 0

/-- The elements the sends of other sources cover. -/
def GStep.otherRange (t : GStep) (p : Program) (r : Run) : Nat × Nat :=
  if t.otherSources.isEmpty then (0, 0) else segRange p r t.txSegFirst t.txSegCount

/-- The draws a lane makes in a step before element `e`. -/
def GStep.drawsBefore (t : GStep) (p : Program) (r : Run) (lane e : Nat) : Nat :=
  let m := t.laneRange p r .main
  let o := t.otherRange p r
  inLane lane (m.1, max m.1 (min e m.2)) * (t.writeDraws p + t.resultDraws p) +
    inLane lane (o.1, max o.1 (min e o.2)) * (t.otherDraws p * t.otherSources.length)

/-- The number of the first draw of an element for its written values (none) or for a send of a source. DEDUCED, log entry 78. -/
def drawStart (p : Program) (r : Run) (k e : Nat) (src : Option Source) : Nat :=
  let lane := e % 256
  let earlier := (List.range k).foldl (fun n j => match p.steps[j]? with
    | some t => n + t.drawsBefore p r lane r.count
    | none => n) 0
  match p.steps[k]? with
  | none => earlier
  | some t =>
    let m := t.laneRange p r .main
    let inMain := decide (m.1 ≤ e) && decide (e < m.2)
    let w := if inMain then t.writeDraws p else 0
    let order := ((t.sends.map Send.src).eraseDups).takeWhile (fun x => some x != src)
    let o := t.otherRange p r
    let inOther := decide (o.1 ≤ e) && decide (e < o.2)
    earlier + t.drawsBefore p r lane e + (match src with
      | none => 0
      | some _ => w + (order.map (fun x => if x = .result then (if inMain then t.resultDraws p else 0)
          else (if inOther then t.otherDraws p else 0))).sum)

/-- The draws of an element: zero, unread, where the conversion makes none. -/
def drawsOf (p : Program) (r : Run) (k e : Nat) (src : Option Source) (d : ConvDesc) (acc j : Nat) : Nat :=
  if d.draws acc then drawAt r.seed (e % 256) (drawStart p r k e src + j) else 0

/-! ### Combining a chunk -/

/-- Elements through a descriptor, as the bytes of a region or a chunk: records first, then accumulators (R282). -/
def elemsOut (p : Program) (r : Run) (k a : Nat) (src : Option Source) (d : ConvDesc) (acc : Nat) (l : List Elem) :
    Flagged (List Byte × List Byte) := do
  let o ← (l.zipIdx).mapM (fun y => y.1.out d acc (drawsOf p r k (a + y.2) src d acc))
  return ((o.map Prod.fst).flatten, (o.map Prod.snd).flatten)

/-- What combining one chunk of a step gives: the bytes written to OUTPUT by range, those of the accumulator area, the bytes of each send, or
a list out of rank order (R264). -/
structure Combined where
  output : List (Nat × List Byte) := []
  acc : List (Nat × List Byte) := []
  send : List Byte := []
  malformed : Bool := false

/-- The operand lists of a chunk as elements; a top-k list read from memory is checked (R264). -/
def readOperands (t : GStep) (n : Nat) (srcs : List Source) (l : List (List Byte)) : Flagged (List (List Elem)) :=
  (srcs.zip l).mapM (fun y => readElems t.inLayout (t.srcFmt y.1) t.accFmt t.shape n y.2)

def fromMemory (q : Source) : Bool := q == .input || q == .output

/-- An element whose list is out of rank order. -/
def Elem.disordered : Elem → Bool
  | .top l => !inRankOrder l
  | _ => false

/-- One chunk of the combining of a step (R245, R246, R250 to R264). -/
def combineChunk (p : Program) (r : Run) (k a n : Nat) (t : GStep) (l : List (List Byte)) : Flagged Combined := do
  let acc := t.accFmt
  let ops ← readOperands t n t.ops l
  if ((t.ops.zip ops).any (fun y => fromMemory y.1 && y.2.any Elem.disordered)) then return { malformed := true }
  else
    let g : GopParams := { gop := t.gop, acc := acc, sat := t.sat, mode := t.fnMode, indexBase := t.indexBase, shape := t.shape }
    let res ← (List.range n).mapM (fun e => g.combine (ops.map (fun o => o.getD e (.two (.int 0) (.int 0)))))
    let out ← if t.write then do
        let b ← elemsOut p r k a none (t.conv p t.wrConv) acc res
        pure (((t.outLayout.ranges (t.conv p t.wrConv).outFmt t.shape a n r.count).map Prod.fst).zip [b.1, b.2])
      else pure []
    let area ← if t.accWr then do
        let b ← res.mapM (Elem.accBytes acc)
        pure (((t.outLayout.ranges acc t.shape a n r.count).map Prod.fst).zip [(b.map Prod.fst).flatten, (b.map Prod.snd).flatten])
      else pure []
    let send ← if t.sends.any (fun y => y.src == .result) then do
        let b ← elemsOut p r k a (some .result) (t.conv p t.txConv) acc res
        pure (b.1 ++ b.2)
      else pure []
    return { output := out, acc := area, send := send }

/-- One chunk of a send whose source is not RESULT (R281): it raises flags only for what it converts. -/
def sendBytes (p : Program) (r : Run) (k a n : Nat) (t : GStep) (src : Source) (l : List Byte) : Flagged (List Byte) := do
  let acc := t.accFmt
  let es ← readElems t.inLayout (t.srcFmt src) acc t.shape n l
  let b ← elemsOut p r k a (some src) (t.conv p t.txConv) acc es
  return b.1 ++ b.2

/-! ### A chunk processed -/

/-- The chunk of a stream leaves its slot when nothing of its step still takes it (R239). -/
def State.consumeRx (s : State) (i k x c : Nat) : State :=
  match s.running i with
  | none => s
  | some (q, r) => match q.prog.steps[k]? with
    | none => s
    | some t =>
      let src := if x = 0 then Source.rx0 else Source.rx1
      let still := allLanes.any (fun w => (t.sources w).any (fun y => y == src) &&
        (List.range (t.laneChunks q.prog r w)).any (fun j => decide (((r.step k).work w).done ≤ j) && t.rxChunk q.prog r w j == some c))
      if still then s
      else match q.findRx r.num t x c with
        | none => s
        | some h => (s.modGslot i (fun q => { q with held := q.held.filter (fun y => y != h) })).returnCredit i q.pav h

/-- The accumulator area after bytes were written. -/
def writeArea (m : Memory) (l : List (Nat × List Byte)) : Memory := l.foldl (fun m x => m.writeBytes x.1 x.2) m

/-- One more chunk of a lane done. -/
def State.laneDone (s : State) (i k : Nat) (w : WorkLane) : State :=
  s.modRun i (fun r => r.modStep k (fun t => t.modWork w (fun x =>
    { x with done := x.done + 1, pieces := x.pieces.filter (fun z => z.1 != x.done), lack := 0, since := none })))

/-- A chunk put behind a send. -/
def State.queueSend (s : State) (i k x c : Nat) (data : List Byte) : State :=
  s.modRun i (fun r => r.modStep k (fun t => t.modTx x (fun z => { z with queue := z.queue ++ [(c, data)] })))

/-- What a processed chunk frees and lets go on. -/
def State.afterChunk (s : State) (i k : Nat) (t : GStep) (w : WorkLane) (c : Option Nat) : State :=
  let take (s : State) (x : Nat) : State := match c with
    | some c => if (t.sources w).any (fun y => y.rxIx == some x) then s.consumeRx i k x c else s
    | none => s
  ((take (take s 0) 1).pumpSends i).pumpRun i

/-- The combining of one chunk performed (R237, R246, R250 to R264, R273, R291). -/
def State.combineMain (s : State) (i k : Nat) (q : GSlot) (r : Run) (t : GStep) (l : List (List Byte)) : State :=
  let d := (r.step k).main.done
  let c := t.laneChunk q.prog r .main d
  let res := (combineChunk q.prog r k c.1 c.2 t l).run 0
  let s1 := (s.modRun i (fun r => { r with flags := r.flags ||| res.2 })).belvAdd q.pav (belvId 0x10 6) c.2
  if res.1.malformed then s1.failRun i stMalformed k
  else
    let s2 := (s1.modRun i (fun r => { r with acc := writeArea r.acc res.1.acc })).laneDone i k .main
    let s3 := [0, 1].foldl (fun s x => if (t.tx x).any (fun y => y.src == .result) then s.queueSend i k x d res.1.send else s) s2
    let s4 := s3.issueAll (res.1.output.flatMap (fun y => writePieces (r.output + y.1) y.2 q.pav (fun _ => .gatherOut i q.tag r.num k)))
    s4.afterChunk i k t .main (t.rxChunk q.prog r .main d)

/-- One chunk of a send of another source made ready. -/
def State.combineSend (s : State) (i k x : Nat) (q : GSlot) (r : Run) (t : GStep) (w : WorkLane) (l : List Byte) : State :=
  match (t.sources w).head? with
  | none => s
  | some src =>
    let d := ((r.step k).work w).done
    let c := t.laneChunk q.prog r w d
    let res := (sendBytes q.prog r k c.1 c.2 t src l).run 0
    (((s.modRun i (fun r => { r with flags := r.flags ||| res.2 })).laneDone i k w).queueSend i k x d res.1).afterChunk i k t w
      (t.rxChunk q.prog r w d)

/-- The lane of a step that can be worked on: the first whose operands are there or are found wrong. -/
def readyLane (q : GSlot) (r : Run) (k : Nat) : Option WorkLane := allLanes.find? (fun w => (operandBytes q r k w).isSome)

/-- The place of the step of a number that can be worked on. -/
def readyStep (q : GSlot) (r : Run) (num : Nat) : Option Nat := ((q.prog.atNum num).find? (fun y => (readyLane q r y.2).isSome)).map Prod.snd

/-- A run has a chunk to work on: its slice is awake and no Anneal holds it (R72). -/
def State.readyRun (s : State) (i : Nat) : Bool :=
  match s.running i with
  | none => false
  | some (q, r) => s.awake q.slice && !s.annealed q.pav && (List.range q.prog.steps.length).any (fun k => (readyLane q r k).isSome)

/-- The next of `n` in turn after `last` that meets a property. -/
def nextTurn (n last : Nat) (f : Nat → Bool) : Option Nat := ((List.range n).map (fun j => (last + 1 + j) % n)).find? f

/-- A slice serves its ready runs round-robin by program slot (R237). -/
def State.sliceTurn (s : State) (i : Nat) : Bool :=
  let c := s.gather.sliceOf i
  let last := Table.get 63 s.gather.turn c
  nextTurn 64 last (fun j => (s.gather.slot j).any (fun q => q.slice == c) && s.readyRun j) == some i

/-- The next chunk of a step processed (R291). -/
def State.combineNext (s : State) (i k : Nat) : State :=
  match s.running i with
  | none => s
  | some (q, r) => match q.prog.steps[k]?, readyLane q r k with
    | some t, some w => match operandBytes q r k w with
      | some (some l) =>
        match w with
        | .main => s.combineMain i k q r t l
        | .send0 => s.combineSend i k 0 q r t w (l.headD [])
        | .send1 => s.combineSend i k 1 q r t w (l.headD [])
      | _ => s.failRun i stMalformed k
    | _, _ => s

/-! ### The start of a run (R284, R289 to R291) -/

/-- The accumulator accesses of every step lie inside ACC_KIB (R284). DEDUCED, log entry 64. What a library program carries between its stages is
not counted (R297). DESIGN CHOICE, log entry 13. -/
def accFits (p : Program) (r : Run) : Bool :=
  p.library || p.steps.all (fun t =>
    let lim (l : List (Nat × Nat)) : Bool := l.all (fun x => decide (x.1 + x.2 ≤ 1024 * p.accKib))
    allLanes.all (fun w =>
      let g := t.laneRange p r w
      g.2 ≤ g.1 || !(t.sources w).any (fun y => y == .acc) || lim (t.srcRanges r .acc g.1 (g.2 - g.1))) &&
    (let g := t.laneRange p r .main
     g.2 ≤ g.1 || !t.accWr || lim (t.accRanges r g.1 (g.2 - g.1))))

/-- INPUT and OUTPUT addressing stays below 2^56 (R148). -/
def addressesFit (p : Program) (r : Run) : Bool :=
  p.steps.all (fun t =>
    let lim (base : Nat) (l : List (Nat × Nat)) : Bool := l.all (fun x => decide (base + x.1 + x.2 ≤ 2 ^ 56))
    allLanes.all (fun w =>
      let g := t.laneRange p r w
      (t.sources w).all (fun y => match y with
        | .input => g.2 ≤ g.1 || lim r.input (t.srcRanges r .input g.1 (g.2 - g.1))
        | .output => g.2 ≤ g.1 || lim r.output (t.srcRanges r .output g.1 (g.2 - g.1))
        | _ => true)) &&
    (let g := t.laneRange p r .main
     g.2 ≤ g.1 || !t.write || lim r.output (t.outRanges p r g.1 (g.2 - g.1))))

/-- The fields of a GATHER_RUN. -/
def State.gatherOp (s : State) (o : OpRef) : Option GatherRunOp :=
  match (s.opOf o).map OpSlot.body with
  | some (.gatherRun g) => some g
  | _ => none

/-- A run of a GATHER_RUN, or of a persistent program. -/
def State.newRun (s : State) (q : GSlot) : Run :=
  let p := q.prog
  match q.queue.head?.bind (fun o => (s.gatherOp o).map (fun g => (o, g))) with
  | some (o, g) =>
    { num := q.runs + 1, op := some o, gen := (s.chan o.chan).gen.toNat, input := g.input, output := g.output,
      count := if g.count = 0 then p.count else g.count, seed := if g.seedEn then g.seed else p.seed, done := g.doneSem, start := s.time.now }
  | none =>
    { num := q.runs + 1, op := none, gen := 0, input := p.input, output := p.output, count := p.count, seed := p.seed, done := p.done,
      start := s.time.now }

/-- Whether a run can start (R156, R287, R289, R290, R72). -/
def State.runDue (s : State) (i : Nat) : Bool :=
  match s.gslot i with
  | none => false
  | some q => q.run.isNone && q.unload.isEmpty && !q.kill && s.awake q.slice && !s.annealed q.pav &&
      (if q.prog.persistent then !q.faulted && (match q.base with
        | some b => decide (b + q.runs + 1 ≤ q.seen)
        | none => false)
       else !q.queue.isEmpty)

/-- RUN_START: the run begins; one whose accesses cannot fit ends at its first step with MALFORMED (R148, R284, R291). -/
def State.startRun (s : State) (i : Nat) : State :=
  match s.gslot i with
  | none => s
  | some q =>
    let r := s.newRun q
    let ok := accFits q.prog r && addressesFit q.prog r
    let s1 := (s.modGslot i (fun q => { q with run := some { r with failed := if ok then none else some (stMalformed, 0) }, runs := q.runs + 1,
                                               queue := q.queue.drop 1 })).activity q.pav
    (s1.belvAdd q.pav (belvId 0x10 7) 1).pumpRun i

/-! ### The end of a run (R28, R119, R242, R274, R287, R292) -/

/-- Every chunk of every step combined, written and sent. -/
def runDone (p : Program) (r : Run) : Bool :=
  (p.steps.zipIdx).all (fun y =>
    allLanes.all (fun w => decide (y.1.laneChunks p r w ≤ ((r.step y.2).work w).done)) &&
      (r.step y.2).t0.queue.isEmpty && (r.step y.2).t1.queue.isEmpty)

/-- The status of a run (R273, R274). -/
def Run.status (r : Run) : Nat :=
  match r.failed with
  | some f => f.1
  | none => if r.flags = 0 then stOk else stFlagged

/-- Whether a run has ended: failed or complete, with no access outstanding. -/
def State.runOver (s : State) (i : Nat) : Bool :=
  match s.gslot i with
  | none => false
  | some q => match q.run with
    | none => false
    | some r => r.phase == .running && s.runAccesses i q.tag r.num == 0 && (r.failed.isSome || runDone q.prog r) &&
        (r.failed.isSome || !s.annealed q.pav)

/-- The status record of a persistent run (R292). -/
def runRecord (i : Nat) (r : Run) (now : Nat) : List Byte :=
  leBytes 8 r.num ++ leBytes 8 (place r.status 0 8 + place (match r.failed with
    | some f => f.2
    | none => 0x7FF) 8 11 + place i 24 6) ++ leBytes 8 (r.flags % 128) ++ leBytes 8 (place r.start.toNat 0 32 + place now 32 32)

/-- The completion semaphore of a run updated by one atomic (R46, R292). -/
def State.bumpSem (s : State) (i : Nat) (q : GSlot) (r : Run) : State :=
  (s.modRun i (fun r => { r with phase := .semaphore })).issue
    { op := .atomic, addr := r.done, len := 8, pav := q.pav, data := leBytes 8 1, subop := 0x80, fmt := 5, use := .doneSem i q.tag }

/-- RUN_END (R292): the record of a persistent run is written, then the semaphore is updated; a GATHER_RUN only updates it. -/
def State.endRun (s : State) (i : Nat) : State :=
  match s.gslot i with
  | none => s
  | some q => match q.run with
    | none => s
    | some r =>
      let s1 := s.discardRun i r.num
      if q.prog.persistent then
        (s1.modRun i (fun r => { r with phase := .record })).issueAll
          (writePieces q.prog.status (runRecord i r s.podTime) q.pav (fun _ => .runStatus i q.tag))
      else s1.bumpSem i q r

/-- The GATHER_RUN of an ended run completes with its status and flags (R273, R292). -/
def State.endRunOp (s : State) (r : Run) (st : Nat) : State :=
  match r.op with
  | none => s
  | some o =>
    if s.genOk o.chan r.gen then
      s.modOp o (fun q => { q with status := if goodStatus st then q.status else if q.status = 0 then st else q.status,
                                   flags := q.flags ||| r.flags, allFormed := true, out := q.out - 1 })
    else s

/-- A program leaves its slot (R276, R287): its memory and buffer come free, its watch is released. -/
def State.freeGslot (s : State) (i : Nat) : State :=
  match s.gslot i with
  | none => s
  | some q =>
    let s1 := (s.setGslot i none).disarm (6160 + i)
    let s2 := q.queue.foldl (fun t o => t.endOp o stMalformed 0) s1
    let empty := (List.range 64).all (fun j => match s2.gslot j with
      | some p => p.slice != q.slice
      | none => true)
    if empty && !s2.gather.want.testBit q.slice then
      s2.modGather (fun g => { g with ctl := g.ctl &&& ~~~(BitVec.ofNat 64 (1 <<< q.slice)) })
    else s2

/-- The GATHER_RUN of a run that a forced unload stopped completes before those that waited for the program do (R137, R287).
DEDUCED, log entry 76. -/
def State.endUnloaded (s : State) (r : Run) (st : Nat) : State :=
  match r.op with
  | none => s
  | some o =>
    let c := s.chan o.chan
    if s.genOk o.chan r.gen && c.stopping.isEmpty && c.retire.isNone && !c.guiltyStop then s.endOp o st r.flags else s.endRunOp r st

/-- A run is over: its slot may run again, or is freed when UNLOAD_PROGRAMs wait, each of which completes, or the Pavilion has ended (R287, R288). -/
def State.closeRun (s : State) (i st : Nat) : State :=
  match s.gslot i with
  | none => s
  | some q => match q.run with
    | none => s
    | some r =>
      let close (t : State) : State := (t.modGslot i (fun q => { q with run := none })).activity q.pav
      let done := close (if !q.unload.isEmpty && st = stAborted then s.endUnloaded r st else s.endRunOp r st)
      if !q.unload.isEmpty || q.kill then q.unload.foldl (fun t c => t.finish c asOk) (done.freeGslot i) else done

/-- A run stopped by Abort, a forced unload or a hang kill (R119, R242, R292): neither record nor semaphore. -/
def State.abortRun (s : State) (i st : Nat) : State :=
  match s.gslot i with
  | none => s
  | some q => match q.run with
    | none => s
    | some r => (s.discardRun i r.num).closeRun i st

/-- A run at its safe point (R119): no access outstanding and every step that has begun is over or waits for an operand. -/
def State.atSafePoint (s : State) (i : Nat) (q : GSlot) (r : Run) : Bool :=
  s.runAccesses i q.tag r.num == 0 &&
    (r.failed.isSome || (List.range q.prog.steps.length).all (fun k => (readyLane q r k).isNone))

/-- A run that a forced unload or the end of its Pavilion waits for stops at its safe point. -/
def State.stopIfUnloading (s : State) (i : Nat) : State :=
  match s.gslot i with
  | none => s
  | some q => match q.run with
    | some r => if (!q.unload.isEmpty || q.kill) && r.phase == .running && s.atSafePoint i q r then s.abortRun i stAborted else s
    | none => s

/-- The run of a slot told to stop (R119). -/
def State.haltRun (s : State) (i : Nat) : State := (s.modRun i (fun r => { r with halt := true })).stopIfUnloading i

/-- Whether the runs of a channel on a slice are at a safe point (R119). -/
def State.gatherSafe (s : State) (ch slice : Nat) : Bool :=
  (List.range 64).all (fun i => match s.gslot i with
    | some q => match q.run with
      | some r => !(q.slice == slice && r.chan == ch && r.op.isSome) || s.atSafePoint i q r
      | none => true
    | none => true)

/-- The runs of a channel on a slice stopped, and its waiting GATHER_RUNs dropped (R119). DEDUCED, log entry 75. -/
def State.stopGather (s : State) (ch slice : Nat) : State :=
  (List.range 64).foldl (fun t i => match t.gslot i with
    | some q =>
      if q.slice = slice then
        let t1 := t.modGslot i (fun q => { q with queue := q.queue.filter (fun o => o.chan != ch) })
        match q.run with
        | some r => if r.op.any (fun o => o.chan == ch) then t1.abortRun i stAborted else t1
        | none => t1
      else t
    | none => t) s

/-- A program disarmed (R290, R292). -/
def State.disarmProgram (s : State) (i : Nat) : State := (s.modGslot i (fun q => { q with faulted := true })).disarm (6160 + i)

/-! ### Answers of the fabric -/

/-- Data or a failure for an operand load (R274). -/
def State.gatherInAnswer (s : State) (i tag num k w c n off addr : Nat) (res : FabResult) : State :=
  match s.gslot i with
  | none => s
  | some q =>
    if q.tag != tag then s
    else match q.run with
      | none => s
      | some r =>
        if r.num != num then s
        else match res with
          | .data l =>
            let lane := if w = 0 then WorkLane.main else if w = 1 then .send0 else .send1
            ((s.modRun i (fun r => r.modStep k (fun t => t.modWork lane (fun x => { x with pieces := x.pieces ++ [(c, n, off, l)] })))).pumpRun i).stopIfUnloading i
          | _ => ((s.runFault q r res 1 addr).failRun i res.status k).stopIfUnloading i

/-- A result write is visible, or failed (R28, R274, R291). -/
def State.gatherOutAnswer (s : State) (i tag num k addr : Nat) (res : FabResult) : State :=
  match s.gslot i with
  | none => s
  | some q =>
    if q.tag != tag then s
    else match q.run with
      | none => s
      | some r =>
        if r.num != num then s
        else match res with
          | .visible => (s.pumpRun i).stopIfUnloading i
          | _ => ((s.runFault q r res 2 addr).failRun i res.status k).stopIfUnloading i

/-- The status record is visible, or was dropped and the program is disarmed; the semaphore follows (R292). -/
def State.runStatusAnswer (s : State) (i tag addr : Nat) (res : FabResult) : State :=
  match s.gslot i with
  | none => s
  | some q => match q.run with
    | none => s
    | some r =>
      if q.tag != tag || r.phase != .record then s
      else match res with
        | .visible => s.bumpSem i q r
        | _ =>
          (((s.disarmProgram i).raiseContained (mkReport (match res with
            | .partReset => 0x13
            | _ => 0x14) (unit := 8) (access := 6) (pav := q.pav) (engine := q.slice) (addr := addr))).bumpSem i q r)

/-- The completion semaphore was updated, or its access failed (R292). -/
def State.doneSemAnswer (s : State) (i tag addr : Nat) (res : FabResult) : State :=
  match s.gslot i with
  | none => s
  | some q => match q.run with
    | none => s
    | some r =>
      if q.tag != tag || r.phase != .semaphore then s
      else
        let bad : Option Nat := match res with
          | .fault => some stWindowFault
          | .ue => some stUncorrectable
          | .internal _ => some stUncorrectable
          | .partReset => some stPartReset
          | _ => none
        match bad with
        | none => s.closeRun i r.status
        | some st =>
          let s1 := s.runFault q r res 7 addr
          let s2 := if q.prog.persistent then s1.disarmProgram i else s1
          s2.closeRun i (if goodStatus r.status then st else r.status)

/-- A LOAD_PROGRAM whose programs have all read their triggers completes (R290). -/
def State.loadRead (s : State) (i : Nat) : State :=
  let l := s.gather.loads.map (fun w => { w with slots := w.slots.filter (fun j => j != i) })
  let s1 := s.modGather (fun g => { g with loads := l.filter (fun w => !w.slots.isEmpty) })
  (l.filter (fun w => w.slots.isEmpty)).foldl (fun t w => t.finish w.cmd asOk w.r1 w.r2 w.r3) s1

/-- The trigger semaphore of a program is read. -/
def State.readTrigger (s : State) (i : Nat) : State :=
  match s.gslot i with
  | none => s
  | some q => (s.modGslot i (fun q => { q with lastPoll := s.now })).issue
      { op := .read, addr := q.prog.trigger, len := 8, pav := q.pav, use := .trigger i q.tag }

/-- A trigger read answered (R159, R290): the first gives the base, takes the watch and reads again; a fault disarms the program. -/
def State.triggerAnswer (s : State) (i tag addr : Nat) (res : FabResult) : State :=
  match s.gslot i with
  | none => s
  | some q =>
    if q.tag != tag || q.faulted then s
    else match res with
      | .data l =>
        let v := leAt l 0 8
        match q.base with
        | none => (((s.modGslot i (fun q => { q with base := some v, seen := v, lastPoll := s.now })).arm (6160 + i) q.prog.trigger q.pav).readTrigger i).loadRead i
        | some _ => (s.modGslot i (fun q => { q with seen := v })).activity q.pav
      | _ =>
        ((s.disarmProgram i).raiseContained (mkReport (match res with
          | .partReset => 0x13
          | _ => 0x15) (unit := 8) (access := 7) (pav := q.pav) (engine := q.slice) (status := res.status) (addr := addr))).loadRead i

end Sys2Proof.Machine
end

