-- ==== Sys2Proof/Machine/Channels.lean ====
section
/-!
DEFINITION. Channels (03): channel commands, doorbells, fetch of entries and buffers, admission, retirement, and refused watches.
-/
namespace Sys2Proof.Machine

/-! ### CREATE_CHANNEL (R94, R95) -/

/-- The arguments of CREATE_CHANNEL keep R94 and R95. -/
def createArgsOk (c : AdminCmd) : Bool :=
  let a1 := c.arg 1
  let a2 := c.arg 2
  let a3 := c.arg 3
  let log2 := bits a1 60 56
  let txn := bits a3 29 16
  bits a1 63 61 == 0 && bits a1 11 0 == 0 && decide (4 ≤ log2) && decide (log2 ≤ 16) && bits a2 63 56 == 0 && bits a2 5 0 == 0 &&
    bits a3 1 0 != 3 && bits a3 15 2 == 0 && bits a3 63 30 == 0 && (txn == 0 || (decide (2 ≤ txn) && decide (txn ≤ 16000))) &&
    c.zeroArgs [4, 5, 6, 7]

/-- The read of a channel doorbell record: TAIL, bytes 0 to 3 (R100). -/
def State.readDoorbell (s : State) (i : Nat) (why : DbWhy) : State :=
  let c := s.chan i
  s.issue { op := .read, addr := c.doorbell, len := 4, pav := c.pav, use := .doorbell i c.gen.toNat why }

/-- A channel created at an index (R95, R112): a generation begins. -/
def Channel.create (c : Channel) (cmd : AdminCmd) : Channel :=
  { gen := c.gen, state := .active, typ := bits (cmd.arg 3) 1 0, pav := cmd.pav, ringBase := bits (cmd.arg 1) 55 0,
    ringLog2 := bits (cmd.arg 1) 60 56, doorbell := bits (cmd.arg 2) 55 0,
    txn := if bits (cmd.arg 3) 29 16 = 0 then 64 else bits (cmd.arg 3) 29 16, watched := true }

def State.createChannel (s : State) (r : AdminRef) : State :=
  let cmd := s.cmdD r
  if !createArgsOk cmd then s.finish r asBadCommand
  else match s.freeChan cmd.pav with
    | none => s.finish r asNoResource
    | some i =>
      let s1 := s.modChan i (fun c => c.create cmd)
      let c := s1.chan i
      ((s1.arm i c.doorbell c.pav).readDoorbell i .normal).finish r asOk (c.handle i)

/-- CREATE_CHANNEL (R95). -/
def execCreateChannel (r : AdminRef) (s : State) : Out :=
  act (s.live && s.cmdIs r 0x01) s (s.createChannel r)

/-! ### DESTROY_CHANNEL and RESET_CHANNEL (R91, R93, R96, R97) -/

/-- What refuses a channel command at once (R79, R93): bad argument bits, or a handle of another Pavilion on a tenant ring. -/
def channelCmdRefused (c : AdminCmd) : Option Nat :=
  let a1 := c.arg 1
  if bits a1 63 24 != 0 || bits (c.arg 2) 63 1 != 0 || !c.zeroArgs [3, 4, 5, 6, 7] then some asBadCommand
  else if c.pav != 0 && bits a1 15 12 != c.pav then some asDenied
  else none

/-- A channel command waits while the index has a command in progress or is RETIRING (R91). DEDUCED, log entry 45. -/
def State.channelBusy (s : State) (i : Nat) : Bool := (s.chan i).cmd.isSome || (s.chan i).state == .retiring

/-- A channel command is due when it is refused at once or its index is idle. -/
def State.channelCmdDue (s : State) (r : AdminRef) (op : Nat) : Bool :=
  s.live && s.cmdIs r op && ((channelCmdRefused (s.cmdD r)).isSome || !s.channelBusy (bits ((s.cmdD r).arg 1) 11 0))

/-- Draining begins (R113, R118): an entry read on the chance that a doorbell read would show it pending is discarded. -/
def State.startDrain (s : State) (i : Nat) : State :=
  let s1 := (((s.counted i).disarm i).modChan i (fun c =>
    { c with state := .retiring, watched := false, drain := some { tail := c.tail.toNat, reading := true },
             entry := c.entry.filter (fun e => !e.spec) })).failSlots i
  (s1.readDoorbell i .drain).tryFetch i

def State.destroyChannel (s : State) (r : AdminRef) : State :=
  let cmd := s.cmdD r
  match channelCmdRefused cmd with
  | some st => s.finish r st
  | none => match s.chanOf (bits (cmd.arg 1) 31 0) with
    | none => s.finish r asBadHandle
    | some i =>
      let c := s.chan i
      let s1 := (s.modChan i (fun c => { c with cmd := some r })).working r
      if bit (cmd.arg 2) 0 || c.state == .guilty || c.state == .error then s1.startRetire i stAborted c.guiltyStop .free
      else s1.startDrain i

def State.resetChannel (s : State) (r : AdminRef) : State :=
  let cmd := s.cmdD r
  match channelCmdRefused cmd with
  | some st => s.finish r st
  | none => match s.chanOf (bits (cmd.arg 1) 31 0) with
    | none => s.finish r asBadHandle
    | some i =>
      let c := s.chan i
      ((s.modChan i (fun c => { c with cmd := some r })).working r).startRetire i stAborted c.guiltyStop
        (.reset (bit (cmd.arg 2) 0))

/-- DESTROY_CHANNEL (R96). -/
def execDestroyChannel (r : AdminRef) (s : State) : Out := act (s.channelCmdDue r 0x02) s (s.destroyChannel r)

/-- RESET_CHANNEL (R97). -/
def execResetChannel (r : AdminRef) (s : State) : Out := act (s.channelCmdDue r 0x03) s (s.resetChannel r)

/-! ### Doorbells (R100 to R103) -/

/-- A contained error of a fetch of the front end (R116, R491, R512). -/
def State.fetchFault (s : State) (res : FabResult) (i addr : Nat) : State :=
  let cause := match res with
    | .partReset => 0x13
    | _ => 0x15
  s.raiseContained (mkReport cause (unit := 1) (access := 4) (pav := (s.chan i).pav) (channel := i) (addr := addr))

/-- DOORBELL_NOTIFY: the record is read, and with it the ring entry at HEAD unless one is already read (R101). -/
def State.doorbellNotify (s : State) (i : Nat) : State :=
  let s1 := if s.mayReadEntry i then s.readEntry i true else s
  s1.readDoorbell i .normal

/-- DOORBELL_NOTIFY (R101). -/
def execDoorbellNotify (ch : Nat) (s : State) : Out :=
  act (s.live && s.watching ch && (s.chan ch).state != .free && (s.chan ch).state != .retiring) s (s.doorbellNotify ch)

/-- The sweep period in microseconds; 0 is off (R102, R124). -/
def State.sweepUs (s : State) : Nat := bits s.front.sweep 19 0

/-- DOORBELL_SWEEP: the doorbell of every ACTIVE channel is read (R102). -/
def State.doorbellSweep (s : State) : State :=
  (s.chanList.filter (fun i => (s.chan i).state == .active)).foldl (fun t i => t.readDoorbell i .normal)
    (s.modFront (fun e => { e with lastSweep := s.now }))

/-- DOORBELL_SWEEP (R102). -/
def execDoorbellSweep (s : State) : Out :=
  act (s.live && s.sweepUs != 0 && s.usPassed s.front.lastSweep s.sweepUs) s s.doorbellSweep

/-! ### Ring entries (R98, R99, R101) -/

/-- A ring entry taken: a faulty one becomes a faulty buffer, another leads to the read of its buffer; a failed read drops it
(R99, R116, R512). -/
def State.takeEntry (s : State) (i : Nat) (res : FabResult) : State :=
  let c := s.chan i
  let k := c.head.toNat
  let s1 := (s.modChan i (fun c => { c with entry := none })).activity c.pav
  match res with
  | .data l =>
    match decodeEntry l with
    | none => (s1.modChan i (fun c => { c with bufs := c.bufs ++ [{ ring := k, faulty := true, got := true }] })).tryBegin i
    | some (a, n) => (s1.modChan i (fun c => { c with bufs := c.bufs ++ [{ ring := k, addr := a, lines := n }] })).readBuffer i k
  | .partReset => s1.fetchFault res i (c.entryAddr k)
  | _ => (s1.fetchFault res i (c.entryAddr k)).chanError i 3

/-- An entry read on the chance that a doorbell read would show it pending is discarded (R101). -/
def Channel.dropSpec (c : Channel) : Channel := { c with entry := c.entry.filter (fun e => !e.spec) }

/-- Whether an answer to a ring entry read leads on to a fetch that a PAUSED channel does not make (R82). -/
def Channel.holdsEntry (c : Channel) (res : FabResult) : Bool :=
  c.state == .paused && (match res with
    | .data _ => true
    | _ => false)

/-- The answer to a ring entry read (R98, R101): one issued with a doorbell read waits for that read, and the entry of a PAUSED channel
waits for the release of its Anneal (R82). -/
def State.entryAnswer (s : State) (i gen serial : Nat) (res : FabResult) : State :=
  let c := s.chan i
  match c.entry with
  | none => s
  | some e =>
    if c.gen.toNat != gen || e.serial != serial then s
    else if e.spec || c.holdsEntry res then s.modChan i (fun c => { c with entry := some { e with res := some res } })
    else s.takeEntry i res

/-- What follows a TAIL that counts (R101, R103): DB_OVERRUN, the entry that was read used or discarded, or a fetch. -/
def State.afterTail (s : State) (i : Nat) : State :=
  let c := s.chan i
  if 2 ^ c.ringLog2 < c.pendingCount then s.chanError i 5
  else match c.entry with
    | some e =>
      if e.spec && c.pendingCount == 0 then s.modChan i (fun c => { c with entry := none })
      else match e.res with
        | some r => s.takeEntry i r
        | none => s.modChan i (fun c => { c with entry := some { e with spec := false } })
    | none => s.tryFetch i

/-- A PAUSED channel is ACTIVE again (R76, R103): its latest TAIL counts, and it goes on where it stopped. -/
def State.resumeChan (s : State) (i : Nat) : State :=
  let s1 := s.modChan i (fun c => { c with state := .active })
  let c := s1.chan i
  if 2 ^ c.ringLog2 < c.pendingCount then s1.chanError i 5
  else match c.entry.bind EntryRead.res with
    | some r => s1.takeEntry i r
    | none => (s1.tryBegin i).tryFetch i

/-- A channel that RESET_CHANNEL brings back (R80, R97, R112): it leaves RETIRING, so its generation advances and its failure fields clear. -/
def State.activateReset (s : State) (i : Nat) (resume : Bool) (res : FabResult) : State :=
  let s1 := match res with
    | .data l => s.modChan i (fun c =>
        { c with tail := BitVec.ofNat 32 (leAt l 0 4), head := if resume then c.head else BitVec.ofNat 32 (leAt l 0 4) })
    | _ => s
  let s2 := s1.modChan i (fun c =>
    { c with state := .active, watched := true, retire := none, gen := c.gen + 1, failOp := 0, failStatus := 0, cause := 0, later := 0 })
  let c := s2.chan i
  let s3 := match c.cmd with
    | some r => (s2.finish r asOk (c.handle i) c.head.toNat).modChan i (fun c => { c with cmd := none })
    | none => s2
  let s4 := s3.arm i c.doorbell c.pav
  match res with
  | .data _ => s4.afterTail i
  | .partReset => s4.fetchFault res i c.doorbell
  | _ => (s4.fetchFault res i c.doorbell).chanError i 2

/-- The answer to a doorbell read (R95, R97, R101 to R103, R116, R118, R512). DEDUCED, log entry 44. -/
def State.doorbellAnswer (s : State) (i gen : Nat) (why : DbWhy) (res : FabResult) : State :=
  let c := s.chan i
  if c.gen.toNat != gen then s
  else match why with
    | .reset => match c.retire with
      | some ⟨_, _, .reset resume, .reread⟩ => s.activateReset i resume res
      | _ => s
    | .drain => match c.drain with
      | none => s
      | some d => match res with
        | .data l =>
          let s1 := s.modChan i (fun c => { c with tail := BitVec.ofNat 32 (leAt l 0 4), drain := some ⟨leAt l 0 4, false⟩ })
          if 2 ^ c.ringLog2 < (s1.chan i).pendingCount then s1.chanError i 5 else s1.tryFetch i
        | _ => ((s.modChan i (fun c => { c with drain := some { d with reading := false } })).fetchFault res i c.doorbell).tryFetch i
    | .normal =>
      if c.state == .free || c.state == .retiring then s
      else match res with
        | .data l =>
          let s1 := s.modChan i (fun c => { c with tail := BitVec.ofNat 32 (leAt l 0 4) })
          if c.state == .active then s1.afterTail i else s1.modChan i Channel.dropSpec
        | .partReset => (s.fetchFault res i c.doorbell).modChan i Channel.dropSpec
        | _ => (s.fetchFault res i c.doorbell).chanError i 2

/-! ### Buffers (R107, R127 to R130, R142) -/

/-- The operations of the lines of a read, from line `first` on. -/
def decodeOps (l : List Byte) (start : Nat) : List OpSlot :=
  let first := max start 1
  (List.range (l.length / 64 - (first - start))).map (fun k =>
    { oper := decodeOp (slice l (64 * (first - start + k)) 64) (first + k - 1) })

/-- The first malformed operation of a read, with the first operation of that read (R142). -/
def firstBad (ops : List OpSlot) (base : Nat) : Option (Nat × Nat) :=
  (ops.findIdx? (fun o => o.oper.isNone)).map (fun k => (base + k, base))

/-- A returned read of a buffer decoded (R127, R129, R142). -/
def Buffer.decode (b : Buffer) (start : Nat) (l : List Byte) : Buffer :=
  if start = 0 then
    match decodeHeader (l.take 64) b.lines with
    | none => { b with faulty := true, got := true, reading := false, pieces := [] }
    | some h =>
      let ops := decodeOps l 0
      { b with hdr := some h, ops := ops, got := true, reading := false, pieces := [], bad := firstBad ops 0 }
  else
    let ops := decodeOps l start
    { b with ops := b.ops ++ ops, reading := false, pieces := [], bad := b.bad <|> firstBad ops (start - 1) }

/-- The first line of the read of a buffer that is outstanding (R107). -/
def Buffer.readStart (b : Buffer) : Nat := if b.read ≤ 64 then 0 else (b.read - 1) / 64 * 64

/-- A whole read of a buffer has come in (R116, R142, R162). -/
def State.bufferAnswer (s : State) (i gen ring : Nat) (res : FabResult) : State :=
  let c := s.chan i
  match c.buf ring with
  | none => s
  | some b =>
    if c.gen.toNat != gen || !b.reading then s
    else match res with
      | .data l =>
        let b1 := b.decode b.readStart l
        let s1 := (s.modChan i (fun c => c.modBuf ring (fun _ => b1))).activity c.pav
        if b.begun then
          match b1.bad with
          | some k => if b.bad.isNone then (s1.modChan i (fun c => c.modBuf ring (fun b => b.noteFail s.now stMalformed k.1))).malformedLater i k.1 else s1
          | none => s1
        else s1.tryBegin i
      | _ =>
        let s1 := (s.fetchFault res i (b.addr + 64 * b.readStart)).activity c.pav
        let s2 := if b.begun then s1.modChan i (fun c => c.modBuf ring (fun b => { b with reading := false, pieces := [], cut := some b.ops.length }))
          else s1.modChan i (fun c => { c with bufs := c.bufs.filter (fun b => b.ring != ring) })
        match res with
        | .partReset => s2
        | _ => s2.chanError i 4

def isDoorbell (ch gen : Nat) : FabUse → Bool
  | .doorbell c g _ => c == ch && g == gen
  | _ => false
def isEntry (ch gen : Nat) : FabUse → Bool
  | .ringEntry c g _ _ => c == ch && g == gen
  | _ => false
def isBuffer (ch gen ring : Nat) : FabUse → Bool
  | .buffer c g r _ => c == ch && g == gen && r == ring
  | _ => false

/-- One access of a buffer read has come in; the read is done when all are. -/
def State.bufferPiece (s : State) (i gen ring off : Nat) (res : FabResult) : State :=
  let c := s.chan i
  match c.buf ring, res with
  | some b, .data l =>
    if c.gen.toNat != gen || !b.reading then s
    else
      let ps := (off, l) :: b.pieces
      if (ps.map (fun p => p.2.length)).sum = 64 * (b.read - b.readStart) then s.bufferAnswer i gen ring (.data (joinPieces ps))
      else s.modChan i (fun c => c.modBuf ring (fun b => { b with pieces := ps }))
  | some _, _ => (s.forget (isBuffer i gen ring)).bufferAnswer i gen ring res
  | none, _ => s

/-- The accesses of a use taken off the fabric, with the ports they free. -/
def State.dropUses (s : State) (f : FabUse → Bool) : State :=
  s.modFab (fun b => { b with out := b.out.filter (fun a => !f a.use), waiting := b.waiting.filter (fun a => !f a.use) })

/-- Whether an access of a use is outstanding. -/
def State.hasUse (s : State) (f : FabUse → Bool) : Bool := s.fab.out.any (fun a => f a.use)

/-- A read is answered whole: its accesses leave the fabric, its answer is taken, and waiting accesses follow. -/
def State.answer (s : State) (f : FabUse → Bool) (g : State → State) : State := ((g (s.dropUses f)).issueWaiting).fetchOne

/-- Why the oldest doorbell read outstanding of a channel was made, and the serial number of its oldest entry read outstanding. -/
def State.doorbellWhy (s : State) (ch : Nat) : DbWhy :=
  match (s.fab.out.find? (fun a => isDoorbell ch (s.chan ch).gen.toNat a.use)).map FabAccess.use with
  | some (.doorbell _ _ w) => w
  | _ => .normal
def State.entrySerial (s : State) (ch : Nat) : Nat :=
  match (s.fab.out.find? (fun a => isEntry ch (s.chan ch).gen.toNat a.use)).map FabAccess.use with
  | some (.ringEntry _ _ _ n) => n
  | _ => 0

/-- The oldest access of a use taken off the fabric. -/
def State.dropFirst (s : State) (f : FabUse → Bool) : State :=
  s.modFab (fun b => { b with out := b.out.eraseP (fun a => f a.use) })

/-- DOORBELL_READ_DONE (R103): the oldest doorbell read of the channel is answered. -/
def execDoorbellReadDone (ch : Nat) (res : ReadResult) (s : State) : Out :=
  let f := isDoorbell ch (s.chan ch).gen.toNat
  act (s.live && s.hasUse f) s
    ((((s.dropFirst f).doorbellAnswer ch (s.chan ch).gen.toNat (s.doorbellWhy ch) (.ofRead res)).issueWaiting).fetchOne)

/-- RING_ENTRY_READ_DONE (R98). -/
def execRingEntryReadDone (ch : Nat) (res : ReadResult) (s : State) : Out :=
  let f := isEntry ch (s.chan ch).gen.toNat
  act (s.live && s.hasUse f) s
    ((((s.dropFirst f).entryAnswer ch (s.chan ch).gen.toNat (s.entrySerial ch) (.ofRead res)).issueWaiting).fetchOne)

/-- BUFFER_READ_DONE (R142). -/
def execBufferReadDone (ch : Nat) (ring : Nat) (res : ReadResult) (s : State) : Out :=
  let g := (s.chan ch).gen.toNat
  act (s.live && s.hasUse (isBuffer ch g ring)) s
    (s.answer (isBuffer ch g ring) (fun t => t.bufferAnswer ch g ring (.ofRead res)))

/-! ### Admission (R142, R143, R202, R32) -/

/-- The scoreboard entries in use (R143): those of operations admitted and not ended. DEDUCED, log entry 155. -/
def State.scoreboard (s : State) : Nat :=
  (s.front.chans.map (fun p => (p.2.bufs.map (fun b => (b.ops.filter (fun o => o.phase == .admitted || o.phase == .running)).length)).sum)).sum

/-- The buffer a channel admits from: the last begun one, with an operation read and not admitted; FENCE_ENTRY holds it until every
earlier buffer has completed (R127, R144). -/
def Channel.admitting (c : Channel) : Option Buffer :=
  match c.begunBufs.getLast? with
  | none => none
  | some b =>
    let held := match b.hdr with
      | some h => h.fenceEntry && (c.bufs.head?.map (fun x => x.ring)) != some b.ring
      | none => true
    if b.admittedAll || held || b.ops.length ≤ b.admitted then none else some b

/-- The channel admission is made from (R143): real-time channels first, round-robin by channel; then by Pavilion and channel. The
pair is the channel and whether it is real-time. DEDUCED, log entry 43. -/
def State.admitFrom (s : State) : Option (Nat × Bool) :=
  let cand := s.chanList.filter (fun i => s.admits (s.chan i) && (s.chan i).admitting.isSome)
  let rt := cand.filter (fun i => (s.chan i).typ == 2)
  match nextAfter s.front.rrRt rt with
  | some i => some (i, true)
  | none =>
    let pavs := (List.range 16).filter (fun p => cand.any (fun i => (s.chan i).pav == p))
    match nextAfter s.front.rrPav pavs with
    | none => none
    | some p => (nextAfter (Table.get 0 s.front.rrChan p) (cand.filter (fun i => (s.chan i).pav == p))).map (fun i => (i, false))

/-- The object positions of a measured operation (R202): a status where it is refused, else where it begins. -/
def State.measurePos (s : State) (i : Nat) (p : Operation) : Except Nat (Option (Nat × Nat × Nat)) :=
  if !p.measure then .ok none
  else match p.body.measure with
    | none => .ok none
    | some (n, m) =>
      let q := Table.get ({} : MeasSlot) s.xfer.meas m
      if q.state != .opened || q.objLen < q.cursor + n then .error stMalformed
      else if q.handle.toNat != (s.chan i).handle i then .error stPermission
      else .ok (some (m, q.cursor, n))

/-- What admission does to one operation (R32, R138, R142, R202, R204): R202 and R32 are checked first, so that one refused by them ends so
although a dependency of it failed. DEDUCED, log entry 151. -/
def State.admitOp (s : State) (i : Nat) (b : Buffer) : State :=
  let k := b.admitted
  let o : OpRef := { chan := i, ring := b.ring, op := k }
  let c := s.chan i
  let s1 := ((s.modChan i (fun c => { (c.modBuf b.ring (fun b =>
    { (b.modOp k (fun o => { o with phase := .admitted, seq := c.admSeq })) with admitted := k + 1 })) with admSeq := c.admSeq + 1 })).belvAdd 16
      (belvId 0 0) 1).activity c.pav
  match (b.ops[k]?).bind OpSlot.oper with
  | none => s1
  | some p =>
    match s.measurePos i p with
    | .error st => (p.body.measure.map Prod.snd).elim (s1.endOp o st 0) (fun m => (s1.endOp o st 0).failSlot m)
    | .ok pos =>
      let s2 := match pos with
        | none => s1
        | some (m, base, n) => (s1.modXfer (fun x => { x with meas := Table.put ({} : MeasSlot) x.meas m { (Table.get ({} : MeasSlot) x.meas m) with cursor := base + n } })).modOp o
            (fun o => { o with base := some base })
      match s.nodeCheck c.pav p.body with
      | some st => s2.endOp o st 0
      | none => match (s2.chan i).buf b.ring with
        | none => s2
        | some b => s2.turnBuf i b Buffer.settle

/-- ADMIT_OPERATION (R106, R107, R142, R143): one operation enters its scoreboard; further reads of the buffer follow, and the next
buffer begins when this one is admitted whole. -/
def State.admitOperation (s : State) : State :=
  match s.admitFrom with
  | none => s
  | some (i, rt) => match (s.chan i).admitting with
    | none => s
    | some b =>
      let s1 := s.modFront (fun e => if rt then { e with rrRt := i }
        else { e with rrPav := (s.chan i).pav, rrChan := Table.put 0 e.rrChan (s.chan i).pav i })
      (((s1.admitOp i b).readBuffer i b.ring).tryBegin i).tryFetch i

/-- ADMIT_OPERATION (R142). -/
def execAdmitOperation (s : State) : Out :=
  act (s.live && s.awake 11 && decide (s.scoreboard < 16384) && s.admitFrom.isSome) s s.admitOperation

/-! ### Stopping and retiring (R114, R118 to R120) -/

/-- The running operations of an engine on a channel. -/
def State.runningOn (s : State) (i : Nat) (e : EngineKind) : List (OpRef × OpSlot) :=
  ((s.chan i).allOps i).filter (fun q => q.2.phase == .running && s.engineOf q.2 == some e)

/-- An engine has reached its safe point when nothing of the channel is outstanding there (R119, R120, R204). -/
def State.engineIdle (s : State) (i : Nat) (e : EngineKind) : Bool :=
  match e with
  | .gather slice => s.gatherSafe i slice
  | _ => (s.runningOn i e).all (fun q => q.2.out == 0 && s.measuredIn q.2)

/-- ENGINE_STOPPED: the engine's operations of the channel end with what they reached (R114, R119). -/
def State.engineStopped (s : State) (i : Nat) (e : EngineKind) : State :=
  let s0 := match e with
    | .gather slice => s.stopGather i slice
    | _ => s
  let s1 := (s0.runningOn i e).foldl (fun t q => t.endOp q.1 (if q.2.status = 0 && q.2.flags != 0 then stFlagged else q.2.status) q.2.flags
    (q.2.status != stAborted)) s0
  s1.modChan i (fun c => { c with stopping := c.stopping.filter (fun x => x != e) })

/-- ENGINE_STOPPED (R119). -/
def execEngineStopped (ch : Nat) (e : EngineKind) (s : State) : Out :=
  act (s.live && decide (e ∈ (s.chan ch).stopping) && s.engineIdle ch e) s (s.engineStopped ch e)

/-- The buffers a retirement completes, in ring order (R114, R120, R137, R502): those of a channel destroyed before a stop of R114 has ended
keep what R114 gives them. DEDUCED, log entry 152. -/
def State.closeBuffers (s : State) (i : Nat) (r : Retire) : State :=
  (s.chan i).bufs.foldl (fun t b =>
    let f := if !b.begun then (stAborted, 0)
      else if r.status != stAborted then (r.status, b.firstOpen)
      else if r.keepFail then b.guiltyStatus
      else if b.whole then b.finalStatus
      else (stAborted, b.firstOpen)
    t.countBuffer i b f.1 f.2) s

/-- A retired index (R80, R97, R112, R120): its generation advances and it becomes FREE, or its doorbell is read again before it leaves
RETIRING. -/
def State.endRetire (s : State) (i : Nat) (r : Retire) : State :=
  match r.next with
  | .free =>
    let s1 := (s.activity (s.chan i).pav).modChan i (fun c =>
      { state := .free, gen := c.gen + 1, typ := c.typ, pav := c.pav, head := c.head, completed := c.completed, failOp := c.failOp,
        failStatus := c.failStatus, cause := c.cause })
    match (s.chan i).cmd with
    | some cmd => s1.finish cmd asOk (s.chan i).completed.toNat
    | none => s1
  | .reset _ =>
    (s.modChan i (fun c =>
      { c with completed := 0, bufs := [], recs := [], entry := none, stopping := [], retire := some { r with stage := .reread } })).readDoorbell i .reset

/-- CHANNEL_RETIRE_COMPLETE (R120): once every engine has stopped, the fetched buffers are completed; once their records are visible or
faulted, the generation advances. -/
def State.retireComplete (s : State) (i : Nat) : State :=
  match (s.chan i).retire with
  | none => s
  | some r =>
    let s1 := if r.stage == .stopping then
        (s.closeBuffers i r).modChan i (fun c => { c with retire := some { r with stage := .records } })
      else s
    if (s1.chan i).recs.isEmpty then s1.endRetire i r else s1

/-- The tags a channel still holds for requests of its current generation (R120). -/
def State.tagsOf (s : State) (i : Nat) : Nat :=
  (s.xfer.tags.used.filter (fun t => t.chan == i && t.cgen == (s.chan i).gen.toNat && (match t.owner with
    | .op _ => true
    | .sigWord _ => true
    | _ => false))).length

/-- Whether the step of CHANNEL_RETIRE_COMPLETE is due. -/
def State.retireDue (s : State) (i : Nat) : Bool :=
  let c := s.chan i
  match c.retire with
  | none => false
  | some r => match r.stage with
    | .stopping => c.stopping.isEmpty && s.tagsOf i == 0 && c.recs.all (fun p => !p.sigDue)
    | .records => c.recs.isEmpty && s.tagsOf i == 0
    | .reread => false

/-- CHANNEL_RETIRE_COMPLETE (R120). -/
def execChannelRetireComplete (ch : Nat) (s : State) : Out := act (s.live && s.retireDue ch) s (s.retireComplete ch)

/-- Whether a draining channel has run every entry to the drain TAIL (R118). -/
def Channel.drained (c : Channel) : Bool :=
  c.draining && c.drain.any (fun d => !d.reading && d.tail % 2 ^ 32 == c.head.toNat) && c.bufs.isEmpty

/-- DRAIN_COMPLETE (R118): the channel retires; nothing is left to stop but what its signal words hold. -/
def execDrainComplete (ch : Nat) (s : State) : Out :=
  act (s.live && (s.chan ch).drained) s (s.startRetire ch stAborted false .free)

/-! ### Watches the carrier refuses (R557) -/

/-- WATCH_REFUSED: the watch is treated as absent (R557). -/
def execWatchRefused (wid : Nat) (s : State) : Out :=
  act (s.clocked && decide (wid ∈ s.watch.armed) && !decide (wid ∈ s.watch.refused)) s
    (s.modWatch (fun w => { w with refused := w.refused ++ [wid] }))

end Sys2Proof.Machine
end

