-- ==== Sys2Proof/Machine/Admin.lean ====
section
/-!
DEFINITION. Admin rings (R85 to R92, R105, R124, R577): their doorbells, the taking of entries, completions, and QUERY of a channel.
-/
namespace Sys2Proof.Machine

/-- The WID of an admin doorbell (R556). -/
def adminWid (pav : Nat) : Nat := 4096 + pav

/-- The admin doorbell record is read: TAIL (R101, R102). -/
def State.readAdminDb (s : State) (pav : Nat) : State :=
  s.issue { op := .read, addr := (s.ring pav).db, len := 4, pav := pav, use := .adminDoorbell pav (s.ring pav).epoch }

/-- The pending entries of an admin ring (R105). -/
def AdminRing.pending (r : AdminRing) : Nat := (r.tail - r.head).toNat

/-- The entry at HEAD is read when one is pending and the count is within range (R90, R105, R109, R577). -/
def State.adminFetch (s : State) (pav : Nat) : State :=
  let r := s.ring pav
  if r.enabled && !r.entryOut && r.faultAt.isNone && decide (1 ≤ r.pending) && decide (r.pending ≤ 2 ^ r.log2) && s.live then
    (s.modRing pav (fun r => { r with entryOut := true })).fetch pav 0
      [{ op := .read, addr := r.base + 64 * (r.head.toNat % 2 ^ r.log2), len := 64, pav := pav, use := .adminEntry pav r.epoch }]
  else s

/-- The admin entry reads of a ring not yet issued. -/
def ofRing (pav : Nat) : FabUse → Bool
  | .adminEntry p _ => p == pav
  | _ => false

/-- An admin ring starts afresh (R124): counts at zero, the first pass with PHASE 1, the watch armed, TAIL read once. Reads of an earlier
start are read for nothing. -/
def State.startRing (s : State) (pav base log2 cmpl db : Nat) : State :=
  ((s.modRing pav (fun r => { epoch := r.epoch + 1, enabled := true, base := base, log2 := log2, cmpl := cmpl, db := db, lastPoll := s.now })).arm
    (adminWid pav) db pav).readAdminDb pav

/-- The Pavilion 0 ring started from the FRONT registers (R124). -/
def State.startRing0 (s : State) : State :=
  s.startRing 0 (bits s.front.admin0Ring 55 12 * 4096) (bits s.front.admin0Ring 59 56) (bits s.front.admin0Cmpl 55 12 * 4096)
    (bits s.front.admin0Db 55 6 * 64)

/-- Commands of a ring whose completions are not yet written and answered (R124). -/
def State.ringBusy (s : State) (pav : Nat) : Bool :=
  s.front.cmds.any (fun c => c.pav == pav) || s.fab.out.any (fun a => a.use == .adminCompletion pav) ||
    s.fab.waiting.any (fun a => a.use == .adminCompletion pav)

/-- An enable that waited for the commands of the previous one (R124). -/
def State.startWanted (s : State) (pav : Nat) : State :=
  if (s.ring pav).wanted && !s.ringBusy pav then s.startRing0 else s

/-- A ring stops: its watch is disarmed and it takes no further entries (R124). -/
def State.stopRing (s : State) (pav : Nat) : State :=
  (((s.dropFetch (ofRing pav)).modFab (fun f => { f with contents := f.contents.filter (fun c => match c.key with
    | .admin r => r.pav != pav
    | _ => true) })).modRing pav (fun r => { r with enabled := false, wanted := false, entryOut := false, faultAt := none })).disarm (adminWid pav)

/-- ADMIN_DOORBELL_NOTIFY (R101). -/
def execAdminDoorbellNotify (pav : Nat) (s : State) : Out :=
  act (s.live && s.watching (adminWid pav) && (s.ring pav).enabled) s (s.readAdminDb pav)

/-- A poll is due: every 1 µs where the watch is refused, else once in each sweep period (R102, R557). -/
def State.adminPollDue (s : State) (pav : Nat) : Bool :=
  (s.ring pav).enabled &&
    (if decide (adminWid pav ∈ s.watch.refused) then s.usPassed (s.ring pav).lastPoll 1
     else s.sweepUs != 0 && s.usPassed (s.ring pav).lastPoll s.sweepUs)

/-- ADMIN_DOORBELL_POLL (R102, R557). -/
def execAdminDoorbellPoll (pav : Nat) (s : State) : Out :=
  act (s.live && s.adminPollDue pav) s ((s.modRing pav (fun r => { r with lastPoll := s.now })).readAdminDb pav)

/-- The contained error of a failed admin access (R577, R512). -/
def State.adminFault (s : State) (pav addr access : Nat) (res : FabResult) : State :=
  s.raiseContained (mkReport (match res with
    | .partReset => 0x13
    | _ => if access = 6 then 0x14 else 0x15) (unit := 1) (access := access) (pav := pav) (addr := addr))

/-- A returned admin doorbell (R105, R577): TAIL is taken, ADMIN_OVERRUN is raised beyond the ring size, entries are fetched.
DEDUCED, log entry 35. -/
def State.adminDbAnswer (s : State) (pav epoch : Nat) (res : FabResult) : State :=
  let r := s.ring pav
  if !r.enabled || r.epoch != epoch then s
  else
    let s1 := s.modRing pav (fun r => { r with faultAt := none })
    match res with
    | .data l =>
      let s2 := s1.modRing pav (fun r => { r with tail := BitVec.ofNat 32 (leAt l 0 4) })
      if 2 ^ r.log2 < (s2.ring pav).pending then
        (s2.modRing pav (fun r => { r with overrun := true })).raiseContained (mkReport 0x1D (unit := 1) (pav := pav) (addr := r.db))
      else (s2.modRing pav (fun r => { r with overrun := false })).adminFetch pav
    | _ => (s1.adminFault pav r.db 4 res).adminFetch pav

/-! ### Taking entries (R86, R87, R90, R523 to R527) -/

/-- The codes of R87. -/
def adminOps : List Nat := [0x01, 0x02, 0x03, 0x10, 0x11, 0x20, 0x21, 0x30, 0x31, 0x40, 0x41]

/-- The functions of R523 with their levels. -/
def mgmtLevels : List (Nat × Nat) :=
  [(0x0101, 4), (0x0102, 4), (0x0201, 4), (0x0301, 4), (0x0401, 4), (0x0403, 4), (0x0404, 4), (0x0501, 3), (0x0502, 1), (0x0503, 1),
    (0x0601, 2), (0x0602, 2), (0x0701, 5)]

/-- The functions of the Pavilion 0 ring alone (R523). -/
def mgmtP0 : List Nat := [0x0403, 0x0404, 0x0501, 0x0502, 0x0503]

/-- QUERY subjects (R524). -/
def AdminCmd.subject (c : AdminCmd) : Nat := bits (c.arg 1) 7 0

/-- The work level of a command of the Lodge firmware (R525); 0 for a command another unit performs. -/
def AdminCmd.level (c : AdminCmd) : Nat :=
  if c.op = 0x30 || c.op = 0x31 then 3
  else if c.op = 0x40 then ((mgmtLevels.find? (fun p => p.1 == c.fn)).map Prod.snd).getD 0
  else if c.op = 0x41 && (c.subject = 3 || c.subject = 4) then 4
  else 0

/-- What completes an entry at once: a reserved code, a reserved bit of its first word or of ARG1, or a ring that may not give the
command (R87, R89, R523, R524). DEDUCED, log entry 38. -/
def AdminCmd.refusal (c : AdminCmd) : Option Nat :=
  if c.op ∉ adminOps then some asBadCommand
  else if c.op = 0x40 && c.fn ∉ mgmtLevels.map Prod.fst then some asBadCommand
  else if c.pav != 0 && (c.op = 0x30 || c.op = 0x31 || (c.op = 0x40 && c.fn ∈ mgmtP0)) then some asDenied
  else if bits (c.words.getD 0 0) 15 8 != 0 || bits (c.words.getD 0 0) 63 32 != 0 then some asBadCommand
  else if c.op = 0x40 && bits (c.arg 1) 63 16 != 0 then some asBadCommand
  else if c.op = 0x41 && (bits (c.arg 1) 63 8 != 0 || c.subject = 0 || 5 ≤ c.subject) then some asBadCommand
  else none

/-- The shared queue of levels 4 and 5 has no room for a Pavilion (R525, R527). DEDUCED, log entry 36. -/
def Lodge.full (l : Lodge) (pav : Nat) : Bool :=
  decide (32 ≤ l.items.length) || decide (8 ≤ (l.items.filter (fun i => i.cmd.pav == pav)).length)

/-- An admin entry taken (R90): HEAD and TAKEN pass it, and it is handed to its unit, completed at once, or answered BUSY.
DESIGN CHOICE, log entry 37. -/
def State.takeAdmin (s : State) (pav : Nat) (l : List Byte) : State :=
  let k := (s.ring pav).head.toNat
  let r : AdminRef := { pav := pav, entry := k }
  let c : AdminCmd := { pav := pav, entry := k, words := wordsOf l 8 }
  let s1 := ((s.modRing pav (fun q => { q with head := q.head + 1, taken := q.taken + 1, entryOut := false })).modFront
    (fun e => { e with cmds := e.cmds ++ [c] })).activity pav
  let s2 := match c.refusal with
    | some st => s1.finish r st
    | none =>
      if s.retained.oos && pav = 0 && c.op != 0x40 && c.op != 0x41 then s1.finish r asBadState
      else if 4 ≤ c.level then
        if s1.lodge.full pav then (s1.drawn).finish r asBusy (retryAfter := clampNat 10 65535 (s1.freeVal .retryAfter))
        else s1.modLodge (fun q => { q with items := q.items ++ [LodgeItem.mk r c.level] })
      else s1
  s2.adminFetch pav

/-- A returned admin entry (R90, R105, R577). -/
def State.adminEntryAnswer (s : State) (pav epoch : Nat) (res : FabResult) : State :=
  let r := s.ring pav
  if !r.enabled || !r.entryOut || r.epoch != epoch then s
  else match res with
    | .data l =>
      if r.pending = 0 || 2 ^ r.log2 < r.pending then s.modRing pav (fun q => { q with entryOut := false }) else s.takeAdmin pav l
    | _ => (s.modRing pav (fun q => { q with entryOut := false, faultAt := some s.now })).adminFault pav
        (r.base + 64 * (r.head.toNat % 2 ^ r.log2)) 4 res

def isAdminDb (pav : Nat) : FabUse → Bool
  | .adminDoorbell p _ => p == pav
  | _ => false
def isAdminEntry (pav : Nat) : FabUse → Bool
  | .adminEntry p _ => p == pav
  | _ => false

/-- The start of the ring that the oldest access of a use belongs to. -/
def State.useEpoch (s : State) (f : FabUse → Bool) : Nat :=
  match (s.fab.out.find? (fun a => f a.use)).map FabAccess.use with
  | some (.adminDoorbell _ e) => e
  | some (.adminEntry _ e) => e
  | _ => 0

/-- ADMIN_DOORBELL_READ_DONE (R105): the oldest doorbell read of the ring is answered. -/
def execAdminDoorbellReadDone (pav : Nat) (res : ReadResult) (s : State) : Out :=
  act (s.live && s.hasUse (isAdminDb pav)) s
    ((((s.dropFirst (isAdminDb pav)).adminDbAnswer pav (s.useEpoch (isAdminDb pav)) (.ofRead res)).issueWaiting).fetchOne)

/-- ADMIN_ENTRY_READ_DONE (R90). -/
def execAdminEntryReadDone (pav : Nat) (res : ReadResult) (s : State) : Out :=
  act (s.live && s.hasUse (isAdminEntry pav)) s
    ((((s.dropFirst (isAdminEntry pav)).adminEntryAnswer pav (s.useEpoch (isAdminEntry pav)) (.ofRead res)).issueWaiting).fetchOne)

/-- ADMIN_ENTRY_RETRY (R577): the entry is read again 1 ms after the fault. -/
def execAdminEntryRetry (pav : Nat) (s : State) : Out :=
  act (s.live && (s.ring pav).enabled && (s.ring pav).faultAt.any (fun t => s.usPassed t 1000)) s
    ((s.modRing pav (fun r => { r with faultAt := none })).adminFetch pav)

/-! ### Completions (R88, R90, R567, R577) -/

/-- The completion of a command (R88). -/
def AdminRing.completion (r : AdminRing) (c : AdminCmd) (st retryAfter r1 r2 r3 : Nat) : List Byte :=
  leBytes 8 (b2n r.phase + place st 8 8 + place c.cookie 16 16 + place retryAfter 32 16 + place r.taken.toNat 48 16) ++
    leBytes 8 r1 ++ leBytes 8 r2 ++ leBytes 8 r3

/-- The next slot of the completion ring, PHASE inverted on each pass. -/
def AdminRing.advance (r : AdminRing) : AdminRing :=
  if r.next + 1 = 2 ^ r.log2 then { r with next := 0, phase := !r.phase } else { r with next := r.next + 1 }

/-- The first command of a ring to have completed (R90). -/
def State.firstDone (s : State) (r : AdminRef) : Bool := (s.front.doneQ.find? (fun q => q.pav == r.pav)) == some r

/-- The window of a REGISTER_WINDOW whose completion is written accepts requests (R177). -/
def State.openWindow (s : State) (r : AdminRef) : State :=
  s.modXfer (fun x => { x with wins := x.wins.map (fun p => (p.1, p.2.map (fun e => if e.opening = some r then { e with opening := none } else e))) })

/-- The completion of a finished command written into the next slot. -/
def State.writeCompletion (s : State) (r : AdminRef) : State :=
  match s.cmd r with
  | some c => match c.phase with
    | .finished st ra r1 r2 r3 =>
      let q := s.ring r.pav
      (((s.openWindow r).modRing r.pav AdminRing.advance).modFront (fun e =>
        { e with cmds := e.cmds.filter (fun c => !c.isRef r), doneQ := e.doneQ.filter (fun x => x != r) })).issue
        { op := .write, addr := q.cmpl + 32 * q.next, len := 32, pav := r.pav, data := q.completion c st ra r1 r2 r3,
          use := .adminCompletion r.pav }
    | _ => s
  | none => s

/-- ADMIN_COMPLETION_WRITE (R88). -/
def execAdminCompletionWrite (r : AdminRef) (s : State) : Out :=
  act (s.live && s.firstDone r && (s.cmd r).any (fun c => match c.phase with
    | .finished .. => true
    | _ => false)) s (s.writeCompletion r)

/-- The answer to a completion write (R567, R577): the interrupt once it is visible, or CMPL_WRITE_FAULT. -/
def State.completionAnswer (s : State) (pav addr : Nat) (res : FabResult) : State :=
  let s1 := match res with
    | .visible => if s.global.ctl.getLsbD pav then s.msi pav else s
    | _ => s.adminFault pav addr 6 res
  s1.startWanted pav

/-! ### The FRONT enable (R124) -/

/-- The registers are reached: they lie in the always-on domain, which is initialised in a cold block reset (R559, R570). DEDUCED, log entry 22. -/
def State.regsOpen (s : State) : Bool := s.resetRun.all (fun r => r.scope == .warm)

/-- ADMIN0_EN written (R124): set, the ring starts afresh, at once or when the commands of the previous enable have completed; cleared, it stops. -/
def State.setAdmin0 (s : State) (en : Bool) : State :=
  if en = s.front.admin0En then s
  else if en then ((s.modFront (fun e => { e with admin0En := true })).modRing 0 (fun r => { r with wanted := true })).startWanted 0
  else (s.modFront (fun e => { e with admin0En := false })).stopRing 0

/-- ADMIN0_ENABLE (R124). -/
def execAdmin0Enable (s : State) : Out := act s.regsOpen s (s.setAdmin0 true)

/-- ADMIN0_DISABLE (R124). -/
def execAdmin0Disable (s : State) : Out := act s.regsOpen s (s.setAdmin0 false)

/-! ### QUERY of a channel (R112, R524) -/

/-- STATUS of a channel (R112). -/
def Channel.statusWord (c : Channel) : Nat :=
  place c.state.code 0 4 + place c.cause 4 4 + place c.failStatus 19 8 + place c.failOp 27 11 + place c.typ 38 2 + place c.gen.toNat 40 8

/-- QUERY subject 0x01 (R79, R93, R524). -/
def State.queryChannel (s : State) (r : AdminRef) : State :=
  let c := s.cmdD r
  if bits (c.arg 2) 63 24 != 0 || !c.zeroArgs [3, 4, 5, 6, 7] then s.finish r asBadCommand
  else if c.pav != 0 && bits (c.arg 2) 15 12 != c.pav then s.finish r asDenied
  else match s.chanOf (bits (c.arg 2) 31 0) with
    | none => s.finish r asBadHandle
    | some i => s.finish r asOk (s.chan i).statusWord (s.chan i).completed.toNat (s.chan i).head.toNat

/-- Whether the command named is a QUERY of a subject, taken and not begun. -/
def State.queryIs (s : State) (r : AdminRef) (subject : Nat) : Bool := s.cmdIs r 0x41 && (s.cmdD r).subject == subject

/-- QUERY_CHANNEL (R524). -/
def execQueryChannel (r : AdminRef) (s : State) : Out := act (s.live && s.queryIs r 1) s (s.queryChannel r)

end Sys2Proof.Machine
end

