-- ==== Sys2Proof/Machine/OpsPool.lean ====
section
/-!
DEFINITION. The receive pool of a port (R24, R339, R351, R454): units leave their slots, and messages of a retired key index are discarded when they
reach the head of their queue.
-/
namespace Sys2Proof.Machine

/-- Units leave their slots at an inbound port (R24, R339). -/
def Pane.leaves (q : Pane) (l : List Nat) : Pane :=
  { q with slots := q.slots.map (fun t => if t.seq ∈ l then { t with left := t.left - (l.filter (fun x => x == t.seq)).length } else t) }

/-- The pool slots of an inbound port released; 0 stands for none. -/
def State.leaveIn (s : State) (inbound : Nat) (l : List Nat) : State :=
  match inbound with
  | 0 => s
  | i + 1 => if h : i < 6 then s.modPane ⟨i, h⟩ (fun q => q.leaves l) else s

/-- A message of a retired key index discarded from the pool (R351, R454): a request whose header was decrypted is answered KEY_RETIRED
under key index 0. -/
def State.retiredMsg (s : State) (p : PortIx) (hdr : LinkUnit) (slots : List Nat) : State :=
  let s1 := s.modPane p (fun q => q.leaves slots)
  let k := bits hdr 127 124
  if 1 ≤ k && k ≤ 9 && hdrDest hdr == s.topo.node then
    s1.sendMsg clsRsp 0 (hdrSrc hdr) { hdr := mkRspHdr hdr s.topo.node stKeyRetired 0 0 }
  else s1

/-- The first message at the head of a virtual channel's queue whose key index is retired. -/
def deadHead : List Nat → List (Nat × RxMsg) → Option (Nat × RxMsg)
  | _, [] => none
  | seen, m :: r => if m.2.dead && m.1 ∉ seen then some m else deadHead (m.1 :: seen) r

/-- Messages of a retired key index discarded as they reach the head of their queue (R351). The first argument is fuel. -/
def State.sweepPool (p : PortIx) : Nat → State → State
  | 0, s => s
  | n + 1, s => match deadHead [] (s.port p).pane.rxMsgs with
    | none => s
    | some m => State.sweepPool p n ((s.modPane p (fun q => { q with rxMsgs := q.rxMsgs.erase m })).retiredMsg p m.2.msg.hdr m.2.slots)

/-- The pool of a port swept. -/
def State.swept (s : State) (p : PortIx) : State := State.sweepPool p (s.port p).pane.rxMsgs.length s

end Sys2Proof.Machine
end

