-- ==== Sys2Proof/Machine/OpsWin.lean ====
section
/-!
DEFINITION. The completer (R20, R31, R36, R53, R55, R163 to R183, R188 to R197): windows, page walks and the page-walk cache, requests in
progress and their order, and KVMOVE jobs.
-/
namespace Sys2Proof.Machine

/-! ### Messages waiting for a consumer -/

/-- A message as its consumer takes it: where it arrived, its virtual channel, its key index and the pool slots it holds. -/
structure Arrived where
  msg : Msg
  key : Nat
  vc : Nat
  port : Option PortIx
  slots : List Nat
  deriving DecidableEq, Repr

/-- The stream of a same-node message waits for its data: an ORDERED message does not pass it (R31, R54). -/
def localBlocked (earlier : List TxMsg) (m : TxMsg) : Bool :=
  hdrOrd m.msg.hdr && m.stream != 0 && earlier.any (fun e => !e.ready && e.stream == m.stream && e.vc == m.vc && hdrDest e.msg.hdr == hdrDest m.msg.hdr)

/-- The first same-node message that can be taken. -/
def firstLocal : List TxMsg → List TxMsg → Option TxMsg
  | _, [] => none
  | earlier, m :: r => if m.ready && !localBlocked earlier m then some m else firstLocal (earlier ++ [m]) r

/-- The message at the head of a source. DEDUCED, log entry 58. -/
def State.arrived (s : State) (src : MsgSource) : Option Arrived :=
  match src with
  | .port p vc => ((s.port p).pane.rxMsgs.find? (fun q => q.1 == vc)).map (fun q =>
      { msg := q.2.msg, key := q.2.key, vc := vc, port := some p, slots := q.2.slots })
  | .sameNode => (firstLocal [] s.xfer.localQ).map (fun q => { msg := q.msg, key := q.key, vc := q.vc, port := none, slots := [] })

/-- The units a message held leave its pool slots (R339). -/
def State.releaseSlots (s : State) (p : Option PortIx) (l : List Nat) : State :=
  match p with
  | none => s
  | some p => s.modPane p (fun q => { q with slots := q.slots.map (fun t => if t.seq ∈ l then { t with left := t.left - 1 } else t) })

/-- The message at the head of a source leaves its queue; something has happened for its Pavilion (R501). -/
def State.consumed (s : State) (src : MsgSource) : State :=
  match s.arrived src with
  | none => s
  | some a => (match src with
    | .port p vc => (s.modPane p (fun q => { q with rxMsgs := q.rxMsgs.eraseP (fun m => m.1 == vc) })).swept p
    | .sameNode => match firstLocal [] s.xfer.localQ with
      | none => s
      | some m => s.modXfer (fun x => { x with localQ := x.localQ.erase m })).activity a.key

/-- Whether the message at the head of a source has a kind. -/
def State.headIs (s : State) (src : MsgSource) (kind : Nat) : Bool :=
  match s.arrived src with
  | none => false
  | some a => a.msg.kind == kind

/-- A RESPONSE to a request (R29, R330). -/
def State.respond (s : State) (req : LinkUnit) (key st fl : Nat) (data : List Byte) : State :=
  s.sendMsg clsRsp key (hdrSrc req) { hdr := mkRspHdr req s.topo.node st fl data.length, body := dataUnits data }

/-! ### Windows and checks (R166 to R173, R181, R182) -/

def State.win (s : State) (w : Nat) : Option WinEntry := Table.get none s.xfer.wins w

/-- The accesses of R182. -/
inductive Perm where
  | r
  | w
  | a
  deriving DecidableEq, Repr

def WinDesc.permits (d : WinDesc) : Perm → Bool
  | .r => d.permR
  | .w => d.permW
  | .a => d.permA

/-- Checks 1 to 4 of R181, and an entry that is uncorrectable (R487); one whose registration is not yet completed accepts nothing (R177).
DEDUCED, log entry 61. -/
def State.winCheck (s : State) (w pav : Nat) (kv : Bool) (p : Perm) : Except Nat WinDesc :=
  match s.win w with
  | none => .error stWindowFault
  | some e =>
    if e.releasing || e.opening.isSome then .error stWindowFault
    else if e.bad then .error stUncorrectable
    else if e.desc.pav ≠ pav then .error stPermission
    else if (e.desc.kind == .kvPaged) != kv then .error stPermission
    else if !e.desc.permits p then .error stPermission
    else .ok e.desc

/-- Check 5 for a linear or paged window. -/
def WinDesc.inBounds (d : WinDesc) (off len : Nat) : Bool := decide (off + len ≤ d.size)

/-- The pages a range touches; none in a linear window. -/
def WinDesc.pagesOf (d : WinDesc) (off len : Nat) : List Nat :=
  match d.kind with
  | .paged => (List.range ((off + len - 1) / 2 ^ d.pageLog2 + 1 - off / 2 ^ d.pageLog2)).map (fun k => off / 2 ^ d.pageLog2 + k)
  | _ => []

/-- The carrier address of an offset, by the translations held (R166, R167). -/
def WinDesc.addrOf (d : WinDesc) (trans : List (Nat × Nat)) (off : Nat) : Nat :=
  match d.kind with
  | .paged => ((trans.find? (fun t => t.1 == off / 2 ^ d.pageLog2)).map Prod.snd).getD 0 + off % 2 ^ d.pageLog2
  | _ => d.base + off

/-- A range cut into parts that are contiguous in carrier memory: by pages in a paged window. -/
def WinDesc.parts (d : WinDesc) (trans : List (Nat × Nat)) (off len : Nat) : List (Nat × Nat × Nat) :=
  match d.kind with
  | .paged => (splitAtBlocks (2 ^ d.pageLog2) (len + 1) off len).map (fun q => (d.addrOf trans q.1, q.2, q.1 - off))
  | _ => [(d.addrOf trans off, len, 0)]

/-- A table entry (R167): its frame for pages of a size, when VALID. -/
def frameOf (l : List Byte) (log2 : Nat) : Option Nat :=
  let w := wordAt l 0
  if bit w 0 then some (bits w 55 log2 * 2 ^ log2) else none

/-! ### The page-walk cache (R174) -/

/-- A translation held for a page of a window, or for a KVMOVE's page-list entry. -/
def State.pwcFind (s : State) (w page : Nat) (job : Option Nat) : Option Nat :=
  if !s.xfer.winCtl then none
  else (s.xfer.pwc.find? (fun e => e.win == w && e.page == page && e.job == job)).map PwcEntry.addr

/-- A translation used by a request: it becomes the most recently used. -/
def State.pwcUse (s : State) (w page : Nat) (job : Option Nat) (user : Nat) : State :=
  s.modXfer (fun x =>
    match x.pwc.find? (fun e => e.win == w && e.page == page && e.job == job) with
    | none => x
    | some e => { x with pwc := { e with users := (user :: e.users).eraseDups } :: x.pwc.filter (fun f => f != e) })

/-- The least recently used entry not in use removed; none where every entry is in use. DEDUCED, log entry 60. -/
def evictPwc (l : List PwcEntry) : Option (List PwcEntry) :=
  match l.reverse.find? (fun e => e.users.isEmpty) with
  | none => none
  | some e => some (l.filter (fun f => f != e))

/-- A translation read by a walk: cached when there is room (R174, R207). -/
def State.pwcPut (s : State) (e : PwcEntry) : State :=
  if !s.xfer.winCtl then s
  else if s.xfer.pwc.length < 4096 then s.modXfer (fun x => { x with pwc := e :: x.pwc })
  else match evictPwc s.xfer.pwc with
    | none => s
    | some l => s.modXfer (fun x => { x with pwc := e :: l })

/-- The translations of a KVMOVE dropped when it ends at the node. -/
def State.pwcDropJob (s : State) (job : Nat) : State :=
  s.modXfer (fun x => { x with pwc := x.pwc.filter (fun e => e.job != some job) })

/-- A fabric read of a table entry (R170, R175). DEDUCED, log entry 59. -/
def State.walk (s : State) (id addr len pav : Nat) : State :=
  s.issue { op := .read, addr := addr, len := len, pav := pav, use := .walk id }

/-! ### Requests at the completer -/

def State.creq (s : State) (id : Nat) : Option CReq := s.xfer.creqs.find? (fun r => r.id == id)
def State.modCreq (s : State) (id : Nat) (f : CReq → CReq) : State :=
  s.modXfer (fun x => { x with creqs := x.creqs.map (fun r => if r.id = id then f r else r) })

/-- What a header gives of the requester and its channel handle: node, Pavilion and channel generation (R55; DEDUCED, log entry 10). -/
def CReq.handle (r : CReq) : Nat × Nat × Nat := (hdrSrc r.hdr, r.pav, hdrCgen r.hdr)

/-- Two requests are of one stream: one handle and one class (R53). -/
def CReq.sameStream (a b : CReq) : Bool := a.handle == b.handle && a.vc / 2 == b.vc / 2

/-- The entries of the order table in use (R55). -/
def State.orderEntries (s : State) : Nat := ((s.xfer.creqs.filter (fun r => r.hasEntry)).map CReq.handle).eraseDups.length

/-- A request arriving for a handle that has an entry, or for which one is free. -/
def State.getsEntry (s : State) (r : CReq) : Bool :=
  s.xfer.creqs.any (fun e => e.hasEntry && e.handle == r.handle) || decide (s.orderEntries < 1024)

/-- Whether a request may be performed: an ORDERED one waits for every earlier request of its stream, or, without an entry, of its
requester on its virtual channel (R53, R55). -/
def State.orderReady (s : State) (r : CReq) : Bool :=
  !r.ordered || s.xfer.creqs.all (fun e =>
    !(decide (e.id < r.id) && (if r.hasEntry then e.sameStream r else hdrSrc e.hdr == hdrSrc r.hdr && e.vc == r.vc)))

/-- What the atomic unit performs of the requests at the completer: atomics and signal words (R197). -/
def CKind.isAtomic : CKind → Bool
  | .atomic .. => true
  | .sigWord => true
  | _ => false

/-- An access of the atomic unit that no request at the completer made: a local SIGNAL, the completion semaphore of a run. -/
def FabUse.isAtomic : FabUse → Bool
  | .semAtomic .. => true
  | .doneSem .. => true
  | _ => false

/-- Atomics that await the fabric (R197): those of requests and the node's own updates, with or without a port. -/
def State.atomicsHeld (s : State) : Nat :=
  (s.xfer.creqs.filter (fun r => r.issued && r.kind.isAtomic)).length + (s.fab.out.filter (fun a => a.use.isAtomic)).length +
    (s.fab.waiting.filter (fun a => a.use.isAtomic)).length

/-- The destination's part of a KVMOVE ends with the last of its requests there (R172): its translations go (R174). DEDUCED, log entry 52. -/
def State.endDest (s : State) (id : Nat) : State :=
  if id = 0 || s.xfer.creqs.any (fun r => r.move == id) then s
  else (s.modXfer (fun x => { x with dests := x.dests.filter (fun d => d.id != id) })).pwcDropJob id

/-- A request leaves the completer (R178, R197): its slots and translations come free. -/
def State.dropCreq (s : State) (r : CReq) : State :=
  (((s.modXfer (fun x => { x with creqs := x.creqs.filter (fun q => q.id != r.id) })).releaseSlots r.port r.slots).pwcLeave
    (userReq r.id)).endDest r.move

/-- A request answered and ended (R36, R61). -/
def State.endCreq (s : State) (r : CReq) (st fl : Nat) (data : List Byte) : State :=
  (s.dropCreq r).respond r.hdr r.pav st fl data

/-- The accesses of a checked request issued (R36, R46, R183, R551). -/
def State.issueCreq (s : State) (r : CReq) (d : WinDesc) : State :=
  let parts := d.parts r.trans r.off r.len
  let l : List FabRequest := match r.kind with
    | .read => parts.flatMap (fun q => (readPieces q.1 q.2.1 d.pav (fun o => .creq r.id (q.2.2 + o))))
    | .atomic sub fmt x y lo hi =>
      [{ op := .atomic, addr := d.addrOf r.trans r.off, len := r.len, pav := d.pav, subop := sub, fmt := fmt,
         data := leBytes 8 x.toNat ++ leBytes 8 y.toNat ++ leBytes 8 lo.toNat ++ leBytes 8 hi.toNat, use := .creq r.id 0 }]
    | .sigWord => [{ op := .atomic, addr := d.addrOf r.trans r.off, len := 8, pav := d.pav, subop := 0x81, fmt := 5, data := r.data,
                     use := .creq r.id 0 }]
    | .kvWrite .. => writePieces r.off r.data d.pav (fun o => .creq r.id o)
    | _ => parts.flatMap (fun q => writePieces q.1 (slice r.data q.2.2 q.2.1) d.pav (fun o => .creq r.id (q.2.2 + o)))
  let s1 := (s.modCreq r.id (fun r => { r with issued := true, out := l.length, slots := [] })).releaseSlots r.port r.slots
  let s2 := match r.kind with
    | .atomic .. => s1
    | .read => s1
    | _ => s1.belvAdd r.pav (belvId 0x10 4) r.data.length
  s2.issueAll l

/-- A copy request whose source is checked: its relay tag is taken, its write request queued, its source read (R188). DEDUCED, log entry 51. -/
def State.startRelay (s : State) (r : CReq) (d : WinDesc) (dst : Remote) (timeoutUs : Nat) : State :=
  let tag := s.nextTag.1
  let use := s.nextTag.2
  let hdr := fun kind lc => mkReqHdr kind false dst.node s.topo.node tag use s.retained.srcGen.toNat (hdrCgen r.hdr) dst.window dst.offset lc
  let a : TagAlloc := { tag := 0, use := 0, chan := 0, cgen := hdrCgen r.hdr, pav := r.pav, owner := .relay r.id, kind := .write,
                        dest := dst.node, off := 0, len := r.len, timeoutUs := timeoutUs, need := r.len }
  let reads := (d.parts r.trans r.off r.len).flatMap (fun q => readPieces q.1 q.2.1 d.pav (fun o => .tagRead tag use (q.2.2 + o)))
  ((((s.takeTag a).modCreq r.id (fun r => { r with issued := true, relayed := true, slots := [] })).releaseSlots r.port r.slots).sendMsg
    (r.vc / 2) r.pav dst.node (mkWriteHead hdr dst.offset r.len) (ready := false) (tag := some tag)).issueAll reads

/-- A request waits for a relay tag of its Pavilion (R186, R188). -/
def State.waitTag (s : State) (pav : Nat) (o : TagOwner) : State :=
  if s.waitsTag o then s
  else s.modXfer (fun x => { x with tags := { x.tags with waiting := x.tags.waiting ++ [(pav, o)] } })

/-! ### A release that can end (R178) -/

/-- Source bytes of a request under a tag of an owner are still being read. -/
def State.reading (s : State) (o : TagOwner) : Bool := s.xfer.tags.used.any (fun a => a.owner == o && decide (0 < a.need))

/-- A KVMOVE of this node still needs its source window: it forms requests, walks pages or reads source bytes. -/
def State.jobUses (s : State) (j : KvJob) : Bool := !j.allFormed || j.walking.isSome || s.reading (.kv j.id)

/-- Whether a window in release still has fabric accesses of requests that passed their checks (R178): of a relayed copy, the reads of its
source. -/
def State.winBusy (s : State) (w : Nat) : Bool :=
  s.xfer.creqs.any (fun r => r.win == w && (match s.xfer.jobs.find? (fun j => j.id == r.id) with
    | some j => s.jobUses j
    | none => !r.relayed || s.reading (.relay r.id))) ||
    s.xfer.jobs.any (fun j => j.move.srcWindow == w && s.jobUses j)

/-- Releases whose requests have finished: the translations are dropped, the index is free, the command completes. -/
def State.endReleases (s : State) : State :=
  s.xfer.wins.foldl (fun t p => match p.2 with
    | some e =>
      if e.releasing && !t.winBusy p.1 then
        let t1 := t.modXfer (fun x => { x with wins := Table.put none x.wins p.1 none, pwc := x.pwc.filter (fun f => f.win != p.1) })
        match e.releaseCmd with
        | some r => t1.finish r asOk
        | none => t1
      else t
    | none => t) s

/-! ### KVMOVE jobs (R190 to R195) -/

def State.job (s : State) (id : Nat) : Option KvJob := s.xfer.jobs.find? (fun j => j.id == id)
def State.modJob (s : State) (id : Nat) (f : KvJob → KvJob) : State :=
  s.modXfer (fun x => { x with jobs := x.jobs.map (fun j => if j.id = id then f j else j) })

/-- PAGE_TOKENS_LOG2 of a destination window: the node's own, else a free value of that window (DESIGN CHOICE, log entry 11). -/
def State.dstTokensLog2 (s : State) (node window : Nat) : Nat :=
  if node = s.topo.node then
    match s.win window with
    | some e => e.desc.pageTokensLog2
    | none => 4
  else clampNat 4 10 (Config.free .pageTokens (node * 65536 + window))

/-- The run of tokens a job stands in: how many tokens lie in one source page and one destination page (R193). -/
def KvJob.runLen (j : KvJob) (srcLog2 dstLog2 : Nat) : Nat :=
  let t := j.move.srcToken + j.cursor.token
  let u := j.move.dstToken + j.cursor.token
  min (min (2 ^ srcLog2 - t % 2 ^ srcLog2) (2 ^ dstLog2 - u % 2 ^ dstLog2)) (j.move.tokenCount - j.cursor.token)

/-- The source page a job needs next: the index L × M + n of its page-list entry (R171). -/
def KvJob.pageIndex (j : KvJob) (d : WinDesc) : Nat :=
  (j.move.layerFirst + j.cursor.layer) * 2 ^ (d.maxTokensLog2 - d.pageTokensLog2) +
    (j.move.srcToken + j.cursor.token) / 2 ^ d.pageTokensLog2

/-- The cursor after `n` bytes of the run were formed (R193). -/
def KvJob.advance (j : KvJob) (n run entryBytes : Nat) : KvJob :=
  let c := j.cursor
  let b := c.bytes + n
  if b < run * entryBytes then { j with cursor := { c with bytes := b } }
  else if c.hg + 1 < j.move.hgCount then { j with cursor := { c with bytes := 0, hg := c.hg + 1 } }
  else if c.token + run < j.move.tokenCount then { j with cursor := { c with bytes := 0, hg := 0, token := c.token + run } }
  else if c.layer + 1 < j.move.layerCount then { j with cursor := { layer := c.layer + 1, token := 0, hg := 0, bytes := 0 } }
  else { j with allFormed := true }

/-- The translation a job holds for the page it needs: cached, or read last by its own walk (R174, R195). -/
def State.jobPage (s : State) (j : KvJob) (d : WinDesc) : Option Nat :=
  match s.pwcFind j.move.srcWindow (j.pageIndex d) (some j.id) with
  | some a => some a
  | none => match j.held with
    | some h => if h.1 = j.pageIndex d then some h.2 else none
    | none => none

/-- The walk of the page a job needs next, when it holds no translation of it (R175). -/
def State.jobWalk (s : State) (id : Nat) : State :=
  match s.job id with
  | none => s
  | some j => match s.win j.move.srcWindow with
    | none => s
    | some e =>
      if !j.ready || j.allFormed || j.walking.isSome || (s.jobPage j e.desc).isSome then s
      else (s.modJob id (fun j => { j with walking := some (j.pageIndex e.desc) })).walk id (j.pageList + 8 * j.pageIndex e.desc) 8 e.desc.pav

/-- One KV write request of a job formed under the next tag (R193, R194). -/
def State.formKv (s : State) (id : Nat) : State :=
  match s.job id with
  | none => s
  | some j => match s.win j.move.srcWindow with
    | none => s
    | some e => match s.jobPage j e.desc with
      | none => s
      | some page =>
        let d := e.desc
        let k := j.move
        let eb := d.entryBytes
        let ps := 2 ^ d.pageTokensLog2
        let pd := 2 ^ s.dstTokensLog2 k.dstNode k.dstWindow
        let run := j.runLen d.pageTokensLog2 (s.dstTokensLog2 k.dstNode k.dstWindow)
        let hg := k.hgFirst + j.cursor.hg
        let t := k.srcToken + j.cursor.token
        let u := k.dstToken + j.cursor.token
        let dstOff := hg * pd * eb + (u % pd) * eb + j.cursor.bytes
        let n := min (run * eb - j.cursor.bytes) (4096 - dstOff % 4096)
        let src := page + hg * ps * eb + (t % ps) * eb + j.cursor.bytes
        let skip := j.cursor.bytes % eb
        let tag := s.nextTag.1
        let use := s.nextTag.2
        let hdr := mkReqHdr kKvWrite j.ordered k.dstNode s.topo.node tag use s.retained.srcGen.toNat j.cgen k.dstWindow 0 0
        let m : Msg := { hdr := hdr,
                         body := [mkKvAddr k.dstSeq (k.layerFirst + j.cursor.layer) hg (u + j.cursor.bytes / eb) (ceilDiv (skip + n) eb) (eb / 16)
                           (skip / 16) (n / 16)] }
        let a : TagAlloc := { tag := 0, use := 0, chan := j.chan, cgen := j.cgen, pav := j.pav, owner := .kv id, kind := .write,
                              dest := k.dstNode, off := 0, len := n, timeoutUs := j.timeoutUs, need := n, cluster := j.cluster,
                              engine := engineOfTurn j.cluster j.nreq }
        let s1 := ((s.pwcUse k.srcWindow (j.pageIndex d) (some id) (userTag tag)).takeTag a).modJob id
          (fun j => { (j.advance n run eb) with out := j.out + 1, nreq := j.nreq + 1 })
        let s2 := match j.op with
          | some o => s1.modOp o (fun q => { q with out := q.out + 1, allFormed := (j.advance n run eb).allFormed })
          | none => s1
        ((s2.sendMsg clsBulk j.pav k.dstNode m (ready := false) (stream := match j.op with
          | some o => o.chan + 1
          | none => 0) (tag := some tag)).issueAll (readPieces src n d.pav (fun off => .tagRead tag use off))).jobWalk id

/-- A job of another requester ends: its one summary response, unless a relay timeout silenced it (R190). -/
def State.endJob (s : State) (j : KvJob) : State :=
  let s1 := (s.modXfer (fun x => { x with jobs := x.jobs.filter (fun k => k.id != j.id) })).pwcDropJob j.id
  match s.creq j.id with
  | none => s1.endReleases
  | some r => (if j.silent then s1.dropCreq r else s1.endCreq r j.status 0 []).endReleases

/-- A relayed job goes on: it forms requests while it has translations and tags, and none while an Anneal holds (R72); the first argument is
fuel (R188, R190). DEDUCED, log entry 157. -/
def State.pumpJob (s : State) (id : Nat) : Nat → State
  | 0 => s
  | n + 1 => match s.job id with
    | none => s
    | some j =>
      if j.op.isSome then s
      else if j.allFormed then (if j.out = 0 && j.walking.isNone then s.endJob j else s)
      else match s.win j.move.srcWindow with
        | none => s
        | some e =>
          if !j.ready || s.annealed j.pav || !s.live then s
          else if (s.jobPage j e.desc).isNone then s.jobWalk id
          else if s.tagFree j.pav then (s.formKv id).pumpJob id n
          else s.waitTag j.pav (.kv id)

def pumpFuel : Nat := 16385

/-- A job that fails forms nothing more (R77). -/
def State.failJob (s : State) (id st : Nat) : State :=
  match s.job id with
  | none => s
  | some j => match j.op with
    | some o => (s.modJob id (fun j => { j with allFormed := true, walking := none })).opFail o st 0
    | none => (s.modJob id (fun j => { j with allFormed := true, walking := none, status := if j.status = 0 then st else j.status })).pumpJob id 2

/-- A job whose source window passed its check: the ranges are checked up to the sequence entry, which is then read (R170, R172, R191). -/
def State.checkJob (s : State) (id : Nat) (d : WinDesc) : State :=
  match s.job id with
  | none => s
  | some j =>
    if d.seqCount ≤ j.move.srcSeq || d.layers < j.move.layerFirst + j.move.layerCount || d.hgTotal < j.move.hgFirst + j.move.hgCount then
      s.failJob id stBounds
    else s.walk id (d.base + 16 * j.move.srcSeq) 16 d.pav

/-- The job of an own KVMOVE: its source window is checked (R181, R191). -/
def State.startJob (s : State) (id : Nat) : State :=
  match s.job id with
  | none => s
  | some j => match s.winCheck j.move.srcWindow j.pav true .r with
    | .error st => s.failJob id st
    | .ok d => s.checkJob id d

/-! ### KVMOVE at its destination (R170 to R172, R174, R175) -/

/-- The place of a KV write request in its page: the page-list entry index, the byte offset in the page, and the end of its head group's part
(R171). -/
def kvPlace (d : WinDesc) (layer hg token skip16 : Nat) : Nat × Nat × Nat :=
  let p := 2 ^ d.pageTokensLog2
  (layer * 2 ^ (d.maxTokensLog2 - d.pageTokensLog2) + token / p, hg * p * d.entryBytes + token % p * d.entryBytes + skip16 * 16,
    (hg + 1) * p * d.entryBytes)

/-- The place of a request, where it is a KV write request. -/
def CReq.place (r : CReq) (d : WinDesc) : Nat × Nat × Nat :=
  match r.kind with
  | .kvWrite _ layer hg first _ _ skip => kvPlace d layer hg first skip
  | _ => (0, 0, 0)

/-- The destination's part of the KVMOVE a request belongs to. -/
def State.dest (s : State) (id : Nat) : Option KvDest := s.xfer.dests.find? (fun d => d.id == id)
def State.modDest (s : State) (id : Nat) (f : KvDest → KvDest) : State :=
  s.modXfer (fun x => { x with dests := x.dests.map (fun d => if d.id = id then f d else d) })

/-- A KV write request joins its part, by what its header and address unit name: one in progress, or a new one, whose sequence entry is
read (R170, R172). -/
def State.joinDest (s : State) (r : CReq) (slot : Nat) (d : WinDesc) : State :=
  match s.xfer.dests.find? (fun d => (d.src, d.pav, d.cgen) == r.handle && d.win == r.win && d.slot == slot) with
  | some m => s.modCreq r.id (fun r => { r with move := m.id })
  | none =>
    let id := s.xfer.nextId
    let m : KvDest := { id := id, src := hdrSrc r.hdr, pav := r.pav, cgen := hdrCgen r.hdr, win := r.win, slot := slot }
    ((s.modXfer (fun x => { x with nextId := id + 1, dests := x.dests ++ [m] })).modCreq r.id (fun r => { r with move := id })).walk id
      (d.base + 16 * slot) 16 d.pav

/-! ### Going on -/

/-- A request at the completer goes on: the next page is looked up or walked, and once none is left and its order allows, its accesses
are issued (R175, R181). The first argument is fuel. -/
def State.advanceCreq (s : State) (id : Nat) : Nat → State
  | 0 => s
  | n + 1 => match s.creq id with
    | none => s
    | some r =>
      if r.issued || r.walking then s
      else match s.win r.win with
        | none => s
        | some e =>
          let d := e.desc
          match r.pages with
          | p :: rest =>
            match s.pwcFind r.win p none with
            | some a => ((s.pwcUse r.win p none (userReq id)).modCreq id (fun r => { r with pages := rest, trans := r.trans ++ [(p, a)] })).advanceCreq id n
            | none => (s.modCreq id (fun r => { r with walking := true })).walk id (d.base + 8 * p) 8 d.pav
          | [] =>
            if !s.orderReady r || !s.live then s
            else match r.kind with
              | .atomic .. => if s.atomicsHeld < 512 then s.issueCreq r d else s
              | .copy dst us => if s.tagFree r.pav then s.startRelay r d dst us else s.waitTag r.pav (.relay id)
              | .kvCmd us k =>
                let j : KvJob := { id := id, op := none, hdr := r.hdr, chan := 0, cgen := hdrCgen r.hdr, pav := r.pav, move := k, timeoutUs := us,
                                   ordered := r.ordered, cluster := s.pickCluster r.pav }
                if (s.clustersOf r.pav).isEmpty then s
                else ((((s.modCreq id (fun r => { r with issued := true, slots := [] })).releaseSlots r.port r.slots).modXfer
                  (fun x => { x with jobs := x.jobs ++ [j] })).checkJob id d)
              | .sigWord => if s.atomicsHeld < 512 then s.issueCreq r d else s
              | .kvWrite .. => match s.dest r.move with
                | none => s
                | some m =>
                  let pl := r.place d
                  match m.list, r.trans with
                  | _, t :: _ => s.issueCreq { r with off := t.2 + pl.2.1 } d
                  | none, [] => s
                  | some list, [] => match s.pwcFind r.win pl.1 (some m.id) with
                    | some a => ((s.pwcUse r.win pl.1 (some m.id) (userReq id)).modCreq id (fun r => { r with trans := [(pl.1, a)] })).advanceCreq id n
                    | none => (s.modCreq id (fun r => { r with walking := true })).walk id (list + 8 * pl.1) 8 d.pav
              | _ => s.issueCreq r d

/-- Requests held by order or by the atomic unit tried again. -/
def State.kick (s : State) : State :=
  (s.xfer.creqs.filter (fun r => !r.issued && !r.walking)).foldl (fun t r => t.advanceCreq r.id (r.pages.length + 3)) s

/-- A request answered and ended; what it held back goes on. -/
def State.finishCreq (s : State) (r : CReq) (st fl : Nat) (data : List Byte) : State := ((s.endCreq r st fl data).kick).endReleases

/-- The request an arrived message makes, without its checks. -/
def Arrived.creq (a : Arrived) (id : Nat) (kind : CKind) (off len : Nat) (data : List Byte) : CReq :=
  { id := id, port := a.port, slots := a.slots, vc := a.vc, pav := a.key, hdr := a.msg.hdr, ordered := hdrOrd a.msg.hdr, hasEntry := false,
    kind := kind, win := hdrWindow a.msg.hdr, off := off, len := len, data := data }

/-- A request taken by the completer and checked (R20, R181): a failure is answered at once; a completer that is OUT_OF_SERVICE
discards it (R516). -/
def State.accept (s : State) (src : MsgSource) (r : CReq) (check : Except Nat WinDesc) : State :=
  let s1 := s.consumed src
  if s.retained.oos then
    let s2 := s1.releaseSlots r.port r.slots
    match r.port with
    | some p => s2.bump (ctrPlDiscard p)
    | none => s2
  else match check with
    | .error st => (s1.releaseSlots r.port r.slots).respond r.hdr r.pav st 0 []
    | .ok d =>
      let r1 := { r with hasEntry := s1.getsEntry r, pages := match r.kind with
        | .kvWrite .. => []
        | .kvCmd .. => []
        | _ => d.pagesOf r.off r.len }
      let s2 := s1.modXfer (fun x => { x with creqs := x.creqs ++ [r1], nextId := x.nextId + 1 })
      (match r.kind with
        | .kvWrite slot .. => s2.joinDest r1 slot d
        | _ => s2).advanceCreq r.id (r1.pages.length + 3)

/-- Checks 1 to 5 of a linear or paged window. -/
def State.linearCheck (s : State) (r : CReq) (p : Perm) : Except Nat WinDesc :=
  match s.winCheck r.win r.pav false p with
  | .error st => .error st
  | .ok d => if d.inBounds r.off r.len then .ok d else .error stBounds

end Sys2Proof.Machine
end

