-- ==== Sys2Proof/Machine/OpsIssue.lean ====
section
/-!
DEFINITION. Which operation forms the next request (R54, R110, R184, R186, R205, R478), and the forming of it.
-/
namespace Sys2Proof.Machine

/-- The job of a KVMOVE whose source is the own node. -/
def State.jobOf (s : State) (o : OpRef) : Option KvJob := s.xfer.jobs.find? (fun j => j.op == some o)

/-- The job of a local KVMOVE has a translation of the page it needs. -/
def State.jobReady (s : State) (o : OpRef) : Bool :=
  match s.jobOf o with
  | none => true
  | some j => match s.win j.move.srcWindow with
    | none => false
    | some e => j.ready && (s.jobPage j e.desc).isSome

/-- Whether an operation could form a request now, arbitration and resources aside. -/
def State.wantsIssue (s : State) (o : OpRef) (q : OpSlot) : Bool :=
  match q.oper with
  | none => false
  | some p =>
    q.phase == .running && q.more && s.orderOk o q p && !s.waitsTag (.op o) && !s.xfer.stagingWait.any (fun w => w.2 == o) &&
      !s.annealed (s.chan o.chan).pav && !s.shed (s.chan o.chan) ((s.chan o.chan).cls p.body) q.cluster && s.jobReady o &&
      s.measTurn o q && (match q.measAt with
        | none => true
        | some (m, base) => s.measWindow m (base + q.formed) q.nextLen)

/-- The channels of a Pavilion with a request to form in a cluster. -/
def State.issuers (s : State) (pav cl : Nat) : List Nat :=
  s.chanList.filter (fun i => (s.chan i).pav == pav && ((s.chan i).allOps i).any (fun e =>
    e.2.body.copyEngine && e.2.cluster == cl && ((s.heldWrite e.1).isSome || s.wantsIssue e.1 e.2)))

/-- The channel that wins the next issue slot of a cluster (R110): real-time channels up to their share, then all in turn. -/
def State.slotWinner (s : State) (pav cl : Nat) : Option Nat :=
  let f := s.frame cl
  let l := s.issuers pav cl
  let rt := l.filter (fun i => (s.chan i).typ == 2)
  if f.rt < s.front.share pav * 64 / 100 && !rt.isEmpty then nextAfter f.lastRt rt else nextAfter f.last l

/-- Whether the operation named forms the next request. -/
def State.issueDue (s : State) (o : OpRef) : Bool :=
  match s.opOf o with
  | none => false
  | some q =>
    s.live && ((s.heldWrite o).isSome || s.wantsIssue o q) &&
      (!q.body.copyEngine || s.awake (6 + q.cluster) && s.slotWinner (s.chan o.chan).pav q.cluster == some o.chan)

/-- A request formed under the next tag: of a local KVMOVE by its job, else by the operation. -/
def State.formFor (s : State) (o : OpRef) : State :=
  match s.jobOf o with
  | some j => s.formKv j.id
  | none => s.formRequest o

/-- The tag taken and the request formed, or the wait for a tag (R186). -/
def State.formOrWait (s : State) (o : OpRef) : State :=
  if s.tagFree (s.chan o.chan).pav then s.formFor o else s.waitTag (s.chan o.chan).pav (.op o)

/-- REQUEST_ISSUE: the slot is taken, a measured request reserves its staging, and the request takes its tag (R110, R185, R205). Returned data
of a measured relayed copy goes on first (R203). -/
def State.requestIssue (s : State) (o : OpRef) : State :=
  match s.opOf o with
  | none => s
  | some q =>
    let s1 := s.takeSlot o q
    match s.heldWrite o, q.measAt with
    | some w, _ => (s1.modXfer (fun x => { x with held := x.held.erase w })).relayWrite o w.part w.data
    | none, none => s1.formOrWait o
    | none, some (m, base) =>
      if s1.stagingFree m (base + q.formed) q.nextLen then (s1.takeStaging m (base + q.formed) q.nextLen).formOrWait o
      else s1.modXfer (fun x => { x with stagingWait := x.stagingWait ++ [(m, o)] })

/-- The measured request of a slot that waits for staging and comes first in position order (R205). -/
def State.stagingNext (s : State) (m : Nat) : Option (OpRef × Nat × Nat) :=
  (s.xfer.stagingWait.filter (fun w => w.1 == m)).foldl (fun b w =>
    match s.opOf w.2 with
    | none => b
    | some q => match q.measAt with
      | none => b
      | some (_, base) =>
        let e := (w.2, base + q.formed, q.nextLen)
        match b with
        | none => some e
        | some c => if e.2.1 < c.2.1 then some e else b) none

/-- MEASURE_STAGING_GRANT (R205). -/
def State.stagingGrant (s : State) (m : Nat) : State :=
  match s.stagingNext m with
  | none => s
  | some (o, pos, len) =>
    ((s.modXfer (fun x => { x with stagingWait := x.stagingWait.filter (fun w => w.2 != o) })).takeStaging m pos len).formOrWait o

end Sys2Proof.Machine
end

