-- ==== Sys2Proof/Machine/Operations.lean ====
section
/-!
DEFINITION. Operations at the requester (02, 04, 05): the taking of each operation by its engine, semaphores and waits, completion of
operations and buffers, signal words.
-/
namespace Sys2Proof.Machine

/-- The body of the operation named, when its engine can take it. DEDUCED, log entry 47. -/
def State.takes (s : State) (o : OpRef) (f : OpBody → Bool) : Bool := (s.takeable o).any (fun p => f p.body)

/-- An operation taken by a copy-engine cluster (R184): its requests follow by REQUEST_ISSUE. -/
def State.takeCopy (s : State) (o : OpRef) : State :=
  let cl := s.pickCluster (s.chan o.chan).pav
  (s.modOp o (fun q => { q with phase := .running, cluster := cl })).activity (s.chan o.chan).pav

/-- An operation taken by the atomic unit (R145). -/
def State.takeAtomic (s : State) (o : OpRef) : State :=
  (s.modOp o (fun q => { q with phase := .running })).activity (s.chan o.chan).pav

/-- NOP (R149): it completes when its dependencies have. -/
def execNop (o : OpRef) (s : State) : Out := act (s.takes o (fun b => b == .nop)) s (s.endOp o stOk 0)

/-- PUT (R150). -/
def execPut (o : OpRef) (s : State) : Out :=
  act (s.takes o (fun b => match b with
    | .put .. => true
    | _ => false)) s (s.takeCopy o)

/-- PUT_INLINE (R151). -/
def execPutInline (o : OpRef) (s : State) : Out :=
  act (s.takes o (fun b => match b with
    | .putInline .. => true
    | _ => false)) s (s.takeCopy o)

/-- GET (R150). -/
def execGet (o : OpRef) (s : State) : Out :=
  act (s.takes o (fun b => match b with
    | .get .. => true
    | _ => false)) s (s.takeCopy o)

/-- COPY (R152). -/
def execCopy (o : OpRef) (s : State) : Out :=
  act (s.takes o (fun b => match b with
    | .copy .. => true
    | _ => false)) s (s.takeCopy o)

/-- A KVMOVE taken (R190): by a job of the own node when it is the source node, else its command follows by REQUEST_ISSUE. -/
def State.takeKv (s : State) (o : OpRef) : State :=
  match s.takeable o with
  | none => s
  | some p => match p.body with
    | .kvmove k =>
      let s1 := s.takeCopy o
      if k.srcNode = s.topo.node then
        let c := s.chan o.chan
        let j : KvJob := { id := s.xfer.nextId, op := some o, hdr := 0, chan := o.chan, cgen := c.gen.toNat, pav := c.pav, move := k,
                           timeoutUs := c.txn, ordered := p.ordered, cluster := s.pickCluster c.pav }
        (s1.modXfer (fun x => { x with jobs := x.jobs ++ [j], nextId := x.nextId + 1 })).startJob j.id
      else s1
    | _ => s

/-- KVMOVE (R190). -/
def execKvmove (o : OpRef) (s : State) : Out :=
  act (s.takes o (fun b => match b with
    | .kvmove _ => true
    | _ => false)) s (s.takeKv o)

/-- ATOMIC (R155). -/
def execAtomic (o : OpRef) (s : State) : Out :=
  act (s.takes o (fun b => match b with
    | .atomic _ => true
    | _ => false)) s (s.takeAtomic o)

/-- The sub-operation of a SIGNAL mode (R328). -/
def sigSubop (mode : Nat) : Nat := 0x80 + mode

/-- A SIGNAL taken (R43, R158): a local one is one fabric atomic, a remote one a request. -/
def State.takeSignal (s : State) (o : OpRef) : State :=
  match s.takeable o with
  | none => s
  | some p => match p.body with
    | .signal (.localAddr a) mode v =>
      let c := s.chan o.chan
      (((s.takeAtomic o).modOp o (fun q => { q with allFormed := true, out := 1 })).belvAdd c.pav (belvId 0x10 5) 1).issue
        { op := .atomic, addr := a, len := 8, pav := c.pav, data := leBytes 8 v.toNat, subop := sigSubop mode, fmt := 5,
          use := .semAtomic o c.gen.toNat }
    | _ => s.takeAtomic o

/-- A SIGNAL is due when every operation of its channel admitted before it has completed, and, for a local semaphore, the atomic unit has
room (R43, R197). -/
def State.signalDue (s : State) (o : OpRef) : Bool :=
  (match s.opOf o with
    | none => false
    | some q => (s.earlierOpen o q).isEmpty) &&
  s.takes o (fun b => match b with
    | .signal (.localAddr _) _ _ => decide (s.atomicsHeld < 512)
    | .signal (.remote _) _ _ => true
    | _ => false)

/-- SIGNAL (R158). -/
def execSignal (o : OpRef) (s : State) : Out := act (s.signalDue o) s (s.takeSignal o)

/-- FENCE (R42): it completes when every operation of its channel admitted before it has. -/
def execFence (o : OpRef) (s : State) : Out :=
  act ((match s.opOf o with
    | none => false
    | some q => (s.earlierOpen o q).isEmpty) && s.takes o (fun b => b == .fence)) s (s.endOp o stOk 0)

/-! ### WAIT (R44, R45, R159, R160) -/

/-- The semaphore of a WAIT is read. -/
def State.readSem (s : State) (o : OpRef) : State :=
  match (s.opOf o).map OpSlot.body with
  | some (.wait a _ _) =>
    let c := s.chan o.chan
    (s.modOp o (fun q => { q with lastRead := s.now })).issue
      { op := .read, addr := a, len := 8, pav := c.pav, use := .semRead o c.gen.toNat }
  | _ => s

/-- The WIDs of WAIT watches (R556). -/
def waitWid (k : Nat) : Nat := 4112 + k

/-- The lowest WID of a WAIT that is free: 2,048 of them (R159). -/
def State.freeWait (s : State) : Option Nat :=
  ((List.range 2048).map waitWid).find? (fun w => !s.front.waits.any (fun x => x.1 == w))

/-- A WAIT armed (R159): it takes a watch when one is free and reads its semaphore. DEDUCED, log entry 54. -/
def State.armWait (s : State) (o : OpRef) : State :=
  match (s.opOf o).map OpSlot.body with
  | some (.wait a _ _) =>
    let wid := s.freeWait
    let s1 := (s.modOp o (fun q => { q with phase := .running, armed := s.now, wid := wid })).activity (s.chan o.chan).pav
    (match wid with
      | none => s1
      | some w => (s1.modFront (fun e => { e with waits := e.waits ++ [(w, o)] })).arm w a (s.chan o.chan).pav).readSem o
  | _ => s

/-- WAIT (R159). -/
def execWait (o : OpRef) (s : State) : Out :=
  act (s.takes o (fun b => match b with
    | .wait .. => true
    | _ => false)) s (s.armWait o)

/-- The armed WAIT of an operation that is not yet over. -/
def State.waiting (s : State) (o : OpRef) : Option OpSlot :=
  match s.opOf o with
  | none => none
  | some q => match q.phase, q.body with
    | .running, .wait .. => some q
    | _, _ => none

/-- WAIT_WATCH_NOTIFY: the semaphore is read again (R159). -/
def execWaitWatchNotify (wid : Nat) (s : State) : Out :=
  match s.front.waits.find? (fun w => w.1 == wid) with
  | none => .next s
  | some w => act (s.live && s.watching wid && (s.waiting w.2).isSome) s ((s.readSem w.2).activity (s.chan w.2.chan).pav)

/-- A WAIT without a watch reads every 1 µs (R159, R557). -/
def State.waitPollDue (s : State) (o : OpRef) : Bool :=
  match s.waiting o with
  | none => false
  | some q => s.usPassed q.lastRead 1 && (match q.wid with
    | none => true
    | some w => decide (w ∈ s.watch.refused))

/-- WAIT_POLL (R159). -/
def execWaitPoll (o : OpRef) (s : State) : Out := act (s.live && s.waitPollDue o) s (s.readSem o)

/-- The answer to a semaphore read (R44, R148, R159, R512). -/
def State.semAnswer (s : State) (o : OpRef) (gen addr : Nat) (res : FabResult) : State :=
  if !s.genOk o.chan gen then s
  else match s.waiting o with
    | none => s
    | some q => match res with
      | .data l => match q.body with
        | .wait _ th _ => if th.toNat ≤ leAt l 0 8 then s.endOp o stOk 0 else s
        | _ => s
      | _ => (s.accessFault res (s.chan o.chan).pav o.chan 7 addr 1).endOp o res.status 0

def isSemRead (o : OpRef) (gen : Nat) : FabUse → Bool
  | .semRead p g => p == o && g == gen
  | _ => false

/-- The address of the oldest access of a use. -/
def State.useAddr (s : State) (f : FabUse → Bool) : Nat := ((s.fab.out.find? (fun a => f a.use)).map FabAccess.addr).getD 0

/-- SEMAPHORE_READ_DONE (R44): the oldest read of the semaphore is answered. -/
def execSemaphoreReadDone (o : OpRef) (res : ReadResult) (s : State) : Out :=
  let f := isSemRead o (s.chan o.chan).gen.toNat
  act (s.live && s.hasUse f) s
    (((s.dropFirst f).semAnswer o (s.chan o.chan).gen.toNat (s.useAddr f) (.ofRead res)).issueWaiting)

/-- The wait timeout has run (R160); an Anneal does not hold it up. DESIGN CHOICE, log entry 154. -/
def State.waitTimedOut (s : State) (o : OpRef) : Bool :=
  match s.waiting o with
  | none => false
  | some q => match q.body with
    | .wait _ _ ns => s.nsExpired q.armed ns
    | _ => false

/-- WAIT_TIMEOUT (R45, R160). -/
def execWaitTimeout (o : OpRef) (s : State) : Out := act (s.live && s.waitTimedOut o) s (s.endOp o stWaitTimeout 0)

/-! ### Completion of operations and buffers (R37, R38, R204) -/

/-- The status an operation completes with (R133, R198). -/
def OpSlot.endStatus (q : OpSlot) : Nat := if q.status != 0 then q.status else if q.flags != 0 then stFlagged else stOk

/-- An operation of an engine completes when all of its requests have (R37). -/
def State.opDone (s : State) (o : OpRef) : Bool :=
  match s.opOf o with
  | none => false
  | some q => q.phase == .running && q.allFormed && q.out == 0 && (match q.body with
      | .wait .. => false
      | _ => true) && s.measuredIn q

/-- An operation's end by its own requests. One that a stop of its channel ended ABORTED is no first failure (R114, R120, R137). -/
def State.completeOp (s : State) (o : OpRef) : State :=
  match s.opOf o with
  | none => s
  | some q => (s.endOp o q.endStatus q.flags (q.endStatus != stAborted)).endReleases

/-- OPERATION_COMPLETE (R37). -/
def execOperationComplete (o : OpRef) (s : State) : Out := act (s.live && s.opDone o) s (s.completeOp o)

/-- BUFFER_COMPLETE: the head buffer is counted and its record is written; further buffers begin (R38, R106, R108). -/
def State.bufferComplete (s : State) (i : Nat) : State :=
  match s.bufferDone i with
  | none => s
  | some b => (((s.countBuffer i b.1 b.2.1 b.2.2).activity (s.chan i).pav).tryBegin i).tryFetch i

/-- BUFFER_COMPLETE (R38). -/
def execBufferComplete (ch : Nat) (s : State) : Out := act (s.live && (s.bufferDone ch).isSome) s (s.bufferComplete ch)

/-- The signal word due next: the first in ring order, once its record is visible (R135, R136). -/
def Channel.nextSig (c : Channel) : Option PendRecord :=
  match c.recs.find? (fun r => r.sigDue) with
  | some r => if r.recordOut then none else some r
  | none => none

/-- A signal word formed under the next tag: an ORDERED 8-byte write in class REQ (R135, R136). DEDUCED, log entry 41. -/
def State.formSig (s : State) (i : Nat) : State :=
  let c := s.chan i
  match c.nextSig with
  | none => s
  | some r =>
    let h := r.hdr
    let hdr := fun kind lc => mkReqHdr kind true h.sigNode s.topo.node s.nextTag.1 s.nextTag.2 s.retained.srcGen.toNat c.gen.toNat
      h.sigWindow h.sigOffset lc
    let a : TagAlloc := { tag := 0, use := 0, chan := i, cgen := c.gen.toNat, pav := c.pav, owner := .sigWord i, kind := .write,
                          dest := h.sigNode, off := 0, len := 8, timeoutUs := c.txn }
    ((s.takeTag a).modChan i (fun c => { c with recs := c.recs.filter (fun x => x != r) })).sendMsg clsReq c.pav h.sigNode
      ((mkWriteHead hdr h.sigOffset 8).fill (leBytes 8 h.sigValue.toNat)) (stream := i + 1) (tag := some s.nextTag.1)

/-- The signal word formed, or waiting for a tag. -/
def State.sigWrite (s : State) (i : Nat) : State :=
  if s.tagFree (s.chan i).pav then s.formSig i else s.waitTag (s.chan i).pav (.sigWord i)

/-- SIGNAL_WORD_WRITE (R135): not while an Anneal of the Pavilion holds, as R74 has every request completed or never sent. DEDUCED, log
entry 153. -/
def execSignalWordWrite (ch : Nat) (s : State) : Out :=
  act (s.live && !s.annealed (s.chan ch).pav && (s.chan ch).nextSig.isSome && !s.waitsTag (.sigWord ch)) s (s.sigWrite ch)

end Sys2Proof.Machine
end

