-- ==== Sys2Proof/Machine/OpsLodge.lean ====
section
/-!
DEFINITION. The Lodge firmware's turn among levels of work (R525), requests to the root of trust (R433, R561, R562), and sealed records.
-/
namespace Sys2Proof.Machine

/-- The work level of an inbound message (R525): key rotation and key offers are level 3, the rest level 2. -/
def InMgmt.level (m : InMgmt) : Nat :=
  if mgmtType m.msg.hdr = 1 && 0x10 ≤ bits (m.msg.body.getD 0 0) 127 120 then 3 else 2

/-- A command of the firmware that is taken and not begun. -/
def AdminCmd.ready (c : AdminCmd) : Bool := c.level != 0 && c.phase == .taken

/-- Items before `r`: of a higher level, or earlier at its level. The flag says whether `r` has been met. -/
def noneBefore (level : Nat) (r : AdminRef) : List AdminCmd → Bool → Bool
  | [], _ => true
  | c :: l, met =>
    let this := c.isRef r
    (!c.ready || this || !(decide (c.level < level) || (c.level == level && !met))) && noneBefore level r l (met || this)

/-- Whether the firmware takes a command now (R525): it runs, and nothing of a higher level or earlier at its level is ready. -/
def State.lodgeTurn (s : State) (r : AdminRef) : Bool :=
  s.live && s.lodge.running && noneBefore (s.cmdD r).level r s.front.cmds false &&
    s.lodge.inbound.all (fun m => decide ((s.cmdD r).level ≤ m.level))

/-- Whether the firmware starts work of a level that is no admin command (R525): it runs, and nothing of a higher level is ready. -/
def State.levelTurn (s : State) (level : Nat) : Bool :=
  s.live && s.lodge.running && s.front.cmds.all (fun c => !(c.ready && decide (c.level < level))) && s.lodge.inbound.all (fun m => decide (level ≤ m.level))

/-- The next inbound message of the firmware (R525): by level, then in the order taken. -/
def State.nextInbound (s : State) : Option InMgmt :=
  (s.lodge.inbound.find? (fun m => m.level == 2)) <|> s.lodge.inbound.head?

/-- The next inbound message, when it came on a port, passes a test, and no command of a higher level is ready. -/
def State.inboundIs (s : State) (p : PortIx) (f : Msg → Bool) : Option Msg :=
  match s.nextInbound with
  | none => none
  | some m =>
    if s.live && s.lodge.running && m.port == p && f m.msg && s.front.cmds.all (fun c => !(c.ready && decide (c.level < m.level))) then some m.msg else none

/-- The next inbound message taken out of the buffer. -/
def State.dropInbound (s : State) : State :=
  match s.nextInbound with
  | none => s
  | some m => s.modLodge (fun l => { l with inbound := l.inbound.erase m })

/-- A command on the next inbound message of a port that passes a test. -/
def State.takeInbound (s : State) (p : PortIx) (t : Msg → Bool) (f : Msg → State → State) : Out :=
  match s.inboundIs p t with
  | none => act false s s
  | some m => act true s (f m s.dropInbound)

/-- A request sent to the root of trust (R561); the replies answer requests in the order sent. -/
def State.rotSend (s : State) (req : RotRequest) (cmd : Option AdminRef) (slot : Option Nat) : State :=
  (s.modPins (fun p => { p with rotTx := p.rotTx ++ [req] })).modLodge
    (fun l => { l with rot := l.rot ++ [{ req := req, sent := s.now, cmd := cmd, slot := slot }] })

/-- A measurement block extended into the log of the root of trust (R433). -/
def State.extend (s : State) (index : Nat) (digest : List Byte) (cmd : Option AdminRef := none) (slot : Option Nat := none) : State :=
  s.rotSend (.extend index digest) cmd slot

/-- The record a seal takes (R433): the one of its LABEL and Pavilion, else a free one of the 96. -/
def Gate.recordFor (g : Gate) (label pav : Nat) : Option Nat :=
  match g.records.findIdx? (fun r => r.label == label && r.pav == pav) with
  | some i => some i
  | none => if g.records.length < 96 then some g.records.length else none

/-- A record kept at its place. -/
def Gate.keep (g : Gate) (i : Nat) (r : SealRecord) : Gate :=
  { g with records := if i < g.records.length then g.records.set i r else g.records ++ [r] }

end Sys2Proof.Machine
end

