-- ==== Sys2Proof/Machine/Requests.lean ====
section
/-!
DEFINITION. Requests of this node (R61 to R63, R185 to R188, R201 to R206): their tags, their issue, their responses and timeouts, and the
measurement slots.
-/
namespace Sys2Proof.Machine

/-! ### Issue and grants -/

/-- REQUEST_ISSUE (R185). -/
def execRequestIssue (o : OpRef) (s : State) : Out := act (s.issueDue o) s (s.requestIssue o)

/-- Whether a waiter may be served: its operation still forms requests, and neither Anneal nor supply sag holds it (R72, R478). -/
def State.waiterOk (s : State) (w : Nat × TagOwner) : Bool :=
  !s.annealed w.1 && (match w.2 with
    | .op o => match s.opOf o with
      | none => false
      | some q => q.phase == .running && q.more && !s.shed (s.chan o.chan) ((s.chan o.chan).cls q.body) q.cluster
    | _ => true)

/-- The first request of a Pavilion that waits for a tag (R186). -/
def State.nextWaiter (s : State) (pav : Nat) : Option (Nat × TagOwner) :=
  s.xfer.tags.waiting.find? (fun w => w.1 == pav && s.waiterOk w)

/-- TAG_GRANT: the waiting request takes a tag and is formed (R186). -/
def State.tagGrant (s : State) (pav : Nat) : State :=
  match s.nextWaiter pav with
  | none => s
  | some w =>
    let s1 := s.modXfer (fun x => { x with tags := { x.tags with waiting := x.tags.waiting.erase w } })
    match w.2 with
    | .op o => s1.formFor o
    | .sigWord i => s1.formSig i
    | .relay id => s1.advanceCreq id 1
    | .kv id => s1.pumpJob id pumpFuel

/-- TAG_GRANT (R186). -/
def execTagGrant (pav : Nat) (s : State) : Out :=
  act (s.live && s.tagFree pav && (s.nextWaiter pav).isSome) s (s.tagGrant pav)

/-- MEASURE_STAGING_GRANT (R72, R205, R478). -/
def execMeasureStagingGrant (slot : Nat) (s : State) : Out :=
  act (s.live && (s.stagingNext slot).any (fun e => s.stagingFree slot e.2.1 e.2.2 && s.measWindow slot e.2.1 e.2.2 &&
    s.waiterOk ((s.chan e.1.chan).pav, .op e.1))) s (s.stagingGrant slot)

/-! ### Responses (R61) -/

/-- What the end of a request does for its owner (R37, R136, R188, R190). -/
def State.ownerEnd (s : State) (a : TagAlloc) (st fl : Nat) (data : List Byte) : State :=
  match a.owner with
  | .op o => s.opResponse o a st fl data
  | .sigWord i => if st = stOk then s else s.sigDrop i st
  | .relay id => match s.creq id with
    | none => s
    | some r => s.finishCreq r st fl data
  | .kv id => match s.job id with
    | none => s
    | some j => match j.op with
      | some o => if goodStatus st then (s.opLess o 1).countMoved o 2 a.len
          else (s.modJob id (fun j => { j with allFormed := true })).opFail o st 1
      | none => (s.modJob id (fun j =>
          { j with out := j.out - 1, allFormed := j.allFormed || !goodStatus st,
                   status := if j.status = 0 && !goodStatus st then st else j.status })).pumpJob id pumpFuel

/-- A response dropped as late (R61). -/
def State.lateResponse (s : State) : State :=
  (s.modXfer (fun x => { x with tags := { x.tags with late := x.tags.late + 1 } })).belvAdd 16 (belvId 0 4) 1

/-- The channel of a request, where its owner has one. -/
def TagOwner.hasChan : TagOwner → Bool
  | .op _ => true
  | .sigWord _ => true
  | _ => false

/-- Whether the CGEN of a response is the generation of the tag entry's channel (R61). A relay tag has no channel of this node. -/
def State.cgenOk (s : State) (a : TagAlloc) (cgen : Nat) : Bool :=
  if a.owner.hasChan then (s.chan a.chan).gen.toNat == cgen else a.cgen == cgen

/-- RESPONSE: the checks of R61, then the end of the request. -/
def State.takeResponse (s : State) (h : LinkUnit) (data : List Byte) : State :=
  match s.tagAlloc (hdrTag h) with
  | none => s.lateResponse
  | some a =>
    if hdrSgen h ≠ s.retained.srcGen.toNat || hdrUse h ≠ a.use || a.withdrawn then s.lateResponse
    else if !s.cgenOk a (hdrCgen h) then (s.freeTag a.tag).lateResponse
    else ((s.freeTag a.tag).belvAdd 16 (belvId 0 3) 1).ownerEnd a (rspStatus h) (rspFlags h) data

/-- RESPONSE (R61). -/
def execResponse (src : MsgSource) (s : State) : Out :=
  act (s.live && s.headIs src kResponse) s
    (match s.arrived src with
      | none => s
      | some m => ((s.consumed src).releaseSlots m.port m.slots).takeResponse m.msg.hdr (rspData m.msg))

/-! ### Timeouts (R63, R188) -/

/-- The route to a node is down: its port at this node is DOWN other than in lane power state P4, or the route table marks the node
unreachable (R63). -/
def State.routeDown (s : State) (dest : Nat) : Bool :=
  let e := s.routeEntry dest
  e.2.2 || (if h : e.1 < 6 then
    (s.port ⟨e.1, h⟩).pane.link == .down && (s.port ⟨e.1, h⟩).lane.lpsState != 4 else false)

/-- The status of a request whose completion timeout has run (R63, R487). -/
def State.timeoutStatus (s : State) (a : TagAlloc) : Nat :=
  if a.withdrawn then stUncorrectable else if s.routeDown a.dest then stPeerDown else stTimeout

/-- Whether the timeout of a tag is the requester's own (R63) rather than a relay timeout (R188). -/
def State.ownTag (s : State) (a : TagAlloc) : Bool :=
  match a.owner with
  | .relay _ => false
  | .kv id => (s.job id).any (fun j => j.op.isSome) || (s.job id).isNone
  | _ => true

/-- A tag whose timeout has run. -/
def State.expired (s : State) (tag : Nat) : Option TagAlloc :=
  match s.tagAlloc tag with
  | none => none
  | some a => if s.usPassed a.issued a.timeoutUs then some a else none

/-- COMPLETION_TIMEOUT: the tag is freed and its operation fails; a request of an earlier generation has no further effect (R63, R68). -/
def State.completionTimeout (s : State) (a : TagAlloc) : State :=
  let s1 := (s.freeTag a.tag).dropMsg a.tag
  if a.owner.hasChan && !s.genOk a.chan a.cgen then s1 else s1.ownerEnd a (s.timeoutStatus a) 0 []

/-- COMPLETION_TIMEOUT (R63). -/
def execCompletionTimeout (tag : Nat) (s : State) : Out :=
  match s.expired tag with
  | none => .next s
  | some a => act (s.live && s.ownTag a) s (s.completionTimeout a)

/-- RELAY_TIMEOUT: the relay tag is freed and nothing is sent to the requester (R188, R190). -/
def State.relayTimeout (s : State) (a : TagAlloc) : State :=
  let s1 := (s.freeTag a.tag).dropMsg a.tag
  match a.owner with
  | .relay id => match s1.creq id with
    | none => s1
    | some r => ((s1.dropCreq r).kick).endReleases
  | .kv id => (s1.modJob id (fun j => { j with out := j.out - 1, allFormed := true, silent := true })).pumpJob id pumpFuel
  | _ => s1

/-- RELAY_TIMEOUT (R188). -/
def execRelayTimeout (tag : Nat) (s : State) : Out :=
  match s.expired tag with
  | none => .next s
  | some a => act (s.live && !s.ownTag a) s (s.relayTimeout a)

/-! ### Measurement slots (R201 to R206) -/

/-- A leaf whose bytes have all entered its unit. -/
def MeasSlot.leafFull (m : MeasSlot) (i : Nat) : Bool :=
  (m.leaf i).any (fun l => l.digest.isNone && l.entered.length == m.leafLen i)

/-- A leaf hashed: its unit is free, and staged bytes of every slot enter (R205). -/
def State.leafHashed (s : State) (k i : Nat) : State :=
  (s.setMeas k { (s.meas k) with leaves := (s.meas k).leaves.map (fun l =>
    if l.index = i then { l with entered := [], digest := some (leafHash i l.entered) } else l) }).drainAll

/-- MEASURE_LEAF_HASHED (R205). -/
def execMeasureLeafHashed (slot : Nat) (leaf : Nat) (s : State) : Out :=
  act (s.live && (s.meas slot).state == .opened && (s.meas slot).leafFull leaf) s (s.leafHashed slot leaf)

/-- MEAS_OPEN (R79, R201). -/
def State.measOpen (s : State) (r : AdminRef) : State :=
  let c := s.cmdD r
  let n := bits (c.arg 4) 40 0
  let slot := bits (c.arg 2) 7 0
  if bits (c.arg 2) 63 8 != 0 || bits (c.arg 3) 63 24 != 0 || bits (c.arg 4) 63 41 != 0 || n = 0 || 2 ^ 40 < n ||
      bits (c.arg 5) 63 16 != 0 || !c.zeroArgs [6, 7] then s.finish r asBadCommand
  else if (s.meas slot).state != .closed then s.finish r asBadState
  else match s.chanOf (bits (c.arg 3) 31 0) with
    | none => s.finish r asBadHandle
    | some i => if (s.chan i).pav ≠ c.pav then s.finish r asDenied else (s.setMeas slot { state := .opened, handle := BitVec.ofNat 32 (bits (c.arg 3) 31 0), objLen := n, label := bits (c.arg 5) 15 0 }).finish
        r asOk

/-- MEAS_OPEN (R201). -/
def execMeasOpen (r : AdminRef) (s : State) : Out := act (s.mgmtIs r 0x0101 && s.lodgeTurn r) s (s.measOpen r)

/-- Every byte of a slot's object is hashed. -/
def MeasSlot.sealable (m : MeasSlot) : Bool := m.cursor == m.objLen && decide (m.leafCount ≤ m.lowest)

/-- The digest of a slot (R206). -/
def MeasSlot.digest (m : MeasSlot) : List Byte := objectDigest m.objLen (m.leaves.map (fun l => l.digest.getD []))

/-- MEAS_SEAL (R201, R433): a complete object is extended into the log of the root of trust; the reply ends the command. -/
def State.measSeal (s : State) (r : AdminRef) : State :=
  let c := s.cmdD r
  let slot := bits (c.arg 2) 7 0
  let m := s.meas slot
  if bits (c.arg 2) 63 8 != 0 || bits (c.arg 3) 63 56 != 0 || bits (c.arg 3) 5 0 != 0 || !c.zeroArgs [4, 5, 6, 7] then s.finish r asBadCommand
  else match m.state with
    | .closed => s.finish r asBadState
    | .failed => (s.setMeas slot {}).finish r asBadState 2
    | .opened =>
      if !m.sealable then s.finish r asBadState 1
      else match s.gate.recordFor m.label (bits m.handle 15 12) with
        | none => s.finish r asNoResource
        | some i => (s.working r).extend (0x80 + i) m.digest (some r) (some slot)

/-- MEAS_SEAL (R201). -/
def execMeasSeal (r : AdminRef) (s : State) : Out := act (s.mgmtIs r 0x0102 && s.lodgeTurn r) s (s.measSeal r)

/-- A seal the root of trust has logged: the record is kept, the slot closes, the digest is written (R201, R433, R578). -/
def State.sealDone (s : State) (r : AdminRef) (slot : Nat) : State :=
  let m := s.meas slot
  let pav := bits m.handle 15 12
  match s.gate.recordFor m.label pav with
  | none => s.finish r asNoResource
  | some i =>
    (((s.modGate (fun g => g.keep i { label := m.label, pav := pav, slot := slot, objLen := m.objLen, digest := m.digest })).setMeas slot {}).unbindSlot
      slot (m.handle.toNat % 4096)).issueAll
      (writePieces (bits ((s.cmdD r).arg 3) 55 0) m.digest 0 (fun _ => .digest r))

end Sys2Proof.Machine
end

