-- ==== Sys2Proof/Machine/Completer.lean ====
section
/-!
DEFINITION. The completer (05, R20, R31, R36, R326 to R329): messages taken as requests, page walks, and the window commands.
-/
namespace Sys2Proof.Machine

/-- The completer takes a message of a kind at the head of a source. -/
def State.takesMsg (s : State) (src : MsgSource) (kind : Nat) : Bool := s.live && s.headIs src kind

/-- A write request of the form of a signal word: an ORDERED WRITE_S of one aligned 8-byte location in class REQ (R135, R136, R326). Nothing on
the link tells it from another write of that form. DEDUCED, log entry 158. -/
def Arrived.isSigWord (a : Arrived) : Bool :=
  a.msg.kind == kWriteS && hdrOrd a.msg.hdr && a.vc / 2 == clsReq && (writeData a.msg).length == 8 && hdrOffset a.msg.hdr % 8 == 0

/-- A write request taken (R20, R166, R181); a signal word goes to the atomic unit (R197). -/
def State.takeWrite (s : State) (src : MsgSource) : State :=
  match s.arrived src with
  | none => s
  | some a =>
    let data := writeData a.msg
    let r := a.creq s.xfer.nextId (if a.isSigWord then .sigWord else .write) (hdrOffset a.msg.hdr) data.length data
    s.accept src r (s.linearCheck r .w)

/-- A read request taken. -/
def State.takeRead (s : State) (src : MsgSource) : State :=
  match s.arrived src with
  | none => s
  | some a =>
    let r := a.creq s.xfer.nextId .read (hdrOffset a.msg.hdr) (readLen a.msg) []
    s.accept src r (s.linearCheck r .r)

/-- WRITE_B (R326). -/
def execWriteB (src : MsgSource) (s : State) : Out := act (s.takesMsg src kWriteB) s (s.takeWrite src)
/-- WRITE_S (R326): a signal word is taken when the atomic unit is awake. -/
def execWriteS (src : MsgSource) (s : State) : Out :=
  act (s.takesMsg src kWriteS && (s.awake 10 || (s.arrived src).all (fun a => !a.isSigWord))) s (s.takeWrite src)
/-- WRITE_X (R326). -/
def execWriteX (src : MsgSource) (s : State) : Out := act (s.takesMsg src kWriteX) s (s.takeWrite src)
/-- READ_B (R326). -/
def execReadB (src : MsgSource) (s : State) : Out := act (s.takesMsg src kReadB) s (s.takeRead src)
/-- READ_X (R326). -/
def execReadX (src : MsgSource) (s : State) : Out := act (s.takesMsg src kReadX) s (s.takeRead src)

/-- The sub-operation and operands of an ATOMIC message (R328). -/
def atomicOf (m : Msg) : CKind :=
  let a := m.body.getD 0 0
  let b := m.body.getD 1 0
  let c := m.body.getD 2 0
  .atomic (bits a 127 120) (bits a 119 117) (BitVec.ofNat 64 (bits a 63 0)) (BitVec.ofNat 64 (bits b 127 64)) (BitVec.ofNat 64 (bits b 63 0))
    (BitVec.ofNat 64 (bits c 127 64))

/-- An ATOMIC message taken; an offset not aligned to the operand is MALFORMED (R47). -/
def State.takeAtomicMsg (s : State) (src : MsgSource) : State :=
  match s.arrived src with
  | none => s
  | some a =>
    let n := fmtSize (bits (a.msg.body.getD 0 0) 119 117)
    let off := hdrOffset a.msg.hdr
    let r := a.creq s.xfer.nextId (atomicOf a.msg) off n []
    s.accept src r (if off % n != 0 then .error stMalformed else s.linearCheck r .a)

/-- ATOMIC_MESSAGE (R197). -/
def execAtomicMessage (src : MsgSource) (s : State) : Out := act (s.takesMsg src kAtomic && s.awake 10) s (s.takeAtomicMsg src)

/-- A COPY_REQ taken at the source node (R188). -/
def State.takeCopyReq (s : State) (src : MsgSource) : State :=
  match s.arrived src with
  | none => s
  | some a =>
    let u := a.msg.body.getD 0 0
    let dst : Remote := { node := bits u 127 115, window := bits u 114 99, offset := bits u 98 59 }
    let r := a.creq s.xfer.nextId (.copy dst (bits u 45 32)) (hdrOffset a.msg.hdr) (bits u 58 46) []
    s.accept src r (s.linearCheck r .r)

/-- COPY_REQ (R188). -/
def execCopyReq (src : MsgSource) (s : State) : Out := act (s.takesMsg src kCopyReq) s (s.takeCopyReq src)

/-- A KV_CMD taken at the source node (R190, R191). -/
def State.takeKvCmd (s : State) (src : MsgSource) : State :=
  match s.arrived src with
  | none => s
  | some a =>
    let r := a.creq s.xfer.nextId (.kvCmd (bits (a.msg.body.getD 0 0) 34 21) (kvOfCmd a.msg)) 0 0 []
    s.accept src r (s.winCheck r.win r.pav true .r)

/-- KV_CMD (R190). -/
def execKvCmd (src : MsgSource) (s : State) : Out := act (s.takesMsg src kKvCmd) s (s.takeKvCmd src)

/-- The destination's check of a KV write request before any access (R181, R191, R192); one whose bytes run past its head group's part of
the page is out of range too. DEDUCED, log entry 159. -/
def State.kvCheck (s : State) (r : CReq) (slot layer hg firstToken tokenCount entry16 : Nat) : Except Nat WinDesc :=
  match s.winCheck r.win r.pav true .w with
  | .error st => .error st
  | .ok d =>
    if entry16 * 16 ≠ d.entryBytes then .error stMalformed
    else if d.seqCount ≤ slot || d.layers ≤ layer || d.hgTotal ≤ hg || 2 ^ d.maxTokensLog2 < firstToken + tokenCount || (r.place d).2.2 < (r.place d).2.1 + r.len then
      .error stBounds
    else .ok d

/-- A KV_WRITE taken at the destination node (R191, R192, R194). -/
def State.takeKvWrite (s : State) (src : MsgSource) : State :=
  match s.arrived src with
  | none => s
  | some a =>
    let u := a.msg.body.getD 0 0
    let data := writeData a.msg
    let r := a.creq s.xfer.nextId (.kvWrite (bits u 127 96) (bits u 95 80) (bits u 79 72) (bits u 71 50) (bits u 49 41) (bits u 40 29)
      (bits u 28 17)) 0 data.length data
    s.accept src r (s.kvCheck r (bits u 127 96) (bits u 95 80) (bits u 79 72) (bits u 71 50) (bits u 49 41) (bits u 40 29))

/-- KV_WRITE (R191). DEDUCED, log entry 52. -/
def execKvWrite (src : MsgSource) (s : State) : Out := act (s.takesMsg src kKvWrite) s (s.takeKvWrite src)

/-! ### Page walks (R167, R170, R171, R175) -/

/-- The answer to the sequence entry's read of a KVMOVE at its destination (R170, R172, R181, R191): its requests go on to their page-list
entries, or fail. -/
def State.destWalked (s : State) (m : KvDest) (addr : Nat) (res : FabResult) : State :=
  let ids := (s.xfer.creqs.filter (fun r => r.move == m.id)).map CReq.id
  let fail (s : State) (st : Nat) : State := ids.foldl (fun t id => match t.creq id with
    | some r => t.finishCreq r st 0 []
    | none => t) s
  match res with
  | .data l =>
    if bit (wordAt l 1) 63 then
      ids.foldl (fun t id => t.advanceCreq id 3) (s.modDest m.id (fun d => { d with list := some (bits (wordAt l 0) 55 0) }))
    else fail s stBounds
  | _ => match s.win m.win with
    | none => s
    | some e => fail (s.accessFault res e.desc.pav 0xFFF 5 addr 5) res.status

/-- The answer to a walk of a request at the completer (R167, R171). -/
def State.creqWalked (s : State) (r : CReq) (addr : Nat) (res : FabResult) : State :=
  match s.win r.win with
  | none => s
  | some e =>
    let d := e.desc
    match res with
    | .data l =>
      match r.kind with
      | .kvWrite .. => match frameOf l 12 with
        | none => s.finishCreq r stBounds 0 []
        | some page => ((s.pwcPut { win := r.win, page := (r.place d).1, addr := page, job := some r.move, users := [userReq r.id] }).modCreq r.id
            (fun r => { r with walking := false, trans := [((r.place d).1, page)] })).advanceCreq r.id 2
      | _ => match r.pages with
        | [] => s
        | p :: rest => match frameOf l d.pageLog2 with
          | none => s.finishCreq r stBounds 0 []
          | some f => ((s.pwcPut { win := r.win, page := p, addr := f, job := none, users := [userReq r.id] }).modCreq r.id
              (fun r => { r with walking := false, pages := rest, trans := r.trans ++ [(p, f)] })).advanceCreq r.id (rest.length + 2)
    | _ => (s.accessFault res d.pav 0xFFF 5 addr 5).finishCreq r res.status 0 []

/-- The answer to a walk of a KVMOVE job: its sequence entry (R170, R191), then page-list entries (R171). -/
def State.jobWalked (s : State) (j : KvJob) (addr : Nat) (res : FabResult) : State :=
  match s.win j.move.srcWindow with
  | none => s.failJob j.id stWindowFault
  | some e =>
    let d := e.desc
    match res with
    | .data l =>
      if !j.seqRead then
        let w := wordAt l 1
        let len := min (bits w 22 0) (2 ^ d.maxTokensLog2)
        if !bit w 63 || len < j.move.srcToken + j.move.tokenCount then
          (s.modJob j.id (fun j => { j with seqRead := true })).failJob j.id stBounds
        else
          let s1 := s.modJob j.id (fun j => { j with seqRead := true, ready := true, pageList := bits (wordAt l 0) 55 0, seqLen := len })
          if j.op.isSome then s1.jobWalk j.id else s1.pumpJob j.id pumpFuel
      else match j.walking with
        | none => s
        | some p => match frameOf l 12 with
          | none => (s.modJob j.id (fun j => { j with walking := none })).failJob j.id stBounds
          | some f =>
            let s1 := (s.modJob j.id (fun j => { j with walking := none, held := some (p, f) })).pwcPut
              { win := j.move.srcWindow, page := p, addr := f, job := some j.id, users := [] }
            if j.op.isSome then s1 else s1.pumpJob j.id pumpFuel
    | _ => ((s.accessFault res d.pav 0xFFF 5 addr 5).modJob j.id (fun j => { j with walking := none })).failJob j.id res.status

/-- The answer to a walk (R175). -/
def State.walkAnswer (s : State) (id addr : Nat) (res : FabResult) : State :=
  match s.creq id, s.job id, s.dest id with
  | _, some j, _ => s.jobWalked j addr res
  | some r, none, _ => if r.walking then s.creqWalked r addr res else s
  | none, none, some m => s.destWalked m addr res
  | none, none, none => s

def isWalk (id : Nat) : FabUse → Bool
  | .walk i => i == id
  | _ => false

/-- PAGE_WALK_DONE (R175). -/
def execPageWalkDone (id : Nat) (res : ReadResult) (s : State) : Out :=
  act (s.live && s.hasUse (isWalk id)) s
    (((s.dropFirst (isWalk id)).walkAnswer id (s.useAddr (isWalk id)) (.ofRead res)).issueWaiting)

/-! ### REGISTER_WINDOW and RELEASE_WINDOW (R176 to R178, R449) -/

/-- Whether an index lies in the window range of a Pavilion (R449). -/
def State.winInRange (s : State) (pav w : Nat) : Bool :=
  match s.gate.tenant with
  | none => pav == 0
  | some t =>
    let inside := decide (t.winBase ≤ w) && decide (w < t.winBase + t.winCount)
    if pav = 0 then !inside else t.num == pav && inside

/-- The lowest free index in the range of a Pavilion. -/
def State.freeWin (s : State) (pav : Nat) : Option Nat :=
  (List.range 65536).find? (fun w => s.winInRange pav w && (s.win w).isNone)

/-- The descriptor in ARG1 to ARG4 (R176). -/
def AdminCmd.descriptor (c : AdminCmd) : Option WinDesc :=
  decodeWindow (leBytes 8 (c.arg 1).toNat ++ leBytes 8 (c.arg 2).toNat ++ leBytes 8 (c.arg 3).toNat ++ leBytes 8 (c.arg 4).toNat)

/-- A window registered (R176, R177, R449): it accepts requests once the completion is written. -/
def State.registerWindow (s : State) (r : AdminRef) : State :=
  let c := s.cmdD r
  let idx := bits (c.arg 5) 15 0
  match c.descriptor with
  | none => s.finish r asBadCommand
  | some d =>
    if bits (c.arg 5) 63 17 != 0 || !c.zeroArgs [6, 7] then s.finish r asBadCommand
    else
      let auto := bit (c.arg 5) 16
      if c.pav != 0 && (d.pav != c.pav || (!auto && !s.winInRange c.pav idx)) then s.finish r asDenied
      else match (if auto then s.freeWin d.pav else some idx) with
        | none => s.finish r asNoResource
        | some w =>
          if (s.win w).isSome then s.finish r asBadState
          else (s.modXfer (fun x => { x with wins := Table.put none x.wins w (some { desc := d, opening := some r }) })).finish r asOk w

/-- A command names an index of which a release or a registration is in progress (R177, R178). -/
def State.winTaken (s : State) (w : Nat) : Bool := (s.win w).any (fun e => e.releasing || e.opening.isSome)

/-- REGISTER_WINDOW is due unless it names an index of which a command is in progress: it then waits behind that command. -/
def State.registerDue (s : State) (r : AdminRef) : Bool :=
  s.live && s.cmdIs r 0x10 && (bit ((s.cmdD r).arg 5) 16 || !s.winTaken (bits ((s.cmdD r).arg 5) 15 0))

/-- REGISTER_WINDOW (R177). -/
def execRegisterWindow (r : AdminRef) (s : State) : Out := act (s.registerDue r) s (s.registerWindow r)

/-- A window stops accepting requests; it is freed once the requests that passed their checks have finished (R178). -/
def State.startRelease (s : State) (w : Nat) (cmd : Option AdminRef) : State :=
  match s.win w with
  | none => s
  | some e => (s.modXfer (fun x => { x with wins := Table.put none x.wins w (some { e with releasing := true, releaseCmd := cmd }) })).endReleases

def State.releaseWindow (s : State) (r : AdminRef) : State :=
  let c := s.cmdD r
  let w := bits (c.arg 1) 15 0
  if bits (c.arg 1) 63 16 != 0 || !c.zeroArgs [2, 3, 4, 5, 6, 7] then s.finish r asBadCommand
  else match s.win w with
    | none => s.finish r asBadState
    | some e => if c.pav != 0 && e.desc.pav != c.pav then s.finish r asDenied else (s.working r).startRelease w (some r)

/-- RELEASE_WINDOW (R178). -/
def execReleaseWindow (r : AdminRef) (s : State) : Out :=
  act (s.live && s.cmdIs r 0x11 && !s.winTaken (bits ((s.cmdD r).arg 1) 15 0)) s (s.releaseWindow r)

end Sys2Proof.Machine
end

