-- ==== Sys2Proof/Machine/GatherRuns.lean ====
section
/-!
DEFINITION. The commands of the Gather engine (07, 08): loading and unloading programs, GATHER_RUN, operand chunks and credits, triggers, runs.
-/
namespace Sys2Proof.Machine

/-! ### GATHER_RUN (R156, R289) -/

/-- A GATHER_RUN taken: refused, or put behind the runs of its program. -/
def State.takeGather (s : State) (o : OpRef) : State :=
  match s.gatherOp o with
  | none => s
  | some g => match s.gslot g.program with
    | none => s.endOp o stMalformed 0
    | some q =>
      if q.tag ≠ g.progTag || q.prog.persistent then s.endOp o stMalformed 0
      else if q.pav ≠ (s.chan o.chan).pav then s.endOp o stPermission 0
      else ((s.modOp o (fun x => { x with phase := .running, out := 1 })).modGslot g.program (fun q => { q with queue := q.queue ++ [o] })).activity
        q.pav

/-- GATHER_RUN (R156). -/
def execGatherRun (o : OpRef) (s : State) : Out :=
  act (s.takes o (fun b => match b with
    | .gatherRun _ => true
    | _ => false)) s (s.takeGather o)

/-! ### LOAD_PROGRAM (R236, R283 to R286, R296) -/

/-- The slices of a Pavilion (R447): the tenant's, or those no tenant holds. -/
def State.slicesOf (s : State) (pav : Nat) : List Nat :=
  match s.gate.tenant with
  | none => bitsSet 6 0x3F
  | some t => if pav = t.num then bitsSet 6 t.slices else bitsSet 6 (0x3F ^^^ t.slices)

/-- The programs resident, by slot. -/
def Gather.resident (g : Gather) : List (Nat × GSlot) := g.slots.filterMap (fun e => e.2.map (fun q => (e.1, q)))

/-- Free operand-buffer space of a slice in KiB (R276). -/
def Gather.freeKib (g : Gather) (slice : Nat) : Nat :=
  2048 - ((g.resident.filter (fun e => e.2.slice == slice)).map (fun e => e.2.prog.footprint)).sum

/-- Program memory in use (R284). -/
def Gather.memoryUsed (g : Gather) : Nat := (g.resident.map (fun e => e.2.prog.memory)).sum

/-- The slice of a program: the lowest enabled one with room that no earlier program of its set has taken. -/
def State.pickSlice (s : State) (pav need : Nat) (taken : List Nat) : Option Nat :=
  (s.slicesOf pav).find? (fun i => s.gather.ctl.getLsbD i && i ∉ taken && decide (need ≤ s.gather.freeKib i))

/-- The places of a set of programs: slot and slice of each. -/
def State.placesFor (s : State) (pav : Nat) : List Program → List Nat → List Nat → Option (List (Nat × Nat))
  | [], _, _ => some []
  | p :: r, slots, slices =>
    match (List.range 64).find? (fun i => (s.gslot i).isNone && i ∉ slots), s.pickSlice pav p.footprint slices with
    | some i, some c => (s.placesFor pav r (i :: slots) (c :: slices)).map (fun l => (i, c) :: l)
    | _, _ => none

/-- The next program tag: 0 is skipped (R286). -/
def nextProgTag (t : BitVec 32) : BitVec 32 := if t + 1 = 0 then 1 else t + 1

/-- One program placed: its slot's tag. DEDUCED, log entry 71. -/
def State.placeProgram (s : State) (pav slot slice : Nat) (p : Program) : State :=
  s.modGather (fun g => { g with
    slots := Table.put none g.slots slot (some { tag := g.progTag.toNat, pav := pav, slice := slice, prog := p })
    progTag := nextProgTag g.progTag })

/-- RESULTk of a placed program (R285). -/
def placedResult (slot tag : Nat) : Nat := 1 + place slot 1 6 + place tag 32 32

/-- Programs placed one after another, with their results; the block of each is extended into the measurement log (R432, R433). -/
def State.placeAll (s : State) (pav : Nat) : List (Program × Nat × Nat) → State × List Nat
  | [] => (s, [])
  | (p, i, c) :: r =>
    let t := s.gather.progTag.toNat
    let n := ((s.placeProgram pav i c p).extend (0x10 + i) p.digest).placeAll pav r
    (n.1, placedResult i t :: n.2)

/-- A table that names no node, for a node without an installation table. DEDUCED, log entry 73. -/
def noNodes : InstallTable := { ex := 0, ey := 0, ez := 0, master := 0, podId := 0, epoch := 0, nodes := [], digest := [] }

/-- The programs of an image or of a library descriptor, or the status that refuses it. DEDUCED, log entry 39. -/
def State.loadImage (s : State) (pav len : Nat) (l : List Byte) : Except Nat (List Program) :=
  let t := s.topo.install.getD noNodes
  let b := (s.blockOf pav).getD (podBlock t)
  if (l.headD 0).toNat = 0x80 then decodeLibrary t b s.topo.node len l
  else match decodeImage t b s.topo.node len l with
    | .ok p => .ok [p]
    | .refused st => .error st

/-- The programs of a load placed; a persistent one first reads its trigger (R290). -/
def State.placePrograms (s : State) (r : AdminRef) (pav : Nat) (ps : List Program) : State :=
  match s.placesFor pav ps [] [] with
  | none => s.finish r asNoResource
  | some l =>
    if 262144 < s.gather.memoryUsed + (ps.map Program.memory).sum then s.finish r asNoResource
    else
      let n := s.placeAll pav (ps.zip l)
      let slots := (ps.zip l).filterMap (fun e => if e.1.persistent then some e.2.1 else none)
      let k (i : Nat) : Nat := n.2.getD i 0
      if slots.isEmpty then n.1.finish r asOk (k 0) (k 1) (k 2)
      else slots.foldl (fun t i => t.readTrigger i) ((n.1.working r).modGather (fun g =>
        { g with loads := g.loads ++ [{ cmd := r, slots := slots, r1 := k 0, r2 := k 1, r3 := k 2 }] }))

/-- LOAD_PROGRAM performed (R283): the image is read whole, and checked. -/
def State.loadProgram (s : State) (r : AdminRef) : State :=
  let c := s.cmdD r
  if bits (c.arg 1) 63 56 != 0 || bits (c.arg 1) 5 0 != 0 || bits (c.arg 2) 63 17 != 0 || !c.zeroArgs [3, 4, 5, 6, 7] then s.finish r asBadCommand
  else s.readThen (.admin r) (bits (c.arg 1) 55 0) (bits (c.arg 2) 16 0) c.pav (fun image t => match image with
    | .data l => match t.loadImage c.pav (bits (c.arg 2) 16 0) l with
      | .error st => t.finish r st
      | .ok ps => t.placePrograms r c.pav ps
    | _ => t.finish r asBadCommand)

/-- LOAD_PROGRAM (R283). -/
def execLoadProgram (r : AdminRef) (s : State) : Out := act (s.live && s.cmdIs r 0x20 && !s.readingContent (.admin r)) s (s.loadProgram r)

/-! ### UNLOAD_PROGRAM (R287) -/

def State.unloadProgram (s : State) (r : AdminRef) : State :=
  let c := s.cmdD r
  let i := bits (c.arg 1) 5 0
  if bits (c.arg 1) 31 6 != 0 || bits (c.arg 2) 63 1 != 0 || !c.zeroArgs [3, 4, 5, 6, 7] then s.finish r asBadCommand
  else match s.gslot i with
    | none => s.finish r asBadState
    | some q =>
      if q.tag ≠ bits (c.arg 1) 63 32 then s.finish r asBadState
      else if c.pav != 0 && q.pav != c.pav then s.finish r asDenied
      else if q.run.isSome then
        if !bit (c.arg 2) 0 then s.finish r asBadState
        else ((s.working r).modGslot i (fun q => { q with unload := q.unload ++ [r] })).haltRun i
      else ((s.freeGslot i).loadRead i).finish r asOk

/-- UNLOAD_PROGRAM (R287). -/
def execUnloadProgram (r : AdminRef) (s : State) : Out := act (s.live && s.cmdIs r 0x21) s (s.unloadProgram r)

/-! ### Operand chunks and credits (R239 to R242, R331, R516) -/

/-- A part put into its chunk; a new chunk takes a slot. -/
def GSlot.holdPart (q : GSlot) (h : LinkUnit) (cls : Nat) (data : List Byte) : GSlot :=
  let mine (c : HeldChunk) : Bool :=
    c.run == opdRun h && c.step == opdStep h && c.src == hdrSrc h && c.txi == opdTxi h && c.chunk == opdChunk h
  let part := (opdPart h, opdFmt h, data)
  if q.held.any mine then { q with held := q.held.map (fun c => if mine c then { c with parts := c.parts.filter (fun p => p.1 != part.1) ++ [part] } else c) }
  else { q with held := q.held ++ [{ run := opdRun h, step := opdStep h, src := hdrSrc h, txi := opdTxi h, chunk := opdChunk h, cls := cls,
                                     parts := [part] }] }

/-- A chunk is for the run in progress, unless that has failed, or for the next (R240, R242). DEDUCED, log entry 77. -/
def GSlot.expects (q : GSlot) (run : Nat) : Bool :=
  run == (q.runs + 1) % 256 || (match q.run with
    | some r => r.failed.isNone && r.phase == .running && run == r.num % 256
    | none => false)

/-- An operand part of a run that its program does not expect: the chunk is counted and its credit returned once, on its first part.
DEDUCED, log entry 69. -/
def State.discardPart (s : State) (slot pav cls : Nat) (h : LinkUnit) : State :=
  if opdPart h = 0 then
    s.discardChunk slot pav { run := opdRun h, step := opdStep h, src := hdrSrc h, txi := opdTxi h, chunk := opdChunk h, cls := cls }
  else s

/-- A part of a chunk for a slot without a program, or under the key of another Pavilion (R241): the chunk is counted and reported once, on its
first part, and no credit goes back. DEDUCED, log entry 69. -/
def State.strayPart (s : State) (key : Nat) (h : LinkUnit) : State :=
  if opdPart h = 0 then (s.bump ctrDiscard).raiseContained (mkReport 0x17 (unit := 8) (pav := key)) else s

/-- An OPERAND taken (R239 to R242). -/
def State.takeOperand (s : State) (a : Arrived) : State :=
  let h := a.msg.hdr
  let i := opdSlot h
  match s.gslot i with
  | some q =>
    if q.pav ≠ a.key then s.strayPart a.key h
    else if !q.expects (opdRun h) then s.discardPart i q.pav (a.vc / 2) h
    else (s.modGslot i (fun q => q.holdPart h (a.vc / 2) (unitBytes a.msg.body))).pumpRun i
  | none => s.strayPart a.key h

/-- The message at the head of a source leaves it, with the pool slots it held. -/
def State.takenFrom (s : State) (src : MsgSource) (a : Arrived) : State := (s.consumed src).releaseSlots a.port a.slots

/-- A request or a chunk discarded by a node that is OUT_OF_SERVICE (R516). -/
def State.oosDiscard (s : State) (p : Option PortIx) : State :=
  match p with
  | some p => s.bump (ctrPlDiscard p)
  | none => s

/-- OPERAND (R240). -/
def execOperand (src : MsgSource) (s : State) : Out :=
  act (s.live && s.headIs src kOperand) s
    (match s.arrived src with
      | none => s
      | some a => if s.retained.oos then (s.takenFrom src a).oosDiscard a.port else (s.takenFrom src a).takeOperand a)

/-- The sends of a slot looked at again after a credit came: one that has a credit no longer waits for it. DEDUCED, log entry 70. -/
def State.takeCredit (s : State) (a : Arrived) : State :=
  let h := a.msg.hdr
  let i := opdSlot h
  let x := b2n (opdTxi h)
  match s.gslot i with
  | none => s
  | some q =>
    if q.pav ≠ a.key then s
    else
      let k := 2 * opdStep h + x
      ((s.modGslot i (fun q => { q with spent := Table.put 0 q.spent k (Table.get 0 q.spent k - crdCount h) })).modRun i
        (fun r => (q.prog.atNum (opdStep h)).foldl (fun r y =>
          r.modStep y.2 (fun t => t.modTx x (fun z => { z with noCredit := none }))) r)).pumpSends i

/-- CREDIT (R239). -/
def execCredit (src : MsgSource) (s : State) : Out :=
  act (s.live && s.headIs src kCredit) s
    (match s.arrived src with
      | none => s
      | some a => (s.takenFrom src a).takeCredit a)

/-! ### Triggers (R290) -/

def isTrigger (slot : Nat) : FabUse → Bool
  | .trigger i _ => i == slot
  | _ => false

/-- The tag of the oldest trigger read of a slot. -/
def State.triggerTag (s : State) (slot : Nat) : Nat :=
  match (s.fab.out.find? (fun a => isTrigger slot a.use)).map FabAccess.use with
  | some (.trigger _ t) => t
  | _ => 0

/-- TRIGGER_OBSERVED (R290): the oldest trigger read of the slot is answered. -/
def execTriggerObserved (slot : Nat) (res : ReadResult) (s : State) : Out :=
  act (s.live && s.hasUse (isTrigger slot)) s
    (((s.dropFirst (isTrigger slot)).triggerAnswer slot (s.triggerTag slot) (s.useAddr (isTrigger slot)) (.ofRead res)).issueWaiting)

/-- The WID of a program's trigger (R556). -/
def triggerWid (slot : Nat) : Nat := 6160 + slot

/-- A persistent program that watches its trigger. -/
def State.triggered (s : State) (slot : Nat) : Option GSlot :=
  match s.gslot slot with
  | some q => if q.prog.persistent && q.base.isSome && !q.faulted then some q else none
  | none => none

/-- TRIGGER_WATCH_NOTIFY (R290): the trigger is read again. -/
def execTriggerWatchNotify (slot : Nat) (s : State) : Out :=
  act (s.live && s.watching (triggerWid slot) && (s.triggered slot).isSome) s (s.readTrigger slot)

/-- TRIGGER_POLL (R290, R557): every 1 µs where the watch is refused. -/
def execTriggerPoll (slot : Nat) (s : State) : Out :=
  act (s.live && !s.watching (triggerWid slot) && (s.triggered slot).any (fun q => s.usPassed q.lastPoll 1)) s (s.readTrigger slot)

/-! ### Runs (R284, R289 to R293) -/

/-- RUN_START (R291). -/
def execRunStart (slot : Nat) (s : State) : Out := act (s.live && s.runDue slot) s (s.startRun slot)

/-- The place of a step, by number, that has a chunk ready: its operands have all come, or one is wrong, and it is the run's turn at the slice
(R237). DEDUCED, log entry 63. -/
def State.combineStep (s : State) (slot step : Nat) : Option Nat :=
  match s.running slot with
  | none => none
  | some (q, r) => if s.readyRun slot && s.sliceTurn slot then readyStep q r step else none

/-- One chunk of the step at a place processed; the slice has served this run. -/
def State.combineAt (s : State) (slot k : Nat) : State :=
  ((s.modGather (fun g => { g with turn := Table.put 63 g.turn (g.sliceOf slot) slot })).combineNext slot k).stopIfUnloading slot

/-- CHUNK_COMBINE (R291). -/
def execChunkCombine (slot : Nat) (step : Nat) (s : State) : Out :=
  act (s.live && (s.combineStep slot step).isSome) s (s.combineAt slot ((s.combineStep slot step).getD 0))

/-- The step timeout had run before this cycle (R293): since chunks of RX streams were all that was missing, or since a send held no chunk
credit. It runs on during an Anneal. DESIGN CHOICE, log entry 154. -/
def State.stepTimedOut (s : State) (slot step : Nat) : Bool :=
  match s.running slot with
  | none => false
  | some (q, r) => (q.prog.atNum step).any (fun y =>
    let t := r.step y.2
    [t.main.since, t.s0.since, t.s1.since, t.t0.noCredit, t.t1.noCredit].any (fun x => x.any (fun m => s.nsExpired m (1000 * q.prog.timeoutUs))))

/-- The place of the step of a number. -/
def State.stepPlace (s : State) (slot step : Nat) : Nat :=
  match s.gslot slot with
  | none => step
  | some q => ((q.prog.atNum step).head?.map Prod.snd).getD step

/-- STEP_TIMEOUT (R293). -/
def execStepTimeout (slot : Nat) (step : Nat) (s : State) : Out :=
  act (s.live && s.stepTimedOut slot step) s ((s.bump ctrTimeout).failRun slot stPeerTimeout (s.stepPlace slot step))

/-- RUN_END (R292). -/
def execRunEnd (slot : Nat) (s : State) : Out := act (s.live && s.runOver slot) s (s.endRun slot)

/-! ### QUERY of a program (R313, R524) -/

/-- The number of the current step of a run: the first that has not finished. -/
def Run.current (p : Program) (r : Run) : Nat :=
  p.numOf (((p.steps.zipIdx).findIdx? (fun y => !(allLanes.all (fun w => decide (y.1.laneChunks p r w ≤ ((r.step y.2).work w).done)) &&
    (r.step y.2).t0.queue.isEmpty && (r.step y.2).t1.queue.isEmpty))).getD (p.steps.length - 1))

/-- The layout of GATHER.PROG_STATUS (R313). -/
def Gather.progStatus (g : Gather) (slot : Nat) : Nat :=
  match g.slot slot with
  | none => 0
  | some q => place 1 3 1 + place (b2n q.run.isSome) 4 1 + place (b2n q.faulted) 5 1 + place (b2n q.prog.persistent) 6 1 + place q.slice 7 3 +
      place q.pav 10 4 + place (match q.run with
        | some r => r.current q.prog
        | none => 0) 14 10 + place q.runs 24 8 + place q.tag 32 32

/-- QUERY subject 0x02 (R524). -/
def State.queryProgram (s : State) (r : AdminRef) : State :=
  let c := s.cmdD r
  let i := bits (c.arg 2) 5 0
  if bits (c.arg 2) 63 6 != 0 || !c.zeroArgs [3, 4, 5, 6, 7] then s.finish r asBadCommand
  else if c.pav != 0 && (s.gslot i).any (fun q => q.pav != c.pav) then s.finish r asDenied
  else s.finish r asOk (s.gather.progStatus i)

/-- QUERY_PROGRAM (R524). -/
def execQueryProgram (r : AdminRef) (s : State) : Out := act (s.live && s.queryIs r 2) s (s.queryProgram r)

end Sys2Proof.Machine
end

