-- ==== Sys2Proof/Machine/Fec.lean ====
section
/-!
DEFINITION. The codes of a lane: CRC-64 (R319), RS(272,256) (R367), the stripe of codewords over lanes (R368), line symbols and scrambler
(R365, R366) and alignment markers (R370).
-/
namespace Sys2Proof.Machine

/-! ### CRC-64 (R319) -/

/-- The ECMA-182 polynomial. -/
def crcPoly : Nat := 0x42F0E1EBA9EA3693

/-- One bit of the register shifted out. -/
def crcShift (c : Nat) : Nat := if 2 ^ 63 ≤ c then ((2 * c) % 2 ^ 64) ^^^ crcPoly else 2 * c

/-- One byte taken, most significant bit first. -/
def crcByte (c : Nat) (b : Byte) : Nat :=
  (List.range 8).foldl (fun x _ => crcShift x) (c ^^^ (b.toNat <<< 56))

/-- The CRC-64 of a byte list: initial value of all ones, final exclusive-or with all ones. -/
def crc64 (l : List Byte) : Nat := l.foldl crcByte (2 ^ 64 - 1) ^^^ (2 ^ 64 - 1)

/-! ### GF(2⁸) and the code (R367) -/

/-- Multiplication by α. -/
def gfTimesA (x : Nat) : Nat := if x < 128 then 2 * x else (2 * x) ^^^ 0x11D

/-- Multiplication in the field of x⁸ + x⁴ + x³ + x² + 1. -/
def gfMul (a b : Nat) : Nat :=
  ((List.range 8).foldl (fun (q : Nat × Nat) i => (if b.testBit i then q.1 ^^^ q.2 else q.1, gfTimesA q.2)) (0, a)).1

/-- A power of a field element, by the bits of an exponent below 256. -/
def gfPow (a e : Nat) : Nat :=
  ((List.range 8).foldl (fun (q : Nat × Nat) i => (if e.testBit i then gfMul q.1 q.2 else q.1, gfMul q.2 q.2)) (1, a)).1

/-- α to an exponent; α²⁵⁵ is 1. -/
def gfAlpha (e : Nat) : Nat := gfPow 2 (e % 255)

/-- The inverse of a non-zero element. -/
def gfInv (a : Nat) : Nat := gfPow a 254

/-- A polynomial by its coefficients, lowest degree first, at a point. -/
def polyAt (p : List Nat) (x : Nat) : Nat := p.foldr (fun c a => c ^^^ gfMul a x) 0

/-- Two polynomials added. -/
def polyAdd : List Nat → List Nat → List Nat
  | [], q => q
  | p, [] => p
  | a :: p, b :: q => (a ^^^ b) :: polyAdd p q

/-- A polynomial times a constant. -/
def polyScale (c : Nat) (p : List Nat) : List Nat := p.map (gfMul c)

/-- The product of two polynomials. -/
def polyMul : List Nat → List Nat → List Nat
  | [], _ => []
  | a :: p, q => polyAdd (polyScale a q) (0 :: polyMul p q)

/-- The generator of degree 16, highest coefficient first. -/
def fecGen : List Nat := ((List.range 16).foldl (fun g i => polyMul g [gfAlpha i, 1]) [1]).reverse

/-- The remainder register of a systematic encoder, highest degree first, after one data byte. -/
def fecStep (g : List Nat) (r : List Nat) (b : Nat) : List Nat :=
  let f := (r.headD 0) ^^^ b
  (r.drop 1 ++ [0]).zipWith (fun x c => x ^^^ gfMul f c) (g.drop 1)

/-- The 16 parity bytes of 256 pane bytes. -/
def fecParity (pane : List Byte) : List Byte :=
  let g := fecGen
  (pane.foldl (fun r b => fecStep g r b.toNat) (List.replicate 16 0)).map (BitVec.ofNat 8)

/-- The codeword of a pane. -/
def fecEncode (pane : List Byte) : List Byte := pane ++ fecParity pane

/-- The sixteen syndromes of a received word. -/
def fecSyndromes (w : List Byte) : List Nat :=
  (List.range 16).map (fun i => let x := gfAlpha i; w.foldl (fun a b => gfMul a x ^^^ b.toNat) 0)

/-- The state of the search for the error locator: locator, last locator, length, steps since, last discrepancy. -/
structure FecSearch where
  c : List Nat := [1]
  b : List Nat := [1]
  len : Nat := 0
  m : Nat := 1
  d : Nat := 1
  deriving DecidableEq, Repr

/-- One syndrome taken into the search. -/
def FecSearch.next (s : FecSearch) (syn : List Nat) (n : Nat) : FecSearch :=
  let d := (List.range (s.len + 1)).foldl (fun a i => a ^^^ gfMul (s.c.getD i 0) (if i ≤ n then syn.getD (n - i) 0 else 0)) 0
  if d = 0 then { s with m := s.m + 1 }
  else
    let c := polyAdd s.c (List.replicate s.m 0 ++ polyScale (gfMul d (gfInv s.d)) s.b)
    if 2 * s.len ≤ n then { c := c, b := s.c, len := n + 1 - s.len, m := 1, d := d } else { s with c := c, m := s.m + 1 }

/-- The errors of a word by degree below 255 and value: none where they exceed eight. -/
def fecErrors (w : List Byte) : Option (List (Nat × Nat)) :=
  let syn := fecSyndromes w
  if syn.all (fun x => x == 0) then some []
  else
    let f := (List.range 16).foldl (fun s n => s.next syn n) ({} : FecSearch)
    let places := (List.range 255).filter (fun p => polyAt f.c (gfAlpha (255 - p)) == 0)
    if f.len ≤ 8 && places.length == f.len then
      let omega := (polyMul (syn.take 16) f.c).take 16
      let deriv := ((f.c.drop 1).zipIdx).map (fun q => if q.2 % 2 = 0 then q.1 else 0)
      some (places.map (fun p =>
        let x := gfAlpha (255 - p)
        (p, gfMul (gfAlpha p) (gfMul (polyAt omega x) (gfInv (polyAt deriv x))))))
    else none

/-- The byte of a codeword at a degree: byte 0 has degree 271. -/
def fecByteOf (degree : Nat) : Nat := 271 - degree

/-- The places an error at a degree below 255 can stand: degrees that differ by 255 have one locator (DEDUCED, log entry 15). -/
def fecPlaces (p : Nat) : List Nat := if p + 255 ≤ 271 then [fecByteOf p, fecByteOf (p + 255)] else [fecByteOf p]

/-- Every way to place the errors of a word. -/
def fecChoices : List (Nat × Nat) → List (List (Nat × Nat))
  | [] => [[]]
  | (p, v) :: r => (fecPlaces p).flatMap (fun j => (fecChoices r).map (fun l => (j, v) :: l))

/-- Errors taken out of a word. -/
def fecApply (w : List Byte) (l : List (Nat × Nat)) : List Byte :=
  l.foldl (fun a e => a.set e.1 ((a.getD e.1 0) ^^^ BitVec.ofNat 8 e.2)) w

/-- Whether a pane of 256 bytes passes its CRC-64 (R319). -/
def paneCrcOk (pane : List Byte) : Bool := decide (crc64 (pane.take 248) = beNat (slice pane 248 8))

/-- The decoder (R367, R369): the pane and the bytes corrected; none where the codeword is uncorrectable. Where a locator has two
places, the one that lets the CRC-64 pass is taken (DEDUCED, log entry 15). -/
def fecDecode (w : List Byte) : Option (List Byte × List Nat) :=
  match fecErrors w with
  | none => none
  | some [] => some (w.take 256, [])
  | some es =>
    let ch := fecChoices es
    let pick := match ch.find? (fun l => paneCrcOk ((fecApply w l).take 256)) with
      | some l => l
      | none => ch.headD []
    some ((fecApply w pick).take 256, pick.map Prod.fst)

/-! ### Lanes (R364 to R366, R368) -/

/-- The logical lane of byte `k` of the stream after a marker on a port with `w` lanes (R368). -/
def stripeLane (w k : Nat) : Nat := k % w

/-- The levels of a byte on a lane (R365): one per bit at step 0, one per pair of bits by Gray code above. -/
def laneLevels (step : Nat) (b : Byte) : List Nat :=
  if step = 0 then (List.range 8).map (fun i => b2n (bit b (7 - i)))
  else (List.range 4).map (fun i => match bits b (7 - 2 * i) (6 - 2 * i) with
    | 0 => 0
    | 1 => 1
    | 3 => 2
    | _ => 3)

/-- The scrambler's state at the first bit after a marker (R366). -/
def scrambleStart (logical : Nat) : Nat := 0x7FFFFF00 + logical

/-- One bit of the sequence s(n) = s(n − 31) XOR s(n − 28); the state holds the last 31 bits, s(n − 1) lowest. -/
def scrambleBit (s : Nat) : Nat := ((s >>> 30) ^^^ (s >>> 27)) % 2

/-- One lane byte scrambled or descrambled, most significant bit first, and the state after it (R366). -/
def scrambleByte (s : Nat) (b : Byte) : Nat × Byte :=
  let q := (List.range 8).foldl (fun (q : Nat × Nat) i =>
    let t := scrambleBit q.1
    ((2 * q.1 + t) % 2 ^ 31, 2 * q.2 + ((b2n (bit b (7 - i))) ^^^ t))) (s, 0)
  (q.1, BitVec.ofNat 8 q.2)

/-- The bytes of a stream from its position `k` after a marker on, each with its logical lane, scrambled or descrambled by the state of that lane
(R366, R368), and the states after them. -/
def scrambleStream (w : Nat) : Nat → List Nat → List Byte → List (Nat × Byte) × List Nat
  | _, st, [] => ([], st)
  | k, st, b :: r =>
    let i := stripeLane w k
    let x := scrambleByte (st.getD i 0) b
    let y := scrambleStream w (k + 1) (st.set i x.1) r
    ((i, x.2) :: y.1, y.2)

/-- The states of `w` lanes at the first bit after a marker. -/
def scrambleStarts (w : Nat) : List Nat := (List.range w).map scrambleStart

/-- The PRBS of a TEST_CTL.PRBS code (R399): one bit and the state after it, the bits sent before, last lowest; PRBS13 or PRBS31. -/
def prbsBit (code s : Nat) : Nat :=
  if code = 1 then ((s >>> 12) ^^^ (s >>> 11) ^^^ (s >>> 1) ^^^ s) % 2 else ((s >>> 30) ^^^ (s >>> 27)) % 2

/-- A number of PRBS bits, first most significant, and the state after them. -/
def prbsBits (code : Nat) : Nat → Nat → Nat → Nat × Nat
  | 0, s, v => (s, v)
  | n + 1, s, v => let t := prbsBit code s; prbsBits code n ((2 * s + t) % 2 ^ 31) (2 * v + t)

/-- Codeword-lengths between markers (R370). -/
def markerPeriod (service : Bool) : Nat := if service then 16384 else 256

/-- The pattern bytes of a marker. -/
def markerPattern (n : Nat) : List Byte := (List.range n).map (fun i => if i % 2 = 0 then 0x4E else 0xB1)

/-- An alignment marker (R370). -/
def mkMarker (phys logical width step : Nat) (service : Bool) (count : Nat) : List Byte :=
  let f : List Byte := [BitVec.ofNat 8 phys, BitVec.ofNat 8 logical, BitVec.ofNat 8 width, BitVec.ofNat 8 step, BitVec.ofNat 8 (b2n service)] ++
    beBytes 7 count
  markerPattern 16 ++ f ++ f ++ markerPattern 232

/-- Whether a received marker is taken (R371): bytes 0 to 15 match with at most 4 in error, bytes 16 to 27 equal bytes 28 to 39. -/
def markerTaken (m : List Byte) : Bool :=
  decide (m.length = 272) && decide ((((m.take 16).zip (markerPattern 16)).filter (fun p => p.1 != p.2)).length ≤ 4) &&
    decide (slice m 16 12 = slice m 28 12)

end Sys2Proof.Machine
end

