-- ==== Sys2Proof/Machine/CryptoEc.lean ====
section
/-!
DEFINITION. The curve secp384r1, ECDSA and ECDH (R11, R404, R426, R441), and certificate chains (R427, R428): the published standards the spec
names (PRESUMED, log entry 8).
-/
namespace Sys2Proof.Machine

def ecP : Nat := 0xfffffffffffffffffffffffffffffffffffffffffffffffffffffffffffffffeffffffff0000000000000000ffffffff
def ecN : Nat := 0xffffffffffffffffffffffffffffffffffffffffffffffffc7634d81f4372ddf581a0db248b0a77aecec196accc52973
def ecB : Nat := 0xb3312fa7e23ee7e4988e056be3f82d19181d9c6efe8141120314088f5013875ac656398d8a2ed19d2a85c8edd3ec2aef
def ecGx : Nat := 0xaa87ca22be8b05378eb1c71ef320ad746e1d3b628ba79b9859f741e082542a385502f25dbf55296c3a545e3872760ab7
def ecGy : Nat := 0x3617de4a96262c6f5d9e98bf9292dc29f8f41dbd289a147ce9da3113b5f0b8c00a60b1ce1d7e819d7a431d7c90ea0e5f

/-- Powers modulo `m`, by the bits of the exponent from bit `n − 1` down. -/
def powMod (m b e : Nat) : Nat → Nat
  | 0 => 1 % m
  | n + 1 =>
    -- the high bits first: all but the lowest bit of the exponent make the square
    let h := powMod m b (e / 2) n
    let q := h * h % m
    if e % 2 = 1 then q * b % m else q

/-- The inverse modulo a prime of 384 bits. -/
def invMod (m a : Nat) : Nat := powMod m (a % m) (m - 2) 384

def fsub (a b : Nat) : Nat := (a + ecP - b % ecP) % ecP
def fmul (a b : Nat) : Nat := a * b % ecP

/-- A point in Jacobian coordinates; the third coordinate is 0 at infinity. -/
structure EcPoint where
  x : Nat
  y : Nat
  z : Nat
  deriving DecidableEq, Repr

def ecZero : EcPoint := { x := 1, y := 1, z := 0 }
def ecG : EcPoint := { x := ecGx, y := ecGy, z := 1 }

/-- A point doubled. -/
def ecDouble (p : EcPoint) : EcPoint :=
  if p.z = 0 || p.y = 0 then ecZero
  else
    let zz := fmul p.z p.z
    let m := fmul 3 (fmul (fsub p.x zz) (p.x + zz))
    let yy := fmul p.y p.y
    let s := fmul 4 (fmul p.x yy)
    let x := fsub (fmul m m) (2 * s)
    { x := x, y := fsub (fmul m (fsub s x)) (8 * fmul yy yy), z := fmul 2 (fmul p.y p.z) }

/-- Two points added. -/
def ecAdd (p q : EcPoint) : EcPoint :=
  if p.z = 0 then q
  else if q.z = 0 then p
  else
    let z1 := fmul p.z p.z
    let z2 := fmul q.z q.z
    let u1 := fmul p.x z2
    let u2 := fmul q.x z1
    let s1 := fmul p.y (fmul q.z z2)
    let s2 := fmul q.y (fmul p.z z1)
    if u1 = u2 then (if s1 = s2 then ecDouble p else ecZero)
    else
      let h := fsub u2 u1
      let r := fsub s2 s1
      let hh := fmul h h
      let v := fmul u1 hh
      let x := fsub (fsub (fmul r r) (fmul h hh)) (2 * v)
      { x := x, y := fsub (fmul r (fsub v x)) (fmul s1 (fmul h hh)), z := fmul h (fmul p.z q.z) }

/-- A multiple of a point, by the bits of the factor. -/
def ecMulAux (p : EcPoint) (k : Nat) : Nat → EcPoint
  | 0 => ecZero
  | n + 1 =>
    let h := ecDouble (ecMulAux p (k / 2) n)
    if k % 2 = 1 then ecAdd h p else h
def ecMul (p : EcPoint) (k : Nat) : EcPoint := ecMulAux p k 384

/-- The affine coordinates; none at infinity. -/
def EcPoint.affine (p : EcPoint) : Option (Nat × Nat) :=
  if p.z = 0 then none
  else
    let i := invMod ecP p.z
    let i2 := fmul i i
    some (fmul p.x i2, fmul p.y (fmul i i2))

/-- A public key x ∥ y of 96 bytes as a point; none where it is off the curve. -/
def ecPoint (pub : Nat) : Option EcPoint :=
  let x := pub / 2 ^ 384
  let y := pub % 2 ^ 384
  if x < ecP && y < ecP && fmul y y = (fmul x (fmul x x) + fsub ecB (3 * x)) % ecP then some { x := x, y := y, z := 1 } else none

/-- The public key of a private key. -/
def ecPublic (d : Nat) : Nat :=
  match (ecMul ecG d).affine with
  | some q => q.1 * 2 ^ 384 + q.2
  | none => 0

/-- A digest as a number modulo the group order. -/
def ecHash (digest : List Byte) : Nat := beNat (digest.take 48)

/-- A signature r ∥ s of 96 bytes verified. -/
def ecdsaVerify (pub : Nat) (digest : List Byte) (sig : List Byte) : Bool :=
  let r := beNat (sig.take 48)
  let s := beNat (sig.drop 48)
  match ecPoint pub with
  | none => false
  | some q =>
    sig.length == 96 && r != 0 && s != 0 && decide (r < ecN) && decide (s < ecN) &&
      (let w := invMod ecN s
       match (ecAdd (ecMul ecG (ecHash digest * w % ecN)) (ecMul q (r * w % ecN))).affine with
       | some p => p.1 % ecN == r
       | none => false)

/-- A signature r ∥ s under a per-signature secret `k`. -/
def ecdsaSign (d : Nat) (digest : List Byte) (k : Nat) : List Byte :=
  let k := 1 + k % (ecN - 1)
  match (ecMul ecG k).affine with
  | none => []
  | some p =>
    let r := p.1 % ecN
    beBytes 48 r ++ beBytes 48 (invMod ecN k * (ecHash digest + r * d) % ecN)

/-- The shared x coordinate of a private key and a far public key. -/
def ecdh (d pub : Nat) : Option Nat :=
  match ecPoint pub with
  | none => none
  | some q => (ecMul q d).affine.map Prod.fst

/-! ### Certificates -/

/-- One element of a distinguished encoding: its tag, its content, the whole element and what follows. -/
structure Der where
  tag : Nat
  body : List Byte
  whole : List Byte
  rest : List Byte
  deriving DecidableEq, Repr

/-- The first element of a byte list. -/
def der (l : List Byte) : Option Der :=
  match l with
  | t :: n :: r =>
    let k := n.toNat
    let len := if k < 128 then k else beNat (r.take (k - 128))
    let head := if k < 128 then 0 else k - 128
    if (k < 128 || (1 ≤ head && head ≤ 3)) && head + len ≤ r.length then
      some { tag := t.toNat, body := slice r head len, whole := l.take (2 + head + len), rest := r.drop (head + len) }
    else none
  | _ => none

/-- The elements of a byte list; the first argument is fuel. -/
def derList : Nat → List Byte → Option (List Der)
  | 0, _ => none
  | n + 1, l => if l.isEmpty then some [] else match der l with
    | none => none
    | some d => (derList n d.rest).map (fun r => d :: r)

/-- The elements of a constructed element of a tag. -/
def Der.parts (d : Der) (tag : Nat) : Option (List Der) := if d.tag = tag then derList (d.body.length + 1) d.body else none

/-- What a certificate gives: the bytes that are signed, the signature r ∥ s, its public key and its subject's serialNumber. -/
structure Cert where
  signed : List Byte
  sig : List Byte
  pub : Nat
  serialNumber : List Byte
  deriving DecidableEq, Repr

/-- An unsigned number of an element. -/
def derNum (d : Der) : Option Nat := if d.tag = 2 then some (beNat d.body) else none

/-- ecdsa-with-SHA384, ecPublicKey with secp384r1, and the serialNumber attribute, as object identifiers. -/
def oidEcdsaSha384 : List Byte := [0x2A, 0x86, 0x48, 0xCE, 0x3D, 0x04, 0x03, 0x03]
def oidEcKey : List Byte := [0x2A, 0x86, 0x48, 0xCE, 0x3D, 0x02, 0x01]
def oidP384 : List Byte := [0x2B, 0x81, 0x04, 0x00, 0x22]
def oidSerial : List Byte := [0x55, 0x04, 0x05]

/-- The key of a subject public key info. -/
def certKey (d : Der) : Option Nat := do
  let l ← d.parts 0x30
  let alg ← l[0]?
  let a ← alg.parts 0x30
  let k ← l[1]?
  if (a.map (fun e => e.body)) = [oidEcKey, oidP384] && k.tag = 3 && k.body.length = 98 && k.body.take 2 = [0x00, 0x04] then
    some (beNat (k.body.drop 2))
  else none

/-- The serialNumber attribute of a name. -/
def certSerial (d : Der) : List Byte :=
  match d.parts 0x30 with
  | none => []
  | some sets => ((sets.flatMap (fun e => (e.parts 0x31).getD [])).findSome? (fun a => match a.parts 0x30 with
      | some [o, v] => if o.tag = 6 && o.body = oidSerial then some v.body else none
      | _ => none)).getD []

/-- A certificate. PRESUMED, log entry 122. -/
def parseCert (d : Der) : Option Cert := do
  let l ← d.parts 0x30
  let tbs ← l[0]?
  let alg ← l[1]?
  let sg ← l[2]?
  let a ← alg.parts 0x30
  let o ← a[0]?
  let f ← tbs.parts 0x30
  let g := if (f.head?.map Der.tag) = some 0xA0 then f.drop 1 else f
  let subject ← g[4]?
  let spki ← g[5]?
  let pub ← certKey spki
  let sq ← der (sg.body.drop 1)
  let rs ← sq.parts 0x30
  let r ← rs[0]? >>= derNum
  let s ← rs[1]? >>= derNum
  if o.body = oidEcdsaSha384 && sg.tag = 3 && r < 2 ^ 384 && s < 2 ^ 384 then
    some { signed := tbs.whole, sig := beBytes 48 r ++ beBytes 48 s, pub := pub, serialNumber := certSerial subject }
  else none

/-- The certificates of a chain in the SPDM format: length, root hash, certificates. -/
def parseChain (l : List Byte) : Option (List Cert) :=
  if leAt l 0 2 ≠ l.length || l.length < 52 then none
  else match derList l.length (l.drop 52) with
    | none => none
    | some ds => match ds with
      | [] => none
      | d :: _ => if sha384 d.whole = slice l 4 48 then ds.mapM parseCert else none

/-- Every certificate is signed by the one before it, the first by itself. -/
def chainSigned : Nat → List Cert → Bool
  | _, [] => true
  | pub, c :: r => ecdsaVerify pub (sha384 c.signed) c.sig && chainSigned c.pub r

/-- A partner's chain accepted (R427, R428): the key and the serial of its identity certificate. -/
def acceptChain (roots : List Nat) (l : List Byte) : Option (Nat × List Byte) :=
  match parseChain l with
  | some (c :: r) =>
    if c.pub ∈ roots && r.length = 2 && chainSigned c.pub (c :: r) then (r.getLast?).map (fun e => (e.pub, e.serialNumber)) else none
  | _ => none

/-- A node serial as the serialNumber attribute writes it: 16 upper-case hexadecimal digits (R427). -/
def serialText (v : Nat) : List Byte :=
  (List.range 16).map (fun i =>
    let d := (v >>> (4 * (15 - i))) % 16
    BitVec.ofNat 8 (if d < 10 then 48 + d else 55 + d))

end Sys2Proof.Machine
end

