-- ==== Sys2Proof/Machine/CryptoAes.lean ====
section
/-!
DEFINITION. AES-256 and its Galois/Counter mode (R11, R320, R321, R435): the published cipher the spec names (PRESUMED, log entry 8). Bytes are numbers
below 256 here.
-/
namespace Sys2Proof.Machine

/-- The substitution box, byte 0 highest. -/
def aesBox0 : Nat := 0x637c777bf26b6fc53001672bfed7ab76ca82c97dfa5947f0add4a2af9ca472c0b7fd9326363ff7cc34a5e5f171d8311504c723c31896059a071280e2eb27b275
def aesBox1 : Nat := 0x09832c1a1b6e5aa0523bd6b329e32f8453d100ed20fcb15b6acbbe394a4c58cfd0efaafb434d338545f9027f503c9fa851a3408f929d38f5bcb6da2110fff3d2
def aesBox2 : Nat := 0xcd0c13ec5f974417c4a77e3d645d197360814fdc222a908846eeb814de5e0bdbe0323a0a4906245cc2d3ac629195e479e7c8376d8dd54ea96c56f4ea657aae08
def aesBox3 : Nat := 0xba78252e1ca6b4c6e8dd741f4bbd8b8a703eb5664803f60e613557b986c11d9ee1f8981169d98e949b1e87e9ce5528df8ca1890dbfe6426841992d0fb054bb16

/-- The box at a byte. -/
def aesSub (x : Nat) : Nat :=
  let b := if x < 64 then aesBox0 else if x < 128 then aesBox1 else if x < 192 then aesBox2 else aesBox3
  (b >>> (8 * (63 - x % 64))) % 256

/-- Multiplication by two in the field of the cipher. -/
def aesTimes2 (x : Nat) : Nat := if x < 128 then 2 * x else (2 * x) ^^^ 0x11B

/-- Two byte lists added. -/
def xorBytes (a b : List Nat) : List Nat := a.zipWith (· ^^^ ·) b

/-- The next eight words of the key schedule from the last eight; a word is a list of four bytes. -/
def aesExpand (rcon : Nat) (k : List (List Nat)) : List (List Nat) :=
  let last := k.getD 7 []
  let t := (last.drop 1 ++ last.take 1).map aesSub
  let w0 := xorBytes (k.getD 0 []) (xorBytes t [rcon, 0, 0, 0])
  let w1 := xorBytes (k.getD 1 []) w0
  let w2 := xorBytes (k.getD 2 []) w1
  let w3 := xorBytes (k.getD 3 []) w2
  let w4 := xorBytes (k.getD 4 []) (w3.map aesSub)
  let w5 := xorBytes (k.getD 5 []) w4
  let w6 := xorBytes (k.getD 6 []) w5
  let w7 := xorBytes (k.getD 7 []) w6
  [w0, w1, w2, w3, w4, w5, w6, w7]

/-- The key schedule: the words of the key and of its expansions. -/
def aesSchedule : Nat → Nat → List (List Nat) → List (List Nat)
  | 0, _, k => k
  | n + 1, rcon, k => k ++ aesSchedule n (aesTimes2 rcon) (aesExpand rcon k)

/-- A list cut into pieces of `n`. -/
def piecesOf (n : Nat) : Nat → List Nat → List (List Nat)
  | 0, _ => []
  | f + 1, l => if l.isEmpty then [] else l.take n :: piecesOf n f (l.drop n)

/-- The fifteen round keys of a 32-byte key. -/
def aesRoundKeys (key : List Nat) : List (List Nat) :=
  let w := aesSchedule 7 1 (piecesOf 4 8 key)
  (List.range 15).map (fun i => ((w.drop (4 * i)).take 4).flatten)

/-- The rows of the state shifted; the state is held by columns. -/
def aesShift (s : List Nat) : List Nat := (List.range 16).map (fun i => s.getD ((i + 4 * (i % 4)) % 16) 0)

/-- One column mixed. -/
def aesMixCol (c : List Nat) : List Nat :=
  let a := c.getD 0 0
  let b := c.getD 1 0
  let d := c.getD 2 0
  let e := c.getD 3 0
  let all := a ^^^ b ^^^ d ^^^ e
  [a ^^^ all ^^^ aesTimes2 (a ^^^ b), b ^^^ all ^^^ aesTimes2 (b ^^^ d), d ^^^ all ^^^ aesTimes2 (d ^^^ e), e ^^^ all ^^^ aesTimes2 (e ^^^ a)]

/-- The middle rounds and the last. -/
def aesRounds : List (List Nat) → List Nat → List Nat
  | [], s => s
  | [k], s => xorBytes (aesShift (s.map aesSub)) k
  | k :: r, s => aesRounds r (xorBytes ((piecesOf 4 4 (aesShift (s.map aesSub))).flatMap aesMixCol) k)

/-- One block enciphered under round keys. -/
def aesBlock (ks : List (List Nat)) (b : List Nat) : List Nat :=
  match ks with
  | [] => b
  | k :: r => aesRounds r (xorBytes b k)

/-! ### Galois/Counter mode -/

/-- A number from bytes, byte 0 highest. -/
def numOf (l : List Nat) : Nat := l.foldl (fun a b => a * 256 + b) 0

/-- The `n` bytes of a number, highest first. -/
def bytesOfNum (n v : Nat) : List Nat := (List.range n).map (fun i => (v >>> (8 * (n - 1 - i))) % 256)

/-- Multiplication in GF(2¹²⁸), bit 0 of the standard being the highest here. -/
def ghashMul (x y : Nat) : Nat :=
  ((List.range 128).foldl (fun (a : Nat × Nat) i =>
    (if x.testBit (127 - i) then a.1 ^^^ a.2 else a.1, if a.2.testBit 0 then (a.2 >>> 1) ^^^ (0xE1 <<< 120) else a.2 >>> 1)) (0, y)).1

/-- Bytes filled up to whole blocks. -/
def padBlock (l : List Nat) : List Nat := l ++ List.replicate ((16 - l.length % 16) % 16) 0

/-- The hash of additional data and ciphertext. -/
def ghash (h : Nat) (aad ct : List Nat) : Nat :=
  let l := padBlock aad ++ padBlock ct ++ bytesOfNum 8 (8 * aad.length) ++ bytesOfNum 8 (8 * ct.length)
  (piecesOf 16 (l.length / 16 + 1) l).foldl (fun y b => ghashMul (y ^^^ numOf b) h) 0

/-- The key stream over a text, from a counter on. -/
def gcmStream (ks : List (List Nat)) (iv : List Nat) (text : List Nat) : List Nat :=
  ((piecesOf 16 (text.length / 16 + 1) text).zipIdx).flatMap (fun b => xorBytes b.1 (aesBlock ks (iv ++ bytesOfNum 4 (b.2 + 2))))

/-- The tag over additional data and ciphertext. -/
def gcmTag (ks : List (List Nat)) (iv aad ct : List Nat) : List Nat :=
  let h := numOf (aesBlock ks (List.replicate 16 0))
  xorBytes (bytesOfNum 16 (ghash h aad ct)) (aesBlock ks (iv ++ [0, 0, 0, 1]))

def natsOf (l : List Byte) : List Nat := l.map BitVec.toNat
def bytesOfNats (l : List Nat) : List Byte := l.map (BitVec.ofNat 8)

/-- A text sealed: its ciphertext and its tag. -/
def gcmSeal (key iv aad text : List Byte) : List Byte × List Byte :=
  let ks := aesRoundKeys (natsOf key)
  let ct := gcmStream ks (natsOf iv) (natsOf text)
  (bytesOfNats ct, bytesOfNats (gcmTag ks (natsOf iv) (natsOf aad) ct))

/-- A ciphertext opened; none where its tag fails. -/
def gcmOpen (key iv aad ct tag : List Byte) : Option (List Byte) :=
  let ks := aesRoundKeys (natsOf key)
  if bytesOfNats (gcmTag ks (natsOf iv) (natsOf aad) (natsOf ct)) = tag then some (bytesOfNats (gcmStream ks (natsOf iv) (natsOf ct))) else none

end Sys2Proof.Machine
end

