-- ==== Sys2Proof/Machine/OpsKeys.lean ====
section
/-!
DEFINITION. The keys of a port as the pane layer uses them (R320, R321, R434 to R437): slots, counters of the IV, tags.
-/
namespace Sys2Proof.Machine

/-- The slots of one key index. -/
def PortKeys.index (k : PortKeys) (i : Nat) : KeyIndex := Table.get {} k.idx i

/-- The slots of one key index changed. -/
def PortKeys.modIndex (k : PortKeys) (i : Nat) (f : KeyIndex → KeyIndex) : PortKeys := { k with idx := Table.put {} k.idx i (f (k.index i)) }

/-- The current key for transmission. -/
def PortKeys.tx (k : PortKeys) (i : Nat) : Option KeySlot := (k.index i).txCur

/-- The keys a pane is tried under, in order (R437). -/
def PortKeys.rx (k : PortKeys) (i : Nat) : List KeySlot := (k.index i).rxCur.toList ++ (k.index i).rxNext.toList

/-- CTR of a sequenced pane (R435); `void` for a VOID fence. -/
def seqCtr (void : Bool) (n : Nat) : Nat := place (b2n void) 62 1 + place n 0 62

/-- CTR of a pane that is not sequenced (R435). -/
def ctlCtr (seg slot : Nat) : Nat := 2 ^ 63 + place seg 47 16 + place slot 0 47

/-- The IV: SALT ∥ CTR (R435). -/
def KeySlot.iv (k : KeySlot) (ctr : Nat) : List Byte := beBytes 4 k.salt.toNat ++ beBytes 8 ctr

/-- The header with bits 35:0 zero: the additional data of a DATA pane (R321). -/
def hdrAad (h : Word) : List Byte := beBytes 8 ((h.toNat >>> 36) <<< 36)

/-- The tag of a pane whose bytes 0 to 223 are clear (R321). -/
def KeySlot.tag (k : KeySlot) (ctr : Nat) (aad : List Byte) : List Byte := (gcmSeal k.key (k.iv ctr) aad []).2

/-- The body of a pane that is not sequenced: bytes 0 to 223 and the tag over header and bytes. -/
def KeySlot.ctlBody (k : KeySlot) (seg slot : Nat) (h : Word) (text : List Byte) : List Byte :=
  let t := padTo 224 text
  t ++ k.tag (ctlCtr seg slot) (beBytes 8 h.toNat ++ t)

/-- The body of a FENCE pane (R321). -/
def KeySlot.fenceBody (k : KeySlot) (void : Bool) (n : Nat) (h : Word) (text : List Byte) : List Byte :=
  let t := padTo 224 text
  t ++ k.tag (seqCtr void n) (hdrAad h ++ t)

/-- The body of a DATA pane of whole units (R320): in clear, or as ciphertext and tag. -/
def KeySlot.dataBody (k : KeySlot) (n : Nat) (h : Word) (units : List Byte) : List Byte :=
  if k.enc then
    let q := gcmSeal k.key (k.iv (seqCtr false n)) (hdrAad h) (padTo 224 units)
    q.1 ++ q.2
  else padTo 240 units

/-- The units of a DATA pane opened under one slot: mode and tag are both checked (R320, R437). -/
def KeySlot.openData (k : KeySlot) (n : Nat) (h : Word) (encFlag : Bool) (body : List Byte) : Option (List Byte) :=
  if k.enc != encFlag then none
  else if k.enc then gcmOpen k.key (k.iv (seqCtr false n)) (hdrAad h) (body.take 224) (slice body 224 16)
  else some body

/-- The units of a DATA pane under the first slot that passes. -/
def PortKeys.openData (k : PortKeys) (i n : Nat) (h : Word) (encFlag : Bool) (body : List Byte) : Option (List Byte) :=
  (k.rx i).findSome? (fun q => q.openData n h encFlag body)

/-- Whether the tag of a FENCE passes under key 0. -/
def PortKeys.fenceOk (k : PortKeys) (void : Bool) (n : Nat) (h : Word) (body : List Byte) : Bool :=
  (k.rx 0).any (fun q => q.fenceBody void n h (body.take 224) == body)

/-- The values of SEG a tag is tried at (R436); within a handshake also those of the session about to begin, whose SEG starts at 0 (R435).
DEDUCED, log entry 93. -/
def PortKeys.segTries (k : PortKeys) : List Nat :=
  (List.range 3).map (fun i => (k.rxSeg.toNat + i) % 65536) ++ (if k.session = .handshake && (k.index 0).rxNext.isSome then [0, 1, 2] else [])

/-- The SEG at which the tag of a pane that is not sequenced passes (R436). -/
def PortKeys.segOf (k : PortKeys) (h : Word) (slot : Nat) (body : List Byte) : Option Nat :=
  k.segTries.find? (fun s =>
    (k.rx 0).any (fun q => q.ctlBody s slot h (body.take 224) == body))

/-- The session key 0 taken for transmission (R441), current from now on (R444): SEG counts from the session's beginning (R435). -/
def PortKeys.beginTx (k : PortKeys) (now : Nat) : PortKeys :=
  { k.modIndex 0 (fun i => { i with txCur := i.txNext.map (fun x => { x with since := now }), txNext := none }) with seg := 0 }

/-- A key counted as having protected one more pane (R444). -/
def KeyIndex.used (k : KeyIndex) : KeyIndex := { k with txCur := k.txCur.map (fun q => { q with panes := q.panes + 1 }) }

end Sys2Proof.Machine
end

