-- ==== Sys2Proof/Machine/OpsTorus.lean ====
section
/-!
DEFINITION. Links by number, missing links and unreachable nodes (R416, R422 to R424, R532), and the messages that carry them.
-/
namespace Sys2Proof.Machine

/-- A port in service. -/
def State.serving (s : State) (p : PortIx) : Bool := (s.port p).pane.link.inService

/-- The number of the link of a port of a node (R422). -/
def linkNumber (t : InstallTable) (n p : Nat) : Nat :=
  if p % 2 = 0 then 3 * n + p / 2 else 3 * neighbour t n p + p / 2

/-- The links of the route between two nodes (R412). The first argument is fuel: a route has at most 32 hops. -/
def routeLinks (t : InstallTable) (dest : Nat) : Nat → Nat → List Nat
  | 0, _ => []
  | f + 1, n =>
    let p := (routeOf t n dest).1
    if p < 6 then linkNumber t n p :: routeLinks t dest f (neighbour t n p) else []

/-- Every node ID of the pod. -/
def InstallTable.ids (t : InstallTable) : List Nat :=
  ((List.range t.ez).flatMap (fun z => (List.range t.ey).flatMap (fun y => (List.range t.ex).map (fun x => nodeId x y z)))).filter t.names

/-- The bits set of a bitmap. -/
def popCount (n m : Nat) : Nat := (bitsSet n m).length

/-- UNREACH of every node (R416, R423, R532). -/
def Topo.unreachable (t : Topo) (i : InstallTable) : Nat :=
  maskOf (i.ids.filter (fun n => n != t.node &&
    (t.nodeDown.testBit n || (t.reported && (!t.ready.testBit n || (routeLinks i n 32 t.node).any (fun l => t.missing.testBit l))))))

/-- STATE once the node has reported (R423, R424), and UNREACH. -/
def Topo.settle (t : Topo) : Topo :=
  match t.install with
  | none => t
  | some i =>
    let all := i.ids.all (fun n => t.ready.testBit n)
    let st := if !t.reported then t.state else if all && t.missing = 0 then .ready else .readyPartial
    { t with state := st, unreach := t.unreachable i }

/-- A bit of a bitmap set or cleared. -/
def setBitTo (m i : Nat) (v : Bool) : Nat := if v then m ||| 1 <<< i else if m.testBit i then m ^^^ (1 <<< i) else m

/-- A message of the Lodge to the far end of a port. -/
def State.mgmtTo (s : State) (p : PortIx) (mtype sub : Nat) (payload : List LinkUnit) : State :=
  match s.topo.install with
  | none => s
  | some t => s.sendVia p clsMgmt 0 (mkMgmt (neighbour t s.topo.node p) s.topo.node mtype sub payload)

/-- A message flooded to every neighbour in service, on X, then Y, then Z (R422, R424). -/
def State.flood (s : State) (mtype sub : Nat) (payload : List LinkUnit) : State :=
  allPorts.foldl (fun a p => if a.serving p then a.mgmtTo p mtype sub payload else a) s

/-- The payload of a LINK_EVENT (R532). -/
def linkEventUnit (link : Nat) (up : Bool) (reporter : Nat) (tick : Word) : LinkUnit :=
  unit (place link 113 15 + place (b2n up) 112 1 + place reporter 96 13 + tick.toNat)

/-- Whether a link event is later than the last applied for its link; at one pod time DOWN takes precedence (R424). -/
def Topo.newer (t : Topo) (link : Nat) (up : Bool) (tick : Nat) : Bool :=
  let last := Table.get (0, 0) t.linkEvents link
  decide (last.1 < tick + 1) || (decide (last.1 = tick + 1) && !up && last.2 == 1)

/-- A link event applied, noticed (R530) and flooded (R424). -/
def State.applyLinkEvent (s : State) (link : Nat) (up : Bool) (reporter : Nat) (tick : Word) : State :=
  if s.topo.newer link up tick.toNat then
    let s1 := s.modTopo (fun t => { t with
      linkEvents := Table.put (0, 0) t.linkEvents link (tick.toNat + 1, b2n up), missing := setBitTo t.missing link (!up), changedAt := s.now }.settle)
    (s1.notice 0x03 (leBytes 2 link ++ [BitVec.ofNat 8 (b2n up)])).flood 0x03 0 [linkEventUnit link up reporter tick]
  else s

/-- A port's link has left service or come back (R424): an event, once the node has reported, or where a port that missed the start-up bound comes back
(R421). DEDUCED, log entry 112. -/
def State.linkChanged (s : State) (p : PortIx) (up : Bool) : State :=
  match s.topo.install with
  | none => s
  | some t => if s.topo.reported || (up && s.topo.bound) then s.applyLinkEvent (linkNumber t s.topo.node p) up s.topo.node s.time.now else s

/-- The payload of a NODE_EVENT (R532). -/
def nodeEventUnit (node event : Nat) (tick : Word) : LinkUnit :=
  unit (place node 115 13 + place event 112 3 + tick.toNat)

/-- A node event applied and flooded, when it is later than the last for its node (R532). -/
def State.applyNodeEvent (s : State) (node event : Nat) (tick : Word) : State :=
  if Table.get 0 s.topo.nodeEvents node < tick.toNat + 1 then
    (s.modTopo (fun t => { t with nodeEvents := Table.put 0 t.nodeEvents node (tick.toNat + 1),
                                  nodeDown := setBitTo t.nodeDown node (event == 0) }.settle)).flood 0x04 0 [nodeEventUnit node event tick]
  else s

/-- A port disabled by a wrong neighbour or a failed handshake (R411, R442): ENABLE 0, missing link, contained error. -/
def State.markMissing (s : State) (p : PortIx) : State :=
  match s.topo.install with
  | none => s
  | some t => s.modTopo (fun q => { q with missing := setBitTo q.missing (linkNumber t q.node p) true, changedAt := s.now }.settle)

end Sys2Proof.Machine
end

