-- ==== Sys2Proof/Machine/OpsSession.lean ====
section
/-!
DEFINITION. Link sessions (R439 to R443): the messages of the Gatehouses, the secrets derived from an exchange, and its start and end.
-/
namespace Sys2Proof.Machine

/-- The first payload unit of a link-security message (R439). -/
def secUnit (ltype port len : Nat) (session : BitVec 32) : LinkUnit :=
  unit (place ltype 120 8 + place port 112 8 + place len 96 16 + place session.toNat 64 32)

/-- A link-security message to the far end of a port. -/
def State.secTo (s : State) (p : PortIx) (ltype : Nat) (session : BitVec 32) (fields : List Byte) : State :=
  s.mgmtTo p 0x01 0 (secUnit ltype p.val fields.length session :: dataUnits fields)

/-- The session number of a port, for messages within its session. -/
def PortKeys.sessionNo (k : PortKeys) : BitVec 32 := match k.hs with
  | some h => h.session
  | none => k.number

/-- Bytes of an ASCII label. -/
def asciiBytes (t : String) : List Byte := t.toList.map (fun c => BitVec.ofNat 8 c.toNat)

/-- km(label) (R441) of the secrets (z, th). -/
def kmOf (m : List Byte × List Byte) (label : List Byte) : List Byte := sha384 (m.1 ++ m.2 ++ label)

/-- A key slot of derived bytes (R441). -/
def slotOf (m : List Byte) (enc : Bool) (gen : BitVec 32) (now : Nat) : KeySlot :=
  { key := m.take 32, salt := BitVec.ofNat 32 (beAt m 32 4), enc := enc, gen := gen, since := now }

/-- The session key 0 of a direction. -/
def sessionKey (m : List Byte × List Byte) (d now : Nat) : KeySlot :=
  slotOf (kmOf m (asciiBytes "NB6 LMK" ++ [BitVec.ofNat 8 d])) true 0 now

/-- Key `k` of a generation and direction. -/
def derivedKey (m : List Byte × List Byte) (k d : Nat) (gen : BitVec 32) (nt nr : List Byte) (enc : Bool) (now : Nat) : KeySlot :=
  slotOf (kmOf m (asciiBytes "NB6 KEY" ++ [BitVec.ofNat 8 k, BitVec.ofNat 8 d] ++ beBytes 4 gen.toNat ++ nt ++ nr)) enc gen now

/-- CONFIRM of a direction. -/
def confirmOf (m : List Byte × List Byte) (d : Nat) : List Byte := kmOf m (asciiBytes "NB6 DONE" ++ [BitVec.ofNat 8 d])

/-- The direction this end transmits in: 0 from leader to follower (R441). -/
def PortKeys.txDir (k : PortKeys) : Nat := if k.leader then 0 else 1

/-- The direction it receives in. -/
def PortKeys.rxDir (k : PortKeys) : Nat := if k.leader then 1 else 0

/-- A private key drawn for an exchange. -/
def ephemeralOf (v : Nat) : Nat := v % (ecN - 1) + 1

/-- The fields of an L_HELLO or L_REPLY. -/
def helloFields (nonce eph : Nat) (serial : Word) : List Byte := beBytes 32 nonce ++ beBytes 96 (ecPublic eph) ++ beBytes 8 serial.toNat

/-- Key 0 is the null key in both directions, as without a session (R434, R442). -/
def PortKeys.nullKey (k : PortKeys) : PortKeys := k.modIndex 0 (fun _ => { txCur := some KeySlot.null, rxCur := some KeySlot.null })

/-- A handshake begins (R441): the end with the lower SERIAL leads and sends L_HELLO; the other waits for it. -/
def State.startHandshake (s : State) (p : PortIx) : State :=
  let lead := decide (s.global.serial.toNat < (s.port p).lane.farSerial.toNat)
  if lead then
    let sn := BitVec.ofNat 32 (s.freeVal .session)
    let s1 := s.drawn
    let nonce := s1.freeVal .nonce
    let s2 := s1.drawn
    let e := ephemeralOf (s2.freeVal .ephemeral)
    let f := helloFields nonce e s.global.serial
    (s2.drawn.modKeys p (fun k => { k with
      session := .handshake, leader := true, retryAt := none,
      hs := some { session := sn, start := s.now, ephPriv := e, hello := f } })).secTo p 0x01 sn f
  else s.modKeys p (fun k => { k with
    session := .handshake, leader := false, retryAt := none, hs := some { session := 0, start := s.now, ephPriv := 0 } })

/-- A session ends (R378, R443): its secrets and its key 0 go, and key 0 is the null key again. -/
def PortKeys.endSession (k : PortKeys) : PortKeys :=
  (({ k with session := .none, hs := none, master := none, rotations := [], seg := 0, rxSeg := 0 } : PortKeys)).nullKey

/-- A KEY_OFFER sent for a key index (R445, R450): GEN one above the current generation, or 1. -/
def State.offer (s : State) (p : PortIx) (k : Nat) (enc : Bool) : State :=
  let q := (s.port p).keys
  let gen := match q.tx k with
    | none => 1#32
    | some x => x.gen + 1
  let nt := beBytes 32 (s.freeVal .nonce)
  (s.drawn.modKeys p (fun q => { q with rotations := q.rotations.filter (fun r => r.key != k) ++ [{ key := k, gen := gen, nt := nt, since := s.now }] })).secTo
    p 0x10 q.sessionNo ([BitVec.ofNat 8 k, BitVec.ofNat 8 (b2n enc)] ++ beBytes 4 gen.toNat ++ nt)

/-- The tenant's key offered on a port (R450): a session, the far end in the block, no transmit key and no offer outstanding. -/
def State.offerTenant (s : State) (p : PortIx) : State :=
  match s.gate.tenant, s.topo.install with
  | some t, some i =>
    let q := (s.port p).keys
    if t.teardown.isNone && q.session = .up && t.block.has i (neighbour i s.topo.node p) && (q.tx t.num).isNone && q.rotations.all (fun r => r.key != t.num) then
      s.offer p t.num t.enc
    else s
  | _, _ => s

/-- A session exists: it is up, or its key 0 is installed. -/
def PortKeys.hasSession (k : PortKeys) : Bool := decide (k.session = .up)

end Sys2Proof.Machine
end

