-- ==== Sys2Proof/Machine/OpsLink.lean ====
section
/-!
DEFINITION. Link states and their changes (R354, R373 to R384), the TRAIN pane (R377), and the CTRL panes a port queues (R357, R387).
-/
namespace Sys2Proof.Machine

/-! ### Causes (R374) -/

def lcInit : Nat := 1
def lcLaneFail : Nat := 2
def lcDeskew : Nat := 3
def lcFecRate : Nat := 4
def lcProtocol : Nat := 5
def lcCredit : Nat := 6
def lcReplay : Nat := 7
def lcSw : Nat := 8
def lcSpare : Nat := 9
def lcPower : Nat := 10
def lcTimeout : Nat := 11
def lcTest : Nat := 12
def lcLaneBer : Nat := 13

/-- The cause in a REASON byte received: 14, 15 and what is not a 4-bit code are never recorded (R374) and count as NONE. DEDUCED, log entry 161. -/
def reasonOf (b : Byte) : Nat := if b.toNat < 14 then b.toNat else 0

/-! ### Lanes -/

/-- The physical lanes of a port. -/
def laneIds : List Nat := List.range 13

/-- One lane. -/
def LaneUnit.lane (l : LaneUnit) (k : Nat) : Lane := Table.get {} l.lanes k

/-- One lane changed. -/
def LaneUnit.modAt (l : LaneUnit) (k : Nat) (f : Lane → Lane) : LaneUnit := { l with lanes := Table.put {} l.lanes k (f (l.lane k)) }

/-- Every lane changed. -/
def LaneUnit.modAll (l : LaneUnit) (f : Nat → Lane → Lane) : LaneUnit := laneIds.foldl (fun a k => a.modAt k (f k)) l

/-- USABLE (R377): the lanes usable by this end. -/
def LaneUnit.usable (l : LaneUnit) : Nat := maskOf (laneIds.filter (fun k => (l.lane k).usable))

/-- ENABLE, RETRAIN, TEST and the other fields of TRAIN_CTL (R400). -/
def LaneUnit.enabled (l : LaneUnit) : Bool := bit l.trainCtl 0
def LaneUnit.testing (l : LaneUnit) : Bool := bit l.trainCtl 1
def LaneUnit.adopt (l : LaneUnit) : Bool := bit l.trainCtl 16
def LaneUnit.autoSpare (l : LaneUnit) : Bool := bit l.trainCtl 17
def LaneUnit.maxStep (l : LaneUnit) : Nat := bits l.trainCtl 19 18
def LaneUnit.holdoffMs (l : LaneUnit) : Nat := bits l.trainCtl 31 22
def LaneUnit.retry10ms (l : LaneUnit) : Nat := bits l.trainCtl 44 32
def LaneUnit.off (l : LaneUnit) : Nat := bits l.trainCtl 60 48

/-- The width for a number of lanes (R381): 0 where no lane is left. -/
def widthFor (n : Nat) : Nat := ([12, 8, 6, 4, 2, 1].find? (fun w => decide (w ≤ n))).getD 0

/-- ACTIVE: the lowest-numbered lanes of a usable set (R381). -/
def activeFor (u w : Nat) : Nat := maskOf ((bitsSet 13 u).take w)

/-- The configuration R381 gives for a usable set, capped. -/
def configFor (u cap : Nat) : Nat × Nat :=
  let w := widthFor (min (popCount 13 u) cap)
  (activeFor u w, w)

/-- The rate of a step in units of S0's lane rate (R364): 1, 4, 8, 16. -/
def stepRate (s : Nat) : Nat := if s = 0 then 1 else 2 ^ (s + 1)

/-- Taps of a lane at a step from the board table (R407). -/
def State.boardTaps (s : State) (p : PortIx) (k step : Nat) : Taps :=
  match s.topo.board with
  | none => {}
  | some b => match b.ports[p.val]? with
    | none => {}
    | some q =>
      let w := q.taps.getD (4 * k + step) 0
      { cm2 := bits w 12 10, cm1 := bits w 9 5, cp1 := bits w 4 0 }

/-- STEPS (R377): the steps of the board table that MAX_STEP allows. -/
def State.steps (s : State) (p : PortIx) : Nat :=
  let b := match s.topo.board with
    | none => 0
    | some b => (b.ports.map BoardPort.steps).getD p.val 0
  maskOf ((bitsSet 4 b).filter (fun i => decide (i ≤ (s.port p).lane.maxStep)))

/-! ### Panes of training -/

/-- The codes of TRAIN messages (R379, R409). -/
def tmHello : Nat := 0x01
def tmRetrain : Nat := 0x02
def tmConfig : Nat := 0x03
def tmConfigAck : Nat := 0x04
def tmTuneReq : Nat := 0x05
def tmTuneRsp : Nat := 0x06
def tmTuneDone : Nat := 0x07
def tmGo : Nat := 0x08
def tmReady : Nat := 0x09
def tmLoopReq : Nat := 0x0A
def tmIdent : Nat := 0x20
def tmIdentAck : Nat := 0x21

/-- The body of a TRAIN pane before its tag (R377). -/
def State.trainText (s : State) (p : PortIx) (m : TrainMsg) : List Byte :=
  let l := (s.port p).lane
  let auth := (s.port p).keys.hasSession
  padTo 224 ([BitVec.ofNat 8 m.code, BitVec.ofNat 8 (b2n auth + 2 * b2n m.reject)] ++ beBytes 2 m.seq.toNat ++
    beBytes 8 s.global.serial.toNat ++ beBytes 2 l.usable ++ [BitVec.ofNat 8 (s.steps p), BitVec.ofNat 8 l.step,
    BitVec.ofNat 8 l.causeOwn, l.train.round] ++ List.replicate 6 0 ++ m.args)

/-- The next message of a training, repeated until the one after it (R376). -/
def Train.say (t : Train) (code : Nat) (args : List Byte) (reject : Bool := false) : Train :=
  { t with msg := some { code := code, reject := reject, seq := t.tseq + 1, args := args }, tseq := t.tseq + 1, out := false }

/-- An answer sent beside the current message. -/
def Train.answer (t : Train) (code : Nat) (args : List Byte) : Train :=
  { t with ans := some { code := code, seq := t.tseq + 1, args := args }, tseq := t.tseq + 1 }

/-! ### Changes of state -/

/-- COUNT begins again at 0 in the direction sent (R370): a new segment, counted since the session began (R435), so not under the null
key, the one key 0 in the mode CLEAR (R434). -/
def PortKeys.newSegment (k : PortKeys) : PortKeys :=
  ({ k with seg := if (k.tx 0).any KeySlot.enc then k.seg + 1 else 0, slot := 0 } : PortKeys).modIndex 0
    (fun i => { i with txCur := i.txCur.map (fun q => { q with segs := q.segs + 1 }) })

/-- The timers and the panes due of a port that is not in service stop and go; Cullet, pool and counts are kept (R354). -/
def Pane.stopped (q : Pane) : Pane :=
  { q with ackStart := none, ackExpiries := 0, gaps := [], nakDue := [], ackDue := false, ctrlDue := [], resuming := false,
           cullet := q.cullet.map (fun c => { c with resend := 0, ackNow := false }) }

/-- The lanes as a training finds them: nothing locked. Recovery starts from the service taps, all else from the board table (R384, R385). -/
def State.freshLanes (s : State) (p : PortIx) (keepTaps : Bool) (step : Nat) (l : LaneUnit) : LaneUnit :=
  l.modAll (fun k q => { q with markers := 0, lastCount := none, missed := 0, usable := false, pllLost := false,
                                fail := if l.off.testBit k then 5 else 0, taps := if keepTaps then q.taps else s.boardTaps p k step,
                                errAt := [], rxBytes := 0, berOver := false, slot := 0, place := 0 })

/-- A training, or a new round of it, begins (R376, R382, R384) at a step, with HELLO or RETRAIN. `start` is when the attempt began and
`tseq` the messages already counted. COUNT begins again in a new training and where the step changes (R370). -/
def State.beginRound (s : State) (p : PortIx) (initial keepTaps : Bool) (step start : Nat) (round : BitVec 8) (tseq : BitVec 16) (fresh : Bool := false) :
    State :=
  (if fresh || (s.port p).lane.step != step then s.modKeys p PortKeys.newSegment else s).modLane p (fun l =>
    let l1 := s.freshLanes p keepTaps step l
    { l1 with active := 0, width := 0, step := step, change := none, spareAt := none, consecUncorr := 0,
              train := ({ phase := .lock, initial := initial, identDue := initial, step := step, start := start, roundStart := s.now, round := round, tseq := tseq,
                          prev := { step := step }, farSerial := l.farSerial } : Train).say (if initial then tmHello else tmRetrain) [] })

/-- A training begins. -/
def State.beginTrain (s : State) (p : PortIx) (initial keepTaps : Bool) (step : Nat) : State := s.beginRound p initial keepTaps step s.now 0 0 (fresh := true)

/-- The causes of LINK_CAUSE and its tick (R374, R400). -/
def State.setCause (s : State) (p : PortIx) (own far : Nat) (stamp : Bool) : State :=
  s.modLane p (fun l => { l with causeOwn := own, causeFar := far,
                                 eventTick := if stamp then BitVec.ofNat 32 s.podTime else l.eventTick })

/-- RETRAINING entered, with this end's cause and the far end's (R373, R374, R384): pane state is kept (R354). -/
def State.retrainWith (s : State) (p : PortIx) (own far : Nat) : State :=
  if s.serving p then
    let s1 := ((s.modPane p (fun q => { q.stopped with link := .retraining })).setCause p own far true).bump (ctrRetrain p)
    (s1.beginTrain p false true (s.port p).lane.step).modLane p (fun l => { l with lpsState := 0, idleSince := none, lpsSent := false, retrainDue := false })
  else s

/-- RETRAINING for a cause of this end. -/
def State.retrain (s : State) (p : PortIx) (cause : Nat) : State := s.retrainWith p cause 0

/-- TRAINING entered from DOWN (R373). -/
def State.startTraining (s : State) (p : PortIx) (cause : Nat) : State :=
  ((s.modPane p (fun q => { q.stopped with link := .training })).setCause p cause 0 false).beginTrain p true false 0

/-- A node none of whose links is in service any more has no link to a parent: it is UNSYNCED (R306). DEDUCED, log entry 81. -/
def State.loseTime (s : State) : State :=
  if s.time.isMaster || allPorts.any (fun q => (s.port q).pane.link.inService) then s
  else s.modTime (fun t => { t with state := .unsynced, good := 0, holdSince := none, depth := 0xFF })

/-- DOWN entered (R373): an event unless the cause is POWER (R424). -/
def State.enterDown (s : State) (p : PortIx) (cause : Nat) : State :=
  let was := (s.port p).pane.link
  let s1 := (((s.modPane p (fun q => { q.stopped with link := .down })).setCause p cause (s.port p).lane.causeFar (was != .down)).modLane p (fun l =>
    { l with active := 0, width := 0, change := none, spareAt := none, train := {}, downSince := s.now,
             lpsState := if cause = lcPower then l.lpsState else 0 })).loseTime
  if was = .down || cause = lcPower then s1 else s1.linkChanged p false

/-- A CTRL pane queued: bytes 0 to 223 in the making (R357, R387). -/
def State.ctrl (s : State) (p : PortIx) (text : List Byte) : State := s.modPane p (fun q => { q with ctrlDue := q.ctrlDue ++ [text] })

/-- CTRL RESUME, filled in as it is sent (R357). -/
def ctrlResume : List Byte := [0x01]

/-- CTRL OUT_OF_SERVICE (R357). -/
def ctrlOos (node : Nat) : List Byte := [0x04, 0, 0, 0] ++ beBytes 2 node

/-- Changes to the transmit-output disable bits of the engine (R397): the bits of both banks of page 10h are written. -/
def State.txDisable (s : State) (p : PortIx) (off : Bool) : State :=
  s.modLane p (fun l => { (l.modAll (fun _ q => { q with txOff := off })) with
    i3c := l.i3c ++ [.txDisable 0 (if off then 0xFF else 0), .txDisable 1 (if off then 0x1F else 0)] })

/-- CTRL WIDTH_REQ (R387). -/
def ctrlWidthReq (reason usable max : Nat) (serial : Word) : List Byte :=
  [0x10, BitVec.ofNat 8 reason] ++ beBytes 2 usable ++ [BitVec.ofNat 8 max, 0, 0, 0] ++ beBytes 8 serial.toNat

/-- CTRL WIDTH_ACK and WIDTH_GO. -/
def ctrlWidth (code reason active width : Nat) : List Byte :=
  [BitVec.ofNat 8 code, BitVec.ofNat 8 reason] ++ List.replicate 14 0 ++ beBytes 2 active ++ [BitVec.ofNat 8 width]

/-- CTRL LPS_REQ, LPS_ACK and LPS_EXIT. -/
def ctrlLps (code st width : Nat) : List Byte := [BitVec.ofNat 8 code, BitVec.ofNat 8 st, BitVec.ofNat 8 width]

/-- A width change asked for by this end (R388, R389), with its own reason recorded. -/
def State.askWidth (s : State) (p : PortIx) (reason usable max : Nat) : State :=
  (s.ctrl p (ctrlWidthReq reason usable max s.global.serial)).modLane p (fun l =>
    { l with causeOwn := reason, change := some { own := true, reason := reason, max := max, farUsable := 0x1FFF, before := l.active, since := s.now } })

/-- The width cap of a droop level (R478). -/
def droopWidth (level : Nat) : Nat := if level < 2 then 12 else if level = 2 then 6 else 2

/-- Service entered (R373, R358): UP at the target step with width 12, else DEGRADED; resumption begins; a port without a session
starts a handshake (R441), and one with a session reports its return (R424) and its keys are offered (R450). A RETRAIN written
while the port was out of service takes effect now (R400). -/
def State.enterService (s : State) (p : PortIx) : State :=
  let t := (s.port p).lane.train
  let st : LinkState := if t.cfg.width = 12 && t.cfg.step = (s.port p).lane.target then .up else .degraded
  let drop := (s.port p).keys.hasSession && t.noAuthSeen
  let s1 := (s.modPane p (fun q => { q with
      link := st, resuming := true, resetDone := q.blockReset, heardResume := false, lastResume := s.now, ctrlDue := [ctrlResume] ++ (if (s.port p).lane.lpsState = 4 then [ctrlLps 0x15 4 0] else []),
      creditStart := s.now, ackStart := if q.cullet.isEmpty then none else some s.now, ackTimeout := bits q.ctl 15 0, sinceVector := 0 })).modLane p
    (fun l => { l.modAll (fun _ q => { q with lastCount := none, missed := 0, place := 0 }) with
                       active := t.cfg.active, width := t.cfg.width, rxActive := t.cfg.active, rxWidth := t.cfg.width,
                       wide := t.cfg.active, step := t.cfg.step, farSerial := t.farSerial, farUsable := t.farUsable,
                       leader := decide (s.global.serial.toNat < t.farSerial.toNat), train := { t with phase := .idle, msg := none, ans := none },
                       lpsState := 0, lpsOwn := 0, lpsFar := 0, lpsSent := false, idleSince := none, consecUncorr := 0, change := none,
                       eventTick := if st = .degraded then BitVec.ofNat 32 s.podTime else l.eventTick })
  let s2 := s1.modKeys p (fun k => { ((if drop then k.endSession else k).newSegment) with rxSlot := 0 })
  let s3 := s2.modKeys p (fun k => { k with attempts := 0 })
  let s4 := if (s3.port p).keys.hasSession then (s3.linkChanged p true).offerTenant p
    else if (s3.port p).keys.disabled then s3 else s3.startHandshake p
  let s5 := if droopWidth s.power.level < t.cfg.width then s4.askWidth p lcPower (s4.port p).lane.usable (droopWidth s.power.level) else s4
  if (s5.port p).lane.retrainDue then s5.retrain p lcSw else s5

end Sys2Proof.Machine
end

