-- ==== Sys2Proof/Machine/OpsPane.lean ====
section
/-!
DEFINITION. The pane layer (R315 to R362): headers, credits, acknowledgement, pane-state reset, release and dispatch of units, retirement of
keys, VOID fences, packing of units and the choice of the next pane.
-/
namespace Sys2Proof.Machine

/-! ### Headers (R315) -/

def paneType (h : Word) : Nat := bits h 63 60
def paneVc (h : Word) : Nat := bits h 59 56
def paneKey (h : Word) : Nat := bits h 55 52
def paneSeq (h : Word) : Nat := bits h 51 36
def paneAck (h : Word) : Nat := bits h 35 20
def paneCrVc (h : Word) : Nat := bits h 19 16
def paneCrCount (h : Word) : Nat := bits h 15 4
def paneEnc (h : Word) : Bool := bit h 3
def paneAckNow (h : Word) : Bool := bit h 1
def paneSub (h : Word) : Nat := b2n (bit h 0)

/-- The types of R316. -/
def ptData : Nat := 0
def ptAck : Nat := 1
def ptNak : Nat := 2
def ptCtrl : Nat := 3
def ptIdle : Nat := 4
def ptTime : Nat := 5
def ptTrain : Nat := 6
def ptFence : Nat := 7

/-- A header. -/
def mkPaneHdr (type vc key seq ack crvc crcount flags : Nat) : Word :=
  BitVec.ofNat 64 (place type 60 4 + place vc 56 4 + place key 52 4 + place seq 36 16 + place ack 20 16 + place crvc 16 4 +
    place crcount 4 12 + place flags 0 4)

/-- FLAGS (R318). -/
def paneFlags (enc retx ackNow : Bool) (sub : Nat) : Nat := 8 * b2n enc + 4 * b2n retx + 2 * b2n ackNow + sub % 2

/-- The index of a pair of virtual channel and sub-stream. -/
def streamIx (vc sub : Nat) : Nat := 2 * vc + sub % 2

/-! ### Credits (R336 to R341) -/

/-- The counts of one virtual channel. -/
def Pane.vc (q : Pane) (v : Nat) : VcCount := Table.get {} q.vcs v

/-- The counts of one virtual channel changed. -/
def Pane.modVc (q : Pane) (v : Nat) (f : VcCount → VcCount) : Pane := { q with vcs := Table.put {} q.vcs v (f (q.vc v)) }

/-- The twelve virtual channels. -/
def vcIds : List Nat := List.range 12

/-- One credit granted (R340). -/
def VcCount.grant (c : VcCount) : VcCount := { c with ret := (c.ret + 1) % 4096, allot := c.allot + 1, changed := true }

/-- The free shared count (R336). -/
def Pane.freeShared (q : Pane) : Nat := 4096 - (vcIds.map (fun v => (q.vc v).allot)).foldl (· + ·) 0

/-- The next of rising candidates after the one served last, in a circle. -/
def nextInTurn (l : List Nat) (last : Nat) : Option Nat := nextAfter last l

/-- Shared slots granted one at a time, round-robin, to the channels in demand (R340). The first argument bounds the grants: the pool
holds 4,096 slots. -/
def Pane.grantShared : Nat → Pane → Pane
  | 0, q => q
  | n + 1, q =>
    if q.freeShared = 0 then q
    else match nextInTurn (vcIds.filter (fun v => (q.vc v).demand && decide ((q.vc v).allot < (q.vc v).max))) q.grantRr with
      | none => q
      | some v => Pane.grantShared n { q.modVc v VcCount.grant with grantRr := v }

/-- A slot of a channel has come free (R340). -/
def Pane.slotFree (q : Pane) (v : Nat) : Pane :=
  let q1 := q.modVc v (fun c => { c with allot := c.allot - 1 })
  (if (q1.vc v).allot < 32 || (q1.vc v).demand then q1.modVc v VcCount.grant else q1).grantShared 4096

/-- Credits available to the sender (R337). -/
def VcCount.avail (c : VcCount) : Nat := subMod 4096 c.last c.used

/-- A RET value taken (R341): none where it is a protocol error. -/
def Pane.takeRet (q : Pane) (v r : Nat) : Option Pane :=
  let q1 := q.modVc v (fun c => { c with last := r % 4096 })
  if (q.vc v).farMax < subMod 4096 r (q.vc v).used then none
  else if 4096 < (vcIds.map (fun v => (q1.vc v).avail)).foldl (· + ·) 0 then none
  else some q1

/-- RET values taken in order. -/
def Pane.takeRets (q : Pane) (l : List (Nat × Nat)) : Option Pane :=
  l.foldl (fun a e => a.bind (fun x => x.takeRet e.1 e.2)) (some q)

/-- The twelve RET values and DEMAND of a credit vector (R350). -/
def vectorRet (body : List Byte) (v : Nat) : Nat := (beNat (body.take 18) >>> (12 * (11 - v))) % 4096
def vectorDemand (body : List Byte) : Nat := beAt body 18 2 % 4096

/-- The body of a credit vector. -/
def mkVector (rets : List Nat) (demand : Nat) : List Byte :=
  beBytes 18 (rets.foldl (fun a r => a * 4096 + r % 4096) 0) ++ beBytes 2 demand

/-! ### Acknowledgement (R343, R344, R348) -/

/-- The ack timer begins anew while the Cullet holds a pane. -/
def Pane.startAck (q : Pane) (now : Nat) : Pane :=
  { q with ackStart := if q.cullet.isEmpty then none else some now, ackTimeout := bits q.ctl 15 0 }

/-- Every pane below a number retired from the Cullet (R19). -/
def Pane.retireBelow (q : Pane) (n now : Nat) : Pane :=
  ({ q with cullet := q.cullet.filter (fun c => decide (n ≤ c.seq)), ackNext := n, ackExpiries := 0 } : Pane).startAck now

/-- CUMACK taken: none where it names a pane never sent. -/
def Pane.takeAck (q : Pane) (c now : Nat) : Option Pane :=
  let d := subMod 65536 (c + 1) q.ackNext
  if d = 0 || 59392 ≤ d then some q
  else if d ≤ q.txNext - q.ackNext then some (q.retireBelow (q.ackNext + d) now)
  else none

/-- A Cullet pane to be sent again once more; false where it has been sent again 16 times (R347). -/
def Pane.resend (q : Pane) (seq : Nat) (ackNow : Bool) : Pane × Bool :=
  match q.cullet.find? (fun c => c.seq == seq) with
  | none => (q, true)
  | some c =>
    if 16 ≤ c.retx then (q, false)
    else ({ q with cullet := q.cullet.map (fun x => if x.seq = seq then { x with resend := x.resend + 1, ackNow := x.ackNow || ackNow } else x) }, true)

/-! ### Discards -/

/-- A transit message discarded (R23): counted, reported, its slots free. -/
def State.transitDiscard (s : State) (p : PortIx) (key : Nat) (slots : List Nat) : State :=
  ((s.modPane p (fun q => q.leaves slots)).bump (ctrTransit p)).raiseContained (mkReport 0x16 (unit := 0x0B) (pav := key) (engine := p.val))

/-! ### Transit units (R22 to R24) -/

/-- A message is being sent, or the rest of it is still to come. -/
def TxCur.busy (c : TxCur) : Bool := !c.units.isEmpty || !c.whole

/-- The pool slots its unsent units hold. -/
def TxCur.slots (c : TxCur) : List Nat := c.units.map Prod.snd

/-- The units of a queued message, each with its pool slot. -/
def TxMsg.units (m : TxMsg) : List (LinkUnit × Nat) := ((m.msg.hdr :: m.msg.body).zipIdx).map (fun y => (y.1, m.slots.getD y.2 0))

/-- A message that a unit stream of an inbound port is still filling. -/
def TxMsg.fills (m : TxMsg) (p : PortIx) (stream : Nat) : Bool := m.inbound == p.val + 1 && !m.whole && m.inStream == stream
def TxCur.fills (c : TxCur) (p : PortIx) (stream : Nat) : Bool := c.inbound == p.val + 1 && !c.whole && c.inStream == stream

/-- The port that has such a message. -/
def State.filledPort (s : State) (p : PortIx) (stream : Nat) : Option PortIx :=
  allPorts.find? (fun o => (s.port o).pane.txq.any (fun m => m.fills p stream) || (s.port o).pane.cur.any (fun e => e.2.fills p stream))

/-- A VOID fence due on a sub-stream whose message in progress will not go on: it abandons the message at the far end (R324, R362).
DESIGN CHOICE, log entry 164. -/
def Pane.voidDue (q : Pane) (ix : Nat) : Pane := { q with fences := q.fences ++ [{ vc := ix / 2, key := 0, teardownId := 0, sub := ix % 2, void := true }] }

/-- Messages being sent dropped: their slots are left, and VOID fences follow their units. -/
def State.cutSending (s : State) (o : PortIx) (f : TxCur → Bool) : State :=
  let cut := (s.port o).pane.cur.filter (fun e => e.2.busy && f e.2)
  let s1 := s.modPane o (fun q => cut.foldl (fun a e => a.voidDue e.1) { q with cur := q.cur.filter (fun e => !(e.2.busy && f e.2)) })
  cut.foldl (fun a e => a.leaveIn e.2.inbound e.2.slots) s1

/-- Queued messages dropped: their slots are left. -/
def State.cutQueued (s : State) (o : PortIx) (f : TxMsg → Bool) : State :=
  let cut := (s.port o).pane.txq.filter f
  cut.foldl (fun a m => a.leaveIn m.inbound m.slots) (s.modPane o (fun q => { q with txq := q.txq.filter (fun m => !f m) }))

/-- The transit message that a unit stream is filling dropped: no more of it will come. -/
def State.cutTransit (s : State) (p : PortIx) (stream : Nat) : State :=
  match s.filledPort p stream with
  | none => s
  | some o => (s.cutQueued o (fun m => m.fills p stream)).cutSending o (fun c => c.fills p stream)

/-- Transit messages of a key index retired at their inbound port discarded as they reach the head of their queue, which has the messages of one
virtual channel and inbound port (R351). -/
def State.sweepTransit (s : State) (o : PortIx) : State :=
  let q := (s.port o).pane.txq
  (s.cutQueued o (fun m => m.dead && q.all (fun e => !(e.vc == m.vc && e.inbound == m.inbound && !e.dead)))).cutSending o (fun c => c.dead)

/-- Transit messages of a port that holds no transmit key for them any more discarded, counted and reported (R23). -/
def State.dropKeyless (s : State) (o : PortIx) (keys : List Nat) : State :=
  let out := (s.port o).pane.txq.filter (fun m => m.inbound != 0 && m.key ∈ keys)
  let cut := (s.port o).pane.cur.filter (fun e => e.2.busy && e.2.inbound != 0 && e.2.key ∈ keys)
  let s1 := s.modPane o (fun q => { q with
    txq := q.txq.filter (fun m => !(m.inbound != 0 && m.key ∈ keys)),
    cur := q.cur.filter (fun e => !(e.2.busy && e.2.inbound != 0 && e.2.key ∈ keys)) })
  let gone := out.map (fun m => (m.inbound, m.key, m.slots)) ++ cut.map (fun e => (e.2.inbound, e.2.key, e.2.slots))
  gone.foldl (fun a e => if h : e.1 - 1 < 6 then a.transitDiscard ⟨e.1 - 1, h⟩ e.2.1 e.2.2 else a) s1

/-! ### Pane-state reset (R359) -/

/-- The PL_ID after one: it is never 0 (R356). -/
def nextPlId (i : BitVec 32) : BitVec 32 := if i + 1 = 0 then 1 else i + 1

/-- The pane state of a port begun anew. -/
def Pane.reset (q : Pane) : Pane :=
  let kept := q.slots.filter (fun t => !t.waiting)
  let q1 : Pane := { q with
    cullet := [], held := [], slots := kept, gaps := [], nakDue := [], ackNext := q.txNext, parse := [], cur := [], ackStart := none, ackExpiries := 0,
    fences := q.fences.filter (fun f => !f.void)
    plId := nextPlId q.plId, anew := true }
  vcIds.foldl (fun a v => a.modVc v (fun c =>
    { c with used := 0, last := 0, ret := 0, changed := false, demand := false, allot := (kept.filter (fun t => t.vc == v)).length,
             max := bits (if v < 4 then q.vcMax0 else if v < 8 then q.vcMax1 else q.vcMax2) (16 * (v % 4) + 11) (16 * (v % 4)) })) q1

/-- A pane-state reset: discards counted, messages in progress abandoned (R324), their slots left. -/
def State.paneReset (s : State) (p : PortIx) : State :=
  let q := (s.port p).pane
  let cut := (q.parse.filter (fun e => e.2.hdr.isSome)).length
  let left := q.parse.flatMap (fun e => e.2.slots)
  let sending := q.cur.filter (fun e => e.2.busy)
  let s0 := q.parse.foldl (fun a e => a.cutTransit p e.1) s
  let s1 := sending.foldl (fun a e => a.leaveIn e.2.inbound e.2.slots) s0
  (s1.modPane p (fun q => (q.leaves left).reset)).bumpN (ctrPlDiscard p) (q.cullet.length + q.held.length + cut + sending.length)

/-- A protocol error (R333). -/
def State.protocolError (s : State) (p : PortIx) : State := ((s.bump (ctrProtoErr p)).paneReset p).retrain p lcProtocol

/-! ### Release of units (R22 to R24, R324, R333, R346) -/

/-- Where a message that arrived on a port goes (R22): 6 to this node, 7 to no node of the pod. -/
def State.hopOf (s : State) (p : PortIx) (hdr : LinkUnit) : Nat :=
  match s.topo.install with
  | none => if hdrDest hdr = s.topo.node then 6 else 7
  | some t => nextPort t s.topo.node (hdrDest hdr) (some p.val)

/-- A whole message given to its consumer; one of a retired key index is discarded at the head of its queue (R351). -/
def State.deliver (s : State) (p : PortIx) (vc key : Nat) (m : Msg) (slots : List Nat) (dead : Bool) : State :=
  ((s.modPane p (fun q => { q with rxMsgs := q.rxMsgs ++ [(vc, {
    msg := m, key := key, slots := slots, dead := dead || q.retired.getLsbD key })] })).activity key).swept p

/-- The header unit of a transit message queued on its next port (R22), or discarded for want of a key (R23). -/
def State.startTransit (s : State) (p : PortIx) (vc sub key slot : Nat) (u : LinkUnit) (whole : Bool) : State :=
  let np := s.hopOf p u
  if (s.port p).pane.retired.getLsbD key then s.modPane p (fun q => q.leaves [slot])
  else if h : np < 6 then
    if ((s.port ⟨np, h⟩).keys.tx key).isNone then s.transitDiscard p key [slot]
    else
      let b := s.topo.install.any (fun t => datelineBit t s.topo.node np (some (p.val, vc % 2 == 1)))
      (s.modPane ⟨np, h⟩ (fun q => { q with txq := q.txq ++ [{
        msg := { hdr := u }, vc := 2 * (vc / 2) + b2n b, key := key, sub := 1, inbound := p.val + 1, inStream := streamIx vc sub, slots := [slot],
        whole := whole }] })).belvAdd 16 (belvId (np + 1) 34) 1
  else s.transitDiscard p key [slot]

/-- A later unit of a transit message queued behind those before it; one whose message was discarded leaves its slot. -/
def State.moreTransit (s : State) (p : PortIx) (stream slot : Nat) (u : LinkUnit) (whole : Bool) : State :=
  match s.filledPort p stream with
  | none => s.modPane p (fun q => q.leaves [slot])
  | some o => (s.modPane o (fun q => { q with
      txq := q.txq.map (fun m => if m.fills p stream then
        { m with msg := { m.msg with body := m.msg.body ++ [u] }, slots := m.slots ++ [slot], whole := whole } else m),
      cur := q.cur.map (fun e => if e.2.fills p stream then (e.1, { e.2 with units := e.2.units ++ [(u, slot)], whole := whole }) else e) })).belvAdd 16
        (belvId (o.val + 1) 34) 1

/-- The result of taking one unit into a parse state: a state and a message that is whole, padding, or an error. -/
inductive UnitStep where
  | more (st : ParseState)
  | whole (st : ParseState) (m : Msg) (slots : List Nat)
  | padding
  | error
  deriving DecidableEq, Repr

/-- A slot noted with a message, once. -/
def noteSlot (l : List Nat) (n : Nat) : List Nat := if n ∈ l then l else l ++ [n]

/-- One unit taken (R323, R325, R333). DEDUCED, log entry 89. -/
def ParseState.take (st : ParseState) (key slot : Nat) (u : LinkUnit) : UnitStep :=
  match st.hdr with
  | none =>
    if !hdrOk u then .error
    else if bits u 127 124 = kPad then .padding
    else match unitsAfter u none with
      | none => .error
      | some 0 => .whole {} { hdr := u } [slot]
      | some n => .more { key := key, hdr := some u, need := n, slots := [slot] }
  | some h =>
    let body := st.body ++ [u]
    let m : Msg := { hdr := h, body := body }
    let need := (unitsAfter h body.head?).getD 0
    if body.length < need then .more { st with body := body, need := need, slots := noteSlot st.slots slot }
    else if argsOk m then .whole {} m (noteSlot st.slots slot) else .error

/-- The slot gains a message that has units in it. -/
def Pane.enters (q : Pane) (slot : Nat) : Pane := { q with slots := q.slots.map (fun t => if t.seq = slot then { t with left := t.left + 1 } else t) }

/-- The units of a released pane taken one by one, and whether the stream could be parsed: units for this node make up messages, each of another node
is queued at once (R22). -/
def State.takeUnits (p : PortIx) (vc sub key slot : Nat) : List LinkUnit → State → State × Bool
  | [], s => (s, true)
  | u :: r, s =>
    let st := Table.get ({} : ParseState) (s.port p).pane.parse (streamIx vc sub)
    let put := fun (v : ParseState) (s : State) =>
      s.modPane p (fun q => { q with parse := Table.put {} q.parse (streamIx vc sub) v })
    let own := s.hopOf p (st.hdr.getD u) == 6
    let s1 := if own && slot ∈ st.slots then s else s.modPane p (fun q => q.enters slot)
    let pass := fun (whole : Bool) => if st.hdr.isNone then s1.startTransit p vc sub key slot u whole else s1.moreTransit p (streamIx vc sub) slot u whole
    match st.take key slot u with
    | .error => (s, false)
    | .padding => (s, r.all (fun x => x == 0))
    | .more v => State.takeUnits p vc sub key slot r (if own then put v s1 else put { v with slots := [] } (pass false))
    | .whole v m slots => State.takeUnits p vc sub key slot r (if own then (put v s1).deliver p vc key m slots st.dead else put v (pass true))

/-- A message in progress abandoned (R324): its units leave, and one of a retired key index whose header is a request is answered (R454). -/
def State.abandon (s : State) (p : PortIx) (vc sub : Nat) : State :=
  let ix := streamIx vc sub
  let st := Table.get ({} : ParseState) (s.port p).pane.parse ix
  match st.hdr with
  | none => s
  | some h =>
    let s1 := ((s.cutTransit p ix).modPane p (fun q => { q with parse := Table.put {} q.parse ix {} })).bump (ctrPlDiscard p)
    if st.dead then s1.retiredMsg p h st.slots else s1.modPane p (fun q => q.leaves st.slots)

/-- A message in progress of a key index abandoned on both sub-streams of a virtual channel: its RETIRE fence says that no more of it comes.
DEDUCED, log entry 62. -/
def State.abandonKey (s : State) (p : PortIx) (vc key : Nat) : State :=
  [0, 1].foldl (fun a sub =>
    let st := Table.get ({} : ParseState) (a.port p).pane.parse (streamIx vc sub)
    if st.hdr.isSome && st.key == key then a.abandon p vc sub else a) s

/-- The key slots promoted when RX_NEXT has passed S (R445). -/
def PortKeys.promote (k : PortKeys) (rxNext : Nat) : PortKeys :=
  k.idx.keys.foldl (fun a i =>
    let e := a.index i
    match e.switchAt with
    | some n => if n < rxNext && e.rxNext.isSome then a.modIndex i (fun x => { x with rxCur := x.rxNext, rxNext := none, switchAt := none }) else a
    | none => a) k

/-- A slot taken out of the pool at once (R362). -/
def Pane.dropSlot (q : Pane) (seq vc : Nat) : Pane := ({ q with slots := q.slots.filter (fun t => t.seq != seq) } : Pane).slotFree vc

/-- One held pane released (R346). A pane of which nothing is read, under a retired or unkeyed index, cuts off the message in progress (R324). -/
def State.releaseOne (s : State) (p : PortIx) (h : HeldPane) : State :=
  let s1 := (s.modPane p (fun q => { q with
      held := q.held.filter (fun x => x.seq != h.seq), rxNext := q.rxNext + 1, gaps := q.gaps.filter (fun g => g.1 != h.seq),
      slots := q.slots.map (fun t => if t.seq = h.seq then { t with waiting := false } else t) })).modKeys p
    (fun k => k.promote ((s.port p).pane.rxNext + 1))
  match h.body with
  | none => s1.abandon p h.vc h.sub
  | some body =>
    if h.fence then
      let key := (body.getD 1 0).toNat
      (if body.headD 0 = 0x02 then s1.abandon p h.vc h.sub else s1.abandonKey p h.vc key).modPane p (fun q =>
        { q with slots := q.slots.map (fun t => if t.seq = h.seq then { t with fenceKey := some key } else t) })
    else
      let st := Table.get ({} : ParseState) (s1.port p).pane.parse (streamIx h.vc h.sub)
      let s2 := if st.hdr.isSome && st.key != h.key then s1.abandon p h.vc h.sub else s1
      let r := s2.takeUnits p h.vc h.sub h.key h.seq (unitsOf (body.length / 16) body)
      if r.2 then r.1 else r.1.protocolError p

/-- Every pane that can be released, in extended sequence order. The first argument is fuel: the panes held. -/
def State.release (p : PortIx) : Nat → State → State
  | 0, s => s
  | n + 1, s =>
    match (s.port p).pane.held.find? (fun h => h.seq == (s.port p).pane.rxNext) with
    | none => s
    | some h => State.release p n (s.releaseOne p h)

/-! ### Reception of sequenced panes (R321, R345, R347, R351, R451) -/

/-- What a received sequence number is (R345). -/
inductive SeqClass where
  | new (n : Nat)
  | dup
  | outside
  deriving DecidableEq, Repr

/-- The class of a sequence number. -/
def Pane.seqClass (q : Pane) (seq : Nat) : SeqClass :=
  let d := subMod 65536 seq q.rxNext
  if d < 6144 then (if q.held.any (fun h => h.seq == q.rxNext + d) then .dup else .new (q.rxNext + d))
  else if 59392 ≤ d then .dup
  else .outside

/-- The lowest gaps, up to eight, not yet reported are to be reported (R347). -/
def Pane.reportGaps (q : Pane) (now : Nat) : Pane :=
  let top := q.held.foldl (fun a h => max a h.seq) 0
  let open_ := ((List.range (top - q.rxNext)).map (fun i => q.rxNext + i)).filter (fun n =>
    !q.held.any (fun h => h.seq == n) && !q.gaps.any (fun g => g.1 == n))
  let l := open_.take 8
  { q with gaps := q.gaps ++ l.map (fun n => (n, now)), nakDue := q.nakDue ++ l }

/-- CUMACK and the RET value of a DATA, FENCE or CTRL pane (R337, R344): none where one is a protocol error. -/
def Pane.takeFields (q : Pane) (h : Word) (now : Nat) : Option Pane :=
  (q.takeAck (paneAck h) now).bind (fun x => if paneCrVc h < 12 then x.takeRet (paneCrVc h) (paneCrCount h) else some x)

/-- A pane held under a key index that is retired or has no key: no slot, its credit returned, released empty (R351). -/
def State.holdEmpty (s : State) (p : PortIx) (n : Nat) (h : Word) : State :=
  let s1 := (s.modPane p (fun q => { (q.modVc (paneVc h) (fun c => { c with ret := (c.ret + 1) % 4096, changed := true })) with
    ackDue := q.ackDue || paneAckNow h,
    held := q.held ++ [{ seq := n, fence := false, vc := paneVc h, key := paneKey h, sub := paneSub h, body := none }] })).bump (ctrRetired p)
  State.release p (s1.port p).pane.held.length (s1.modPane p (fun q => q.reportGaps s.now))

/-- A new pane that passed its checks (R339, R345): a slot is taken, its fields are acted on, and what can be released is released. -/
def State.holdPane (s : State) (p : PortIx) (n : Nat) (h : Word) (fence : Bool) (body : List Byte) : State :=
  if 4096 ≤ (s.port p).pane.slots.length then s.protocolError p
  else match (s.port p).pane.takeFields h s.now with
    | none => s.protocolError p
    | some q =>
      let s1 := s.modPane p (fun _ => { q with
        slots := q.slots ++ [{ seq := n, vc := paneVc h }], ackDue := q.ackDue || paneAckNow h,
        held := q.held ++ [{ seq := n, fence := fence, vc := paneVc h, key := paneKey h, sub := paneSub h, body := some body }] })
      State.release p (s1.port p).pane.held.length (s1.modPane p (fun q => q.reportGaps s.now))

/-- A retransmission counted (R318). -/
def Pane.countRetx (q : Pane) (h : Word) : Pane := { q with rxRetx := q.rxRetx + b2n (bit h 2) }

/-- A DATA pane (R345). DEDUCED, log entry 86. -/
def State.takeData (s0 : State) (p : PortIx) (x : RxPane) : State :=
  let s := s0.modPane p (fun q => q.countRetx x.hdr)
  let q := (s.port p).pane
  let h := x.hdr
  if 12 ≤ paneVc h then s.protocolError p
  else match q.seqClass (paneSeq h) with
    | .outside => s.protocolError p
    | .dup => (s.modPane p (fun q => { q with ackDue := true })).bump (ctrDup p)
    | .new n =>
      if q.retired.getLsbD (paneKey h) then s.holdEmpty p n h
      else if ((s.port p).keys.rx (paneKey h)).isEmpty then
        ((s.holdEmpty p n h).bump ctrNoKey).raiseContained (mkReport 0x1B (unit := 0x0C) (pav := paneKey h) (engine := p.val))
      else match (s.port p).keys.openData (paneKey h) n h (paneEnc h) x.body with
        | none => s.bump (ctrBadDrop p)
        | some units => s.holdPane p n h false units

/-- A FENCE pane (R321, R345, R353). -/
def State.takeFence (s0 : State) (p : PortIx) (x : RxPane) : State :=
  let s := s0.modPane p (fun q => q.countRetx x.hdr)
  let q := (s.port p).pane
  let h := x.hdr
  let code := (x.body.headD 0).toNat
  let key := (x.body.getD 1 0).toNat
  if 12 ≤ paneVc h then s.protocolError p
  else match q.seqClass (paneSeq h) with
    | .outside => s.protocolError p
    | .dup => (s.modPane p (fun q => { q with ackDue := true })).bump (ctrDup p)
    | .new n =>
      if !(s.port p).keys.fenceOk (code == 2) n h x.body then s.bump (ctrBadDrop p)
      else if (code == 1 && 1 ≤ key && key ≤ 15) || (code == 2 && key == 0) then s.holdPane p n h true (x.body.take 224)
      else s.protocolError p

/-- The head of the panes waiting for the step of their type, when it has a type. -/
def State.rxHead (s : State) (p : PortIx) (type : Nat) : Option RxPane :=
  match (s.port p).pane.rxq with
  | [] => none
  | x :: _ => if paneType x.hdr = type then some x else none

/-- The head taken off. -/
def State.rxPop (s : State) (p : PortIx) : State := s.modPane p (fun q => { q with rxq := q.rxq.drop 1 })

/-- Between a pane-state reset and the end of resumption, a sequenced pane has no place in the window, and CUMACK and credit reports still
count from the pane state before (DEDUCED, log entry 17). -/
def State.early (s : State) (p : PortIx) : Bool := (s.port p).pane.resuming && (s.port p).pane.anew

/-- A pane that is not sequenced, its tag checked (R321, R436), and its CUMACK and credit fields taken. `f` is what its body does; a pane
whose tag fails is discarded and counted (DEDUCED, log entry 16). -/
def State.takeControl (s : State) (p : PortIx) (x : RxPane) (f : State → State) : State :=
  match (s.port p).keys.segOf x.hdr x.slot x.body with
  | none => s.bump (ctrBadDrop p)
  | some g =>
    let s1 := s.modKeys p (fun k => { k with rxSeg := BitVec.ofNat 16 g })
    if s1.early p then f s1
    else match (s1.port p).pane.takeFields x.hdr s.now with
      | none => s1.protocolError p
      | some q => f (s1.modPane p (fun _ => { q with ackDue := q.ackDue || paneAckNow x.hdr }))

/-- The step of a received pane: the head, of the type named, is taken off and handled while the port is in service. -/
def State.takePane (s : State) (p : PortIx) (type : Nat) (f : RxPane → State → State) : State :=
  match s.rxHead p type with
  | none => s
  | some x => if s.serving p then f x (s.rxPop p) else s.rxPop p

/-- The CTRL pane at the head, when it has a code. -/
def State.ctrlHead (s : State) (p : PortIx) (code : Nat) : Bool :=
  match s.rxHead p ptCtrl with
  | none => false
  | some x => (x.body.headD 0).toNat == code

/-! ### Retirement (R351, R352, R355, R454) and VOID fences (R362, R455) -/

/-- What a port sends on from another, whose key index was retired there, is marked. -/
def Pane.markDead (q : Pane) (p : PortIx) (key : Nat) : Pane :=
  { q with
    txq := q.txq.map (fun m => if m.inbound = p.val + 1 && m.key = key then { m with dead := true } else m),
    cur := q.cur.map (fun e => if e.2.busy && e.2.inbound = p.val + 1 && e.2.key = key then (e.1, { e.2 with dead := true }) else e) }

/-- A key index retired for reception (R351): added to the retired set; its units still in the pool, for this node and for others, are marked, and go
as they reach the head of their queue. DEDUCED, log entry 62. -/
def State.retireRx (s : State) (p : PortIx) (key : Nat) : State :=
  let s1 := s.modPane p (fun q => { q with
    retired := q.retired ||| (1#16 <<< key),
    rxMsgs := q.rxMsgs.map (fun m => if m.2.key = key then (m.1, { m.2 with dead := true }) else m),
    parse := q.parse.map (fun e => if e.2.hdr.isSome && e.2.key = key then (e.1, { e.2 with dead := true }) else e) })
  allPorts.foldl (fun a o => (a.modPane o (fun q => q.markDead p key)).sweepTransit o) (s1.swept p)

/-- The units of key indices queued for a port and not yet packed discarded, transit units in other ports' pools among them (R352, R362), and their
number. What a message discarded here still has to come is discarded as it comes. -/
def State.discardQueued (s : State) (p : PortIx) (ok : Nat → Bool) : State × Nat :=
  let q := (s.port p).pane
  let out := q.txq.filter (fun m => ok m.key)
  let cut := q.cur.filter (fun e => e.2.busy && ok e.2.key)
  let s1 := s.modPane p (fun q => { q with txq := q.txq.filter (fun m => !ok m.key),
                                           cur := q.cur.filter (fun e => !(e.2.busy && ok e.2.key)) })
  let s2 := out.foldl (fun a m => a.leaveIn m.inbound m.slots) s1
  let s3 := cut.foldl (fun a e => a.leaveIn e.2.inbound e.2.slots) s2
  (s3, (out.map (fun m => 1 + m.msg.body.length)).foldl (· + ·) 0 + (cut.map (fun e => e.2.units.length)).foldl (· + ·) 0)

/-- A key index retired for transmission: queued units discarded and counted, twelve RETIRE fences due (R352). -/
def State.retireTx (s : State) (p : PortIx) (key id : Nat) : State :=
  let r := s.discardQueued p (fun k => k == key)
  (r.1.modPane p (fun q => { q with fences := q.fences ++ vcIds.map (fun v => { vc := v, key := key, teardownId := id }) })).bumpN (ctrPlDiscard p) r.2

/-- The text of a FENCE (R353). -/
def fenceText (code key id : Nat) : List Byte := [BitVec.ofNat 8 code, BitVec.ofNat 8 key, 0, 0] ++ beBytes 4 id

/-- Cullet panes of key indices replaced by VOID fences (R362): the number replaced. -/
def State.voidCullet (s : State) (p : PortIx) (ok : Nat → Bool) : State × Nat :=
  let k := (s.port p).keys.tx 0
  let q := (s.port p).pane
  let swap := fun (c : CulletPane) =>
    if c.void || !ok c.key then c
    else
      let h := mkPaneHdr ptFence c.vc 0 c.seq 0 0 0 0
      let body := match k with
        | some key => key.fenceBody true c.seq h (fenceText 2 0 0)
        | none => padTo 240 (fenceText 2 0 0)
      { c with fence := true, key := 0, enc := false, body := body, void := true }
  (s.modPane p (fun q => { q with cullet := q.cullet.map swap }), (q.cullet.filter (fun c => !c.void && ok c.key)).length)

/-! ### Packing (R323, R334, R335) -/

/-- Whether a queued message can be granted transmission: its data is in, its key serves, and it does not pass an earlier message of its
stream that waits (R54). -/
def TxMsg.grantable (m : TxMsg) (earlier : List TxMsg) (ok : Nat → Bool) : Bool :=
  m.ready && ok m.key && !(hdrOrd m.msg.hdr && m.stream != 0 && earlier.any (fun e =>
    !e.ready && e.stream == m.stream && e.vc == m.vc && hdrDest e.msg.hdr == hdrDest m.msg.hdr))

/-- The queued messages that can be granted on a virtual channel and sub-stream, with their places. -/
def grantables (vc sub : Nat) (ok : Nat → Bool) : List TxMsg → List TxMsg → List TxMsg
  | _, [] => []
  | e, m :: r => if m.vc = vc && m.sub = sub && m.grantable e ok then m :: grantables vc sub ok (e ++ [m]) r else grantables vc sub ok (e ++ [m]) r

/-- A message may begin where a body has room for so many units: all of it has come, or enough to fill the body. A body ends with PAD only between
messages, since a message's units are contiguous (R323). DEDUCED, log entry 91. -/
def TxMsg.startable (m : TxMsg) (room : Nat) : Bool := m.whole || decide (room ≤ 1 + m.msg.body.length)

/-- The next message of a virtual channel and sub-stream: in order, transit messages round-robin by inbound port (R334). -/
def Pane.nextMsg (q : Pane) (ok : Nat → Bool) (vc sub : Nat) (room : Nat := 15) : Option TxMsg :=
  let l := (grantables vc sub ok [] q.txq).filter (fun m => m.startable room)
  if sub = 0 then l.head?
  else
    let ports := ((List.range 7).filter (fun i => l.any (fun m => m.inbound == i)))
    match nextInTurn ports (Table.get 0 q.rrIn (streamIx vc sub)) with
    | none => none
    | some i => l.find? (fun m => m.inbound == i)

/-- The message being sent on a pair. -/
def Pane.sending (q : Pane) (vc sub : Nat) : TxCur := Table.get {} q.cur (streamIx vc sub)

/-- Whether a pair has a unit ready under a key that serves. -/
def Pane.hasUnit (q : Pane) (ok : Nat → Bool) (vc sub : Nat) : Bool :=
  let c := q.sending vc sub
  if c.busy then ok c.key && (c.whole || decide (15 ≤ c.units.length)) else (q.nextMsg ok vc sub).isSome

/-- An L_DONE, which leaves as the first pane under the session key (R441). -/
def Msg.isDone (m : Msg) : Bool := bits m.hdr 127 124 == kMgmt && mgmtType m.hdr == 1 && bits (m.body.getD 0 0) 127 120 == 5

/-- Units packed into one body: units so far, and the slots that transit units leave (R24). The first argument is fuel. -/
def Pane.pack (ok : Nat → Bool) (vc sub key : Nat) : Nat → Nat → Pane → List LinkUnit → List (Nat × List Nat) → Pane × List LinkUnit × List (Nat × List Nat)
  | 0, _, q, acc, out => (q, acc, out)
  | f + 1, room, q, acc, out =>
    if room = 0 then (q, acc, out)
    else
      let c := q.sending vc sub
      match c.units with
      | [] => match (if c.whole then q.nextMsg (fun k => k == key && ok k) vc sub room else none) with
        | none => (q, acc, out)
        | some m =>
          if m.msg.isDone && !acc.isEmpty then (q, acc, out)
          else Pane.pack ok vc sub key f room { q with
            txq := q.txq.erase m, rrIn := Table.put 0 q.rrIn (streamIx vc sub) m.inbound,
            cur := Table.put {} q.cur (streamIx vc sub)
              { key := m.key, units := m.units, inbound := m.inbound, inStream := m.inStream, whole := m.whole, dead := m.dead } } acc out
      | u :: r =>
        if c.key = key then
          Pane.pack ok vc sub key f (room - 1) { q with cur := Table.put {} q.cur (streamIx vc sub) (if r.isEmpty && c.whole then {} else { c with units := r }) }
            (acc ++ [u.1]) (out ++ [(c.inbound, [u.2])])
        else (q, acc, out)

/-- The key of the next pane of a pair. -/
def Pane.nextKey (q : Pane) (ok : Nat → Bool) (vc sub : Nat) : Nat :=
  if (q.sending vc sub).busy then (q.sending vc sub).key else ((q.nextMsg ok vc sub).map TxMsg.key).getD 0

/-! ### Panes sent -/

/-- The width of the stream a port sends: one codeword stream per lane in training (R376). -/
def Port.streamWidth (q : Port) : Nat := if q.pane.link.inService then max 1 q.lane.width else 1

/-- Codeword slots between markers (R370). -/
def Port.markerSlots (q : Port) : Nat := markerPeriod q.pane.link.inService * q.streamWidth

/-- The lanes that carry a port's own codewords: the active ones in service, those under test in test (R399), every lane in training (R376). -/
def Port.carrying (q : Port) : List Nat :=
  bitsSet 13 (if q.pane.link.inService then q.lane.active else if q.lane.testing then bits q.lane.testCtl 28 16 else 0x1FFF)

/-- The levels that lanes put out for bytes (R365). -/
def Port.symbols (q : Port) (lanes : Nat) (bytes : List Byte) : TxItem := .symbols lanes (bytes.flatMap (laneLevels q.lane.step))

/-- The markers a port sends before a codeword slot (R370): one on each lane, where one is due. -/
def Port.markersAt (q : Port) : List TxItem :=
  if q.keys.slot % q.markerSlots = 0 then
    let act := bitsSet 13 q.lane.active
    laneIds.flatMap (fun k =>
      let m := mkMarker k (if q.pane.link.inService then (act.findIdx? (fun x => x == k)).getD 0xFF else 0) q.streamWidth q.lane.step
        q.pane.link.inService (q.keys.slot / q.markerSlots)
      [.marker k m, q.symbols (1 <<< k) m])
  else []

/-- Bytes of the stream put on the lanes from the position of the next codeword slot on (R365, R366, R368): in service each on its logical lane, else
all on every lane that carries the stream. -/
def Port.stripe (q : Port) (bytes : List Byte) : List TxItem × List Nat :=
  let w := q.streamWidth
  let n := q.keys.slot % q.markerSlots
  let r := scrambleStream w (272 * n) (if n = 0 then scrambleStarts w else q.lane.txScr) bytes
  let on := q.carrying
  if q.pane.link.inService then
    ((List.range w).map (fun i => q.symbols (1 <<< on.getD i 0) ((r.1.filter (fun x => x.1 == i)).map Prod.snd)), r.2)
  else ([q.symbols (maskOf on) (r.1.map Prod.snd)], r.2)

/-- A pane sent (R315, R319, R367): its CRC-64 and parity, in the next codeword slot. -/
def State.emit (s : State) (p : PortIx) (h : Word) (body : List Byte) (badCrc : Bool := false) : State :=
  let t := beBytes 8 h.toNat ++ body
  let c := crc64 t
  let w := fecEncode (t ++ beBytes 8 (if badCrc then (2 ^ 64 - 1) ^^^ c else c))
  let x := (s.port p).stripe w
  ((((s.modPane p (fun q => { q with sent := q.sent ++ (s.port p).markersAt ++ [.codeword w] ++ x.1, sinceVector := q.sinceVector + 1 })).modLane p
    (fun l => { l with txScr := x.2 })).modKeys p (fun k => { k with slot := k.slot + 1 })).belvAdd 16 (belvId (p.val + 1) 32) 1)

/-- A codeword slot of a port in P1 (R392): no codeword, and the markers go on. -/
def State.silentSlot (s : State) (p : PortIx) : State :=
  (s.modPane p (fun q => { q with sent := q.sent ++ (s.port p).markersAt })).modKeys p (fun k => { k with slot := k.slot + 1 })

/-- The rest of the row of W bytes filled with zero bytes (R390). -/
def State.fillRow (s : State) (p : PortIx) : State :=
  let q := s.port p
  let w := q.streamWidth
  let n := q.keys.slot % q.markerSlots
  let m := 272 * n % w
  if m = 0 then s
  else
    let x := q.stripe (List.replicate (w - m) 0)
    s.modPane p (fun e => { e with sent := e.sent ++ x.1 })

/-- The RET value the next DATA, FENCE or CTRL pane carries (R337), and the state after it is reported. -/
def Pane.reportRet (q : Pane) : Pane × Nat × Nat :=
  match nextInTurn (vcIds.filter (fun v => (q.vc v).changed)) q.crRot with
  | none => (q, 0xF, 0)
  | some v => ({ q.modVc v (fun c => { c with changed := false }) with crRot := v }, v, (q.vc v).ret)

/-- CUMACK (R344). -/
def Pane.cumAck (q : Pane) : Nat := (q.rxNext + 65535) % 65536

/-- A pane that is not sequenced sent under key index 0 (R321). -/
def State.sendControl (s : State) (p : PortIx) (type : Nat) (crvc crcount : Nat) (text : List Byte) : State :=
  let q := s.port p
  let h := mkPaneHdr type 0 0 0 q.pane.cumAck crvc crcount 0
  let body := match q.keys.tx 0 with
    | some k => k.ctlBody q.keys.seg.toNat q.keys.slot h text
    | none => padTo 240 text
  (s.modKeys p (fun k => k.modIndex 0 KeyIndex.used)).emit p h body

/-- DEMAND (R337): channels with a unit ready and fewer than 16 credits. -/
def State.demand (s : State) (p : PortIx) (ok : Nat → Bool) : Nat :=
  let q := (s.port p).pane
  maskOf (vcIds.filter (fun v => decide ((q.vc v).avail < 16) && (q.hasUnit ok v 0 || q.hasUnit ok v 1)))

/-- Keys under which a port sends DATA panes: installed, and not held by a rotation that overran (R444, R451). -/
def State.keyServes (s : State) (p : PortIx) (k : Nat) : Bool := ((s.port p).keys.tx k).isSome && !(s.port p).pane.stalled.getLsbD k

/-- A credit vector sent in an ACK or IDLE pane (R337, R342). -/
def State.sendVector (s : State) (p : PortIx) (type : Nat) : State :=
  let q := (s.port p).pane
  (s.modPane p (fun q => { (vcIds.foldl (fun a v => a.modVc v (fun c => { c with changed := false })) q) with
      ackDue := if type = ptAck then false else q.ackDue })).sendControl p type 0xF 0
    (mkVector (vcIds.map (fun v => (q.vc v).ret)) (s.demand p (s.keyServes p))) |>.modPane p (fun q => { q with sinceVector := 0 })

/-- RESUME (R357). -/
def State.resumeText (s : State) (p : PortIx) : List Byte :=
  let q := (s.port p).pane
  [0x01, BitVec.ofNat 8 (b2n q.heardResume), 0, 0] ++ beBytes 4 q.plId.toNat ++ beBytes 4 q.farPlId.toNat ++ beBytes 8 q.rxNext ++ beBytes 8 q.txNext ++
    beBytes 18 ((vcIds.map (fun v => (q.vc v).max)).foldl (fun a r => a * 4096 + r % 4096) 0)

/-- A sequenced pane written into the Cullet and sent for the first time (R321, R322, R338, R343). -/
def State.sendNew (s : State) (p : PortIx) (fence : Bool) (vc key sub : Nat) (enc : Bool) (body : List Byte) (badCrc badTag : Bool) : State :=
  let q := (s.port p).pane
  let r := q.reportRet
  let h := mkPaneHdr (if fence then ptFence else ptData) vc key q.txNext q.cumAck r.2.1 r.2.2 (paneFlags enc false false sub)
  let c : CulletPane := { seq := q.txNext, fence := fence, vc := vc, key := key, sub := sub, enc := enc, body := body }
  let s1 := s.modPane p (fun _ =>
    let q1 := (r.1.modVc vc (fun c => { c with used := (c.used + 1) % 4096 }))
    let q2 : Pane := { q1 with txNext := q1.txNext + 1, cullet := q1.cullet ++ [c] }
    if q2.ackStart.isNone then q2.startAck s.now else q2)
  let wire := if badTag then body.take 224 ++ (body.drop 224).map (fun b => ~~~b) else body
  ((s1.modKeys p (fun k => k.modIndex key KeyIndex.used)).emit p h wire badCrc).belvAdd 16 (belvId (p.val + 1) vc) 240

/-- A Cullet pane sent again (R321, R347). -/
def State.sendAgain (s : State) (p : PortIx) (c : CulletPane) : State :=
  let q := (s.port p).pane
  let r := q.reportRet
  let h := mkPaneHdr (if c.fence then ptFence else ptData) c.vc c.key c.seq q.cumAck r.2.1 r.2.2 (paneFlags c.enc true c.ackNow c.sub)
  let s1 := s.modPane p (fun _ => { r.1 with cullet := r.1.cullet.map (fun x => if x.seq = c.seq then { x with resend := x.resend - 1, retx := x.retx + 1, ackNow := false } else x) })
  ((s1.emit p h c.body).bump (ctrReplay p)).belvAdd 16 (belvId (p.val + 1) c.vc) 240

/-- The checker of an injection armed at a transmit check of a port: 4 CRC-64, 5 GCM tag, 6 encryption check (R499, R500). DEDUCED, log entry 85. -/
def State.injected (s : State) (p : PortIx) (k : Nat) : Bool := s.flt.injArmed && s.flt.injChecker.toNat == 0x80 + 8 * p.val + k

/-- The injection has taken place. -/
def State.injectionDone (s : State) : State := s.modFlt (fun f => { f with injArmed := false, injDone := true })

/-- The session key taken when the next message of a pair is an L_DONE (R441). -/
def State.beginSession (s : State) (p : PortIx) (vc sub : Nat) : State :=
  let q := (s.port p).pane
  let next := if (q.sending vc sub).busy then none else q.nextMsg (s.keyServes p) vc sub
  match next with
  | none => s
  | some m => if m.msg.isDone && ((s.port p).keys.index 0).txNext.isSome then s.modKeys p (fun k => k.beginTx s.now) else s

/-- A DATA pane of a pair packed and sent. -/
def State.sendData (s0 : State) (p : PortIx) (vc sub : Nat) : State :=
  let s := s0.beginSession p vc sub
  let q := (s.port p).pane
  let ok := s.keyServes p
  let key := q.nextKey ok vc sub
  match (s.port p).keys.tx key with
  | none => s
  | some k =>
    let r := q.pack ok vc sub key 64 (if k.enc then 14 else 15) [] []
    let h := mkPaneHdr ptData vc key q.txNext 0 0 0 (paneFlags k.enc false false sub)
    let body := k.dataBody q.txNext h (unitBytes r.2.1)
    if k.enc && s.injected p 6 then s.injectionDone.raiseFatal false (mkReport 0x30 (unit := 0x0A) (access := 9) (engine := p.val) (checker := 0x80 + 8 * p.val + 6))
    else
      let crc := s.injected p 4
      let tag := k.enc && s.injected p 5
      let s1 := (s.modPane p (fun _ => r.1)).sendNew p false vc key sub k.enc body crc tag
      let s2 := r.2.2.foldl (fun a e => a.leaveIn e.1 e.2) s1
      (if crc || tag then s2.injectionDone else s2).sweepTransit p

/-- A fence sent (R352, R353). DEDUCED, log entry 88. -/
def State.sendFence (s : State) (p : PortIx) (f : FenceDue) : State :=
  let q := (s.port p).pane
  let h := mkPaneHdr ptFence f.vc 0 q.txNext 0 0 0 (paneFlags false false false f.sub)
  let text := if f.void then fenceText 2 0 0 else fenceText 1 f.key f.teardownId
  let body := match (s.port p).keys.tx 0 with
    | some k => k.fenceBody f.void q.txNext h text
    | none => padTo 240 text
  (s.modPane p (fun q => { q with fences := q.fences.erase f })).sendNew p true f.vc 0 f.sub false body false false

/-- The pairs of a set of classes that have a unit ready and a credit. -/
def Pane.readyPairs (q : Pane) (ok : Nat → Bool) (classes : List Nat) : List (Nat × Nat) :=
  (classes.flatMap (fun c => [(2 * c, 0), (2 * c, 1), (2 * c + 1, 0), (2 * c + 1, 1)])).filter (fun v =>
    decide (0 < (q.vc v.1).avail) && q.hasUnit ok v.1 v.2)

/-- The pair next served: round-robin by class, then by dateline bit, then by sub-stream (R334). -/
def Pane.choose (q : Pane) (l : List (Nat × Nat)) : Option (Nat × Nat) :=
  match nextInTurn ((List.range 6).filter (fun c => l.any (fun v => v.1 / 2 == c))) q.rrClass with
  | none => none
  | some c =>
    match nextInTurn ((List.range 2).filter (fun b => l.any (fun v => v.1 == 2 * c + b))) (Table.get 1 q.rrDate c) with
    | none => none
    | some b => (nextInTurn ((List.range 2).filter (fun x => (2 * c + b, x) ∈ l)) (Table.get 1 q.rrSub (2 * c + b))).map (fun x => (2 * c + b, x))

/-- The places of the round-robin after a pair is served; class MGMT, and class SCHED while a window is open, stand outside that by class. -/
def Pane.served (q : Pane) (v : Nat × Nat) (open_ : Bool) : Pane :=
  { q with rrClass := if v.1 / 2 = 0 || (v.1 / 2 = clsSched && open_) then q.rrClass else v.1 / 2, rrDate := Table.put 1 q.rrDate (v.1 / 2) (v.1 % 2), rrSub := Table.put 1 q.rrSub v.1 v.2 }

/-- The next sequenced pane of levels 4 to 6 (R334). -/
def State.nextPair (s : State) (p : PortIx) : Option (Nat × Nat) :=
  let q := (s.port p).pane
  let ok := s.keyServes p
  let open_ := !(s.port p).time.opened.isEmpty
  match q.choose (q.readyPairs ok [clsMgmt]) with
  | some v => some v
  | none =>
    match (if open_ then q.choose (q.readyPairs ok [clsSched]) else none) with
    | some v => some v
    | none => q.choose (q.readyPairs ok ([clsReq, clsRsp, clsBulk, clsColl] ++ (if open_ then [] else [clsSched])))

/-- A new sequenced pane may be sent: resumption done, room in the Cullet (R343, R358), engines running (R496). -/
def State.mayStart (s : State) (p : PortIx) : Bool :=
  !(s.port p).pane.resuming && decide ((s.port p).pane.cullet.length < 6144) && s.flt.fatal.isNone

/-- One pane slot of a port in training (R376): the current message, and the answer in every second slot. DEDUCED, log entry 94. -/
def State.slotTraining (s : State) (p : PortIx) : State :=
  let q := s.port p
  let t := q.lane.train
  let second := q.keys.slot % 2 = 1 && t.ans.isSome
  match (if second then t.ans else t.msg) with
  | none => s
  | some m =>
    let h := mkPaneHdr ptTrain 0 0 0 0 0 0 0
    let text := s.trainText p m
    let body := match q.keys.tx 0 with
      | some k => if q.keys.hasSession then k.ctlBody q.keys.seg.toNat q.keys.slot h text else padTo 240 text
      | none => padTo 240 text
    (s.emit p h body).modTrain p (fun t => { t with out := t.out || !second })

/-- Nothing is queued for a port and its Cullet is empty (R393). -/
def Pane.idle (q : Pane) : Bool := q.cullet.isEmpty && q.txq.isEmpty && q.cur.all (fun e => !e.2.busy) && q.fences.isEmpty

/-- Domain on (R483). -/
def Power.domOn (w : Power) (d : Nat) : Bool := w.domainsOn.getLsbD d

/-- A domain switched off and reported (R472). -/
def State.dropDomain (s : State) (d : Nat) : State :=
  if s.power.domOn d then
    (s.modPower (fun w => { w with domainsOn := w.domainsOn &&& ~~~(1#96 <<< d) })).modPins (fun p => { p with domReq := p.domReq ++ [{ on := false, domain := d }] })
  else s

/-- The domains of a port: its lanes and its port domain (R467). -/
def portDomains (p : PortIx) : List Nat := laneIds.map (fun k => 13 * p.val + k) ++ [78 + p.val]

/-- A domain of a port is switched on and its acknowledgement has not come: its work waits (R472). -/
def State.portWaits (s : State) (p : PortIx) : Bool := s.power.domReqs.any (fun r => decide (r.domain ∈ portDomains p))

/-- A lane power state entered (R392, R393): P1, P3 and P4 with nothing to send, P2 by a width change that `ask` begins. -/
def State.lpsEnter (s : State) (p : PortIx) (st w : Nat) (ask : Bool) : State :=
  let l := (s.port p).lane
  if st = 2 then
    if l.width ≤ w then s.modLane p (fun l => { l with lpsState := 2 })
    else if ask && l.change.isNone then s.askWidth p lcPower l.usable w
    else s
  else if !(s.port p).pane.idle then s
  else if st = 1 then s.modLane p (fun l => { l with lpsState := 1 })
  else if st = 3 then (s.modLane p (fun l => { l with lpsState := 3 })).txDisable p true
  else if st = 4 then
    let s1 := ((s.enterDown p lcPower).modLane p (fun l => { l with lpsState := 4 })).txDisable p true
    (portDomains p).foldl State.dropDomain s1
  else s

/-- A width change settled (R373, R389 to R391, R393): the link state it leaves, the lanes later changes may use, SPARE_IN due, P2 entered or left; a
width above the cap of the droop level in force is narrowed again (R480). -/
def State.settleWidth (s : State) (p : PortIx) (c : WidthChange) : State :=
  let l := (s.port p).lane
  let reasons := (if c.own then [c.reason] else []) ++ (if c.farReason = 0 then [] else [c.farReason])
  let full := c.width = 12 && l.step = l.target
  let old := (s.port p).pane.link
  let new : LinkState := if full then .up else if reasons.any (fun r => r == lcLaneBer || r == lcSw) then .degraded else old
  let p2 := min l.lpsOwn l.lpsFar = 2 && c.width ≤ max l.lpsOwnWidth l.lpsFarWidth
  let s1 := (s.modPane p (fun q => { q with link := new })).modLane p (fun l => { l with
    change := none, wide := if reasons.all (fun r => r == lcPower) || l.wide != c.before then l.wide else c.active,
    lpsState := if p2 then 2 else if l.lpsState = 2 then 0 else l.lpsState,
    lpsOwn := if l.lpsState = 2 && !p2 then 0 else l.lpsOwn, lpsFar := if l.lpsState = 2 && !p2 then 0 else l.lpsFar,
    eventTick := if new = .degraded && old != .degraded then BitVec.ofNat 32 s.podTime else l.eventTick,
    spareAt := if new = .degraded && reasons.any (fun r => r == lcLaneBer) && l.autoSpare && 12 ≤ popCount 13 (l.usable &&& l.farUsable) then
      some (s.now + usTicks (1000 * l.holdoffMs)) else l.spareAt })
  let s2 := if l.lpsState = 2 && !p2 && c.own then s1.ctrl p (ctrlLps 0x15 2 0) else s1
  if droopWidth s.power.level < c.width then s2.askWidth p lcPower l.usable (droopWidth s.power.level) else s2

/-- After WIDTH_GO the direction sent goes on at the new width with a new COUNT (R390), and the follower's change is then complete; after
LPS_ACK the state it states is entered (R393). -/
def State.afterCtrl (s : State) (p : PortIx) (text : List Byte) : State :=
  if text.headD 0 = 0x12 then
    let s1 := ((s.fillRow p).modKeys p PortKeys.newSegment).modLane p (fun l => { l with active := beAt text 16 2, width := (text.getD 18 0).toNat })
    match (s.port p).lane.change with
    | none => s1
    | some c => if c.leading then s1.modLane p (fun l => { l with change := some { c with goSent := true } }) else s1.settleWidth p c
  else if text.headD 0 = 0x14 then s.lpsEnter p (text.getD 1 0).toNat (text.getD 2 0).toNat false
  else s

/-- A Cullet pane sent again, or the link retrained where it has been sent again 16 times (R347). -/
def State.resendOne (s : State) (p : PortIx) (c : CulletPane) : State := if 16 ≤ c.retx then s.retrain p lcReplay else s.sendAgain p c

/-- A new pane of levels 4 to 6 (R334): a fence, or a DATA pane of a pair; none where nothing is ready. -/
def State.slotNew (s : State) (p : PortIx) : Option State :=
  let q := (s.port p).pane
  if !s.mayStart p then none
  else match q.fences.find? (fun f => decide (0 < (q.vc f.vc).avail)) with
    | some f => some (s.sendFence p f)
    | none => (s.nextPair p).map (fun v => (s.modPane p (fun q => q.served v (!(s.port p).time.opened.isEmpty))).sendData p v.1 v.2)

/-- Whether anything but IDLE is ready in a slot. -/
def State.slotBusy (s : State) (p : PortIx) : Bool :=
  let q := (s.port p).pane
  (!q.resuming && q.cullet.any (fun c => c.resend != 0)) || !q.ctrlDue.isEmpty || !q.nakDue.isEmpty || (s.slotNew p).isSome

/-- One pane slot of a port in service: the levels of R334 below the TIME pane. After 62 panes without a full credit vector one goes first, so that
no run of 64 panes lacks it even if a TIME pane comes between (R342): an ACK, or the IDLE where nothing else is ready (R349). -/
def State.slotService (s : State) (p : PortIx) : State :=
  let q := (s.port p).pane
  if 62 ≤ q.sinceVector then s.sendVector p (if s.slotBusy p || q.ackDue then ptAck else ptIdle)
  else match (if q.resuming then none else q.cullet.find? (fun c => c.resend != 0)) with
  | some c => s.resendOne p c
  | none =>
    match q.ctrlDue with
    | c :: r =>
      let x := q.reportRet
      let text := if c = ctrlResume then s.resumeText p else c
      ((s.modPane p (fun _ => { x.1 with ctrlDue := r })).sendControl p ptCtrl x.2.1 x.2.2 text).afterCtrl p text
    | [] =>
      if !q.nakDue.isEmpty then
        let l := q.nakDue.take 8
        (s.modPane p (fun q => { q with nakDue := q.nakDue.drop 8 })).sendControl p ptNak 0xF 0
          ([BitVec.ofNat 8 l.length, 0] ++ l.flatMap (fun n => beBytes 2 (n % 65536)))
      else if q.ackDue then s.sendVector p ptAck
      else (s.slotNew p).getD (s.sendVector p ptIdle)

/-- One pane slot. -/
def State.paneSlot (s : State) (p : PortIx) : State :=
  if !s.serving p then s.slotTraining p
  else if (s.port p).lane.lpsState = 1 then s.silentSlot p
  else s.slotService p

end Sys2Proof.Machine
end

