-- ==== Sys2Proof/Machine/OpsTrain.lean ====
section
/-!
DEFINITION. The course of a training (R376 to R386): rounds, configurations, entering a step, tuning, judging, and width changes (R387 to
R391).
-/
namespace Sys2Proof.Machine

/-! ### Rounds -/

/-- Whether this end leads (R380). -/
def State.leads (s : State) (p : PortIx) : Bool := decide (s.global.serial.toNat < (s.port p).lane.train.farSerial.toNat)

/-- The port is in TRAINING or RETRAINING. -/
def State.inTraining (s : State) (p : PortIx) : Bool := (s.port p).pane.link == .training || (s.port p).pane.link == .retraining

/-- A new round of the training in progress (R383). DEDUCED, log entry 99. -/
def State.newRound (s : State) (p : PortIx) (round : BitVec 8) : State :=
  let t := (s.port p).lane.train
  let heard := t.heard
  (s.beginRound p t.initial (!t.initial) t.step t.start round t.tseq).modTrain p (fun x => { x with
    heard := heard, farSerial := t.farSerial, farSteps := t.farSteps, identDue := t.identDue, authSeen := t.authSeen, noAuthSeen := t.noAuthSeen })

/-- An attempt that failed is retried one step lower; at S0 the link goes DOWN (R384). An initial training begins a new round. -/
def State.failAttempt (s : State) (p : PortIx) : State :=
  let t := (s.port p).lane.train
  if t.initial then s.newRound p (t.round + 1)
  else if t.step = 0 then s.enterDown p lcTimeout
  else (s.beginRound p false false (t.step - 1) s.now (t.round + 1) t.tseq).modTrain p (fun x => { x with
    heard := t.heard, farSerial := t.farSerial, farSteps := t.farSteps, identDue := t.identDue, authSeen := t.authSeen, noAuthSeen := t.noAuthSeen })

/-- The time an attempt may take, in microseconds (R384); an initial training has the bound of R421 alone. -/
def Train.limitUs (t : Train) : Nat := if 2 ≤ t.step then 2000 else 10000

/-! ### Configurations (R381, R382) -/

/-- The arguments of a configuration (R379). -/
def TrainCfg.args (c : TrainCfg) : List Byte :=
  beBytes 2 c.active ++ [BitVec.ofNat 8 c.width, BitVec.ofNat 8 c.step, BitVec.ofNat 8 c.action]

/-- A configuration as received in the bytes from 24 on of a message. -/
def TrainCfg.ofBody (b : List Byte) : TrainCfg :=
  { active := beAt b 24 2 % 8192, width := (b.getD 26 0).toNat, step := (b.getD 27 0).toNat, action := (b.getD 28 0).toNat }

/-- The configuration R381 gives for a usable set. -/
def trainCfg (u step action : Nat) : TrainCfg :=
  { active := (configFor u 12).1, width := (configFor u 12).2, step := step, action := action }

/-- The target step T (R382): the highest step both ends allow. -/
def State.targetStep (s : State) (p : PortIx) : Nat := (bitsSet 4 (s.steps p &&& (s.port p).lane.train.farSteps)).foldl max 0

/-- The one of two steps with the higher rate × width; on a tie the one with the higher width (R382). -/
def TrainCfg.better (a b : TrainCfg) : TrainCfg :=
  let x := stepRate a.step * a.width
  let y := stepRate b.step * b.width
  if y < x || (x = y && b.width < a.width) then a else b

/-- The configuration due next in a training, by the rules both ends apply (R381, R382, R384); none where no lane is left. -/
def State.nextCfg (s : State) (p : PortIx) : Option TrainCfg :=
  let l := (s.port p).lane
  let t := l.train
  let top := s.targetStep p
  match t.phase with
  | .lock =>
    let c := trainCfg (l.usable &&& t.farUsable) t.step 0
    if c.width = 0 then none else some c
  | .ident =>
    if !t.initial then none
    else if top = 0 then some { t.cfg with action := 1 }
    else some { t.cfg with step := 1, action := 0 }
  | .done =>
    match t.ownPass, t.farPass with
    | some a, some b =>
      let c := trainCfg (a &&& b) t.cfg.step 1
      if !t.initial then (if c.width = 0 then none else some c)
      else if c.width < t.prev.width || top ≤ t.cfg.step then some { t.prev.better c with action := 1 }
      else some { c with step := t.cfg.step + 1, action := 0 }
    | _, _ => none
  | _ => none

/-- The arguments of an IDENT (R409). -/
def State.identArgs (s : State) (p : PortIx) : List Byte :=
  match s.topo.install with
  | none => []
  | some t => beBytes 2 s.topo.node ++ [BitVec.ofNat 8 p.val, 0] ++ beBytes 4 t.podId.toNat ++ t.digest.take 8

/-- A message said that needs an answer (R383). -/
def State.ask (s : State) (p : PortIx) (code : Nat) (args : List Byte) : State :=
  s.modTrain p (fun t => { (t.say code args) with waiting := some s.now })

/-- A message said that needs none. -/
def State.say (s : State) (p : PortIx) (code : Nat) (args : List Byte) (reject : Bool := false) : State :=
  s.modTrain p (fun t => { (t.say code args reject) with waiting := none })

/-- A configuration both ends hold (R382): the leader goes on to the identity exchange, to GO or to READY. Lanes that have not locked by
now are not usable. -/
def State.configured (s : State) (p : PortIx) (c : TrainCfg) (leader : Bool) : State :=
  let t := (s.port p).lane.train
  if c.action = 1 then
    let s1 := s.modTrain p (fun t => { t with cfg := c, phase := .service, ans := none, waiting := none })
    if leader then (s1.say p tmReady []).modTrain p (fun t => { t with readySent := true }) else s1
  else
    let first := t.phase == .lock
    let toIdent := first && t.identDue
    let s0 := if first then s.modLane p (fun l => l.modAll (fun _ q => if !q.usable && q.fail = 0 then { q with fail := 1 } else q)) else s
    let s1 := s0.modTrain p (fun t => { t with
      cfg := c, prev := if first then { c with step := t.step } else { c with step := t.cfg.step }, ownPass := none, farPass := none, firstPass := none,
      second := false, phase := if toIdent then .ident else .going, waiting := none })
    if !leader then s1 else if toIdent then s1.ask p tmIdent (s1.identArgs p) else s1.ask p tmGo [BitVec.ofNat 8 c.step]

/-- One pane slot of the port at once: the message just said leaves before what follows takes place. DESIGN CHOICE, log entry 103. -/
def State.sayNow (s : State) (p : PortIx) : State := (s.modTrain p (fun t => { t with ans := none })).slotTraining p

/-- The step of the configuration entered (R382 step 5): a change of step begins a new COUNT, and the lanes re-lock. -/
def State.enterStep (s : State) (p : PortIx) : State :=
  let l := (s.port p).lane
  let t := l.train
  let same := l.step = t.cfg.step
  let s1 := if same then s else s.modKeys p PortKeys.newSegment
  s1.modLane p (fun l =>
    let l1 := if same then l else l.modAll (fun k q => { q with markers := 0, lastCount := none, missed := 0, taps := s.boardTaps p k t.cfg.step })
    { l1 with step := t.cfg.step, train := { t with phase := .relock, ans := none, waiting := none, tuneStart := s.now } })

/-! ### Tuning and judging (R385, R386) -/

/-- The lane commands of a TUNE_REQ, from a number of the receiver's own (DESIGN CHOICE, log entry 7). DESIGN CHOICE, log entry 100. -/
def tuneWords (v : Nat) : List Byte :=
  laneIds.flatMap (fun k =>
    let w := v / 2 ^ (5 * k + 1)
    beBytes 2 (place (w % 4) 13 3 + place (w / 4 % 3) 11 2 + place (w / 16) 0 1))

/-- PRESET 0 on every lane. -/
def presetWords : List Byte := laneIds.flatMap (fun _ => beBytes 2 (place 3 13 3))

/-- The next TUNE_REQ of the receiver's own algorithm. -/
def State.tuneNext (s : State) (p : PortIx) : State := s.drawn.ask p tmTuneReq (tuneWords (s.freeVal .tuneCommand))

/-- Tuning begins when every usable lane has locked again, or 1 ms after the step was entered; the others are not usable. -/
def State.relockNow (s : State) (p : PortIx) : State :=
  let l := (s.port p).lane
  let t := l.train
  let all := laneIds.all (fun k => !(l.lane k).usable || 2 ≤ (l.lane k).markers)
  if t.phase == .relock && (all || s.usPassed t.tuneStart 1000) then
    let s1 := s.modLane p (fun l => l.modAll (fun _ q => if q.usable && q.markers < 2 then { q with usable := false, fail := 1 } else q))
    (s1.modTrain p (fun t => { t with phase := .tune, tuneStart := s.now })).tuneNext p
  else s

/-- One tap moved within its limits: the new value and whether it moved. -/
def moveTap (v top : Nat) (up : Bool) : Nat × Bool := if up then (if v < top then (v + 1, true) else (v, false)) else (if 0 < v then (v - 1, true) else (v, false))

/-- A lane command applied (R385): the taps and the RESULT. -/
def Taps.apply (t board : Taps) (w : Nat) : Taps × Nat :=
  let cmd := w / 2 ^ 13 % 8
  let tap := w / 2 ^ 11 % 4
  let res := fun (b : Bool) => if b then 0 else 1
  if cmd = 0 then (t, 0)
  else if cmd = 1 || cmd = 2 then
    let up := cmd == 1
    if tap = 0 then let r := moveTap t.cm2 6 up; ({ t with cm2 := r.1 }, res r.2)
    else if tap = 1 then let r := moveTap t.cm1 24 up; ({ t with cm1 := r.1 }, res r.2)
    else if tap = 2 then let r := moveTap t.cp1 24 up; ({ t with cp1 := r.1 }, res r.2)
    else (t, 2)
  else if cmd = 3 then (if w % 8 = 0 then (board, 0) else if w % 8 = 1 then ({}, 0) else (t, 2))
  else (t, 2)

/-- The lane result of a TUNE_RSP. -/
def Taps.result (t : Taps) (r : Nat) : Nat := place r 14 2 + place t.cm2 10 3 + place t.cm1 5 5 + place t.cp1 0 5

/-- The commands of a TUNE_REQ applied to every transmitter, and the answer (R385). -/
def State.applyTune (s : State) (p : PortIx) (b : List Byte) : State :=
  let l := (s.port p).lane
  let r := fun k => (l.lane k).taps.apply (s.boardTaps p k l.step) (beAt b (24 + 2 * k) 2)
  (s.modLane p (fun l => l.modAll (fun k q => { q with taps := (r k).1 }))).modTrain p (fun t =>
    t.answer tmTuneRsp (laneIds.flatMap (fun k => beBytes 2 ((r k).1.result (r k).2))))

/-- The bytes of a judging window (R386). -/
def Train.window (t : Train) : Nat := if t.initial then 2 ^ 30 else 2 ^ 24

/-- The lanes whose corrected-byte ratio is at most LANE_BER_MAX. -/
def passMask (ratios : List (Nat × Nat)) : Nat :=
  maskOf (laneIds.filter (fun k => match ratios[k]? with
    | none => false
    | some r => decide (r.1 * 2 ^ 20 ≤ r.2)))

/-- Lanes this end passed and the far end did not are not usable in both directions (R377, R382): refused by the far end. -/
def State.refuse (s : State) (p : PortIx) : State :=
  match (s.port p).lane.train.ownPass, (s.port p).lane.train.farPass with
  | some _, some b => s.modLane p (fun l => l.modAll (fun k q => if q.usable && !b.testBit k then { q with usable := false, fail := 6 } else q))
  | _, _ => s

/-- The judgement of this end sent (R386): lanes that failed are not usable. -/
def State.tuneDone (s : State) (p : PortIx) (pass : Nat) : State :=
  let s1 := s.modLane p (fun l => l.modAll (fun k q => if q.usable && !pass.testBit k then { q with usable := false, fail := 3 } else q))
  let own := (s1.port p).lane.usable
  ((s1.say p tmTuneDone (beBytes 2 own)).modTrain p (fun t => { t with phase := .done, ownPass := some own })).refuse p

/-! ### What the leader does next -/

/-- Every lane that may be usable is usable at both ends. -/
def LaneUnit.complete (l : LaneUnit) : Bool := laneIds.all (fun k => l.off.testBit k || (l.usable &&& l.train.farUsable).testBit k)

/-- The leader goes on where it can (R382): from locked lanes, from a matched identity, from both judgements, once its current message has been
sent (R376). With no lane in U the attempt fails (R381). DEDUCED, log entry 98. -/
def State.leadOn (s : State) (p : PortIx) : State :=
  let l := (s.port p).lane
  let t := l.train
  if !(s.inTraining p && s.leads p && t.waiting.isNone && t.out) then s
  else match t.phase with
    | .lock =>
      let full := l.complete || s.usPassed t.roundStart (if t.initial then 10000 else 1000)
      if t.farHeard && full then
        match s.nextCfg p with
        | none => s.failAttempt p
        | some c => s.ask p tmConfig c.args
      else s
    | .ident =>
      if t.identOwn = some 1 && t.identFar = some 1 then
        match s.nextCfg p with
        | some c => s.ask p tmConfig c.args
        | none => (s.modTrain p (fun t => { t with phase := .going })).ask p tmGo [BitVec.ofNat 8 t.cfg.step]
      else s
    | .done =>
      if t.ownPass.isSome && t.farPass.isSome then
        match s.nextCfg p with
        | some c => s.ask p tmConfig c.args
        | none => s.failAttempt p
      else s
    | _ => s

/-! ### TRAIN panes received -/

/-- The TRAIN pane at the head, when it has a code. -/
def State.trainHead (s : State) (p : PortIx) (code : Nat) : Bool :=
  match s.rxHead p ptTrain with
  | none => false
  | some x => (x.body.headD 0).toNat == code

/-- The fields every TRAIN pane carries taken (R377, R378, R380, R384). -/
def State.heardTrain (s : State) (p : PortIx) (b : List Byte) : State :=
  let serial := BitVec.ofNat 64 (beAt b 4 8)
  let code := (b.headD 0).toNat
  let s1 := s.modTrain p (fun t => { t with
    farSerial := serial, farUsable := beAt b 12 2 % 8192, farSteps := bits (b.getD 14 0) 3 0, farHeard := true,
    identDue := t.identDue || (serial != (s.port p).lane.farSerial),
    authSeen := t.authSeen || bit (b.getD 1 0) 0, noAuthSeen := t.noAuthSeen || !bit (b.getD 1 0) 0,
    heard := Table.put 0 t.heard code (beAt b 2 2 + 1) })
  let follower := !s1.leads p && (s1.port p).lane.train.round != b.getD 17 0
  let s2 := if follower then (s1.newRound p (b.getD 17 0)).modTrain p (fun t => { t with farUsable := beAt b 12 2 % 8192, farHeard := true }) else s1
  s2.modLane p (fun l => { l with causeFar := reasonOf (b.getD 16 0), leader := s2.leads p, target := s2.targetStep p, farUsable := beAt b 12 2 % 8192 })

/-- A message already heard in the training that is running or has ended, repeated (R376). -/
def Train.repeats (t : Train) (code tseq : Nat) : Bool := Table.get 0 t.heard code == tseq + 1

/-- A TRAIN pane of a code taken off and acted on: in service it first takes the link to RETRAINING (R384); a message already heard,
repeated, changes nothing (R376), and in service it is a repetition still in flight that begins nothing (DEDUCED, log entry 21). -/
def State.takeTrain (s : State) (p : PortIx) (code : Nat) (f : List Byte → State → State) : State :=
  match s.rxHead p ptTrain with
  | none => s
  | some x =>
    let b := x.body
    let s1 := s.rxPop p
    let flown := code != tmHello && code != tmRetrain && (s1.port p).lane.train.repeats code (beAt b 2 2)
    let s2 := if s1.serving p && !flown then s1.retrainWith p 0 (reasonOf (b.getD 16 0)) else s1
    if s2.inTraining p then
      let old := (s2.port p).lane.train.repeats code (beAt b 2 2)
      let s3 := s2.heardTrain p b
      (if old then s3 else f b s3).leadOn p
    else if (s2.port p).lane.testing then
      if (s2.port p).lane.train.repeats code (beAt b 2 2) then s2
      else f b (s2.modTrain p (fun t => { t with heard := Table.put 0 t.heard code (beAt b 2 2 + 1) }))
    else s2

/-! ### Width changes in service (R387 to R390) -/

/-- The result of R388: over the active lanes, or for reasons of POWER alone, which may also widen, those the link was last given otherwise; both ends'
usable lanes, and the smaller of the maxima in play. DEDUCED, log entry 18. -/
def LaneUnit.widthCfg (l : LaneUnit) (far cap : Nat) (power : Bool) : Nat × Nat := configFor (l.usable &&& far &&& (if power then l.wide else l.active)) cap

/-- The CTRL pane at the head of a code, its tag checked and its fields taken. -/
def State.takeCtrl (s : State) (p : PortIx) (f : List Byte → State → State) : State :=
  s.takePane p ptCtrl (fun x t => t.takeControl p x (fun u => f x.body u))

/-- A request followed (R389): answered by WIDTH_ACK. With no lane left the link retrains. -/
def State.followWidth (s : State) (p : PortIx) (own : Option WidthChange) (reason max usable : Nat) : State :=
  let cap := match own with
    | none => max
    | some c => min c.max max
  let r := (s.port p).lane.widthCfg usable cap (reason == lcPower && own.all (fun c => c.reason == lcPower))
  if r.2 = 0 then s.retrain p reason
  else (s.ctrl p (ctrlWidth 0x11 reason r.1 r.2)).modLane p (fun l => { l with
    change := some { own := own.isSome, reason := (own.map WidthChange.reason).getD 0, max := (own.map WidthChange.max).getD 12, farReason := reason,
                     farMax := max, farUsable := usable, leading := false, acked := true, active := r.1, width := r.2, before := l.active, since := s.now } })

/-- A WIDTH_REQ taken (R389). -/
def State.takeWidthReq (s : State) (p : PortIx) (b : List Byte) : State :=
  let reason := reasonOf (b.getD 1 0)
  let usable := beAt b 2 2 % 8192
  let max := (b.getD 4 0).toNat
  let s1 := s.modLane p (fun l => { l with causeFar := reason, farUsable := usable })
  match (s.port p).lane.change with
  | none => s1.followWidth p none reason max usable
  | some c =>
    if c.leading && c.own && s.global.serial.toNat < beAt b 8 8 then
      s1.modLane p (fun l => { l with change := some { c with farReason := reason, farMax := max, farUsable := usable } })
    else s1.followWidth p (if c.own then some c else none) reason max usable

/-- A WIDTH_ACK taken by the leader (R389): WIDTH_GO where it matches its own result, else RETRAIN. -/
def State.takeWidthAck (s : State) (p : PortIx) (b : List Byte) : State :=
  match (s.port p).lane.change with
  | none => s
  | some c =>
    if c.leading && !c.acked then
      let r := (s.port p).lane.widthCfg (if c.farReason = 0 then (s.port p).lane.farUsable else c.farUsable) (min c.max c.farMax)
        (c.reason == lcPower && (c.farReason == 0 || c.farReason == lcPower))
      if r.2 != 0 && beAt b 16 2 == r.1 && (b.getD 18 0).toNat == r.2 then
        (s.ctrl p (ctrlWidth 0x12 0 r.1 r.2)).modLane p (fun l => { l with change := some { c with acked := true, active := r.1, width := r.2 } })
      else s.retrain p lcTimeout
    else s

/-- A WIDTH_GO taken (R389, R390): the direction received goes on at the new width; the follower sends its own. -/
def State.takeWidthGo (s : State) (p : PortIx) (b : List Byte) : State :=
  match (s.port p).lane.change with
  | none => s
  | some c =>
    let s1 := (s.modLane p (fun l => { (l.modAll (fun _ q => { q with lastCount := none, missed := 0, place := 0 })) with
      rxActive := beAt b 16 2 % 8192, rxWidth := (b.getD 18 0).toNat })).modKeys p (fun k => { k with rxSlot := 0 })
    if c.leading then s1.settleWidth p c else s1.ctrl p (ctrlWidth 0x12 0 c.active c.width)

end Sys2Proof.Machine
end

