-- ==== Sys2Proof/Machine/Panes.lean ====
section
/-!
DEFINITION. The pane layer's steps (09): panes sent and received, timers, resumption, PURGE.
-/
namespace Sys2Proof.Machine

/-! ### Transmission -/

/-- A port drives its lanes: powered (R472), not DOWN but in test (R399), and not in P3 or P4 (R354, R392); in P4 it does while it trains. -/
def State.paneReady (s : State) (p : PortIx) : Bool :=
  s.linkLive && !s.portWaits p && ((s.port p).pane.link != .down || (s.port p).lane.testing) && (s.port p).lane.lpsState != 3

/-- Since when the conditions of R393 hold is noted (R474). -/
def State.noteIdle (s : State) (p : PortIx) : State :=
  s.modLane p (fun l => { l with idleSince := if (s.port p).pane.idle then (match l.idleSince with | some t => some t | none => some s.now) else none })

/-- A TIME pane is due on a port (R303): SYNC_EN, in service with a session, 10 µs since the last. -/
def State.timeDue (s : State) (p : PortIx) : Bool :=
  let q := s.port p
  s.linkLive && s.time.syncEn && s.serving p && q.keys.hasSession && (q.lane.lpsState == 0 || q.lane.lpsState == 2) &&
    (match q.time.lastSent with
    | none => true
    | some t => s.usPassed t 10)

/-! ### Reception of a codeword (R315, R316, R319, R357, R367, R369, R378, R379) -/

/-- Codeword slots between the markers received (R370). -/
def Port.rxMarkerSlots (q : Port) : Nat := if q.pane.link.inService then markerPeriod true * max 1 q.lane.rxWidth else markerPeriod false

/-- The physical lane of byte `j` of the codeword in a slot (R368): in training all are on the lane that carries it. -/
def Port.laneOf (q : Port) (lane slot j : Nat) : Nat :=
  if q.pane.link.inService then (bitsSet 13 q.lane.rxActive).getD (stripeLane (max 1 q.lane.rxWidth) (272 * (slot % q.rxMarkerSlots) + j)) 0
  else lane

/-- An error at a byte of a lane: the errors within the last 2^30 bytes, and whether they are too many (R389). -/
def Lane.err (l : Lane) (t : Nat) : Lane :=
  let e := l.errAt.filter (fun x => decide (t < x + 2 ^ 30)) ++ [t]
  { l with errAt := e, berOver := l.berOver || decide (1024 < e.length) }

/-- The bytes of one codeword on a lane, given by their places in it, those in error among them. -/
def Lane.count (l : Lane) (places fixed : List Nat) : Lane :=
  let l1 := places.zipIdx.foldl (fun a x => if x.1 ∈ fixed then a.err (l.rxBytes + x.2) else a) l
  { l1 with rxBytes := l.rxBytes + places.length }

/-- The lane counts of one codeword (R369, R389). -/
def State.laneCounts (s : State) (p : PortIx) (lane slot : Nat) (fixed : List Nat) : State :=
  let q := s.port p
  let s1 := fixed.foldl (fun a j => a.bump (ctrLaneErr p (q.laneOf lane slot j))) s
  s1.modLane p (fun l => laneIds.foldl (fun a k =>
    let places := (List.range 272).filter (fun j => q.laneOf lane slot j == k)
    if places.isEmpty then a else a.modAt k (fun x => x.count places fixed)) l)

/-- The known CTRL codes (R357, R387). -/
def ctrlKnown (c : Nat) : Bool := c == 0x01 || c == 0x04 || (decide (0x10 ≤ c) && decide (c ≤ 0x15))

/-- The known TRAIN codes (R379, R409). -/
def trainKnown (c : Nat) : Bool := (decide (1 ≤ c) && decide (c ≤ 0x0A)) || c == 0x20 || c == 0x21

/-- A pane that passed its CRC sorted by its type (R316): kept for the step of its type, or discarded and counted. -/
def State.sortPane (s : State) (p : PortIx) (slot : Nat) (pane : List Byte) : State :=
  let h := BitVec.ofNat 64 (beAt pane 0 8)
  let body := slice pane 8 240
  let x : RxPane := { hdr := h, body := body, slot := slot, tick := s.podTime }
  let s0 := s.belvAdd 16 (belvId (p.val + 1) 33) 1
  let keep := s0.modPane p (fun q => { q with rxq := q.rxq ++ [x] })
  let t := paneType h
  let code := (body.headD 0).toNat
  if 8 ≤ t then s0.bump (ctrBadDrop p)
  else if t = ptTrain then
    if !trainKnown code then s0.bump (ctrBadDrop p)
    else if bit (body.getD 1 0) 0 && (s.port p).keys.hasSession then
      match (s.port p).keys.segOf h slot body with
      | none => s0.bump (ctrBadDrop p)
      | some g => keep.modKeys p (fun k => { k with rxSeg := BitVec.ofNat 16 g })
    else keep
  else if !s.serving p then s0
  else if t = ptCtrl && !ctrlKnown code then s0.bump (ctrBadDrop p)
  else if t = ptData || t = ptFence then keep.belvAdd 16 (belvId (p.val + 1) (16 + paneVc h)) 240
  else keep

/-- A codeword received in a slot (R369), in training on a lane. -/
def State.receiveWord (s : State) (p : PortIx) (lane : Nat) (w : List Byte) (slot : Nat) : State :=
  match fecDecode w with
  | none =>
    let n := (s.port p).lane.consecUncorr + 1
    let s2 := ((s.laneCounts p lane slot []).modLane p (fun l => { l with consecUncorr := n })).bump (ctrFecUncorr p)
    if n = 16 then s2.retrain p lcFecRate else s2
  | some (pane, fixed) =>
    let s2 := (s.laneCounts p lane slot fixed).modLane p (fun l => { l with consecUncorr := 0 })
    let s3 := if fixed.isEmpty then s2 else s2.bump (ctrFecCw p)
    if paneCrcOk pane then s3.sortPane p slot pane else s3.bump (ctrCrcDrop p)

/-- The codeword slot the next codeword received has: of the stream in service, of the lane in training (R376, R435). -/
def Port.rxSlotOf (q : Port) (lane : Nat) : Nat := if q.pane.link.inService then q.keys.rxSlot else (q.lane.lane lane).slot

/-- The bytes of a codeword as the lanes bring them, descrambled (R366, R368), and the scrambler states after them. -/
def Port.descramble (q : Port) (lane : Nat) (bytes : List Byte) : List Byte × List Nat :=
  let n := q.rxSlotOf lane % q.rxMarkerSlots
  if q.pane.link.inService then
    let w := max 1 q.lane.rxWidth
    let r := scrambleStream w (272 * n) (if n = 0 then scrambleStarts w else q.lane.rxScr) bytes
    (r.1.map Prod.snd, r.2)
  else
    let r := scrambleStream 1 0 (if n = 0 then scrambleStarts 1 else [q.lane.rxScr.getD lane 0]) bytes
    (r.1.map Prod.snd, (laneIds.map (fun k => q.lane.rxScr.getD k 0)).set lane (r.2.getD 0 0))

/-- A codeword received: its slot is counted, and what it holds is handled. -/
def State.receive (s : State) (p : PortIx) (lane : Nat) (bytes : List Byte) : State :=
  let q := s.port p
  let x := q.descramble lane bytes
  let s1 := s.modLane p (fun l => { l with rxScr := x.2 })
  let s2 := if q.pane.link.inService then s1.modKeys p (fun k => { k with rxSlot := k.rxSlot + 1 })
    else s1.modLane p (fun l => l.modAt lane (fun e => { e with slot := e.slot + 1 }))
  s2.receiveWord p lane x.1 (q.rxSlotOf lane)

/-! ### Test (R399) -/

/-- TEST_CTL.LANE_MASK, PRBS and LOOP. -/
def LaneUnit.testLanes (l : LaneUnit) : Nat := bits l.testCtl 28 16
def LaneUnit.prbsCode (l : LaneUnit) : Nat := bits l.testCtl 9 8
def LaneUnit.nearLoop (l : LaneUnit) : Bool := bits l.testCtl 5 4 == 1 || bits l.testCtl 5 4 == 2

/-- The PRBS checker of a lane: the bits in error, and its state. It takes its first 32 bits as they are (DESIGN CHOICE, log entry 165). -/
def checkBits (code : Nat) (st : Option Nat) (bytes : List Byte) : Nat × Nat :=
  let start := match st with
    | some x => x
    | none => beNat (bytes.take 4) % 2 ^ 31
  let rest := if st.isNone then bytes.drop 4 else bytes
  let r := prbsBits code (8 * rest.length) start 0
  (popCount (8 * rest.length) (r.2 ^^^ beNat rest), r.1)

/-- Bytes of a lane checked: bit errors are counted in LANE_ERRk. -/
def State.checkPrbs (s : State) (p : PortIx) (k : Nat) (bytes : List Byte) : State :=
  let l := (s.port p).lane
  let r := checkBits l.prbsCode (l.lane k).check bytes
  (s.modLane p (fun l => l.modAt k (fun q => { q with check := some r.2 }))).bumpN (ctrLaneErr p k) r.1

/-- A codeword-length that a lane brings in test: returned where the far end asked for its lane, checked where PRBS is on, else received. -/
def State.testReceive (s : State) (p : PortIx) (lane : Nat) (bytes : List Byte) : State :=
  let l := (s.port p).lane
  let s1 := if l.farLoop.any (fun m => m.testBit lane) then
      s.modPane p (fun q => { q with sent := q.sent ++ [(s.port p).symbols (1 <<< lane) bytes] })
    else s
  if l.prbsCode = 0 then s1.receive p lane bytes
  else if l.testLanes.testBit lane then s1.checkPrbs p lane bytes else s1

/-- CODEWORD_RECEIVE (R369): the bytes of a codeword as the lanes bring them, scrambled; in service the stream of all active lanes, in training and
test those of one lane (R376). DESIGN CHOICE, log entry 97. -/
def execCodewordReceive (p : PortIx) (lane : Nat) (bytes : List Byte) (s : State) : Out :=
  act (s.linkLive && !s.portWaits p && ((s.port p).pane.link != .down || (s.port p).lane.testing) && bytes.length == 272 && decide (lane < 13)) s
    (if (s.port p).lane.testing then s.testReceive p lane bytes else s.receive p lane bytes)

/-! ### PANE_TRANSMIT -/

/-- A pane slot of the PRBS generator (R399): unscrambled, without markers; looped at the near end its bits reach the checkers. -/
def State.prbsSlot (s : State) (p : PortIx) : State :=
  let l := (s.port p).lane
  let r := prbsBits l.prbsCode 2176 l.prbs 0
  let bytes := beBytes 272 r.2
  let s1 := (s.modPane p (fun q => { q with sent := q.sent ++ [(s.port p).symbols l.testLanes bytes] })).modLane p (fun l => { l with prbs := r.1 })
  if l.nearLoop then (bitsSet 13 l.testLanes).foldl (fun a k => a.checkPrbs p k bytes) s1 else s1

/-- A pane slot in test (R399): PRBS, or a message, which a near-end loopback returns to this end. -/
def State.testSlot (s : State) (p : PortIx) : State :=
  let l := (s.port p).lane
  if l.prbsCode != 0 then s.prbsSlot p
  else
    let s1 := s.slotTraining p
    let w := ((s1.port p).pane.sent.drop (s.port p).pane.sent.length).findSome? (fun x => match x with
      | .codeword w => some w
      | _ => none)
    match w with
    | some w => if l.nearLoop then (bitsSet 13 l.testLanes).foldl (fun a k => a.receiveWord p k w (s.port p).keys.slot) s1 else s1
    | none => s1

/-- A cycle of two pane slots of a port, and what may follow once the messages of a training or a test have been sent (R376). -/
def State.transmit (s : State) (p : PortIx) : State :=
  if (s.port p).lane.testing then
    let s1 := (s.testSlot p).testSlot p
    let t := (s1.port p).lane.train
    if t.phase == .tune && t.waiting.isNone && (t.out || t.msg.isNone) then s1.tuneNext p else s1
  else (((s.paneSlot p).paneSlot p).noteIdle p).leadOn p

/-- PANE_TRANSMIT (R334): the two panes of a cycle, once no TIME pane is due. DEDUCED, log entry 84. -/
def execPaneTransmit (p : PortIx) (s : State) : Out := act (s.paneReady p && !s.timeDue p) s (s.transmit p)

/-! ### Panes by type -/

/-- DATA_PANE (R345). -/
def execDataPane (p : PortIx) (s : State) : Out :=
  act (s.linkLive && (s.rxHead p ptData).isSome) s (s.takePane p ptData (fun x t => if t.early p then t else t.takeData p x))

/-- A credit vector taken (R337, R341, R342). -/
def State.takeVector (s : State) (p : PortIx) (x : RxPane) : State :=
  s.takeControl p x (fun t =>
    if t.early p then t.modPane p (fun q => { q with creditStart := t.now })
    else match (t.port p).pane.takeRets (vcIds.map (fun v => (v, vectorRet x.body v))) with
    | none => t.protocolError p
    | some q => t.modPane p (fun _ =>
      ({ (vcIds.foldl (fun a v => a.modVc v (fun c => { c with demand := (vectorDemand x.body).testBit v })) q) with creditStart := t.now } : Pane).grantShared 4096))

/-- ACK_PANE (R344). -/
def execAckPane (p : PortIx) (s : State) : Out :=
  act (s.linkLive && (s.rxHead p ptAck).isSome) s (s.takePane p ptAck (fun x t => t.takeVector p x))

/-- IDLE_PANE (R337). -/
def execIdlePane (p : PortIx) (s : State) : Out :=
  act (s.linkLive && (s.rxHead p ptIdle).isSome) s (s.takePane p ptIdle (fun x t => t.takeVector p x))

/-- Panes to be sent again; the replay limit retrains (R347). -/
def State.resendAll (s : State) (p : PortIx) (ackNow : Bool) (l : List Nat) : State :=
  let r := l.foldl (fun (a : Pane × Bool) n => let x := a.1.resend n ackNow; (x.1, a.2 && x.2)) ((s.port p).pane, true)
  if r.2 then s.modPane p (fun _ => r.1) else s.retrain p lcReplay

/-- The Cullet panes a NAK lists (R347, R350). -/
def Pane.naked (q : Pane) (body : List Byte) : List Nat :=
  let l := (List.range (min 8 (body.headD 0).toNat)).map (fun i => beAt body (2 + 2 * i) 2)
  l.eraseDups.filterMap (fun n => (q.cullet.find? (fun c => c.seq % 65536 == n)).map CulletPane.seq)

/-- NAK_PANE (R347). -/
def execNakPane (p : PortIx) (s : State) : Out :=
  act (s.linkLive && (s.rxHead p ptNak).isSome) s (s.takePane p ptNak (fun x t =>
    t.takeControl p x (fun u => u.resendAll p false ((u.port p).pane.naked x.body))))

/-- A fence that every earlier unit of its channel has left (R339). -/
def Pane.leavingFence (q : Pane) : Option PoolSlot :=
  q.slots.find? (fun f => f.fenceKey.isSome && !q.slots.any (fun t => t.vc == f.vc && decide (t.seq < f.seq) && (t.waiting || t.left != 0 || t.fenceKey.isSome)))

/-- A fence that can leave leaves its slot; a RETIRE fence is recorded on its channel (R352). -/
def Pane.recordFence (q : Pane) : Pane :=
  match q.leavingFence with
  | none => q
  | some f =>
    let k := f.fenceKey.getD 0
    { q with fenced := if k = 0 then q.fenced else Table.put 0 q.fenced k (Table.get 0 q.fenced k ||| 1 <<< f.vc),
             slots := q.slots.map (fun t => if t.seq = f.seq then { t with fenceKey := none } else t) }

/-- Key indices of which all twelve fences are recorded on a port are reported to the Gatehouse: nothing older under them remains (R352). -/
def State.reportDrained (s : State) (p : PortIx) : State :=
  let full := ((List.range 16).filter (fun k => Table.get 0 (s.port p).pane.fenced k == 4095))
  if full.isEmpty then s
  else (s.modPane p (fun q => { q with fenced := full.foldl (fun t k => Table.put 0 t k 0) q.fenced })).modGate (fun g =>
    { g with drained := Table.put 0 g.drained p.val (Table.get 0 g.drained p.val ||| maskOf full) })

/-- A fence leaves its slot, where one can. -/
def State.fenceLeaves (s : State) (p : PortIx) : State := (s.modPane p Pane.recordFence).reportDrained p

/-- The head is a FENCE of the kind named. -/
def State.fenceHead (s : State) (p : PortIx) (void : Bool) : Bool :=
  match s.rxHead p ptFence with
  | none => false
  | some x => (x.body.headD 0 == 0x02) == void

/-- A received FENCE taken. -/
def State.takeFencePane (s : State) (p : PortIx) : State := s.takePane p ptFence (fun x t => if t.early p then t else t.takeFence p x)

/-- RETIRE_FENCE (R352): a received fence is taken, and a fence that can leave its slot leaves it. -/
def execRetireFence (p : PortIx) (s : State) : Out :=
  act (s.linkLive && (s.fenceHead p false || (s.port p).pane.leavingFence.isSome)) s
    ((if s.fenceHead p false then s.takeFencePane p else s).fenceLeaves p)

/-- VOID_FENCE (R362). -/
def execVoidFence (p : PortIx) (s : State) : Out := act (s.linkLive && s.fenceHead p true) s ((s.takeFencePane p).fenceLeaves p)

/-- A slot that every unit has left (R339). -/
def Pane.emptied (q : Pane) (n : Nat) : Option PoolSlot := q.slots.find? (fun t => t.seq == n && !t.waiting && t.left == 0 && t.fenceKey.isNone)

/-- SLOT_FREED (R340): the slot is named by the extended sequence number of its pane. -/
def execSlotFreed (p : PortIx) (slot : Nat) (s : State) : Out :=
  act (s.linkLive && ((s.port p).pane.emptied slot).isSome) s (s.modPane p (fun q => match q.emptied slot with
    | none => q
    | some t => q.dropSlot slot t.vc))

/-! ### Timers -/

/-- The gaps reported half an ack timeout ago and still open (R347). -/
def State.staleGaps (s : State) (p : PortIx) : List Nat :=
  let q := (s.port p).pane
  (q.gaps.filter (fun g => s.nsPassed g.2 (bits q.ctl 15 0 / 2) && decide (q.rxNext ≤ g.1) && !q.held.any (fun h => h.seq == g.1))).map Prod.fst

/-- NAK_REREPORT (R347). -/
def execNakRereport (p : PortIx) (s : State) : Out :=
  let l := (s.staleGaps p).take 8
  act (s.linkLive && s.serving p && !l.isEmpty) s
    (s.modPane p (fun q => { q with gaps := q.gaps.map (fun g => if g.1 ∈ l then (g.1, s.now) else g), nakDue := q.nakDue ++ l }))

/-- A timer that a lane power state of P1 or deeper stops (R393). -/
def State.timersRun (s : State) (p : PortIx) : Bool := s.linkLive && s.serving p && (s.port p).lane.lpsState == 0

/-- The ack timer has run out (R348). -/
def State.ackExpired (s : State) (p : PortIx) : Bool :=
  match (s.port p).pane.ackStart with
  | none => false
  | some t => s.timersRun p && s.nsPassed t (s.port p).pane.ackTimeout && !(s.port p).pane.cullet.isEmpty

/-- An expiry of the ack timer (R348). -/
def State.ackExpiry (s : State) (p : PortIx) : State :=
  let n := (s.port p).pane.ackExpiries + 1
  if n = 8 then s.retrain p lcReplay
  else (s.modPane p (fun q => { (q.startAck s.now) with ackExpiries := n })).resendAll p true (((s.port p).pane.cullet.head?).toList.map CulletPane.seq)

/-- ACK_TIMER_EXPIRY (R348). -/
def execAckTimerExpiry (p : PortIx) (s : State) : Out := act (s.ackExpired p) s (s.ackExpiry p)

/-- CREDIT_TIMEOUT (R342). -/
def execCreditTimeout (p : PortIx) (s : State) : Out :=
  act (s.timersRun p && s.usPassed (s.port p).pane.creditStart (bits (s.port p).pane.ctl 47 32)) s (s.retrain p lcCredit)

/-! ### Resumption (R358, R359) -/

/-- Up to 32 credits for each channel from the free slots, then the rest by demand (R359). -/
def Pane.firstGrants (q : Pane) : Pane :=
  (vcIds.foldl (fun a v =>
    let g := min 32 (min a.freeShared ((a.vc v).max - (a.vc v).allot))
    a.modVc v (fun c => { c with ret := (c.ret + g) % 4096, allot := c.allot + g, changed := true })) q).grantShared 4096

/-- The Cullet as resumption leaves it: panes the far end holds retired, the rest to be sent again with their counts begun anew. -/
def Pane.resumed (q : Pane) (farRx farTx now : Nat) : Pane :=
  let q1 := q.retireBelow (max q.ackNext (min farRx q.txNext)) now
  let q2 : Pane := { q1 with cullet := q1.cullet.map (fun c => { c with retx := 0, resend := 1 }), resuming := false, farOos := false,
                             ackDue := true, ctrlDue := q1.ctrlDue ++ [ctrlResume] }
  if q.anew then ({ q2 with rxNext := farTx, anew := false, blockReset := false } : Pane).firstGrants else { q2 with blockReset := false }

/-- What follows a resumption: KEY_LOST after a warm reset (R458), OUT_OF_SERVICE (R516). -/
def State.afterResume (s : State) (p : PortIx) : State :=
  let k := (s.port p).keys
  let s1 := if k.lostDue != 0 && k.hasSession then
      (s.secTo p 0x14 k.sessionNo (beBytes 2 k.lostDue)).modKeys p (fun k => { k with lostDue := 0 })
    else s
  if s.retained.oos then s1.ctrl p (ctrlOos s.topo.node) else s1

/-- A RESUME received (R358). DEDUCED, log entry 87. -/
def State.takeResume (s : State) (p : PortIx) (x : RxPane) : State :=
  match (s.port p).keys.segOf x.hdr x.slot x.body with
  | none => s.bump (ctrBadDrop p)
  | some g =>
    let b := x.body
    let far := BitVec.ofNat 32 (beAt b 4 4)
    let differs := decide (far ≠ (s.port p).pane.farPlId)
    let again := !(s.port p).pane.resuming && differs
    let s0 := s.modKeys p (fun k => { k with rxSeg := BitVec.ofNat 16 g })
    let s1 := if again then s0.modPane p (fun q => { q with resuming := true, resetDone := false, heardResume := false, lastResume := s.now, ctrlDue := q.ctrlDue ++ [ctrlResume] }) else s0
    let s2 := if differs && !(s1.port p).pane.resetDone then (s1.paneReset p).modPane p (fun q => { q with resetDone := true }) else s1
    let s3 := s2.modPane p (fun q =>
      vcIds.foldl (fun a v => a.modVc v (fun c => { c with farMax := (beAt b 28 18 >>> (12 * (11 - v))) % 4096 })) { q with farPlId := far, heardResume := true })
    if (s3.port p).pane.resuming && beAt b 8 4 == (s3.port p).pane.plId.toNat then
      (s3.modPane p (fun q => q.resumed (beAt b 12 8) (beAt b 20 8) s.now)).afterResume p
    else s3

/-- RESUME (R358). -/
def execResume (p : PortIx) (s : State) : Out :=
  act (s.linkLive && s.ctrlHead p 0x01) s (s.takePane p ptCtrl (fun x t => t.takeResume p x))

/-- RESUME_TIMER (R358). -/
def execResumeTimer (p : PortIx) (s : State) : Out :=
  act (s.linkLive && s.serving p && (s.port p).pane.resuming && s.usPassed (s.port p).pane.lastResume 2) s
    ((s.ctrl p ctrlResume).modPane p (fun q => { q with lastResume := s.now }))

/-- OUT_OF_SERVICE_CTRL (R360): shown in PL_STATUS, and reported to the Lodge firmware. -/
def execOutOfServiceCtrl (p : PortIx) (s : State) : Out :=
  act (s.linkLive && s.ctrlHead p 0x04) s (s.takePane p ptCtrl (fun x t => t.takeControl p x (fun u =>
    (u.modPane p (fun q => { q with farOos := true })).modLodge (fun l => { l with oosPorts := l.oosPorts ||| (1#6 <<< p.val) }))))

/-! ### PURGE (R361, R362) -/

/-- The link of a port lies wholly inside the block of a Pavilion (R312, R361, R418). -/
def State.linkInBlock (s : State) (pav : Nat) (p : PortIx) : Bool :=
  match s.topo.install with
  | none => false
  | some t => s.inBlock pav s.topo.node && s.inBlock pav (neighbour t s.topo.node p)

/-- PURGE on one port: discards counted. DEDUCED, log entry 90. -/
def State.purgePort (s : State) (p : PortIx) (ok : Nat → Bool) : State × Nat × Nat :=
  let r := s.discardQueued p ok
  let v := (r.1.bumpN (ctrPlDiscard p) r.2).voidCullet p ok
  (v.1, r.2, v.2)

/-- PURGE on the ports named, and its two counts. -/
def State.purgePorts (s : State) (ports keys : Nat) : State × Nat × Nat :=
  allPorts.foldl (fun (a : State × Nat × Nat) p =>
    if ports.testBit p.val then
      let r := a.1.purgePort p (fun k => keys.testBit k)
      (r.1, a.2.1 + r.2.1, a.2.2 + r.2.2)
    else a) (s, 0, 0)

/-- PURGE performed. -/
def State.purgeCmd (s : State) (r : AdminRef) : State :=
  let c := s.cmdD r
  let ports := bits (c.arg 2) 5 0
  let keys := bits (c.arg 3) 15 0
  if bits (c.arg 2) 63 6 != 0 || bits (c.arg 3) 63 16 != 0 || !c.zeroArgs [4, 5, 6, 7] || ports = 0 || keys = 0 then s.finish r asBadCommand
  else if c.pav != 0 && (keys != 1 <<< c.pav || allPorts.any (fun p => ports.testBit p.val && !s.linkInBlock c.pav p)) then s.finish r asDenied
  else
    let x := s.purgePorts ports keys
    x.1.finish r asOk x.2.1 x.2.2

/-- PURGE (R361, R362). -/
def execPurge (r : AdminRef) (s : State) : Out := act (s.mgmtIs r 0x0301 && s.lodgeTurn r) s (s.purgeCmd r)

end Sys2Proof.Machine
end

