-- ==== Sys2Proof/Machine/OpsAnneal.lean ====
section
/-!
DEFINITION. The shared operations of Anneal (R72 to R76, R533 to R538): its messages, its tree, a node's own part, its completion and its end.
-/
namespace Sys2Proof.Machine

/-- The payload unit of an ANNEAL message (R533); `last` holds T_A, T_R or HELD. -/
def annealUnit (pav initiator id count last : Nat) : LinkUnit :=
  unit (place pav 124 4 + place initiator 111 13 + place id 79 32 + place count 64 15 + place last 0 64)

/-- The diameter of the block of a Pavilion (R419). -/
def State.blockDiameter (s : State) (pav : Nat) : Nat :=
  match s.topo.install, s.blockOf pav with
  | some t, some b => b.diameter t
  | _, _ => 0

/-- Ticks of 30 µs for each hop of the diameter, and the lead of R534. -/
def annealFloor (d : Nat) : Nat := usTicks (30 * d)
def annealLead (d : Nat) : Nat := usTicks (30 * d + 100)

/-- The bound of R75 from T_A. -/
def annealSpan (d : Nat) : Nat := usTicks (40 * d)

/-- An ANNEAL message sent to every neighbour in service inside the block (R534). -/
def State.floodBlock (s : State) (pav sub : Nat) (payload : LinkUnit) : State :=
  allPorts.foldl (fun a p => if a.serving p && a.linkInBlock pav p then a.mgmtTo p 5 sub [payload] else a) s

/-- One Anneal changed. -/
def State.modAnneal (s : State) (id : BitVec 32) (f : Anneal → Anneal) : State :=
  s.modLodge (fun l => { l with anneals := l.anneals.map (fun a => if a.id = id then f a else a) })

/-- The Anneal of a Pavilion at this node. -/
def State.annealOf (s : State) (pav : Nat) : Option Anneal := s.lodge.anneals.find? (fun a => a.pav == pav)

/-- The ready nodes of the block of a Pavilion (R422, R537). -/
def State.readyCount (s : State) (pav : Nat) : Nat :=
  match s.topo.install, s.blockOf pav with
  | some t, some b => (t.ids.filter (fun n => s.topo.ready.testBit n && b.has t n)).length
  | _, _ => 0

/-- The ports across which a ready neighbour of the block has this node as parent (R536): its first hop to the initiator is the same link.
DEDUCED, log entry 116. -/
def State.annealChildren (s : State) (a : Anneal) : List PortIx :=
  match s.topo.install with
  | none => []
  | some t => allPorts.filter (fun p =>
      let n := neighbour t s.topo.node p
      s.linkInBlock a.pav p && s.topo.ready.testBit n && decide (n ≠ a.initiator) && decide (n ≠ s.topo.node) &&
        (routeOf t n a.initiator).1 == (if p.val % 2 = 0 then p.val + 1 else p.val - 1))

/-- Units of a Pavilion queued at a port, those of class MGMT apart (R536). -/
def Pane.unitsOf (q : Pane) (key : Nat) : Bool :=
  q.txq.any (fun m => m.key == key && decide (2 ≤ m.vc)) || q.cur.any (fun e => e.2.key == key && e.2.busy && decide (2 ≤ e.1 / 2)) ||
    q.cullet.any (fun c => c.key == key && !c.fence && decide (2 ≤ c.vc))

/-- Accesses whose effect R74 finds done: of requests at either end, of local operations, of runs and of completion records. -/
def FabUse.ofWork : FabUse → Bool
  | .record .. => true
  | .opStore .. => true
  | .semAtomic .. => true
  | .creq .. => true
  | .gatherOut .. => true
  | .runStatus .. => true
  | .doneSem .. => true
  | _ => false

/-- A node's own part of R74 (R536): no request of the Pavilion outstanding or being performed, no access of one outstanding, no unit of it
queued, and every completed buffer counted. -/
def State.annealQuiet (s : State) (pav : Nat) : Bool :=
  s.xfer.tags.used.all (fun t => t.pav != pav) && s.xfer.creqs.all (fun r => r.pav != pav) && s.xfer.localQ.all (fun m => m.key != pav) &&
    s.fab.out.all (fun a => !(a.use.ofWork && a.pav == pav)) && s.fab.waiting.all (fun a => !(a.use.ofWork && a.pav == pav)) &&
    s.chanList.all (fun i => (s.chan i).pav != pav || (s.bufferDone i).isNone) && allPorts.all (fun p => !((s.port p).pane.unitsOf pav))

/-- The ports of the block that are DOWN with units of the Pavilion held on them (R75, R536). -/
def State.heldPorts (s : State) (pav : Nat) : List PortIx :=
  allPorts.filter (fun p => (s.port p).pane.link == .down && s.linkInBlock pav p && (s.port p).pane.unitsOf pav)

/-- The nodes and held links counted so far, this node included when `own`. -/
def Anneal.total (a : Anneal) (own : Bool) (held : Nat) : Nat × Nat :=
  a.counts.foldl (fun t c => (t.1 + c.2.1, t.2 + c.2.2)) (b2n own, held)

/-- The ANNEAL command of the initiator completed (R537) and its notice written (R530). -/
def State.completeAnneal (s : State) (a : Anneal) (count held : Nat) (incomplete : Bool) : State :=
  let s1 := (s.modAnneal a.id (fun a => { a with doneSent := true, cmd := none })).notice 0x07 (leBytes 4 a.id.toNat ++ [BitVec.ofNat 8 (b2n incomplete)])
  match a.cmd with
  | none => s1
  | some r => s1.finish r asOk a.ta (b2n incomplete + held % 32768 * 2) count

/-- DONE sent to the parent (R536). -/
def State.sendDone (s : State) (a : Anneal) (held : Nat) : State :=
  let c := a.total true held
  let s1 := s.modAnneal a.id (fun a => { a with doneSent := true })
  match s.topo.install with
  | none => s1
  | some t =>
    let p := (routeOf t s.topo.node a.initiator).1
    if h : p < 6 then s1.mgmtTo ⟨p, h⟩ 5 1 [annealUnit a.pav a.initiator a.id.toNat c.1 (c.2 <<< 49)] else s1

/-- Whether DONE, or the completion at the initiator, is due (R536, R537). -/
def State.doneDue (s : State) (a : Anneal) : Bool :=
  a.applied && !a.doneSent && s.annealQuiet a.pav &&
    (if a.initiator = s.topo.node then (a.total true 0).1 == s.readyCount a.pav
     else (s.annealChildren a).all (fun p => a.counts.any (fun c => c.1 == p.val)))

/-- What is due then. -/
def State.annealDone (s : State) (a : Anneal) : State :=
  if !s.doneDue a then s
  else if a.initiator = s.topo.node then
    let c := a.total true 0
    s.completeAnneal a c.1 c.2 (decide (0 < c.2))
  else s.sendDone a 0

/-- An operation held by an Anneal, or not admitted (R74): its requests are not all formed, or it waits. -/
def OpSlot.held (o : OpSlot) : Bool :=
  match o.phase with
  | .admitted => true
  | .running => !o.allFormed || (match o.body with
    | .wait .. => true
    | _ => false)
  | _ => false

/-- A channel that R74 has PAUSED: one with an operation held, or not admitted, those of entries pending included. -/
def Channel.toPause (c : Channel) : Bool :=
  c.state == .active && (decide (0 < c.pendingCount) || c.begunBufs.any (fun b => !b.admittedAll || b.ops.any OpSlot.held))

/-- The channels of a Pavilion an Anneal pauses now (R83). -/
def State.pausing (s : State) (pav : Nat) : List Nat := s.chanList.filter (fun i => (s.chan i).pav == pav && (s.chan i).toPause)

/-- They are PAUSED. -/
def State.pauseChans (s : State) (pav : Nat) : State := (s.pausing pav).foldl (fun t i => (t.counted i).modChan i (fun c => { c with state := .paused })) s

/-- An Anneal applied (R72). -/
def State.applyAnneal (s : State) (a : Anneal) : State :=
  (s.modAnneal a.id (fun a => { a with applied := true, state := if a.state = .pending then .annealed else a.state })).pauseChans a.pav

/-- A Pavilion goes on (R76, R118): PAUSED channels are ACTIVE and fetch, drains, relayed jobs and sends go on. -/
def State.resumePav (s : State) (pav : Nat) : State :=
  let paused := s.chanList.filter (fun i => (s.chan i).pav == pav && (s.chan i).state == .paused)
  let drains := s.chanList.filter (fun i => (s.chan i).pav == pav && (s.chan i).draining)
  let s1 := drains.foldl (fun t i => (t.tryBegin i).tryFetch i) (paused.foldl State.resumeChan s)
  let s2 := (s1.xfer.jobs.filter (fun j => j.pav == pav)).foldl (fun t j => t.pumpJob j.id pumpFuel) (s1.activity pav)
  (List.range 64).foldl (fun t i => match t.gslot i with
    | some q => if q.pav = pav then (t.pumpSends i).pumpRun i else t
    | none => t) s2

/-- An Anneal ends at this node (R76, R538): a command that still waits completes with what has arrived. -/
def State.endAnneal (s : State) (a : Anneal) : State :=
  let s1 := if a.initiator = s.topo.node && !a.doneSent then
      let c := a.total (s.annealQuiet a.pav) 0
      s.completeAnneal a c.1 c.2 true
    else s
  (s1.modLodge (fun l => { l with anneals := l.anneals.filter (fun b => b.id != a.id) })).resumePav a.pav

end Sys2Proof.Machine
end

