-- ==== Sys2Proof/Machine/Anneal.lean ====
section
/-!
DEFINITION. The commands of Anneal (R72 to R76, R533 to R538).
-/
namespace Sys2Proof.Machine

/-- What refuses ANNEAL or ANNEAL_RELEASE: a reserved bit, or another Pavilion than the ring's (R534, R538). -/
def annealRefused (c : AdminCmd) : Option Nat :=
  if bits (c.arg 2) 63 4 != 0 || !c.zeroArgs [4, 5, 6, 7] then some asBadCommand
  else if c.pav != 0 && bits (c.arg 2) 3 0 != c.pav then some asDenied
  else none

/-- ANNEAL performed (R534): T_A set, the Anneal applied locally from T_A on, REQ flooded. -/
def State.startAnneal (s : State) (r : AdminRef) : State :=
  let c := s.cmdD r
  let p := bits (c.arg 2) 3 0
  let d := s.blockDiameter p
  let ta := if c.arg 3 = 0 then s.podTime + annealLead d else (c.arg 3).toNat
  match annealRefused c with
  | some st => s.finish r st
  | none =>
    if !s.inBlock p s.topo.node || decide (ta < s.podTime + annealFloor d) || (s.annealOf p).isSome then s.finish r asBadState
    else
      let id := BitVec.ofNat 32 (s.freeVal .annealId)
      let a : Anneal := { id := id, pav := p, initiator := s.topo.node, ta := ta, state := .pending, cmd := some r }
      ((s.drawn.working r).modLodge (fun l =>
        { l with anneals := l.anneals ++ [a], flooded := l.flooded ++ [id], annealId := id, annealPav := BitVec.ofNat 4 p, annealHeld := 0,
                 annealLate := false })).floodBlock p 0 (annealUnit p s.topo.node id.toNat 0 ta)

/-- ANNEAL (R534). -/
def execAnneal (r : AdminRef) (s : State) : Out := act (s.mgmtIs r 0x0601 && s.lodgeTurn r) s (s.startAnneal r)

/-- ANNEAL_RELEASE performed (R538). DEDUCED, log entry 115. -/
def State.releaseAnneal (s : State) (r : AdminRef) : State :=
  let c := s.cmdD r
  let p := bits (c.arg 2) 3 0
  let tr := if c.arg 3 = 0 then s.podTime + annealLead (s.blockDiameter p) else (c.arg 3).toNat
  match annealRefused c with
  | some st => s.finish r st
  | none => match s.annealOf p with
    | none => s.finish r asBadState
    | some a =>
      if a.state ≠ .annealed then s.finish r asBadState
      else ((s.modAnneal a.id (fun a => { a with tr := tr, state := .releasing })).floodBlock p 2
        (annealUnit p a.initiator a.id.toNat 0 tr)).finish r asOk

/-- ANNEAL_RELEASE (R538). -/
def execAnnealRelease (r : AdminRef) (s : State) : Out := act (s.mgmtIs r 0x0602 && s.lodgeTurn r) s (s.releaseAnneal r)

/-- An ANNEAL message of a sub-type. -/
def isAnneal (sub : Nat) (m : Msg) : Bool := mgmtType m.hdr == 5 && mgmtSub m.hdr == sub

/-- A REQ kept as the Anneal of its Pavilion (R535): applied on arrival when T_A has passed. -/
def State.keepAnneal (s : State) (a : Anneal) : State :=
  let late := decide (a.ta ≤ s.podTime)
  let s1 := s.modLodge (fun l =>
    { l with anneals := l.anneals.filter (fun b => b.pav != a.pav) ++ [a], annealId := a.id, annealPav := BitVec.ofNat 4 a.pav,
             annealHeld := 0, annealLate := late })
  if late then s1.applyAnneal a else s1

/-- A REQ not seen before (R535): the earlier T_A is kept, on a tie the lower INITIATOR; the other command ends. -/
def State.judgeAnneal (s : State) (a : Anneal) : State :=
  match s.annealOf a.pav with
  | none => s.keepAnneal a
  | some b =>
    if b.state = .releasing || decide (a.ta < b.ta) || (a.ta == b.ta && decide (a.initiator < b.initiator)) then
      let s1 := match b.cmd with
        | some r => s.finish r asBadState a.ta
        | none => s
      s1.keepAnneal { a with applied := b.applied, state := if b.applied then .annealed else .pending }
    else s

/-- A REQ taken: flooded once (R534). -/
def State.takeAnnealReq (s : State) (w : LinkUnit) : State :=
  let id := BitVec.ofNat 32 (bits w 110 79)
  let p := bits w 127 124
  if id ∈ s.lodge.flooded || !s.inBlock p s.topo.node then s
  else
    ((s.modLodge (fun l => { l with flooded := l.flooded ++ [id] })).floodBlock p 0 w).judgeAnneal
      { id := id, pav := p, initiator := bits w 123 111, ta := bits w 63 0, state := .pending }

/-- ANNEAL_REQ (R535). -/
def execAnnealReq (p : PortIx) (s : State) : Out := s.takeInbound p (isAnneal 0) (fun m u => u.takeAnnealReq (m.body.getD 0 0))

/-- Something of an Anneal is due: T_A has come, a channel falls to be PAUSED, or the node's part is done. -/
def State.annealStep (s : State) (a : Anneal) : Bool :=
  (!a.applied && decide (a.ta ≤ s.podTime)) || (a.applied && (!(s.pausing a.pav).isEmpty || s.doneDue a))

/-- What is due then. -/
def State.stepAnneal (s : State) (a : Anneal) : State :=
  if !a.applied then s.applyAnneal a else (s.pauseChans a.pav).annealDone a

/-- ANNEAL_TA (R72, R73, R536). DEDUCED, log entry 117. -/
def execAnnealTa (s : State) : Out :=
  match s.lodge.anneals.find? s.annealStep with
  | none => act false s s
  | some a => act s.live s (s.stepAnneal a)

/-- A DONE taken (R536): the last from a port counts. -/
def State.takeAnnealDone (s : State) (p : PortIx) (w : LinkUnit) : State :=
  let id := BitVec.ofNat 32 (bits w 110 79)
  let s1 := s.modAnneal id (fun a => { a with counts := a.counts.filter (fun c => c.1 != p.val) ++ [(p.val, bits w 78 64, bits w 63 49)] })
  match s1.lodge.anneals.find? (fun a => a.id == id) with
  | none => s1
  | some a => s1.annealDone a

/-- ANNEAL_DONE_MSG (R536). -/
def execAnnealDoneMsg (p : PortIx) (s : State) : Out := s.takeInbound p (isAnneal 1) (fun m u => u.takeAnnealDone p (m.body.getD 0 0))

/-- The bound of an Anneal has passed with DONE, or the completion, outstanding (R75). -/
def State.boundDue (s : State) (a : Anneal) : Bool := a.applied && !a.doneSent && decide (a.ta + annealSpan (s.blockDiameter a.pav) ≤ s.podTime)

/-- The bound (R75, R536, R537): held links are listed, DONE is sent, the initiator completes with INCOMPLETE. -/
def State.annealBound (s : State) (a : Anneal) : State :=
  let held := s.heldPorts a.pav
  let s1 := s.modLodge (fun l => { l with annealHeld := if l.annealId = a.id then BitVec.ofNat 6 (maskOf (held.map (fun p => p.val))) else l.annealHeld })
  if a.initiator = s.topo.node then
    let c := a.total (s.annealQuiet a.pav || !held.isEmpty) held.length
    s1.completeAnneal a c.1 c.2 true
  else s1.sendDone a held.length

/-- ANNEAL_BOUND (R75). -/
def execAnnealBound (s : State) : Out :=
  match s.lodge.anneals.find? s.boundDue with
  | none => act false s s
  | some a => act s.live s (s.annealBound a)

/-- A RELEASE taken: flooded once (R538). -/
def State.takeAnnealRelease (s : State) (w : LinkUnit) : State :=
  match s.annealOf (bits w 127 124) with
  | none => s
  | some a =>
    if a.id.toNat = bits w 110 79 && a.state ≠ .releasing then
      (s.modAnneal a.id (fun a => { a with tr := bits w 63 0, state := .releasing })).floodBlock a.pav 2 w
    else s

/-- ANNEAL_RELEASE_MSG (R538). -/
def execAnnealReleaseMsg (p : PortIx) (s : State) : Out := s.takeInbound p (isAnneal 2) (fun m u => u.takeAnnealRelease (m.body.getD 0 0))

/-- ANNEAL_TR (R76). -/
def execAnnealTr (s : State) : Out :=
  match s.lodge.anneals.find? (fun a => a.state == .releasing && decide (a.tr ≤ s.podTime)) with
  | none => act false s s
  | some a => act s.live s (s.endAnneal a)

end Sys2Proof.Machine
end

