-- ==== Sys2Proof/Machine/Flags.lean ====
section
/-!
DEFINITION. The value flags of atomics (R133, R155, R158, R199, R216, R555): the new value of every sub-operation, computed by the completer
from the old value and the operand with the arithmetic of the atomic unit.
-/
namespace Sys2Proof.Machine

/-- The sub-operations of R155. -/
def sopAdd : Nat := 0x00
def sopAddSat : Nat := 0x01
def sopMin : Nat := 0x02
def sopMax : Nat := 0x03
def sopAnd : Nat := 0x04
def sopOr : Nat := 0x05
def sopXor : Nat := 0x06
def sopSwap : Nat := 0x07
def sopCas64 : Nat := 0x08
def sopCas128 : Nat := 0x09
/-- The SIGNAL modes (R158, R328). -/
def sopSigAdd : Nat := 0x80
def sopSigSet : Nat := 0x81
def sopSigMax : Nat := 0x82

/-- A 64-bit bit-pattern sub-operation. -/
def atomic64 (sub old x y : Nat) : Nat :=
  if sub = sopAnd then old &&& x
  else if sub = sopOr then old ||| x
  else if sub = sopXor then old ^^^ x
  else if sub = sopSwap || sub = sopSigSet then x
  else if sub = sopCas64 then (if old = x then y else old)
  else if sub = sopSigAdd then (old + x) % 2 ^ 64
  else max old x

/-- An integer sub-operation. -/
def atomicInt (f sub old x : Nat) : Flagged Nat := do
  let a := intOf f old
  let b := intOf f x
  if sub = sopAdd || sub = sopAddSat then
    let r ← intAdd f (sub == sopAddSat) a b
    return intBits f r
  else return intBits f (if (sub == sopMin) == decide (a ≤ b) then a else b)

/-- A K16 sub-operation (R199). -/
def atomicK16 (sub old x : Nat) : Flagged Nat := do
  let a := BitVec.ofNat 16 old
  let b := BitVec.ofNat 16 x
  if sub = sopAdd then
    let r ← k16Add a b
    return r.toNat
  else
    let r ← (k16 a).pick (sub == sopMin) (k16 b)
    return r.write16.toNat

/-- A binary32 sub-operation (R199, R213 to R216). -/
def atomicB32 (sub old x : Nat) : Flagged Nat := do
  let a ← read32 (BitVec.ofNat 32 old)
  let b ← read32 (BitVec.ofNat 32 x)
  let r ← if sub = sopAdd then a.add b else a.pick (sub == sopMin) b
  return r.write32.toNat

/-- The new value of an atomic and its flags (R155, R555). `old` has the size of the format; `x`, `y` are OPERAND and OPERAND2, `lo`
and `hi` the new halves of CAS128. -/
def atomicNew (sub f old x y lo hi : Nat) : Nat × Nat :=
  if sub = sopCas128 then (if old = x + 2 ^ 64 * y then lo + 2 ^ 64 * hi else old, 0)
  else if f = fB64 then (atomic64 sub old x y, 0)
  else if isIntFmt f then (atomicInt f sub old x).run 0
  else if f = fK16 then (atomicK16 sub old x).run 0
  else (atomicB32 sub old x).run 0

/-- The flags of an atomic. -/
def atomicFlags (sub f old x y lo hi : Nat) : Nat := (atomicNew sub f old x y lo hi).2

end Sys2Proof.Machine
end

