-- ==== Sys2Proof/Machine/FabricResponses.lean ====
section
/-!
DEFINITION. The answers of the carrier's fabric (R36, R37, R116, R117, R134, R148, R183, R187, R188, R197 to R200, R203, R512, R552, R555):
each goes to what its access was for.
-/
namespace Sys2Proof.Machine

/-! ### Completion records (R117, R134, R512) -/

/-- The record of a buffer is visible: its signal word may follow, or nothing of the buffer is left (R135). DEDUCED, log entry 42. -/
def Channel.recordDone (c : Channel) (ring : Nat) : Channel :=
  { c with recs := (c.recs.map (fun r => if r.ring = ring then { r with recordOut := false } else r)).filter (fun r => r.recordOut || r.sigDue) }

/-- A record write answered: visible, or dropped with its signal word; a fault puts a channel that still runs in ERROR (R117). A partition
reset changes no channel's state, and no failed record that of a draining channel. DEDUCED, log entry 160. -/
def State.recordAnswer (s : State) (ch gen ring addr : Nat) (res : FabResult) : State :=
  let c := s.chan ch
  if c.gen.toNat ≠ gen then s
  else
    let drop (s : State) (cause : Nat) : State :=
      (s.modChan ch (fun c => { c with recs := c.recs.filter (fun r => r.ring != ring) })).raiseContained
        (mkReport cause (unit := 1) (access := 6) (pav := c.pav) (channel := ch) (addr := addr))
    match res with
    | .visible => s.modChan ch (fun c => c.recordDone ring)
    | .partReset => drop s 0x13
    | _ => if c.state == .active || c.state == .paused then (drop s 0x14).chanError ch 1
        else (drop s 0x14).modChan ch (fun c => { c with later := c.later + 1 })

/-! ### Source reads under a tag (R148, R183, R187, R188, R194, R203) -/

/-- The Pavilion's access a failed source read is reported with, and its channel. -/
def State.tagReadFault (s : State) (a : TagAlloc) (addr : Nat) (res : FabResult) : State :=
  match a.owner with
  | .op o => s.accessFault res a.pav o.chan 1 addr 2 a.engine
  | .sigWord ch => s.accessFault res a.pav ch 1 addr
  | .relay _ => s.accessFault res a.pav 0xFFF 1 addr 4
  | .kv _ => s.accessFault res a.pav 0xFFF 1 addr 2 a.engine

/-- Bytes of a request's source: once all are in, its message is ready, a measured PUT feeds its slot, and the source's window and
translations are needed no more (R174, R178). -/
def State.tagData (s : State) (a : TagAlloc) (off : Nat) (l : List Byte) : State :=
  let got := a.got ++ [(off, l)]
  let data := joinPieces got
  let s1 := s.modTag a.tag (fun t => { t with got := got })
  if data.length < a.need then s1
  else
    let s2 := ((s1.modTag a.tag (fun t => { t with need := 0, got := [] })).fillMsg a.tag (fun m => m.fill data)).pwcLeave (userTag a.tag)
    match a.owner with
    | .op o => s2.feedOp o a.off data
    | .relay id => (s2.pwcLeave (userReq id)).endReleases
    | .kv _ => s2.endReleases
    | _ => s2

/-- A source read answered. -/
def State.tagReadAnswer (s : State) (tag use off addr : Nat) (res : FabResult) : State :=
  match s.tagAlloc tag with
  | none => s
  | some a =>
    if a.use ≠ use || a.need = 0 then s
    else match res with
      | .data l => s.tagData a off l
      | _ =>
        let s1 := ((s.tagReadFault a addr res).freeTag tag).dropMsg tag
        if a.owner.hasChan && !s.genOk a.chan a.cgen then s1 else s1.ownerEnd a res.status 0 []

/-! ### Local stores and local SIGNALs (R37, R148) -/

/-- A store of a GET, or of an atomic's result, answered. -/
def State.opStoreAnswer (s : State) (o : OpRef) (gen addr : Nat) (res : FabResult) : State :=
  if !s.genOk o.chan gen then s
  else match res with
    | .visible => s.opLess o 1
    | _ => (s.accessFault res (s.chan o.chan).pav o.chan 2 addr).opFail o res.status 1

/-- The update of a local SIGNAL answered. -/
def State.semAtomicAnswer (s : State) (o : OpRef) (gen addr : Nat) (res : FabResult) : State :=
  if !s.genOk o.chan gen then s
  else match res with
    | .visible => s.opLess o 1
    | .data _ => s
    | _ => (s.accessFault res (s.chan o.chan).pav o.chan 7 addr 3).opFail o res.status 1

/-! ### Accesses of the completer (R36, R183, R197, R198, R555) -/

/-- The access code of a request. -/
def CReq.access (r : CReq) : Nat :=
  match r.kind with
  | .read => 1
  | .atomic .. => 3
  | .sigWord => 3
  | _ => 2

/-- One access of a request is over: the request ends with the last, with its first failure or with its data. -/
def State.creqStep (s : State) (id : Nat) : State :=
  match s.creq id with
  | none => s
  | some r =>
    if 1 < r.out then s.modCreq id (fun r => { r with out := r.out - 1 })
    else if r.status = 0 then s.finishCreq r stOk 0 (match r.kind with
      | .read => joinPieces r.got
      | _ => [])
    else s.finishCreq r r.status 0 []

/-- The answer to an access of a request. -/
def State.creqAnswer (s : State) (id off addr : Nat) (res : FabResult) : State :=
  match s.creq id with
  | none => s
  | some r => match res with
    | .data l => (s.modCreq id (fun r => { r with got := r.got ++ [(off, l)] })).creqStep id
    | .visible => s.creqStep id
    | _ => ((s.accessFault res r.pav 0xFFF r.access addr (if r.kind.isAtomic then 3 else 4)).modCreq id (fun r => { r with status := if r.status = 0 then res.status else r.status })).creqStep id

/-- An atomic is done: the old value and the flags go back (R198, R199, R555). -/
def State.creqAtomic (s : State) (id : Nat) (old : List Byte) : State :=
  match s.creq id with
  | none => s
  | some r => match r.kind with
    | .atomic sub fmt x y lo hi => s.finishCreq r stOk (atomicFlags sub fmt (leNat old) x.toNat y.toNat lo.toNat hi.toNat) old
    | .sigWord => s.finishCreq r stOk 0 []
    | _ => s

/-! ### The Lodge and Belvedere (R201, R530, R544, R567) -/

/-- Whether an access of a use is outstanding or waits for a port. -/
def State.hasAnyUse (s : State) (f : FabUse → Bool) : Bool := s.fab.out.any (fun a => f a.use) || s.fab.waiting.any (fun a => f a.use)

/-- A sealed digest written to memory; the status of a seal whose write fails is not given (DESIGN CHOICE, log entry 14). -/
def State.digestAnswer (s : State) (r : AdminRef) (addr : Nat) (res : FabResult) : State :=
  match res with
  | .visible => if s.hasAnyUse (fun u => u == .digest r) then s else s.finish r asOk
  | _ => ((s.accessFault res 0 0xFFF 2 addr 0x0D).drawn).finish r (s.freeVal .adminStatus % 7)

/-- An SPDM response written to memory (R429): the command completes with its length once all of it is visible. -/
def State.spdmAnswer (s : State) (r : AdminRef) (len addr : Nat) (res : FabResult) : State :=
  match res with
  | .visible => if s.hasAnyUse (fun u => u == .spdm r len) then s else s.finish r asOk len
  | _ => ((s.accessFault res 0 0xFFF 2 addr 0x0D).drawn).finish r (s.freeVal .adminStatus % 7)

/-- A notice is visible: its vector is signalled (R530, R567). A failed write loses the notice. DEDUCED, log entry 142. -/
def State.noticeAnswer (s : State) (addr : Nat) (res : FabResult) : State :=
  match res with
  | .visible => s.msi (bits s.lodge.noticeRing 61 56)
  | _ => s.accessFault res 0 0xFFF 2 addr 0x0D

def State.belvSet (s : State) (i : Nat) : BelvSet := Table.get {} s.belv.sets i
def State.modBelvSet (s : State) (i : Nat) (f : BelvSet → BelvSet) : State :=
  s.modBelv (fun b => { b with sets := Table.put {} b.sets i (f (Table.get {} b.sets i)) })

/-- The accesses of a counter set are waited for no longer. -/
def State.forgetBelv (s : State) (i : Nat) : State := s.forget (fun u => u == .belv i)

/-- The bytes of a record (R543). -/
def BelvSet.recordLen (b : BelvSet) : Nat := 64 * ceilDiv (64 + 8 * b.list.length) 64

/-- The header of a ring: PRODUCED, OVERRUN and LATE (R543). -/
def BelvSet.header (b : BelvSet) : List Byte := leBytes 8 b.produced.toNat ++ leBytes 8 b.overrun.toNat ++ leBytes 8 b.late.toNat

/-- CONSUMED was read (R544): OVERRUN advances when the ring is full, and the record is written over the oldest. -/
def State.belvWrite (s : State) (i : Nat) (consumed : Nat) : State :=
  let b := s.belvSet i
  let full := (b.produced - BitVec.ofNat 64 consumed).toNat = 2 ^ b.log2
  let lost1 := if full then b.overrun + 1 else b.overrun
  let rec1 := b.record.take 32 ++ leBytes 8 lost1.toNat ++ b.record.drop 40
  let ws := writePieces (b.ring + 4096 + b.recordLen * (b.produced.toNat % 2 ^ b.log2)) rec1 b.owner (fun _ => .belv i)
  (s.modBelvSet i (fun b => { b with overrun := lost1, readOut := false, outstanding := ws.length, record := rec1 })).issueAll ws

/-- The record is visible: PRODUCED counts it, and the header is written. -/
def State.belvProduced (s : State) (i : Nat) : State :=
  let s1 := s.modBelvSet i (fun b => { b with produced := b.produced + 1, pending := false, first := false, outstanding := 0,
                                              lastSeq := BitVec.ofNat 32 (leAt b.record 0 8), record := [] })
  let b := s1.belvSet i
  s1.issueAll (writePieces b.ring b.header b.owner (fun _ => .belv i))

/-- The answer to a ring access of a counter set (R544): a failure stops the set. -/
def State.belvAnswer (s : State) (i addr : Nat) (res : FabResult) : State :=
  let b := s.belvSet i
  if !b.enabled || b.faulted then s
  else match res with
    | .data l => if b.readOut then s.belvWrite i (leAt l 0 8) else s
    | .visible =>
      if addr = b.ring then s
      else if 1 < b.outstanding then s.modBelvSet i (fun b => { b with outstanding := b.outstanding - 1 })
      else s.belvProduced i
    | _ => ((s.modBelvSet i (fun b => { b with faulted := true, pending := false, readOut := false, outstanding := 0, record := [] })).forgetBelv i).raiseContained
        (mkReport res.cause (unit := 0x0E) (access := 2) (pav := b.owner) (engine := i) (checker := res.checker) (addr := addr))

/-- A piece of a range read whole (R12), or the failure of its read. -/
def State.contentAnswer (s : State) (k : ContentKey) (off addr : Nat) (res : FabResult) : State :=
  let put := fun (s : State) (f : ContentRead → ContentRead) =>
    s.modFab (fun b => { b with contents := b.contents.map (fun c => if c.key = k then f c else c) })
  match s.contentRead k, res with
  | none, _ => s
  | some _, .data l => put s (fun c => { c with got := c.got ++ [(off, l)] })
  | some _, .fault => put (s.accessFault res 0 0xFFF 1 addr 0x0D) (fun c => { c with failed := some .fault })
  | some _, .partReset => put (s.accessFault res 0 0xFFF 1 addr 0x0D) (fun c => { c with failed := some .partReset })
  | some _, _ => put (s.accessFault res 0 0xFFF 1 addr 0x0D) (fun c => { c with failed := some .ue })

/-! ### Answers -/

/-- What an answer does, by what its access was for. -/
def State.resolve (s : State) (a : FabAccess) (res : FabResult) : State :=
  match a.use with
  | .doorbell ch gen why => s.doorbellAnswer ch gen why res
  | .ringEntry ch gen _ serial => s.entryAnswer ch gen serial res
  | .buffer ch gen ring off => s.bufferPiece ch gen ring off res
  | .record ch gen ring => s.recordAnswer ch gen ring a.addr res
  | .nodeReset _ => s
  | .adminDoorbell p e => s.adminDbAnswer p e res
  | .adminEntry p e => s.adminEntryAnswer p e res
  | .adminCompletion p => s.completionAnswer p a.addr res
  | .tagRead tag use off => s.tagReadAnswer tag use off a.addr res
  | .opStore o gen => s.opStoreAnswer o gen a.addr res
  | .semRead o gen => s.semAnswer o gen a.addr res
  | .semAtomic o gen => s.semAtomicAnswer o gen a.addr res
  | .walk id => s.walkAnswer id a.addr res
  | .creq id off => s.creqAnswer id off a.addr res
  | .gatherIn i tag num k w c n off => s.gatherInAnswer i tag num k w c n off a.addr res
  | .gatherOut i tag num k => s.gatherOutAnswer i tag num k a.addr res
  | .runStatus i tag => s.runStatusAnswer i tag a.addr res
  | .doneSem i tag => s.doneSemAnswer i tag a.addr res
  | .trigger i tag => s.triggerAnswer i tag a.addr res
  | .content k off => s.contentAnswer k off a.addr res
  | .digest r => s.digestAnswer r a.addr res
  | .spdm r len => s.spdmAnswer r len a.addr res
  | .notice => s.noticeAnswer a.addr res
  | .belv i => s.belvAnswer i a.addr res
  | .gone => s

/-- The access outstanding under a TXID of a port. DEDUCED, log entry 139. -/
def State.access (s : State) (f txid : Nat) : Option FabAccess := s.fab.out.find? (fun a => a.fport == f && a.txid == txid)

/-- An access leaves its port. -/
def State.leave (s : State) (a : FabAccess) : State :=
  s.modFab (fun b => { b with out := b.out.eraseP (fun x => x.fport == a.fport && x.txid == a.txid) })

/-- An access answered for good: it leaves its port and its answer is taken while the engines run; waiting accesses and fetches follow. -/
def State.answered (s : State) (a : FabAccess) (res : FabResult) : State :=
  let s1 := s.leave a
  if s.live then ((s1.resolve a res).issueWaiting).fetchOne else s1.issueWaiting

/-- Both beats of an atomic have come: its old value is used by a request at the completer; the others needed only the visibility.
DEDUCED, log entry 49. -/
def State.atomicDone (s : State) (a : FabAccess) (old : List Byte) : State :=
  let s1 := s.leave a
  if s.live then ((match a.use with
    | .creq id _ => s1.creqAtomic id old
    | _ => s1).issueWaiting).fetchOne
  else s1.issueWaiting

/-- One beat of an atomic's answer noted. DEDUCED, log entry 92. -/
def State.noteBeat (s : State) (a : FabAccess) (f : FabAccess → FabAccess) : State :=
  s.modFab (fun b => { b with out := b.out.map (fun x => if x.fport = a.fport && x.txid = a.txid then f x else x) })

/-- The old value of an atomic has come. -/
def State.atomicOld (s : State) (a : FabAccess) (l : List Byte) : State :=
  if a.vis then s.atomicDone a l else s.noteBeat a (fun x => { x with old := some l })

/-- The update of an atomic is visible. What is no request of the completer has its effect now. -/
def State.atomicVisible (s : State) (a : FabAccess) : State :=
  let s1 := if s.live then (match a.use with
    | .creq .. => s
    | _ => s.resolve a .visible) else s
  match a.old with
  | some l => s1.atomicDone a l
  | none => s1.noteBeat a (fun x => { x with vis := true })

/-- The fabric runs: the block clocks are neither lost nor frozen. -/
def State.fabricRuns (s : State) : Bool := !s.power.clocksLost && !s.power.frozen

/-- FABRIC_DATA_RESPONSE (R552). -/
def execFabricDataResponse (f : Nat) (txid : Nat) (bytes : List Byte) (s : State) : Out :=
  if !s.fabricRuns then .next s
  else match s.access f txid with
    | none => .fault .carrierProtocol
    | some a => match a.op with
      | .read => if bytes.length = a.len then act true s (s.answered a (.data bytes)) else .fault .carrierProtocol
      | .atomic => if bytes.length = a.len && a.old.isNone then act true s (s.atomicOld a bytes) else .fault .carrierProtocol
      | .write => .fault .carrierProtocol

/-- FABRIC_VISIBLE_RESPONSE (R552). -/
def execFabricVisibleResponse (f : Nat) (txid : Nat) (s : State) : Out :=
  if !s.fabricRuns then .next s
  else match s.access f txid with
    | none => .fault .carrierProtocol
    | some a => match a.op with
      | .write => act true s (s.answered a .visible)
      | .atomic => if a.vis then .fault .carrierProtocol else act true s (s.atomicVisible a)
      | .read => .fault .carrierProtocol

/-- A failure answers an access of which no beat has come. -/
def State.failed (s : State) (f txid : Nat) (res : FabResult) : Out :=
  if !s.fabricRuns then .next s
  else match s.access f txid with
    | none => .fault .carrierProtocol
    | some a => if a.old.isNone && !a.vis then act true s (s.answered a res) else .fault .carrierProtocol

/-- FABRIC_FAULT_RESPONSE (R552). -/
def execFabricFaultResponse (f : Nat) (txid : Nat) (s : State) : Out := s.failed f txid .fault

/-- FABRIC_UE_RESPONSE (R552). -/
def execFabricUeResponse (f : Nat) (txid : Nat) (s : State) : Out := s.failed f txid .ue

/-- FABRIC_PART_RESET (R512). -/
def execFabricPartReset (f : Nat) (txid : Nat) (s : State) : Out := s.failed f txid .partReset

end Sys2Proof.Machine
end

