-- ==== Sys2Proof/Machine/InternalCode.lean ====
section
/-!
DEFINITION. The internal code RS(68,64) of SRAMs and internal buses (R484), its checker (R485) and what an injection inverts (R499).
-/
namespace Sys2Proof.Machine

/-- The generator (x − α⁰)(x − α¹)(x − α²)(x − α³), highest coefficient first. -/
def icGen : List Nat := ((List.range 4).foldl (fun g i => polyMul g [gfAlpha i, 1]) [1]).reverse

/-- The four check bytes of at most 64 data bytes. A shorter entry stands behind the data bytes it lacks, which are zero. DEDUCED, log entry
166. -/
def icCheck (data : List Byte) : List Byte :=
  let g := icGen
  (data.foldl (fun r b => fecStep g r b.toNat) (List.replicate 4 0)).map (BitVec.ofNat 8)

/-- The codeword of an entry or a beat. -/
def icEncode (data : List Byte) : List Byte := data ++ icCheck data

/-- The four syndromes of a word; its first byte is the coefficient of highest degree. -/
def icSyndromes (w : List Byte) : List Nat :=
  (List.range 4).map (fun i => let x := gfAlpha i; w.foldl (fun a b => gfMul a x ^^^ b.toNat) 0)

/-- One byte in error: its degree and value. -/
def icOne (n s0 s1 s2 s3 : Nat) : Option (Nat × Nat) :=
  if s0 = 0 then none
  else
    let x := gfMul s1 (gfInv s0)
    if gfMul s1 x = s2 && gfMul s2 x = s3 then ((List.range n).find? (fun p => gfAlpha p == x)).map (fun p => (p, s0)) else none

/-- Two bytes in error: their degrees and values. -/
def icTwo (n s0 s1 s2 s3 : Nat) : Option (List (Nat × Nat)) :=
  let det := gfMul s0 s2 ^^^ gfMul s1 s1
  if det = 0 then none
  else
    let l1 := gfMul (gfMul s0 s3 ^^^ gfMul s1 s2) (gfInv det)
    let l2 := gfMul (gfMul s1 s3 ^^^ gfMul s2 s2) (gfInv det)
    match (List.range n).filter (fun p => gfMul (gfAlpha p) (gfAlpha p) ^^^ gfMul l1 (gfAlpha p) ^^^ l2 == 0) with
    | [p, q] =>
      let e := gfMul (s1 ^^^ gfMul s0 (gfAlpha q)) (gfInv (gfAlpha p ^^^ gfAlpha q))
      some [(p, e), (q, s0 ^^^ e)]
    | _ => none

/-- The errors of a word by degree and value; none where it does not resolve to at most two bytes in error (R485). -/
def icErrors (w : List Byte) : Option (List (Nat × Nat)) :=
  match icSyndromes w with
  | [s0, s1, s2, s3] =>
    if s0 = 0 && s1 = 0 && s2 = 0 && s3 = 0 then some []
    else
      match icOne w.length s0 s1 s2 s3 with
      | some e => some [e]
      | none => icTwo w.length s0 s1 s2 s3
  | _ => none

/-- A checker (R485): the data and the places of the bytes corrected; none for an uncorrectable codeword. -/
def icDecode (w : List Byte) : Option (List Byte × List Nat) :=
  (icErrors w).map (fun es =>
    let at' := es.map (fun e => (w.length - 1 - e.1, e.2))
    ((fecApply w at').take (w.length - 4), at'.map (fun e => e.1)))

/-- What an injection of a MODE inverts (R499): check byte 0, check bytes 0 and 1, or check bytes 0 to 2. -/
def icInvert (mode : Nat) (w : List Byte) : List Byte :=
  w.zipIdx.map (fun q => if w.length ≤ q.2 + 4 && q.2 + 4 ≤ w.length + mode then ~~~q.1 else q.1)

/-- How the checker resolves a codeword of 64 zero bytes with the check bytes of a MODE inverted: the bytes it corrects, or none. The code is
linear, so the data make no difference. -/
def icFlaw (mode : Nat) : Option (List Nat) := (icDecode (icInvert mode (icEncode (List.replicate 64 0)))).map (fun q => q.2)

/-- Bytes cut into entries of at most 64 bytes. -/
def icEntries (data : List Byte) : List (List Byte) := (List.range (ceilDiv data.length 64)).map (fun i => slice data (64 * i) 64)

end Sys2Proof.Machine
end

