-- ==== Sys2Proof/Machine/Keys.lean ====
section
/-!
DEFINITION. Link sessions and keys (12): the handshake, rotation, keying of a Pavilion.
-/
namespace Sys2Proof.Machine

/-! ### Link-security messages (R439, R440) -/

/-- LTYPE of a message. -/
def secType (m : Msg) : Nat := bits (m.body.getD 0 0) 127 120
/-- SESSION of a message. -/
def secSession (m : Msg) : BitVec 32 := BitVec.ofNat 32 (bits (m.body.getD 0 0) 95 64)
/-- The fields of a message. -/
def secFields (m : Msg) : List Byte := (unitBytes (m.body.drop 1)).take (bits (m.body.getD 0 0) 111 96)

/-- The header's sender port and reserved bits (R439), the length of the fields of each LTYPE and the ranges of R440. -/
def secOk (m : Msg) : Bool :=
  let f := secFields m
  let t := secType m
  if 5 < bits (m.body.getD 0 0) 119 112 || bits (m.body.getD 0 0) 63 0 != 0 then false
  else if t = 1 || t = 2 then f.length == 136
  else if t = 3 then decide (4 ≤ f.length) && decide (f.length ≤ 3844) && decide (beAt f 0 2 + (f.length - 4) ≤ beAt f 2 2) && decide (beAt f 2 2 ≤ 4000)
  else if t = 4 then f.length == 96
  else if t = 5 then f.length == 48
  else if t = 0x10 || t = 0x11 then f.length == 38 && decide (beAt f 0 1 ≤ 15) && decide (beAt f 1 1 ≤ 1)
  else if t = 0x12 then f.length == 13 && decide (beAt f 0 1 ≤ 15)
  else if t = 0x13 then f.length == 6 && decide (beAt f 0 1 ≤ 15) && decide (1 ≤ beAt f 5 1) && decide (beAt f 5 1 ≤ 3)
  else if t = 0x14 then f.length == 2
  else false

/-- A LINK_SEC message of an LTYPE. -/
def isSec (t : Nat) (m : Msg) : Bool := mgmtType m.hdr == 1 && secType m == t

/-- The command of an LTYPE: bad fields, or a session number that is not this session's, are discarded and counted (R440). -/
def State.takeSec (s : State) (p : PortIx) (t : Nat) (f : Msg → State → State) : Out :=
  s.takeInbound p (isSec t) (fun m u =>
    if !secOk m || (t != 1 && t != 2 && secSession m != (u.port p).keys.sessionNo) then u.bump ctrAuthFail else f m u)

/-! ### The handshake (R441, R442) -/

/-- A port disabled (R411, R442): ENABLE 0, DOWN, its link missing, a contained error. -/
def State.disablePort (s : State) (p : PortIx) (miswired : Bool) : State :=
  let s1 := s.modLane p (fun l => { l with trainCtl := l.trainCtl &&& ~~~1#64 })
  let s2 := ((s1.enterDown p 0).modKeys p (fun k => { k with disabled := true })).modTopo (fun t =>
    { t with ports := Table.put {} t.ports p.val { Table.get {} t.ports p.val with disabled := true, miswired := miswired } })
  (s2.markMissing p).raiseContained (mkReport 0x1A (unit := 0x0C) (engine := p.val))

/-- An attempt that failed (R442), with its cause of GATE.LINKn.FAIL: the port is without a session, under the null key. -/
def State.failHandshake (s : State) (p : PortIx) (cause : Nat) : State :=
  let n := (s.port p).keys.attempts + 1
  let s1 := (s.modKeys p (fun k => { k.nullKey with
    session := .failed, hs := none, attempts := n, fail := cause, retryAt := some (s.now + usTicks 100000) })).bump ctrAuthFail
  if cause = 3 || 3 ≤ n then s1.disablePort p (cause == 3) else s1

/-- The chain sent in L_CERT messages of at most 3,840 bytes. -/
def State.sendChain (s : State) (p : PortIx) (session : BitVec 32) (chain : List Byte) : State :=
  (List.range (ceilDiv chain.length 3840)).foldl (fun a i =>
    a.secTo p 0x03 session (beBytes 2 (3840 * i) ++ beBytes 2 chain.length ++ slice chain (3840 * i) 3840)) s

/-- T1 of R441 over the two hellos and the follower's chain. -/
def t1Of (hello reply chain : List Byte) : List Byte := sha384 (hello ++ reply ++ chain)

/-- A signature of the identity key over a tag byte and a transcript. -/
def State.signProof (s : State) (tag : Byte) (t : List Byte) : List Byte := ecdsaSign s.ident.priv.toNat (sha384 (tag :: t)) (s.freeVal .signatureNonce)

/-- L_HELLO taken by the follower: L_REPLY, L_CERT and L_PROOF over 0x46 ∥ T1. -/
def State.takeHelloMsg (s : State) (p : PortIx) (m : Msg) : State :=
  let k := (s.port p).keys
  if s.global.serial.toNat < (s.port p).lane.farSerial.toNat || k.session = .up || k.disabled || !s.serving p then s.bump ctrAuthFail
  else
    let hello := secFields m
    let nonce := s.freeVal .nonce
    let s1 := s.drawn
    let e := ephemeralOf (s1.freeVal .ephemeral)
    let s2 := s1.drawn
    let reply := helloFields nonce e s.global.serial
    let sig := s2.signProof 0x46 (t1Of hello reply s.ident.chain)
    let s3 := s2.drawn.modKeys p (fun k => { k.nullKey with
      session := .handshake, leader := false, retryAt := none,
      hs := some { session := secSession m, start := s.now, ephPriv := e, hello := hello, reply := reply, ownChain := s.ident.chain, sigF := sig, proofSent := true } })
    (((s3.secTo p 0x02 (secSession m) reply).sendChain p (secSession m) s.ident.chain).secTo p 0x04 (secSession m) sig)

/-- L_HELLO (R441). -/
def execLHello (p : PortIx) (s : State) : Out := s.takeSec p 1 (fun m u => u.takeHelloMsg p m)

/-- L_REPLY taken by the leader. -/
def State.takeReplyMsg (s : State) (p : PortIx) (m : Msg) : State :=
  match (s.port p).keys.hs with
  | none => s.bump ctrAuthFail
  | some h =>
    if !(s.port p).keys.leader || secSession m != h.session || !h.reply.isEmpty then s.bump ctrAuthFail
    else s.modKeys p (fun k => { k with hs := some { h with reply := secFields m } })

/-- L_REPLY (R441). -/
def execLReply (p : PortIx) (s : State) : Out := s.takeSec p 2 (fun m u => u.takeReplyMsg p m)

/-- L_CERT (R442): the part of the chain joins what has come. -/
def execLCert (p : PortIx) (s : State) : Out :=
  s.takeSec p 3 (fun m u => match (u.port p).keys.hs with
    | none => u.bump ctrAuthFail
    | some h =>
      let f := secFields m
      if beAt f 0 2 = h.farChain.length then
        u.modKeys p (fun k => { k with hs := some { h with farChain := h.farChain ++ f.drop 4, farTotal := beAt f 2 2 } })
      else u.bump ctrAuthFail)

/-- The secrets of an exchange (R441): z and th. -/
def Handshake.secrets (h : Handshake) (leader : Bool) : Option (List Byte × List Byte) :=
  let far := if leader then h.reply else h.hello
  match ecdh h.ephPriv (beAt far 32 96) with
  | none => none
  | some z =>
    let t1 := t1Of h.hello h.reply (if leader then h.farChain else h.ownChain)
    let t2 := sha384 (t1 ++ (if leader then h.ownChain else h.farChain))
    some (beBytes 48 z, sha384 (t2 ++ h.sigF ++ h.sigL))

/-- The session key 0 installed as next in both directions. -/
def PortKeys.installSession (k : PortKeys) (m : List Byte × List Byte) (now : Nat) : PortKeys :=
  { k.modIndex 0 (fun i => { i with txNext := some (sessionKey m k.txDir now), rxNext := some (sessionKey m k.rxDir now) }) with master := some m }

/-- The checks of R442 on a chain and a signature over a transcript: the cause of a failure, or none. -/
def State.proofCause (s : State) (p : PortIx) (chain : List Byte) (tag : Byte) (t sig : List Byte) : Option Nat :=
  match acceptChain (s.ident.rootKeys.map BitVec.toNat) chain with
  | none => some 1
  | some c =>
    if c.2 ≠ serialText (s.port p).lane.farSerial.toNat then some 3
    else if !ecdsaVerify c.1 (sha384 (tag :: t)) sig then some 2
    else none

/-- L_PROOF taken (R441, R442). -/
def State.takeProof (s : State) (p : PortIx) (m : Msg) : State :=
  match (s.port p).keys.hs with
  | none => s.bump ctrAuthFail
  | some h =>
    let lead := (s.port p).keys.leader
    let sig := secFields m
    if h.proved || h.reply.isEmpty || h.farChain.length ≠ h.farTotal then s.bump ctrAuthFail
    else
      let t1 := t1Of h.hello h.reply (if lead then h.farChain else h.ownChain)
      let own := if lead then s.ident.chain else h.ownChain
      let t := if lead then t1 else sha384 (t1 ++ h.farChain)
      match s.proofCause p h.farChain (if lead then 0x46 else 0x4C) t sig with
      | some c => s.failHandshake p c
      | none =>
        if lead then
          let t2 := sha384 (t1 ++ own)
          let mine := s.signProof 0x4C t2
          let h1 := { h with proved := true, ownChain := own, sigF := sig, sigL := mine, proofSent := true }
          match h1.secrets true with
          | none => s.failHandshake p 2
          | some x =>
            (((s.drawn.modKeys p (fun k => ({ k with hs := some h1 } : PortKeys).installSession x s.now)).sendChain p h.session own).secTo p 0x04 h.session mine)
        else
          let h1 := { h with proved := true, sigL := sig }
          match h1.secrets false with
          | none => s.failHandshake p 2
          | some x =>
            (s.modKeys p (fun k => ({ k with hs := some { h1 with doneSent := true } } : PortKeys).installSession x s.now)).secTo
              p 0x05 h.session (confirmOf x (s.port p).keys.txDir)

/-- L_PROOF (R442). -/
def execLProof (p : PortIx) (s : State) : Out := s.takeSec p 4 (fun m u => u.takeProof p m)

/-- The key slots of an index zeroised. -/
def PortKeys.zero (k : PortKeys) (i : Nat) : PortKeys := { k.modIndex i (fun _ => {}) with rotations := k.rotations.filter (fun r => r.key != i) }

/-- A Pavilion key index retired on a port for both directions, and zeroised (R453 steps 2, 3 and 7). -/
def State.retireIndex (s : State) (p : PortIx) (k : Nat) : State :=
  ((s.retireRx p k).retireTx p k s.gate.teardownId.toNat).modKeys p (fun q => q.zero k)

/-- A node OUT_OF_SERVICE tells a neighbour it has just reached (R516). -/
def State.tellOos (s : State) (p : PortIx) : State :=
  if s.retained.oos then s.mgmtTo p 0x04 0 [nodeEventUnit s.topo.node 0 s.time.now] else s

/-- A session begins (R443): where an earlier one ended, every Pavilion key index is retired; the link's return is reported (R424), and
the Pavilion that exists is keyed (R450). -/
def State.sessionUp (s : State) (p : PortIx) : State :=
  let k := (s.port p).keys
  let held := if k.sessions = 0 then [] else (List.range 16).filter (fun i => i != 0 && decide (k.index i ≠ {}))
  let s1 := held.foldl (fun a i => a.retireIndex p i) s
  (((s1.modKeys p (fun k => { k with session := .up, number := (k.hs.map Handshake.session).getD 0, hs := none, sessions := k.sessions + 1, retryAt := none })).linkChanged
    p true).offerTenant p).tellOos p

/-- L_DONE taken (R441): CONFIRM is checked, the null key dropped for reception, and the leader answers. -/
def State.takeDone (s : State) (p : PortIx) (m : Msg) : State :=
  let k := (s.port p).keys
  match k.hs, k.master with
  | some h, some x =>
    if !h.proved then s.bump ctrAuthFail
    else if secFields m ≠ confirmOf x k.rxDir then s.failHandshake p 4
    else
      let s1 := s.modKeys p (fun k => k.modIndex 0 (fun i => { i with rxCur := i.rxNext, rxNext := none }))
      let s2 := if k.leader then s1.secTo p 0x05 h.session (confirmOf x k.txDir) else s1
      s2.sessionUp p
  | _, _ => s.bump ctrAuthFail

/-- L_DONE (R441). -/
def execLDone (p : PortIx) (s : State) : Out := s.takeSec p 5 (fun m u => u.takeDone p m)

/-- HANDSHAKE_TIMEOUT (R442). -/
def execHandshakeTimeout (p : PortIx) (s : State) : Out :=
  let due := match (s.port p).keys.hs with
    | none => false
    | some h => s.usPassed h.start 20000
  act (s.clocked && (s.port p).keys.session == .handshake && due) s (s.failHandshake p 5)

/-- HANDSHAKE_RETRY (R442). -/
def execHandshakeRetry (p : PortIx) (s : State) : Out :=
  let k := (s.port p).keys
  let due := match k.retryAt with
    | none => false
    | some t => decide (t ≤ s.now)
  act (s.clocked && k.session == .failed && !k.disabled && due && s.serving p) s (s.startHandshake p)

/-! ### Keys (R444, R445, R450) -/

/-- A mode mismatch recorded (R450). -/
def State.mismatch (s : State) (p : PortIx) : State :=
  (s.modGate (fun g => { g with tenant := g.tenant.map (fun t => { t with mismatch := t.mismatch ||| (1#6 <<< p.val) }) })).raiseContained
    (mkReport 0x1B (unit := 0x0C) (pav := (s.gate.tenant.map Tenant.num).getD 0) (engine := p.val))

/-- A KEY_REJECT. -/
def State.keyReject (s : State) (p : PortIx) (k gen reason : Nat) : State :=
  s.secTo p 0x13 (s.port p).keys.sessionNo ([BitVec.ofNat 8 k] ++ beBytes 4 gen ++ [BitVec.ofNat 8 reason])

/-- The answer of R450 to an offer of a Pavilion's key: none where it is accepted. -/
def State.offerRefusal (s : State) (k : Nat) (enc : Bool) : Option Nat :=
  if k = 0 then (if enc then none else some 2)
  else match s.gate.tenant with
    | none => some 1
    | some t => if t.num ≠ k || t.teardown.isSome then some 1 else if t.enc != enc then some 2 else none

/-- KEY_OFFER taken (R445, R450): the derived key is installed as next for reception, and the index is no longer retired. DEDUCED, log entry 121. -/
def State.takeOffer (s : State) (p : PortIx) (m : Msg) : State :=
  let f := secFields m
  let k := beAt f 0 1
  let enc := beAt f 1 1 == 1
  let gen := beAt f 2 4
  let q := (s.port p).keys
  match q.master with
  | none => s.bump ctrAuthFail
  | some x =>
    if q.session ≠ .up then s.bump ctrAuthFail
    else match s.offerRefusal k enc with
      | some 2 => if k = 0 then s.keyReject p k gen 2 else (s.keyReject p k gen 2).mismatch p
      | some r => s.keyReject p k gen r
      | none =>
        if (q.index k).rxNext.isSome then s.keyReject p k gen 3
        else
          let nr := beBytes 32 (s.freeVal .nonce)
          let slot := derivedKey x k q.rxDir (BitVec.ofNat 32 gen) (slice f 6 32) nr enc s.now
          let s1 := (s.drawn.modKeys p (fun q => q.modIndex k (fun i => { i with rxNext := some slot, switchAt := none }))).modPane p (fun e =>
            { e with retired := e.retired &&& ~~~(1#16 <<< k), fenced := Table.put 0 e.fenced k 0 })
          ((s1.modGate (fun g => { g with drained := Table.put 0 g.drained p.val (Table.get 0 g.drained p.val &&& (65535 - 2 ^ k)) })).secTo p 0x11
            q.sessionNo (f.take 6 ++ nr)) |> (fun (u : State) => if k = 0 then u else u.offerTenant p)

/-- KEY_OFFER (R450). -/
def execKeyOffer (p : PortIx) (s : State) : Out := s.takeSec p 0x10 (fun m u => u.takeOffer p m)

/-- KEY_ACCEPT taken (R445 steps 3 and 4): the key is installed for transmission, and KEY_SWITCH names S. -/
def State.takeAccept (s : State) (p : PortIx) (m : Msg) : State :=
  let f := secFields m
  let k := beAt f 0 1
  let q := (s.port p).keys
  match q.master, q.rotations.find? (fun r => r.key == k && r.gen.toNat == beAt f 2 4) with
  | some x, some r =>
    let slot := derivedKey x k q.txDir r.gen r.nt (slice f 6 32) (beAt f 1 1 == 1) s.now
    let first := (q.tx k).isNone
    let s1 := (s.modKeys p (fun q => { (q.modIndex k (fun i => { i with txCur := some slot })) with rotations := q.rotations.filter (fun x => x.key != k) })).modPane p
      (fun e => { e with stalled := e.stalled &&& ~~~(1#16 <<< k) })
    let s2 := s1.secTo p 0x12 q.sessionNo (f.take 1 ++ slice f 2 4 ++ beBytes 8 (s.port p).pane.txNext)
    if first then s2 else s2.bump ctrRekey
  | _, _ => s.bump ctrAuthFail

/-- KEY_ACCEPT (R445). -/
def execKeyAccept (p : PortIx) (s : State) : Out := s.takeSec p 0x11 (fun m u => u.takeAccept p m)

/-- KEY_SWITCH (R445 step 5). -/
def execKeySwitch (p : PortIx) (s : State) : Out :=
  s.takeSec p 0x12 (fun m u =>
    let f := secFields m
    let k := beAt f 0 1
    if ((u.port p).keys.index k).rxNext.any (fun x => x.gen.toNat == beAt f 1 4) then
      u.modKeys p (fun q => (q.modIndex k (fun i => { i with switchAt := some (beAt f 5 8) })).promote (u.port p).pane.rxNext)
    else u.bump ctrAuthFail)

/-- KEY_REJECT taken (R445, R450): final, a mode mismatch, or retried after 1 ms. -/
def State.takeReject (s : State) (p : PortIx) (m : Msg) : State :=
  let f := secFields m
  let k := beAt f 0 1
  let hit := fun (r : Rotation) => r.key == k && r.gen.toNat == beAt f 1 4
  if !(s.port p).keys.rotations.any hit then s.bump ctrAuthFail
  else if beAt f 5 1 = 3 then
    s.modKeys p (fun q => { q with rotations := q.rotations.map (fun r => if hit r then { r with retryAt := some (s.now + usTicks 1000) } else r) })
  else
    let s1 := s.modKeys p (fun q => { q with rotations := q.rotations.filter (fun r => !hit r) })
    if beAt f 5 1 = 2 then s1.mismatch p else s1

/-- KEY_REJECT (R450). -/
def execKeyReject (p : PortIx) (s : State) : Out := s.takeSec p 0x13 (fun m u => u.takeReject p m)

/-- The mode of the keys of an index. -/
def State.modeOf (s : State) (k : Nat) : Bool := if k = 0 then true else (s.gate.tenant.map Tenant.enc).getD false

/-- KEY_REJECT_RETRY (R445). -/
def execKeyRejectRetry (p : PortIx) (key : Nat) (s : State) : Out :=
  let due := (s.port p).keys.rotations.any (fun r => r.key == key && (match r.retryAt with
    | none => false
    | some t => decide (t ≤ s.now)))
  act (s.levelTurn 3 && due) s (s.offer p key (s.modeOf key))

/-- KEY_LOST (R458): the indices named are retired on the port for both directions. -/
def execKeyLost (p : PortIx) (s : State) : Out :=
  s.takeSec p 0x14 (fun m u => ((bitsSet 16 (beAt (secFields m) 0 2)).filter (fun k => k != 0)).foldl (fun a k => a.retireIndex p k) u)

/-- ROT_PANES (R444). -/
def Gate.rotPanes (g : Gate) : Nat := 2 ^ bits g.rotate 5 0

/-- A limit of R444 reached by a transmit key. -/
def State.rotationDue (s : State) (p : PortIx) (k : Nat) : Bool :=
  match (s.port p).keys.tx k with
  | none => false
  | some x => decide (s.gate.rotPanes ≤ x.panes) || s.usPassed x.since (1000000 * bits s.gate.rotate 46 32) || (k == 0 && decide (2 ^ 15 ≤ x.segs))

/-- KEY_ROTATION_DUE (R444); none of an index being torn down (R457). -/
def execKeyRotationDue (p : PortIx) (key : Nat) (s : State) : Out :=
  let q := (s.port p).keys
  act (s.levelTurn 3 && decide (key < 16) && q.session == .up && s.serving p && !s.gate.tenant.any (fun t => t.num == key && t.teardown.isSome) && q.rotations.all (fun r => r.key != key) && s.rotationDue p key) s
    (s.offer p key (s.modeOf key))

/-- KEY_ROTATION_STALL (R444). -/
def execKeyRotationStall (p : PortIx) (key : Nat) (s : State) : Out :=
  let q := (s.port p).keys
  let atEnd := match q.tx key with
    | none => false
    | some x => decide (s.gate.rotPanes + 2 ^ 36 ≤ x.panes)
  act (s.clocked && decide (key < 16) && q.session == .up && atEnd && !(s.port p).pane.stalled.getLsbD key) s
    (s.modPane p (fun e => { e with stalled := e.stalled ||| (1#16 <<< key) }))

end Sys2Proof.Machine
end

