-- ==== Sys2Proof/Machine/Lodge.lean ====
section
/-!
DEFINITION. The Lodge's inbound messages and notices, and Belvedere (15).
-/
namespace Sys2Proof.Machine

/-! ### Inbound messages (R529, R531) -/

/-- The bytes of a message. -/
def Msg.bytes (m : Msg) : Nat := 16 * (1 + m.body.length)

/-- The bytes the inbound buffer of the Lodge holds. -/
def Lodge.inboundBytes (l : Lodge) : Nat := (l.inbound.map (fun m => m.msg.bytes)).sum

/-- The first MGMT message released on a port. -/
def State.mgmtHead (s : State) (p : PortIx) : Option RxMsg :=
  ((s.port p).pane.rxMsgs.find? (fun m => m.1 < 2 && bits m.2.msg.hdr 127 124 == kMgmt)).map Prod.snd

/-- The message taken from the pool (R339): its units leave their slots. DEDUCED, log entry 113. -/
def State.takeMgmt (s : State) (p : PortIx) : State :=
  s.modPane p (fun q =>
    match q.rxMsgs.find? (fun m => m.1 < 2 && bits m.2.msg.hdr 127 124 == kMgmt) with
    | none => q
    | some m => { q.leaves m.2.slots with rxMsgs := q.rxMsgs.erase m })

/-- The LTYPE values of R440. -/
def ltypeKnown (t : Nat) : Bool := (decide (1 ≤ t) && decide (t ≤ 5)) || (decide (0x10 ≤ t) && decide (t ≤ 0x14))

/-- A message of a known type and sub-type (R531). -/
def Msg.mgmtKnown (m : Msg) : Bool :=
  let t := mgmtType m.hdr
  let u := mgmtSub m.hdr
  (t == 1) || (t == 2 && decide (u < 2)) || t == 3 || t == 4 || (t == 5 && decide (u < 3))

/-- An MGMT message copied into the inbound buffer, or discarded and counted (R440, R529, R531). -/
def State.copyMgmt (s : State) (p : PortIx) (m : Msg) : State :=
  let s1 := s.takeMgmt p
  if !m.mgmtKnown then s1.bump ctrOverflow
  else if mgmtType m.hdr = 1 && !ltypeKnown (secType m) then s1.bump ctrAuthFail
  else s1.modLodge (fun l => { l with inbound := l.inbound ++ [{ port := p, msg := m }] })

/-- MGMT_MESSAGE (R529). -/
def execMgmtMessage (p : PortIx) (s : State) : Out :=
  match s.mgmtHead p with
  | none => act false s s
  | some m => act (s.live && s.lodge.running && decide (s.lodge.inboundBytes + m.msg.bytes ≤ 65536)) s (s.copyMgmt p m.msg)

/-! ### Notices (R530) -/

/-- The 32 bytes of a notice. -/
def Notice.bytes (n : Notice) (count : Nat) : List Byte :=
  [BitVec.ofNat 8 n.code] ++ leBytes 7 count ++ leBytes 8 n.tick.toNat ++ padTo 16 n.data

/-- The ring has room. -/
def Lodge.ringRoom (l : Lodge) : Bool := decide ((l.produced - l.noticeCons).toNat < 2 ^ bits l.noticeRing 3 0)

/-- Nothing above level 5 is ready (R525). -/
def State.lodgeIdle (s : State) : Bool := s.lodge.inbound.isEmpty && s.front.cmds.all (fun c => !(c.ready && decide (c.level < 5)))

/-- The OVERFLOW notice, when one is owed and an entry has come free (R528). -/
def State.owedNotice (s : State) : State :=
  let s1 := if s.lodge.notices.isEmpty then s.modLodge (fun l => { l with overflowing := false }) else s
  if s.lodge.overflowDue then
    (s1.modLodge (fun l => { l with overflowDue := false })).notice 0x06 (leBytes 8 (s.counter ctrOverflow).word.toNat)
  else s1

/-- The oldest notice written to the ring. -/
def State.writeNotice (s : State) (n : Notice) : State :=
  let l := s.lodge
  let addr := bits l.noticeRing 55 12 * 4096 + 32 * (l.produced.toNat % 2 ^ bits l.noticeRing 3 0)
  ((s.modLodge (fun l => { l with notices := l.notices.drop 1, produced := l.produced + 1 })).issueAll
    (writePieces addr (n.bytes (l.produced + 1).toNat) 0 (fun _ => .notice))).owedNotice

/-- NOTICE_WRITE (R530). -/
def execNoticeWrite (s : State) : Out :=
  match s.lodge.notices with
  | [] => act false s s
  | n :: _ => act (s.live && s.lodge.running && bit s.lodge.noticeRing 63 && s.lodge.ringRoom && s.lodgeIdle) s (s.writeNotice n)

/-! ### Belvedere (R539 to R544) -/

/-- What a counter ID names (R539). -/
inductive BelvSource where
  | wide (p0 : Bool)
  | narrow (off : Nat)
  | busy (p0 : Bool)
  | reserved
  deriving DecidableEq, Repr

/-- The source of a counter ID. -/
def belvSource (id : Nat) : BelvSource :=
  let g := id / 1024
  let i := id % 1024
  if g = 0 then (if i < 8 then .wide true else .reserved)
  else if h : 1 ≤ g ∧ g ≤ 6 then
    let p : PortIx := ⟨g - 1, by omega⟩
    if i < 12 || (16 ≤ i && i < 28) || (32 ≤ i && i < 35) then .wide true
    else if 48 ≤ i && i < 56 then .narrow (ctrCrcDrop p + 8 * (i - 48))
    else if i = 56 then .narrow (ctrFecCw p)
    else if i = 57 then .narrow (ctrFecUncorr p)
    else if i = 58 then .narrow (ctrRetrain p)
    else if 64 ≤ i && i < 77 then .narrow (ctrLaneErr p (i - 64))
    else .reserved
  else if g = 8 then (if i < 23 then .busy true else if i = 23 then .wide true else .reserved)
  else if g = 9 then (if i < 6 then .narrow (0x40080 + 8 * i) else if i < 12 then .narrow (0x400C0 + 8 * (i - 6)) else if i < 18 then .narrow (0x40100 + 8 * (i - 12)) else .reserved)
  else if g = 10 then (if i < 5 then .narrow (0xD0080 + 8 * i) else if i < 8 then .narrow (0xC0080 + 8 * (i - 5)) else .reserved)
  else if g = 16 then (if i < 25 then .wide false else .reserved)
  else if g = 17 then (if i % 4 = 2 then .busy false else .wide false)
  else .reserved

/-- A source that only a set of Pavilion 0 may sample (R539). -/
def BelvSource.p0 : BelvSource → Bool
  | .wide b => b
  | .busy b => b
  | .narrow _ => true
  | .reserved => false

/-- The value of a counter for a set's owner (R541). A count of busy cycles is a free value, since commands take no time in the model
(DESIGN CHOICE, log entry 141). -/
def State.belvValue (s : State) (owner id : Nat) : Nat :=
  match belvSource id with
  | .wide true => (Table.get 0 s.belv.counts (16 * 65536 + id)).toNat
  | .wide false => (Table.get 0 s.belv.counts (owner * 65536 + id)).toNat
  | .busy _ => Config.free .busyCycles (id + 65536 * (owner + 16 * s.now)) % 2 ^ 64
  | .narrow off => (s.counter off).word.toNat
  | .reserved => 0

/-- BELV_SET of ENABLE 1 (R542). -/
def State.belvEnable (s : State) (r : AdminRef) (list : ReadResult) : State :=
  let c := s.cmdD r
  let i := bits (c.arg 2) 2 0
  let n := bits (c.arg 5) 9 0
  let per := bits (c.arg 5) 51 32
  let log2 := bits (c.arg 3) 59 56
  let ids := match list with
    | .data l => (List.range n).map (fun k => leAt l (2 * k) 2)
    | _ => []
  let b := s.belvSet i
  if bits (c.arg 3) 11 0 != 0 || log2 < 4 || bits (c.arg 4) 1 0 != 0 || n = 0 || 512 < n || per = 0 || 1000000 < per || ids.length != n ||
      ids.any (fun x => match belvSource x with
        | .reserved => true
        | _ => false) then s.finish r asBadCommand
  else if (c.pav != 0 && ids.any (fun x => (belvSource x).p0)) || (bits (c.arg 6) 31 0 != 0 && bits (c.arg 6) 15 12 != c.pav) ||
      (b.enabled && b.owner != c.pav) then s.finish r asDenied
  else if b.enabled then s.finish r asBadState
  else
    (s.modBelvSet i (fun _ => { enabled := true, owner := c.pav, ring := bits (c.arg 3) 55 0, log2 := log2, list := ids, periodUs := per,
                                trace := BitVec.ofNat 32 (bits (c.arg 6) 31 0), lastTick := s.podTime })).finish r asOk

/-- A set stopped and freed. -/
def State.belvFree (s : State) (i : Nat) : State := (s.forgetBelv i).modBelvSet i (fun _ => {})

/-- BELV_SET performed (R542): the list of counter IDs is read whole, and checked. -/
def State.belvCmd (s : State) (r : AdminRef) : State :=
  let c := s.cmdD r
  let i := bits (c.arg 2) 2 0
  let b := s.belvSet i
  if bits (c.arg 2) 7 3 != 0 || bits (c.arg 2) 63 9 != 0 || bits (c.arg 3) 63 60 != 0 || bits (c.arg 4) 63 56 != 0 || bits (c.arg 5) 31 10 != 0 ||
      bits (c.arg 5) 63 52 != 0 || bits (c.arg 6) 63 32 != 0 || !c.zeroArgs [7] then s.finish r asBadCommand
  else if bit (c.arg 2) 8 then s.readThen (.admin r) (bits (c.arg 4) 55 0) (2 * bits (c.arg 5) 9 0) 0 (fun list t => t.belvEnable r list)
  else if b.enabled && b.owner != c.pav then s.finish r asDenied
  else if !b.enabled then s.finish r asBadState
  else (s.belvFree i).finish r asOk

/-- BELV_SET (R542). -/
def execBelvSet (r : AdminRef) (s : State) : Out := act (s.mgmtIs r 0x0701 && s.lodgeTurn r && !s.readingContent (.admin r)) s (s.belvCmd r)

/-- Ticks between samples. -/
def BelvSet.period (b : BelvSet) : Nat := usTicks b.periodUs

/-- A sample has fallen due since the last (R544). DEDUCED, log entry 140. -/
def State.sampleDue (s : State) (i : Nat) : Bool :=
  let b := s.belvSet i
  b.enabled && !b.faulted && decide (0 < b.period) && decide (b.lastTick / b.period < s.podTime / b.period)

/-- The header of the buffer in admission on the channel a set traces. -/
def State.traced (s : State) (b : BelvSet) : Option BufHeader :=
  if b.trace = 0 then none else (s.chanOf b.trace.toNat).bind (fun i => (s.chan i).admitting.bind Buffer.hdr)

/-- The record of a sample (R543); OVERRUN is filled in as it is written. -/
def State.belvRecord (s : State) (i : Nat) : List Byte :=
  let b := s.belvSet i
  let h := s.traced b
  padTo b.recordLen (leBytes 8 (s.podTime / b.period) ++ leBytes 8 s.podTime ++ [BitVec.ofNat 8 i, BitVec.ofNat 8 (b2n h.isSome + 2 * b2n b.first)] ++
    leBytes 2 b.list.length ++ [0, 0, 0, 0] ++ leBytes 2 ((h.map BufHeader.layerId).getD 0) ++ leBytes 2 ((h.map BufHeader.operatorId).getD 0) ++
    [BitVec.ofNat 8 ((h.map BufHeader.attrBin).getD 0), 0, 0, 0] ++ List.replicate 32 0 ++ b.list.flatMap (fun x => leBytes 8 (s.belvValue b.owner x)))

/-- A sample taken, or skipped (R544): for droop without count, for an unfinished record counted in LATE. -/
def State.sample (s : State) (i : Nat) : State :=
  let b := s.belvSet i
  if 1 ≤ s.power.level then s.modBelvSet i (fun b => { b with suspended := true, lastTick := s.podTime })
  else if b.pending then s.modBelvSet i (fun b => { b with late := b.late + 1, lastTick := s.podTime, suspended := false })
  else
    (s.modBelvSet i (fun b => { b with suspended := false, pending := true, readOut := true, record := s.belvRecord i, lastTick := s.podTime })).issueAll
      (readPieces (b.ring + 64) 8 b.owner (fun _ => .belv i))

/-- BELV_SAMPLE (R544). -/
def execBelvSample (set : Nat) (s : State) : Out := act (s.live && decide (set < 8) && s.sampleDue set) s (s.sample set)

end Sys2Proof.Machine
end

