-- ==== Sys2Proof/Machine/OpsKill.lean ====
section
/-!
DEFINITION. The end of a tenant's work: hang kill, Pavilion reset and the first steps of teardown (R119, R120, R288, R453, R502, R506).
-/
namespace Sys2Proof.Machine

/-- The programs of a Pavilion unloaded (R288): at once, or once the slice has ended the current step of their run (R119). -/
def State.killPrograms (s : State) (pav : Nat) : State :=
  (List.range 64).foldl (fun t i => match t.gslot i with
    | some q =>
      if q.pav = pav then
        if q.run.isNone then (t.freeGslot i).loadRead i else ((t.modGslot i (fun q => { q with kill := true })).haltRun i).loadRead i
      else t
    | none => t) s

/-- The channels of a Pavilion. -/
def State.chansOf (s : State) (pav : Nat) : List Nat := s.chanList.filter (fun i => (s.chan i).pav == pav && (s.chan i).state != .free)

/-- The windows of a Pavilion. -/
def State.winsOf (s : State) (pav : Nat) : List Nat :=
  (s.xfer.wins.filter (fun p => p.2.any (fun e => e.desc.pav == pav))).map Prod.fst

/-- The programs of a Pavilion. -/
def State.programsOf (s : State) (pav : Nat) : List Nat := (List.range 64).filter (fun i => (s.gslot i).any (fun q => q.pav == pav))

/-- Every window of a Pavilion released as R178 states. -/
def State.releaseWindows (s : State) (pav : Nat) : State :=
  (s.winsOf pav).foldl (fun t w => if (t.win w).any (fun e => e.releasing) then t else t.startRelease w none) s

/-- The counters and bins of a Pavilion at zero (R540). DEDUCED, log entry 120. -/
def State.belvClear (s : State) (pav : Nat) : State := s.modBelv (fun b => { b with counts := b.counts.filter (fun c => c.1 / 65536 != pav) })

/-- The Anneal of a Pavilion ended without a release (R538). DEDUCED, log entry 118. -/
def State.dropAnneal (s : State) (pav : Nat) : State :=
  match s.annealOf pav with
  | none => s
  | some a => s.endAnneal a

/-- A Pavilion killed (R502, R506): channels retired as in Abort with the status of begun buffers, programs unloaded, windows released. -/
def State.killPav (s : State) (pav status : Nat) : State :=
  let chans := (s.chansOf pav).filter (fun i => (s.chan i).state != .retiring)
  let s1 := chans.foldl (fun t i => t.startRetire i status false .free) s
  ((((s1.killPrograms pav).releaseWindows pav).dropAnneal pav).belvClear pav).activity pav

/-- Nothing is left of the work of a Pavilion: channels FREE, programs unloaded. -/
def State.stopped (s : State) (pav : Nat) : Bool := (s.chansOf pav).isEmpty && (s.programsOf pav).isEmpty

/-- A kill of a Pavilion is over (R502, R506): its channels have left RETIRING, its programs are unloaded and its windows released. What software has
made on it since is not waited for. DEDUCED, log entry 131. -/
def State.killOver (s : State) (pav : Nat) : Bool :=
  (s.chansOf pav).all (fun i => (s.chan i).state != .retiring) && (s.programsOf pav).all (fun i => (s.gslot i).all (fun q => !q.kill)) &&
    (s.winsOf pav).all (fun w => (s.win w).all (fun e => !e.releasing))

end Sys2Proof.Machine
end

