-- ==== Sys2Proof/Machine/Torus.lean ====
section
/-!
DEFINITION. The torus (11): identity exchange, configuration tables, the readiness wave, link and node events, start-up.
-/
namespace Sys2Proof.Machine

/-! ### Identity (R409 to R411) -/

/-- What the exchange left for a port. -/
def Topo.port (t : Topo) (p : PortIx) : TopoPort := Table.get {} t.ports p.val

/-- The same, changed. -/
def State.modTPort (s : State) (p : PortIx) (f : TopoPort → TopoPort) : State :=
  s.modTopo (fun t => { t with ports := Table.put {} t.ports p.val (f (t.port p)) })

/-- A port marked PRESENT by the node's own record (R405). -/
def State.present (s : State) (p : PortIx) : Bool :=
  match s.topo.install with
  | none => false
  | some t => ((t.record s.topo.node).ports.getD p.val 0).getLsbD 0

/-- The RESULT of R410 for an IDENT. -/
def State.identResult (s : State) (p : PortIx) (b : List Byte) : Nat :=
  match s.topo.install with
  | none => 2
  | some t =>
    let far := neighbour t s.topo.node p
    if !s.present p then 2
    else if beAt b 28 4 ≠ t.podId.toNat then 3
    else if slice b 32 8 ≠ t.digest.take 8 then 4
    else if beAt b 24 2 % 8192 ≠ far || beAt b 26 1 ≠ p.val ^^^ 1 then 5
    else if beAt b 4 8 ≠ (t.record far).serial.toNat then 6
    else 1

/-- One TRAIN pane of the answer at once, before the port goes DOWN. -/
def State.answerNow (s : State) (p : PortIx) : State :=
  ((s.modTrain p (fun t => { t with msg := t.ans, ans := none })).slotTraining p)

/-- Once both results of the exchange are known, anything but two times MATCH disables the port (R411); an answer not yet sent goes first. -/
def State.judgeIdent (s : State) (p : PortIx) : State :=
  let t := (s.port p).lane.train
  match t.identOwn, t.identFar with
  | some a, some b => if a = 1 && b = 1 then s else (if t.ans.isSome then s.answerNow p else s).disablePort p true
  | _, _ => s

/-- An IDENT taken (R410, R411): answered with its RESULT; the follower sends its own. -/
def State.takeIdent (s : State) (p : PortIx) (b : List Byte) : State :=
  let r := s.identResult p b
  let s1 := s.modTPort p (fun q => { q with seenNode := beAt b 24 2 % 8192, seenPort := beAt b 26 1 % 8, ownResult := r })
  let s2 := if !s1.leads p && !(s1.port p).lane.train.msg.any (fun m => m.code == tmIdent) && (s1.port p).lane.train.identFar.isNone then
      s1.ask p tmIdent (s1.identArgs p) else s1
  (s2.modTrain p (fun t => { (t.answer tmIdentAck ([BitVec.ofNat 8 r] ++ slice b 24 3)) with identOwn := some r })).judgeIdent p

/-- IDENT (R410). -/
def execIdent (p : PortIx) (s : State) : Out := act (s.linkLive && s.trainHead p tmIdent) s (s.takeTrain p tmIdent (fun b t => t.takeIdent p b))

/-- An IDENT_ACK taken (R411). -/
def State.takeIdentAck (s : State) (p : PortIx) (b : List Byte) : State :=
  let r := beAt b 24 1 % 8
  let s1 := s.modTPort p (fun q => { q with farResult := r })
  (s1.modTrain p (fun t => { t with identFar := some r, waiting := none })).judgeIdent p

/-- IDENT_ACK (R411). -/
def execIdentAck (p : PortIx) (s : State) : Out := act (s.linkLive && s.trainHead p tmIdentAck) s (s.takeTrain p tmIdentAck (fun b t => t.takeIdentAck p b))

/-! ### The readiness wave (R421 to R423, R532) -/

/-- The record of the wave replaced; a change is timed (R423). -/
def State.setWave (s : State) (ready missing : Nat) : State :=
  if ready = s.topo.ready && missing = s.topo.missing then s
  else s.modTopo (fun t => { t with ready := ready, missing := missing, changedAt := s.now }.settle)

/-- The number a list of payload units spells (R532). -/
def bitmapOf (l : List LinkUnit) : Nat := (l.zipIdx).foldl (fun a e => a + (e.1.toNat <<< (128 * e.2))) 0

/-- The payload units of a bitmap. -/
def bitmapUnits (n m : Nat) : List LinkUnit := (List.range n).map (fun i => unit ((m >>> (128 * i)) % 2 ^ 128))

/-- A WAVE message of whole length. -/
def isWave (m : Msg) : Bool := mgmtType m.hdr == 2

/-- WAVE (R422): merged by OR. DEDUCED, log entry 108. -/
def execWave (p : PortIx) (s : State) : Out :=
  s.takeInbound p isWave (fun m u =>
    if mgmtSub m.hdr = 0 then u.setWave (u.topo.ready ||| bitmapOf (m.body.take 64)) u.topo.missing
    else if mgmtSub m.hdr = 1 then u.setWave u.topo.ready (u.topo.missing ||| bitmapOf (m.body.take 192))
    else u)

/-- The record differs from what was last sent on a port, and 100 µs have passed (R422). -/
def State.waveDue (s : State) (p : PortIx) : Bool :=
  s.serving p && decide (Table.get (0, 0) s.topo.waveDue p.val ≠ (s.topo.ready, s.topo.missing)) && (match Table.get none s.topo.waveSentAt p.val with
    | none => true
    | some t => s.usPassed t 100)

/-- A port's turn to send the record: X before Y before Z (R422). -/
def State.waveToSend (s : State) (p : PortIx) : Bool := s.waveDue p && allPorts.all (fun q => decide (p.val / 2 ≤ q.val / 2) || !s.waveDue q)

/-- The bitmaps that have changed sent on a port (R532). -/
def State.sendWave (s : State) (p : PortIx) : State :=
  let last := Table.get (0, 0) s.topo.waveDue p.val
  let s1 := if last.1 = s.topo.ready then s else s.mgmtTo p 2 0 (bitmapUnits 64 s.topo.ready)
  let s2 := if last.2 = s.topo.missing then s1 else s1.mgmtTo p 2 1 (bitmapUnits 192 s.topo.missing)
  s2.modTopo (fun t => { t with waveDue := Table.put (0, 0) t.waveDue p.val (t.ready, t.missing), waveSentAt := Table.put none t.waveSentAt p.val (some s.now) })

/-- WAVE_SEND (R422). -/
def execWaveSend (p : PortIx) (s : State) : Out := act (s.levelTurn 2 && s.waveToSend p) s (s.sendWave p)

/-- LINK_EVENT (R424). -/
def execLinkEvent (p : PortIx) (s : State) : Out :=
  s.takeInbound p (fun m => mgmtType m.hdr == 3) (fun m u =>
    let w := m.body.getD 0 0
    u.applyLinkEvent (bits w 127 113) (bit w 112) (bits w 108 96) (BitVec.ofNat 64 (bits w 63 0)))

/-- NODE_EVENT (R532). -/
def execNodeEvent (p : PortIx) (s : State) : Out :=
  s.takeInbound p (fun m => mgmtType m.hdr == 4) (fun m u =>
    let w := m.body.getD 0 0
    if 2 ≤ bits w 114 112 then u else u.applyNodeEvent (bits w 127 115) (bits w 114 112) (BitVec.ofNat 64 (bits w 63 0)))

/-! ### Readiness (R421 to R423) -/

/-- The conditions of R421 on the ports. -/
def State.portsReady (s : State) : Bool :=
  allPorts.all (fun p => !s.present p || (s.topo.port p).miswired || (s.serving p && (s.port p).keys.session == .up))

/-- A node is SYNCED or the time master, with its route table built. -/
def State.timeReady (s : State) : Bool := (s.time.isMaster || s.time.state == .synced) && s.topo.routeBuilt

/-- The links of the ports that a test names. -/
def State.linksOf (s : State) (f : PortIx → Bool) : Nat :=
  match s.topo.install with
  | none => 0
  | some t => allPorts.foldl (fun a p => if s.present p && f p then setBitTo a (linkNumber t s.topo.node p) true else a) 0

/-- The node becomes ready (R421, R422): its own READY bit, and the MISSING bits of its missing ports. -/
def State.becomeReady (s : State) (f : PortIx → Bool) : State :=
  (s.modTopo (fun t => { t with nodeReady := true })).setWave (setBitTo s.topo.ready s.topo.node true) (s.topo.missing ||| s.linksOf f)

/-- NODE_READY (R421). -/
def execNodeReady (s : State) : Out :=
  act (s.levelTurn 2 && !s.retained.oos && !s.topo.nodeReady && s.topo.install.isSome && s.topo.state != .tableBad && s.portsReady && s.timeReady) s
    (s.becomeReady (fun p => (s.topo.port p).disabled))

/-- Ten seconds have passed since the release of the Lodge. DEDUCED, log entry 109. -/
def State.pastBound (s : State) : Bool := s.lodge.released && s.usPassed s.lodge.releasedAt 10000000

/-- The ports in TRAINING that the bound takes to DOWN: all of them at the bound, and later each 10 s after its training began. -/
def State.overdue (s : State) : List PortIx :=
  allPorts.filter (fun p => (s.port p).pane.link == .training && (!s.topo.bound || s.usPassed (s.port p).lane.train.start 10000000))

/-- A port whose link is missing (R421): in TRAINING at the bound, disabled, or DOWN but for the lane power state P4 (R424). -/
def State.portMissing (s : State) (p : PortIx) : Bool :=
  (s.topo.port p).disabled || (s.port p).pane.link == .training || ((s.port p).pane.link == .down && (s.port p).lane.lpsState != 4)

/-- The start-up bound (R373, R421). -/
def State.startupBound (s : State) : State :=
  let l := s.overdue
  let s1 := l.foldl (fun a p => a.enterDown p lcTimeout) (s.modTopo (fun t => { t with bound := true }))
  if s.topo.nodeReady || s.retained.oos || s.topo.install.isNone || s.topo.state == .tableBad then
    s1.setWave s1.topo.ready (s1.topo.missing ||| s1.linksOf (fun p => p ∈ l))
  else s1.becomeReady (fun p => s.portMissing p)

/-- STARTUP_BOUND (R421). -/
def execStartupBound (s : State) : Out :=
  act (s.levelTurn 2 && s.pastBound && (!s.topo.bound || !s.overdue.isEmpty)) s s.startupBound

/-- Every node of the pod is ready in the record. -/
def Topo.allReady (t : Topo) : Bool := t.install.any (fun i => i.ids.all (fun n => t.ready.testBit n))

/-- A report is due (R423): READY holds every node and that was not reported yet, or the bound has passed and nothing was. -/
def State.reportDue (s : State) : Bool :=
  (s.topo.allReady && !s.topo.allReported) || (!s.topo.reported && s.pastBound && s.usPassed s.topo.changedAt 1000)

/-- POD_STATE_REPORT (R423). -/
def execPodStateReport (s : State) : Out :=
  act (s.levelTurn 2 && s.topo.nodeReady && s.reportDue) s
    (let s1 := s.modTopo (fun t => { t with reported := true, allReported := t.allReported || t.allReady }.settle)
     s1.notice (if s1.topo.state = .ready then 0x01 else 0x02) [])

/-! ### The configuration tables (R404 to R408) -/

/-- Bytes that are zero. -/
def zeroBytes (l : List Byte) : Bool := l.all (fun b => b == 0)

/-- A node record (R405). -/
def readRecord (l : List Byte) : NodeRecord :=
  { serial := wordAt l 0, ports := (List.range 6).map (fun p => BitVec.ofNat 32 (leAt l (8 + 4 * p) 4)) }

/-- The installation table as its bytes give it. -/
def readInstall (l : List Byte) : InstallTable :=
  let ex := leAt l 5 1
  let ey := leAt l 6 1
  let ez := leAt l 7 1
  { ex := ex, ey := ey, ez := ez, master := leAt l 8 2, podId := BitVec.ofNat 32 (leAt l 12 4), epoch := BitVec.ofNat 64 (leAt l 16 8),
    nodes := (List.range (ex * ey * ez)).map (fun i => readRecord (slice l (64 + 32 * i) 32)), digest := sha384 l }

/-- The layout of R405: sizes, constants, reserved bytes and bits. -/
def installLayout (l : List Byte) : Bool :=
  let t := readInstall l
  let n := t.ex * t.ey * t.ez
  leAt l 0 4 == 0x4E425449 && leAt l 4 1 == 1 && decide (1 ≤ t.ex) && decide (t.ex ≤ 16) && decide (1 ≤ t.ey) && decide (t.ey ≤ 16) &&
    decide (1 ≤ t.ez) && decide (t.ez ≤ 32) && l.length == 64 + 32 * n + 96 && decide (t.master < 8192) && zeroBytes (slice l 10 2) &&
    zeroBytes (slice l 24 40) &&
    (List.range n).all (fun i => t.nodes.getD i { serial := 0, ports := [] } |>.ports.all (fun w => bits w 7 1 == 0 && decide (bits w 15 8 ≤ 50)))

/-- A signature over every byte before it (R404). -/
def signedBy (pub : BitVec 768) (l : List Byte) : Bool :=
  let n := l.length - 96
  ecdsaVerify pub.toNat (sha384 (l.take n)) (l.drop n)

/-- The node IDs of every record of a table, vacant ones too. -/
def InstallTable.places (t : InstallTable) : List Nat :=
  (List.range t.ez).flatMap (fun z => (List.range t.ey).flatMap (fun y => (List.range t.ex).map (fun x => nodeId x y z)))

/-- The port word of a node's record. -/
def InstallTable.portWord (t : InstallTable) (n p : Nat) : BitVec 32 := (t.record n).ports.getD p 0

/-- One end of a link as R406 asks: not on an axis of extent 1, not toward a vacant record, agreeing with its other end. -/
def InstallTable.linkOk (t : InstallTable) (n p : Nat) : Bool :=
  let w := t.portWord n p
  let far := neighbour t n p
  let v := t.portWord far (p ^^^ 1)
  if t.extent (p / 2) = 1 then !w.getLsbD 0
  else (!w.getLsbD 0 || (t.record far).serial != 0) && w.getLsbD 0 == v.getLsbD 0 && bits w 15 8 == bits v 15 8 &&
    (BitVec.ofNat 16 (bits w 31 16)).toInt == -(BitVec.ofNat 16 (bits v 31 16)).toInt

/-- The checks of R406 beyond layout, signature and epoch. -/
def InstallTable.sound (t : InstallTable) (serial : Word) : Bool :=
  let serials := (t.nodes.map NodeRecord.serial).filter (fun x => x != 0)
  serials.eraseDups.length == serials.length && t.names t.master &&
    t.places.all (fun n => (List.range 6).all (fun p => t.linkOk n p)) && serial != 0 && t.nodes.any (fun r => r.serial == serial)

/-- The installation table accepted (R406). -/
def State.acceptInstall (s : State) (l : List Byte) : Option InstallTable :=
  let t := readInstall l
  if installLayout l && signedBy s.ident.podKey l && s.topo.tableCounter.any (fun k => decide (k ≤ t.epoch)) && t.sound s.global.serial then some t else none

/-- A port record of the board table (R407). -/
def readBoardPort (l : List Byte) : BoardPort :=
  { steps := bits (l.getD 0 0) 3 0, i3cSa := bits (l.getD 1 0) 6 0, txMin := leAt l 4 2, txMax := leAt l 6 2, biasMax := leAt l 8 2, rxMin := leAt l 10 2,
    taps := (List.range 52).map (fun i => BitVec.ofNat 16 (leAt l (16 + 2 * i) 2)) }

/-- The taps and reserved bits of a port record within R385 and R407. -/
def boardPortOk (l : List Byte) : Bool :=
  let q := readBoardPort l
  bits (l.getD 0 0) 7 4 == 0 && bits (l.getD 1 0) 7 7 == 0 && zeroBytes (slice l 2 2) && zeroBytes (slice l 12 4) && zeroBytes (slice l 120 8) &&
    q.taps.all (fun w => bits w 15 13 == 0 && decide (bits w 12 10 ≤ 6) && decide (bits w 9 5 ≤ 24) && decide (bits w 4 0 ≤ 24))

/-- The board table accepted (R407). -/
def State.acceptBoard (s : State) (l : List Byte) : Option BoardTable :=
  let recs := (List.range 6).map (fun p => slice l (32 + 128 * p) 128)
  if l.length == 896 && leAt l 0 4 == 0x4E424254 && leAt l 4 1 == 1 && zeroBytes (slice l 5 3) && zeroBytes (slice l 16 16) &&
      leAt l 8 8 == s.global.serial.toNat && recs.all boardPortOk && signedBy s.ident.podKey l then
    some { ports := recs.map readBoardPort, digest := sha384 l }
  else none

/-- The operations of a channel that wait in a scoreboard and name a node, in admission order. -/
def State.waitingOps (s : State) : List (OpRef × OpSlot) :=
  s.chanList.flatMap (fun i => ((s.chan i).allOps i).filter (fun e => e.2.phase == .admitted && !e.2.body.nodes.isEmpty))

/-- The waiting operations checked (R575). -/
def State.checkWaiting (s : State) : State :=
  s.waitingOps.foldl (fun a e => match a.nodeCheck (s.chan e.1.chan).pav e.2.body with
    | some st => a.endOp e.1 st 0
    | none => a) s

/-- A refused table (R408, R575). -/
def State.tableBad (s : State) : State := (s.modTopo (fun t => { t with state := .tableBad })).checkWaiting

/-- The node takes its place, its time role and its parent from its own record (R302, R420). DEDUCED, log entry 110. -/
def State.takePlace (s : State) (t : InstallTable) (b : BoardTable) : State :=
  let node := (t.places.find? (fun n => (t.record n).serial == s.global.serial)).getD 0
  let route := routeOf t node t.master
  let s1 := s.modTopo (fun q => { q with
    install := some t, board := some b, node := node, x := nodeX node, y := nodeY node, z := nodeZ node, state := if q.reported then q.state else .starting,
    ports := q.ports.map (fun e => (e.1, { e.2 with disabled := false, miswired := false })) |>.filter (fun e => decide (e.2 ≠ {})) })
  s1.modTime (fun m => { m with
    master := t.master, isMaster := decide (node = t.master), parent := if node = t.master then 7 else route.1,
    depth := if node = t.master then 0 else m.depth, state := if node = t.master then .synced else m.state, locked := m.locked || decide (node = t.master) })

/-- A PRESENT port enabled (R373, R420). -/
def State.enablePort (s : State) (p : PortIx) : State :=
  if s.present p then
    let s1 := (s.modLane p (fun l => { l with trainCtl := l.trainCtl ||| 1#64 })).modKeys p (fun k => { k with disabled := false })
    if (s.port p).pane.link = .down && !(s.port p).lane.testing then s1.startTraining p lcInit else s1
  else s

/-- The bytes a read brought; none where it failed. -/
def bytesOf : Option ReadResult → Option (List Byte)
  | some (.data l) => some l
  | _ => none

/-- The length of the installation table whose first 64 bytes are given (R405). -/
def installLength (l : List Byte) : Nat := 64 + 32 * (leAt l 5 1 * leAt l 6 1 * leAt l 7 1) + 96

/-- Whether 64 bytes begin an installation table (R405). -/
def installBegins (l : List Byte) : Bool :=
  l.length == 64 && leAt l 0 4 == 0x4E425449 && leAt l 4 1 == 1 && decide (1 ≤ leAt l 5 1) && decide (leAt l 5 1 ≤ 16) && decide (1 ≤ leAt l 6 1) &&
    decide (leAt l 6 1 ≤ 16) && decide (1 ≤ leAt l 7 1) && decide (leAt l 7 1 ≤ 32)

/-- Both tables verified and loaded (R406 to R408, R420): their digests extend the measurement log. DEDUCED, log entry 111. -/
def State.loadTables (s : State) (installation board : Option (List Byte)) : State :=
  match installation.bind s.acceptInstall, board.bind s.acceptBoard with
  | some t, some b =>
    let s1 := ((s.takePlace t b).extend 0x04 t.digest).extend 0x05 b.digest
    allPorts.foldl State.enablePort s1
  | _, _ => s.tableBad

/-- The tables read at the addresses the root of trust gave (R404): the installation table's first 64 bytes give the length of the rest. Both read, they
are verified. -/
def State.takeTables (s : State) : State :=
  match s.content .installation, s.content .board with
  | none, _ | _, none => (s.readContent .installation s.topo.installAddr 64 0).readContent .board s.topo.boardAddr 896 0
  | some a, some b =>
    match bytesOf (some a) with
    | some l =>
      if installBegins l then s.readContent .installation s.topo.installAddr (installLength l) 0
      else ((s.dropContent .installation).dropContent .board).loadTables (some l) (bytesOf (some b))
    | none => ((s.dropContent .installation).dropContent .board).loadTables none (bytesOf (some b))

/-- TABLE_LOAD (R406): at start-up, and a new installation table for ports that are disabled (R411). -/
def execTableLoad (s : State) : Out :=
  act (s.live && s.lodge.running && s.topo.tableCounter.isSome && !s.readingContent .installation && !s.readingContent .board &&
    (s.topo.state == .noTable || allPorts.any (fun p => (s.topo.port p).disabled))) s s.takeTables

/-- ROUTE_TABLE_BUILT (R416, R575). -/
def execRouteTableBuilt (s : State) : Out :=
  act (s.live && s.lodge.running && s.topo.install.isSome && s.topo.state != .tableBad && !s.topo.routeBuilt) s
    ((s.modTopo (fun t => { t with routeBuilt := true })).checkWaiting)

end Sys2Proof.Machine
end

