-- ==== Sys2Proof/Machine/OpsFault.lean ====
section
/-!
DEFINITION. What a codeword that cannot be corrected does, checker by checker (R487, R489, R500), and when a Pavilion is quiet (R501).
-/
namespace Sys2Proof.Machine

/-! ### Checkers (R500, R519) -/

/-- Whether a number names a checker (R500). -/
def checkerExists (c : Nat) : Bool :=
  decide (c < 0x30) || (decide (0x30 ≤ c) && decide (c ≤ 0x3C)) || (decide (0x40 ≤ c) && decide (c < 0x58) && c % 4 != 3) ||
    (decide (0x80 ≤ c) && decide (c < 0xB0) && c % 8 != 7)

/-- The checkers of stores; the others check beats of buses or transmitted panes (R487, R500). -/
def checkerSram (c : Nat) : Bool :=
  checkerExists c && ((decide (0x31 ≤ c) && decide (c ≤ 0x3C)) || (decide (0x40 ≤ c) && decide (c < 0x58) && c % 4 == 0) ||
    (decide (0x80 ≤ c) && decide (c % 8 < 4)))

/-- The transmit checks of a port (R499): 4 CRC-64, 5 GCM tag, 6 encryption check. -/
def checkerTransmit (c : Nat) : Bool := decide (0x80 ≤ c) && decide (4 ≤ c % 8)

/-- The UNIT code of a checker (R519). DEDUCED, log entry 132. -/
def checkerUnit (c : Nat) : Nat :=
  if c < 0x20 then 0x11
  else if c < 0x30 then 0x02
  else if c = 0x30 then 0x03
  else if c = 0x31 then 0x04
  else if c = 0x32 then 0x05
  else if c = 0x33 then 0x06
  else if c ≤ 0x35 then 0x01
  else if c = 0x36 then 0x07
  else if c = 0x37 then 0x0B
  else if c = 0x38 then 0x0C
  else if c = 0x39 then 0x0D
  else if c = 0x3A then 0x09
  else if c ≤ 0x3C then 0x0F
  else if c < 0x58 then 0x08
  else 0x0A

/-- The ENGINE number of a checker within its unit (R519). -/
def checkerEngine (c : Nat) : Nat :=
  if c < 0x30 then c % 16 else if c < 0x40 then 0 else if c < 0x58 then (c - 0x40) / 4 else (c - 0x80) / 8

/-- The report of a checker: cause, entry, and the Pavilion it was traced to. -/
def checkerReport (cause c entry : Nat) (pav : Nat := 0) (status : Nat := 0) : ErrorReport :=
  mkReport cause (unit := checkerUnit c) (access := if checkerSram c then 8 else 9) (pav := pav) (engine := checkerEngine c) (checker := c)
    (status := status) (addr := entry)

/-- An uncorrectable codeword contained (R487). -/
def State.contain (s : State) (c entry : Nat) (pav : Nat := 0) (status : Nat := 0) : State := s.raiseContained (checkerReport 0x10 c entry pav status)

/-- An uncorrectable codeword with no transaction to fail (R489). -/
def State.untrusted (s : State) (c entry : Nat) : State := s.raiseFatal false (checkerReport 0x30 c entry)

/-! ### Transactions failed (R487) -/

/-- The access of a fabric port whose beat is bad: an inbound beat is its answer; one going out fails while its TXID waits for the carrier. -/
def State.ueFabric (s : State) (c entry : Nat) : State :=
  match s.access (c % 16) entry with
  | none => s.untrusted c entry
  | some a =>
    if c < 0x10 then s.answered a (.internal c)
    else ((s.modFab (fun b => { b with out := b.out.map (fun x => if x.fport = a.fport && x.txid = a.txid then { x with use := .gone } else x) })).resolve
      a (.internal c)).fetchOne

/-- The request under a tag whose beat in a copy engine is bad. -/
def State.ueTag (s : State) (c entry : Nat) : State :=
  match s.tagAlloc entry with
  | none => s.untrusted c entry
  | some a =>
    let s1 := (((s.contain c entry a.pav stUncorrectable).freeTag entry).dropMsg entry).forget (fun u => match u with
      | .tagRead t use _ => t == entry && use == a.use
      | _ => false)
    if a.owner.hasChan && !s.genOk a.chan a.cgen then s1 else s1.ownerEnd a stUncorrectable 0 []

/-- The request at the completer whose beat is bad. -/
def State.ueCreq (s : State) (c entry : Nat) : State :=
  match s.creq entry with
  | none => s.untrusted c entry
  | some r => ((s.contain c entry r.pav stUncorrectable).forget (fun u => match u with
      | .creq id _ => id == entry
      | _ => false)).finishCreq r stUncorrectable 0 []

/-- A window entry: every request on the window fails until it is released and registered again. -/
def State.ueWindow (s : State) (c entry : Nat) : State :=
  let s1 := s.contain c entry (((s.win entry).map (fun e => e.desc.pav)).getD 0)
  match s.win entry with
  | none => s1
  | some e => s1.modXfer (fun x => { x with wins := Table.put none x.wins entry (some { e with bad := true }) })

/-- A page-walk cache entry is dropped, to be walked again: a corrected error. -/
def State.uePwc (s : State) (c entry : Nat) : State :=
  (s.modXfer (fun x => { x with pwc := x.pwc.eraseIdx entry })).raiseCorrected (checkerReport 0x02 c entry)

/-- A tag is withdrawn until the next block reset; its request fails at its completion timeout. -/
def State.ueTagStore (s : State) (c entry : Nat) : State :=
  let s1 := s.contain c entry (((s.tagAlloc entry).map TagAlloc.pav).getD 0)
  match s.tagAlloc entry with
  | some _ => s1.modTag entry (fun a => { a with withdrawn := true })
  | none => s1.modXfer (fun x => { x with tags := { x.tags with freed := x.tags.freed.filter (fun t => t != entry), dead := x.tags.dead ++ [entry] } })

/-- A key index is treated as lost on its port (R458); for key 0 the session ends and a new handshake runs (R441). The entry is 16 times the
port and the index. -/
def State.ueKey (s : State) (c entry : Nat) : State :=
  let s1 := s.contain c entry (entry % 16)
  if h : entry / 16 < 6 then
    let p : PortIx := ⟨entry / 16, h⟩
    if entry % 16 = 0 then
      let s2 := s1.modKeys p PortKeys.endSession
      if s2.serving p then s2.startHandshake p else s2
    else s1.retireIndex p (entry % 16)
  else s1

/-- The run of a program slot ends UNCORRECTABLE (R274). -/
def State.ueRun (s : State) (i : Nat) : State :=
  match s.running i with
  | none => s
  | some (q, r) => (s.failRun i stUncorrectable (r.current q.prog)).stopIfUnloading i

/-- Program memory: the run ends and the program leaves its slot with it. -/
def State.ueProgram (s : State) (c entry : Nat) : State :=
  let s1 := s.contain c entry (((s.gslot entry).map GSlot.pav).getD 0)
  match s.gslot entry with
  | none => s1
  | some q => if q.run.isNone then (s1.freeGslot entry).loadRead entry else (s1.ueRun entry).modGslot entry (fun q => { q with kill := true })

/-- A Gather operand buffer or bus: the run of the slot named ends; a bus beat of no run is fatal. -/
def State.ueGather (s : State) (c entry : Nat) : State :=
  match s.running entry with
  | some (q, _) =>
    if q.slice = checkerEngine c then (s.contain c entry q.pav stUncorrectable).ueRun entry
    else if c % 4 = 0 then s.contain c entry else s.untrusted c entry
  | none => if c % 4 = 0 then s.contain c entry else s.untrusted c entry

/-- A message whose bytes are lost: a request whose header can be read is answered UNCORRECTABLE, any other is abandoned and counted. -/
def State.ueMsg (s : State) (p : PortIx) (key : Nat) (hdr : LinkUnit) : State :=
  let k := bits hdr 127 124
  if 1 ≤ k && k ≤ 9 && s.freeVal .codeword % 2 = 0 then (s.drawn).respond hdr key stUncorrectable 0 [] else (s.drawn).bump (ctrPlDiscard p)

/-- The receive pool of a port: the message that holds the slot is lost, whole or still coming in, for this node or another. -/
def State.uePool (s : State) (p : PortIx) (c entry : Nat) : State :=
  let q := (s.port p).pane
  match q.rxMsgs.find? (fun m => decide (entry ∈ m.2.slots)) with
  | some m =>
    ((s.contain c entry m.2.key stUncorrectable).modPane p (fun q =>
      { (q.leaves m.2.slots) with rxMsgs := q.rxMsgs.erase m })).ueMsg p m.2.key m.2.msg.hdr
  | none =>
    let s1 := s.contain c entry
    match q.parse.find? (fun e => decide (entry ∈ e.2.slots)) with
    | some e => s1.abandon p (e.1 / 2) (e.1 % 2)
    | none =>
      let hit (i : Nat) (l : List Nat) : Bool := i == p.val + 1 && decide (entry ∈ l)
      allPorts.foldl (fun a o => (a.cutQueued o (fun m => hit m.inbound m.slots)).cutSending o (fun c => hit c.inbound c.slots)) s1

/-- The transit queue of a port: the message named is lost. -/
def State.ueTransit (s : State) (p : PortIx) (c entry : Nat) : State :=
  match ((s.port p).pane.txq.filter (fun m => m.inbound != 0))[entry]? with
  | none => s.contain c entry
  | some m => (((s.contain c entry m.key stUncorrectable).modPane p (fun q => { q with txq := q.txq.erase m })).leaveIn m.inbound m.slots).ueMsg p m.key m.msg.hdr

/-- The Cullet of a port: a pane-state reset, and retraining with cause PROTOCOL (R359, R374). -/
def State.ueCullet (s : State) (p : PortIx) (c entry : Nat) : State :=
  ((s.raiseContained (checkerReport 0x1C c entry)).paneReset p).retrain p lcProtocol

/-- A port's stores and its encryption check. -/
def State.uePort (s : State) (p : PortIx) (c entry : Nat) : State :=
  if c % 8 = 0 then s.uePool p c entry
  else if c % 8 = 1 then s.ueCullet p c entry
  else if c % 8 = 2 then s.ueTransit p c entry
  else if c % 8 = 3 then (s.contain c entry).modPTime p (fun t => { t with active := none, waiting := none })
  else if c % 8 = 6 then s.untrusted c entry
  else s

/-- An uncorrectable codeword at a checker (R487). The route table is written afresh by the firmware at once. -/
def State.uncorrectable (s : State) (c entry : Nat) : State :=
  if c < 0x20 then s.ueFabric c entry
  else if c < 0x30 then s.ueTag c entry
  else if c = 0x30 then s.ueCreq c entry
  else if c = 0x31 then s.ueWindow c entry
  else if c = 0x32 then s.uePwc c entry
  else if c = 0x33 then s.ueTagStore c entry
  else if c = 0x34 || c = 0x35 || c = 0x39 || c = 0x3B then s.untrusted c entry
  else if c = 0x36 then (s.contain c entry).failSlot entry
  else if c = 0x37 then s.contain c entry
  else if c = 0x38 then s.ueKey c entry
  else if c = 0x3A then s.ueProgram c entry
  else if c = 0x3C then s.raiseFatal true (checkerReport 0x34 c entry)
  else if c < 0x58 then s.ueGather c entry
  else if h : (c - 0x80) / 8 < 6 then s.uePort ⟨(c - 0x80) / 8, h⟩ c entry
  else s

/-! ### Quiet Pavilions (R501) -/

/-- A busy channel: ACTIVE with a buffer that has begun and not completed. -/
def Channel.isBusy (c : Channel) : Bool := c.state == .active && !c.begunBufs.isEmpty

/-- An operation that makes no progress: an armed WAIT, or one that waits for a dependency or a FENCE. DEDUCED, log entry 53. -/
def State.opBlocked (s : State) (o : OpRef) (q : OpSlot) : Bool :=
  match q.phase with
  | .decoded => true
  | .ended => true
  | .running => match q.body with
    | .wait .. => !s.waitTimedOut o
    | _ => false
  | .admitted => match q.oper with
    | none => false
    | some p => !s.depsDone o p || (s.earlierOpen o q).any (fun e => e.body == .fence) || (p.body == .fence && !(s.earlierOpen o q).isEmpty)

/-- A busy channel is blocked: every operation is, and no fetch read is outstanding. -/
def State.chanBlocked (s : State) (i : Nat) : Bool :=
  let c := s.chan i
  c.entry.isNone && c.bufs.all (fun b => !b.reading) && (c.allOps i).all (fun e => s.opBlocked e.1 e.2)

/-- No engine holds work of a Pavilion: no operation of another channel in progress, no tag, no run. -/
def State.enginesFree (s : State) (pav : Nat) : Bool :=
  (s.chansOf pav).all (fun i => ((s.chan i).allOps i).all (fun e => e.2.phase != .running || (match e.2.body with
    | .wait .. => true
    | _ => false))) &&
  s.xfer.tags.used.all (fun a => a.pav != pav) && (s.programsOf pav).all (fun i => (s.gslot i).all (fun q => q.run.isNone))

/-- The detector is suspended while the Pavilion is annealed, a channel is PAUSED or a teardown is in progress (R502, R538). -/
def State.hangSuspended (s : State) (pav : Nat) : Bool :=
  s.annealed pav || (s.chansOf pav).any (fun i => (s.chan i).state == .paused) || s.gate.tenant.any (fun t => t.num == pav && t.teardown.isSome)

/-- A Pavilion is quiet now (R501). -/
def State.quietNow (s : State) (pav : Nat) : Bool :=
  !s.hangSuspended pav && (s.chansOf pav).any (fun i => (s.chan i).isBusy) &&
    (s.chansOf pav).all (fun i => !(s.chan i).isBusy || s.chanBlocked i) && s.enginesFree pav

/-- A Pavilion has been quiet for the hang window (R502); a window of 0 turns the detector off. -/
def State.hung (s : State) (pav : Nat) : Bool :=
  let w := bits s.flt.hangCtl 16 0
  w != 0 && (match Table.get none s.flt.quiet pav with
    | none => false
    | some t => s.usPassed t w) && s.quietNow pav

end Sys2Proof.Machine
end

