-- ==== Sys2Proof/Machine/Gatehouse.lean ====
section
/-!
DEFINITION. The commands of the Gatehouse (12) and of the root of trust (16): Pavilions, teardown, SPDM, anti-rollback counters, the Lodge's release.
-/
namespace Sys2Proof.Machine

/-! ### PAVILION_CREATE (R446 to R450) -/

/-- The block of ARG2 (R447). -/
def AdminCmd.block (c : AdminCmd) : Block :=
  let w := c.arg 2
  { x0 := bits w 3 0, y0 := bits w 7 4, z0 := bits w 12 8, bx := bits w 20 16, by_ := bits w 28 24, bz := bits w 37 32 }

/-- The reserved bits and ranges of R447. -/
def createPavOk (c : AdminCmd) : Bool :=
  onlyBits (c.arg 1) 0xFFFF003F0F1F && onlyBits (c.arg 2) 0x3F1F1F1FFF && onlyBits (c.arg 3) 0xFFFFFFFF1FFF0FFF && onlyBits (c.arg 4) 0x7FFF &&
    onlyBits (c.arg 5) 0x0FFFFFFFFFFFF000 && onlyBits (c.arg 6) 0x00FFFFFFFFFFF000 && onlyBits (c.arg 7) 0x00FFFFFFFFFFFFC0 &&
    bits (c.arg 1) 3 0 != 0 && decide (1 ≤ bits (c.arg 3) 28 16) && decide (bits (c.arg 3) 11 0 + bits (c.arg 3) 28 16 ≤ 4096) &&
    decide (bits (c.arg 3) 47 32 + bits (c.arg 3) 63 48 + 1 ≤ 65536) && decide (1 ≤ bits (c.arg 4) 14 0) && decide (bits (c.arg 4) 14 0 ≤ 16383) &&
    decide (4 ≤ bits (c.arg 5) 59 56) && decide (bits (c.arg 5) 59 56 ≤ 12)

/-- The tenant a command creates. -/
def AdminCmd.tenant (c : AdminCmd) : Tenant :=
  { num := bits (c.arg 1) 3 0, enc := bit (c.arg 1) 4, block := c.block, clusters := bits (c.arg 1) 11 8, slices := bits (c.arg 1) 21 16,
    fabPorts := bits (c.arg 1) 47 32, chBase := bits (c.arg 3) 11 0, chCount := bits (c.arg 3) 28 16, winBase := bits (c.arg 3) 47 32,
    winCount := bits (c.arg 3) 63 48 + 1, quota := bits (c.arg 4) 14 0 }

/-- The tenant's indices are in use (R448). -/
def State.rangesUsed (s : State) (t : Tenant) : Bool :=
  s.chanList.any (fun i => decide (t.chBase ≤ i) && decide (i < t.chBase + t.chCount) && (s.chan i).state != .free) ||
    s.xfer.wins.any (fun p => decide (t.winBase ≤ p.1) && decide (p.1 < t.winBase + t.winCount) && p.2.isSome)

/-- PAVILION_CREATE performed: the first condition of R448 that applies. -/
def State.createPav (s : State) (r : AdminRef) : State :=
  let c := s.cmdD r
  let t := c.tenant
  if c.pav != 0 then s.finish r asDenied
  else if !createPavOk c || !(s.topo.install.any (fun i => t.block.ok i && t.block.has i s.topo.node)) then s.finish r asBadCommand
  else if s.gate.tenant.isSome || s.rangesUsed t then s.finish r asBadState
  else if t.clusters = 0xF || t.fabPorts = 0xFFFF then s.finish r asNoResource
  else
    let s1 := (s.modGate (fun g => { g with tenant := some t })).startRing t.num (bits (c.arg 5) 55 0) (bits (c.arg 5) 59 56) (bits (c.arg 6) 55 0)
      (bits (c.arg 7) 55 0)
    (allPorts.foldl (fun a p => a.offerTenant p) s1).finish r asOk

/-- PAVILION_CREATE (R448). -/
def execPavilionCreate (r : AdminRef) (s : State) : Out := act (s.cmdIs r 0x30 && s.lodgeTurn r) s (s.createPav r)

/-! ### PAVILION_TEARDOWN (R452 to R457) -/

/-- Every outstanding request of a Pavilion declared timed out, its tags freed (R453 step 1); requests that wait for a tag are dropped. -/
def State.freeTags (s : State) (pav : Nat) : State :=
  let mine := s.xfer.tags.used.filter (fun a => a.pav == pav)
  let waiters := s.xfer.tags.waiting.filter (fun w => w.1 == pav)
  let s1 := s.modXfer (fun x => { x with tags := { x.tags with waiting := x.tags.waiting.filter (fun w => w.1 != pav) } })
  let s2 := mine.foldl (fun t a => if t.ownTag a then t.completionTimeout a else t.relayTimeout a) s1
  let s3 := (s2.xfer.jobs.filter (fun j => j.pav == pav && j.op.isNone)).foldl (fun t j =>
    (t.modJob j.id (fun j => { j with allFormed := true, silent := true })).pumpJob j.id 2) s2
  waiters.foldl (fun t w => match w.2 with
    | .relay id => match t.creq id with
      | some q => ((t.dropCreq q).kick).endReleases
      | none => t
    | _ => t) s3

/-- Steps 1 to 4 of R453; a rotation of the key index is abandoned (R457). DEDUCED, log entry 119. -/
def State.beginTeardown (s : State) (r : AdminRef) (pav : Nat) : State :=
  let s0 := (s.working r).modGate (fun g =>
    { g with teardownId := g.teardownId + 1, tenant := g.tenant.map (fun t => { t with teardown := some r }) })
  let chans := s0.chansOf pav
  let s1 := chans.foldl (fun t i =>
    if (t.chan i).state == .retiring && !(t.chan i).draining then
      t.modChan i (fun c => { c with retire := c.retire.map (fun x =>
        { x with next := .free, stage := match x.stage with
          | .reread => .records
          | g => g }) })
    else t.startRetire i stAborted false .free) s0
  let s2 := (s1.freeTags pav).dropAnneal pav
  let s3 := allPorts.foldl (fun t p => ((t.retireRx p pav).retireTx p pav t.gate.teardownId.toNat).modKeys p (fun k =>
    { k with rotations := k.rotations.filter (fun x => x.key != pav) })) s2
  (s3.killPrograms pav).activity pav

/-- Whether a Cullet pane is one a teardown waits for (R453 step 5): a pane under the index, or a RETIRE fence of it. -/
def CulletPane.awaits (pav : Nat) (c : CulletPane) : Bool :=
  !c.void && (if c.fence then c.body.getD 0 0 == 1 && c.body.getD 1 0 == BitVec.ofNat 8 pav else c.key == pav)

/-- Whether a port has nothing more to wait for; one not in service is not waited for (R455). -/
def State.portRetired (s : State) (p : PortIx) (pav : Nat) : Bool :=
  !s.serving p || ((s.port p).pane.fences.all (fun f => f.key != pav) && (s.port p).pane.cullet.all (fun c => !c.awaits pav))

/-- The teardown in progress of a command. -/
def State.tearing (s : State) (r : AdminRef) : Option Tenant := s.gate.tenant.bind (fun t => if t.teardown = some r then some t else none)

/-- Step 6, or steps 7 and 8, of R453 are due. -/
def State.teardownDue (s : State) (r : AdminRef) : Bool :=
  match s.tearing r with
  | none => false
  | some t => s.stopped t.num && allPorts.all (fun p => s.portRetired p t.num) &&
      ((s.winsOf t.num).isEmpty || (s.winsOf t.num).any (fun w => (s.win w).any (fun e => !e.releasing)))

/-- The rest of the Pavilion's state scrubbed and its resources returned (R449, R453 steps 7 and 8, R544). -/
def State.scrubPav (s : State) (pav : Nat) : State :=
  let s1 := s.modPorts (fun q => { q with keys := q.keys.zero pav })
  let s2 := s1.modXfer (fun x =>
    { x with meas := x.meas.filter (fun m => bits m.2.handle 15 12 != pav),
             staging := x.staging.filter (fun e => x.meas.all (fun m => m.1 != e.slot || bits m.2.handle 15 12 != pav)) })
  let s3 := ((List.range 8).filter (fun i => (s2.belvSet i).enabled && (s2.belvSet i).owner == pav)).foldl State.belvFree s2
  let gone := (s3.front.cmds.filter (fun c => c.pav == pav)).map (fun c => AdminRef.mk c.pav c.entry)
  let s4 := (s3.stopRing pav).modFront (fun e =>
    { e with rings := Table.put {} e.rings pav {}, cmds := e.cmds.filter (fun c => c.pav != pav), doneQ := e.doneQ.filter (fun c => c.pav != pav) })
  let s5 := s4.modLodge (fun l =>
    { l with items := l.items.filter (fun i => i.cmd.pav != pav), rot := l.rot.map (fun w => if w.cmd.any (fun c => decide (c ∈ gone)) then { w with cmd := none, slot := none } else w) })
  (s5.belvClear pav).modGate (fun g =>
    { g with tenant := none, records := g.records.filter (fun x => x.pav != pav), spdm := g.spdm.filter (fun x => x.pav != pav) })

/-- Steps 5 to 8 of R453. -/
def State.endTeardown (s : State) (r : AdminRef) : State :=
  match s.tearing r with
  | none => s
  | some t =>
    let s1 := allPorts.foldl (fun a p => if a.serving p then a else (a.voidCullet p (fun k => k == t.num)).1) s
    let s2 := s1.releaseWindows t.num
    if (s2.winsOf t.num).isEmpty then ((s2.scrubPav t.num).activity t.num).finish r asOk s2.gate.teardownId.toNat else s2

/-- PAVILION_TEARDOWN checked (R452) and begun. -/
def State.teardownPav (s : State) (r : AdminRef) : State :=
  let c := s.cmdD r
  let p := bits (c.arg 1) 3 0
  if c.pav != 0 then s.finish r asDenied
  else if p = 0 || bits (c.arg 1) 63 4 != 0 || !c.zeroArgs [2, 3, 4, 5, 6, 7] then s.finish r asBadCommand
  else if !s.gate.tenant.any (fun t => t.num == p && t.teardown.isNone) then s.finish r asBadState
  else s.beginTeardown r p

/-- PAVILION_TEARDOWN (R453): begun, and then its later steps as each becomes due. -/
def execPavilionTeardown (r : AdminRef) (s : State) : Out :=
  if s.cmdIs r 0x31 then act (s.lodgeTurn r) s (s.teardownPav r) else act (s.live && s.teardownDue r) s (s.endTeardown r)

/-! ### PAV_RESET (R506) -/

/-- PAV_RESET checked and begun. -/
def State.resetPav (s : State) (r : AdminRef) : State :=
  let c := s.cmdD r
  let p := bits (c.arg 2) 3 0
  if c.pav != 0 then s.finish r asDenied
  else if p = 0 || bits (c.arg 2) 63 4 != 0 || !c.zeroArgs [3, 4, 5, 6, 7] then s.finish r asBadCommand
  else if !s.gate.tenant.any (fun t => t.num == p && t.teardown.isNone) then s.finish r asBadState
  else ((s.working r).modGate (fun g => { g with killing := g.killing ++ [(r, p)] })).killPav p stAborted

/-- The Pavilion of a PAV_RESET in progress has stopped. -/
def State.resetPavDone (s : State) (r : AdminRef) : Bool :=
  match s.gate.killing.find? (fun k => k.1 == r) with
  | none => false
  | some k => s.killOver k.2

/-- PAV_RESET (R506). -/
def execPavReset (r : AdminRef) (s : State) : Out :=
  if s.mgmtIs r 0x0501 then act (s.lodgeTurn r) s (s.resetPav r)
  else act (s.live && s.resetPavDone r) s ((s.modGate (fun g => { g with killing := g.killing.filter (fun k => k.1 != r) })).finish r asOk)

/-! ### SPDM (R429 to R433) -/

/-- The measurement blocks a ring may have reported (R431, R432): index, DMTF value type and value. -/
def State.measBlocks (s : State) (pav : Nat) : List (Nat × Nat × List Byte) :=
  let mine := fun (p : Nat) => pav == 0 || p == pav
  [(1, 0x00, Config.bootRomDigest), (2, 0x01, beBytes 48 s.ident.imageDigest.toNat), (3, 0x87, leBytes 8 s.ident.securityVersion.toNat)] ++
    (s.topo.install.toList.map (fun t => (4, 0x03, t.digest))) ++ (s.topo.board.toList.map (fun t => (5, 0x03, t.digest))) ++
    (s.gather.resident.filterMap (fun e => if mine e.2.pav then some (0x10 + e.1, 0x03, e.2.prog.digest) else none)) ++
    ((s.gate.records.zipIdx).filterMap (fun e =>
      if mine e.1.pav then some (0x80 + e.2, 0x84, leBytes 2 e.1.label ++ [BitVec.ofNat 8 e.1.pav, BitVec.ofNat 8 e.1.slot] ++ leBytes 8 e.1.objLen ++ e.1.digest)
      else none))

/-- A block in the DMTF format of SPDM 1.3 (PRESUMED, log entry 19). -/
def blockBytes (b : Nat × Nat × List Byte) : List Byte :=
  [BitVec.ofNat 8 b.1, 1] ++ leBytes 2 (b.2.2.length + 3) ++ [BitVec.ofNat 8 b.2.1] ++ leBytes 2 b.2.2.length ++ b.2.2

/-- Bytes of a response that the spec leaves to SPDM 1.3: free values (PRESUMED, log entry 19). -/
def State.freeBytes (s : State) (n : Nat) : List Byte := (List.range n).map (fun i => BitVec.ofNat 8 (Config.free .spdm (s.freeCount + i)))

/-- Free values drawn. -/
def State.drawnN (s : State) (n : Nat) : State := { s with freeCount := s.freeCount + n }

/-- An SPDM ERROR response (PRESUMED, log entry 19). -/
def spdmError (code : Nat) : List Byte := [0x13, 0x7F, BitVec.ofNat 8 code, 0]

/-- The MEASUREMENTS response of a request for an index: 0 asks for their number, 0xFF for all. -/
def State.measResponse (s : State) (pav index : Nat) (signed : Bool) : List Byte × Nat :=
  let all := s.measBlocks pav
  let l := if index = 0 then [] else if index = 0xFF then all else all.filter (fun b => b.1 == index)
  if index ≠ 0 && index ≠ 0xFF && l.isEmpty then (spdmError 0x01, 0)
  else
    let body := l.flatMap blockBytes
    let tail := 42 + (if signed then 96 else 0)
    if 4096 < 8 + body.length + tail then (spdmError 0x0D, 0)
    else ([0x13, 0x60, BitVec.ofNat 8 (if index = 0 then all.length else 0), 0, BitVec.ofNat 8 l.length] ++ leBytes 3 body.length ++ body ++ s.freeBytes tail, tail)

/-- Whether a session belongs to a ring (R430). -/
def State.spdmMine (s : State) (pav num : Nat) : Bool := s.gate.spdm.any (fun x => x.num == num && x.pav == pav)

/-- A response whose payload is free: version, code and parameters, then free bytes. -/
def State.freeResponse (s : State) (code n : Nat) : List Byte × Nat := ([0x13, BitVec.ofNat 8 code, 0, 0] ++ s.freeBytes n, n)

/-- The responder (R430): the response, how many free values it takes, and its effect on the sessions. DEDUCED, log entry 146. -/
def State.spdmRespond (s : State) (pav : Nat) (q : SpdmRequest) : (List Byte × Nat) × Gate :=
  let g := s.gate
  let err := fun (c : Nat) => ((spdmError c, 0), g)
  let inSession := fun (n : Nat) (g2 : Gate) => if s.spdmMine pav n then ((s.freeBytes (16 + s.freeVal .spdm % 4081), 16 + s.freeVal .spdm % 4081), g2) else err 0x02
  let early := !g.spdmNegotiated
  match q with
  | .getVersion => (([0x10, 0x04, 0, 0, 0, 1, 0x00, 0x13], 0), { g with spdmNegotiated := false })
  | .getCapabilities => (([0x13, 0x61, 0, 0, 0] ++ s.freeBytes 1 ++ [0, 0] ++ leBytes 4 0x62D6 ++ leBytes 4 4096 ++ leBytes 4 4096, 1), g)
  | .negotiateAlgorithms ok => if ok then (s.freeResponse 0x63 (32 + s.freeVal .spdm % 64), { g with spdmNegotiated := true }) else err 0x01
  | .getDigests => if early then err 0x04 else (([0x13, 0x01, 0x01, 0x01] ++ sha384 s.ident.chain, 0), g)
  | .getCertificate slot off len =>
    if early then err 0x04
    else if slot ≠ 0 || s.ident.chain.length ≤ off then err 0x01
    else
      let n := min len (s.ident.chain.length - off)
      (([0x13, 0x02, 0, 0] ++ leBytes 2 n ++ leBytes 2 (s.ident.chain.length - off - n) ++ slice s.ident.chain off n, 0), g)
  | .challenge slot _ => if early then err 0x04 else if slot ≠ 0 then err 0x01 else (s.freeResponse 0x03 186, g)
  | .getMeasurements none index signed => if early then err 0x04 else (s.measResponse pav index signed, g)
  | .getMeasurements (some n) _ _ => inSession n g
  | .keyExchange =>
    if early then err 0x04
    else if 4 ≤ g.spdm.length then err 0x0A
    else (s.freeResponse 0x64 282, { g with spdm := g.spdm ++ [{ num := g.spdmNext, pav := pav, finished := false }], spdmNext := g.spdmNext + 1 })
  | .finish n => inSession n { g with spdm := g.spdm.map (fun x => if x.num = n then { x with finished := true } else x) }
  | .keyUpdate n => inSession n { g with spdm := g.spdm.map (fun x => if x.num = n then { x with keyGen := x.keyGen + 1 } else x) }
  | .heartbeat n => inSession n g
  | .endSession n => inSession n { g with spdm := g.spdm.filter (fun x => x.num != n) }
  | .wrongVersion => err 0x41
  | .other _ => err 0x07

/-- Whether the algorithm structures of a NEGOTIATE_ALGORITHMS offer secp384r1 or AES-256-GCM. -/
def structsOffer : Nat → List Byte → Bool
  | 0, _ => false
  | n + 1, l =>
    ((l.getD 0 0).toNat == 2 && leAt l 2 2 / 16 % 2 == 1) || ((l.getD 0 0).toNat == 3 && leAt l 2 2 / 2 % 2 == 1) ||
      structsOffer n (l.drop (4 + 4 * ((l.getD 1 0).toNat % 16)))

/-- Whether a NEGOTIATE_ALGORITHMS offers any algorithm of R430: ECDSA P-384, SHA-384, secp384r1 or AES-256-GCM, where SPDM 1.3 places them
(PRESUMED, log entry 19). -/
def algorithmsOffered (l : List Byte) : Bool :=
  leAt l 8 4 / 128 % 2 == 1 || leAt l 12 4 / 2 % 2 == 1 ||
    structsOffer (l.getD 2 0).toNat (l.drop (32 + 4 * ((l.getD 28 0).toNat + (l.getD 29 0).toNat)))

/-- Whether the bytes of a message are a request (R11): SPDM 1.3's version, request code and parameters (PRESUMED, log entry 19). What is said in a session
is encrypted, and any bytes may say it. -/
def spelt (q : SpdmRequest) (l : List Byte) : Bool :=
  let v := (l.getD 0 0).toNat
  let code := (l.getD 1 0).toNat
  let p1 := l.getD 2 0
  let is := fun (c : Nat) => v == 0x13 && code == c
  match q with
  | .getVersion => code == 0x84
  | .getCapabilities => is 0xE1
  | .negotiateAlgorithms ok => is 0xE3 && algorithmsOffered l == ok
  | .getDigests => is 0x81
  | .getCertificate slot off len => is 0x82 && bits p1 3 0 == slot && leAt l 4 2 == off && leAt l 6 2 == len
  | .challenge slot nonce => is 0x83 && p1.toNat == slot && leAt l 4 32 == nonce.toNat
  | .getMeasurements none index signed => is 0xE0 && bit p1 0 == signed && (l.getD 3 0).toNat == index
  | .keyExchange => is 0xE4
  | .wrongVersion => v != 0x13 && code != 0x84
  | .other c => v == 0x13 && code == c.toNat && !decide (code ∈ [0x84, 0xE1, 0xE3, 0x81, 0x82, 0x83, 0xE0, 0xE4, 0xE5, 0xE9, 0xE8, 0xEC])
  | .getMeasurements (some _) _ _ | .finish _ | .keyUpdate _ | .heartbeat _ | .endSession _ => true

/-- SPDM_MSG performed: the request is read whole at REQ_ADDR, and the response written at RSP_ADDR; the status of one whose request cannot be read is
not given (DESIGN CHOICE, log entry 14). -/
def State.spdmCmd (s : State) (r : AdminRef) (q : SpdmRequest) : State :=
  let c := s.cmdD r
  if bits (c.arg 2) 63 56 != 0 || bits (c.arg 3) 63 13 != 0 || bits (c.arg 4) 63 56 != 0 || bits (c.arg 5) 63 13 != 0 || !c.zeroArgs [6, 7] ||
      bits (c.arg 3) 12 0 = 0 || 4096 < bits (c.arg 3) 12 0 || bits (c.arg 5) 12 0 < 4096 then s.finish r asBadCommand
  else s.readThen (.admin r) (bits (c.arg 2) 55 0) (bits (c.arg 3) 12 0) 0 (fun res s => match res with
    | .data _ =>
      let x := s.spdmRespond c.pav q
      (((s.drawnN (x.1.2 + 1)).modGate (fun _ => x.2)).working r).issueAll
        (writePieces (bits (c.arg 4) 55 0) x.1.1 0 (fun _ => .spdm r x.1.1.length))
    | _ => s.drawn.finish r (s.freeVal .adminStatus % 7))

/-- Whether a request can be what the range of a command holds. -/
def State.spells (s : State) (r : AdminRef) (q : SpdmRequest) : Bool :=
  match s.content (.admin r) with
  | some (.data l) => spelt q l
  | _ => true

/-- SPDM_MSG (R429): `req` is the request the bytes read spell. -/
def execSpdmMsg (r : AdminRef) (req : SpdmRequest) (s : State) : Out :=
  act (s.mgmtIs r 0x0401 && s.lodgeTurn r && !s.readingContent (.admin r) && s.spells r req) s (s.spdmCmd r req)

/-! ### Anti-rollback counters (R406, R460) and replies of the root of trust (R561, R562) -/

/-- A counter of the root of trust asked to rise. -/
def State.raiseCounter (s : State) (r : AdminRef) (counter : Nat) (value : Option Word) : State :=
  if !(s.cmdD r).zeroArgs [2, 3, 4, 5, 6, 7] then s.finish r asBadCommand
  else match value with
    | none => s.finish r asBadState
    | some v => (s.working r).rotSend (.counterRaise counter v) (some r) none

/-- SVN_COMMIT (R460). -/
def execSvnCommit (r : AdminRef) (s : State) : Out :=
  act (s.mgmtIs r 0x0403 && s.lodgeTurn r) s (s.raiseCounter r 0 (some s.ident.securityVersion))

/-- EPOCH_COMMIT (R406, R460). DEDUCED, log entry 114. -/
def execEpochCommit (r : AdminRef) (s : State) : Out :=
  act (s.mgmtIs r 0x0404 && s.lodgeTurn r) s (s.raiseCounter r 1 (s.topo.install.map InstallTable.epoch))

/-- A reply to the oldest request (R561, R562). -/
def State.rotAnswer (s : State) (w : RotWait) (done : Bool) (value : Word) : State :=
  match w.req, w.cmd with
  | .counterRead _, _ => if done then s.modTopo (fun t => { t with tableCounter := some value }) else s
  | .counterRaise .., some r => s.finish r (if done then asOk else asDenied)
  | .extend .., some r => match done, w.slot with
    | true, some k => s.sealDone r k
    | true, none => s.finish r asOk
    | false, _ => s.finish r asNoResource
  | _, none => s

/-- ROT_REPLY (R562). -/
def execRotReply (done : Bool) (value : Word) (s : State) : Out :=
  match s.lodge.rot with
  | [] => act false s s
  | w :: rest => act s.live s ((s.modLodge (fun l => { l with rot := rest })).rotAnswer w done value)

/-- The oldest request has waited 100 ms. DEDUCED, log entry 123. -/
def State.rotLate (s : State) : Bool :=
  match s.lodge.rot with
  | [] => false
  | w :: _ => s.usPassed w.sent 100000

/-- ROT_REPLY_TIMEOUT (R562): it is sent again, behind the requests sent since. -/
def execRotReplyTimeout (s : State) : Out :=
  match s.lodge.rot with
  | [] => act false s s
  | w :: rest => act (s.live && s.rotLate) s ((s.modLodge (fun l => { l with rot := rest })).rotSend w.req w.cmd w.slot)

/-! ### Identity and release (R426 to R428, R521) -/

/-- The identity key and chain are installed (R462). -/
def Identity.settle (g : Identity) : Identity := { g with ready := decide (g.pub ≠ 0) && !g.chain.isEmpty }

/-- ROT_IDENTITY (R426). -/
def execRotIdentity (priv : BitVec 384) (pub : BitVec 768) (s : State) : Out :=
  actAll s.clocked s { s with ident := ({ s.ident with priv := priv, pub := pub } : Identity).settle }

/-- What RELEASE gives (R404, R427, R428, R521): the Lodge runs when the boot ROM finds the digest it was given, and asks for the
anti-rollback counter of the table (R406). DEDUCED, log entry 124. -/
def State.rotRelease (s : State) (m : RotRelease) : State :=
  let runs := decide (m.imageDigest = m.romDigest)
  let s1 := ({ s with ident := ({ s.ident with imageDigest := m.imageDigest, securityVersion := m.securityVersion, podKey := m.podKey,
                                               rootKeys := m.rootKeys.take 4, chain := m.chain.take 4000 } : Identity).settle } : State).modGlobal
    (fun g => { g with serial := m.serial })
  let s2 := (s1.modTopo (fun t => { t with installAddr := m.installAddr, boardAddr := m.boardAddr })).modLodge
    (fun l => { l with released := true, running := runs, trusted := runs, releasedAt := s.now, wdogStart := s.now })
  if runs then
    ((s2.extend 1 Config.bootRomDigest).extend 2 (beBytes 48 m.imageDigest.toNat)).rotSend (.counterRead 1) none none
  else s2

/-- ROT_RELEASE (R521): once after a cold block reset. -/
def execRotRelease (m : RotRelease) (s : State) : Out := actAll (s.live && !s.lodge.released) s (s.rotRelease m)

/-! ### QUERY of a Pavilion and of the Lodge queues (R462, R524, R548) -/

/-- The ports with current keys of an index in both directions. -/
def State.keyed (s : State) (k : Nat) : Nat :=
  maskOf ((allPorts.filter (fun p => ((s.port p).keys.index k).txCur.isSome && ((s.port p).keys.index k).rxCur.isSome)).map (fun p => p.val))

/-- GATE.PAV_STATUS of a Pavilion (R462; DEDUCED, log entry 20). -/
def State.pavStatus (s : State) (p : Nat) : Nat :=
  let id := s.gate.teardownId.toNat
  match s.gate.tenant with
  | some t =>
    if p = t.num then place 1 63 1 + place (b2n t.enc) 62 1 + place (b2n t.teardown.isSome) 61 1 + place (s.keyed p) 48 6 + place t.mismatch.toNat 40 6 + id
    else if p = 0 then place 1 63 1 + place (s.keyed 0) 48 6 + id else id
  | none => if p = 0 then place 1 63 1 + place (s.keyed 0) 48 6 + id else id

/-- QUERY subject 0x03 (R524). -/
def State.queryPav (s : State) (r : AdminRef) : State :=
  let c := s.cmdD r
  if bits (c.arg 2) 63 4 != 0 || !c.zeroArgs [3, 4, 5, 6, 7] then s.finish r asBadCommand
  else if c.pav != 0 && bits (c.arg 2) 3 0 != c.pav then s.finish r asDenied
  else s.finish r asOk (s.pavStatus (bits (c.arg 2) 3 0))

/-- QUERY_PAVILION (R524). -/
def execQueryPavilion (r : AdminRef) (s : State) : Out := act (s.queryIs r 3 && s.lodgeTurn r) s (s.queryPav r)

/-- LODGE.QUEUE (R548). -/
def Lodge.queueWord (l : Lodge) : Nat := place l.notices.length 32 9 + place l.items.length 0 6

/-- QUERY_LODGE_QUEUES (R524): the command itself has left the queue. -/
def execQueryLodgeQueues (r : AdminRef) (s : State) : Out :=
  act (s.queryIs r 4 && s.lodgeTurn r) s
    (if !(s.cmdD r).zeroArgs [2, 3, 4, 5, 6, 7] then s.finish r asBadCommand
     else s.finish r asOk (s.working r).lodge.queueWord)

end Sys2Proof.Machine
end

