-- ==== Sys2Proof/Machine/OpsPower.lean ====
section
/-!
DEFINITION. Engine domains and their work (R467 to R472), latency tolerance (R473 to R475), the droop level (R476 to R480) and lane power
states (R392 to R395).
-/
namespace Sys2Proof.Machine

/-! ### Engine domains (R467, R469 to R472) -/

/-- The twelve engines, by domain number less 84: slices 0 to 5, clusters 6 to 9, the atomic unit 10, the front end 11. -/
def engineIds : List Nat := List.range 12

/-- A message of the atomic kind. -/
def Msg.isAtomic (m : Msg) : Bool := bits m.hdr 127 124 == kAtomic

/-- A run, a waiting GATHER_RUN or a held chunk on a slice. -/
def Gather.busy (g : Gather) (slice : Nat) : Bool :=
  g.slots.any (fun e => match e.2 with
    | none => false
    | some q => q.slice == slice && (q.run.isSome || !q.queue.isEmpty || !q.held.isEmpty))

/-- An operation that a cluster has taken. -/
def Channel.inCluster (c : Channel) (k : Nat) : Bool :=
  c.bufs.any (fun b => b.ops.any (fun o => o.phase == .running && o.cluster == k && (match o.oper with
    | none => false
    | some x => x.body.copyEngine)))

/-- A channel with work in the front end. -/
def Channel.working (c : Channel) : Bool := !c.bufs.isEmpty || c.entry.isSome || !c.recs.isEmpty || c.retire.isSome || c.drain.isSome

/-- Whether an engine has work or an outstanding request (R470). -/
def State.engineWork (s : State) (e : Nat) : Bool :=
  if e < 6 then s.gather.busy e
  else if e < 10 then
    s.front.chans.any (fun x => x.2.inCluster (e - 6)) || s.xfer.tags.used.any (fun a => a.cluster == e - 6) || s.xfer.jobs.any (fun j => j.cluster == e - 6)
  else if e = 10 then
    s.xfer.creqs.any (fun r => match r.kind with
      | .atomic .. => true
      | _ => false) || s.xfer.localQ.any (fun m => m.msg.isAtomic) ||
      allPorts.any (fun p => (s.port p).pane.rxMsgs.any (fun m => m.2.msg.isAtomic))
  else s.front.chans.any (fun x => x.2.working) || !s.front.cmds.isEmpty || !s.front.fetchQ.isEmpty

/-- Since when each engine has no work is noted, once a cycle (R470). DEDUCED, log entry 127. -/
def State.noteEngines (s : State) : State :=
  s.modPower (fun w => engineIds.foldl (fun a e => a.modEngine e (fun x =>
    { x with idleSince := if s.engineWork e then none else (match x.idleSince with
        | some t => some t
        | none => some s.now) })) w)

/-- An ON request to PWRM for a domain that has none outstanding (R472, R563). -/
def State.requestDomain (s : State) (d : Nat) : State :=
  if s.power.domReqs.any (fun r => r.domain == d) then s
  else (s.modPower (fun w => { w with domReqs := w.domReqs ++ [{ domain := d, since := s.now }] })).modPins (fun p =>
    { p with domReq := p.domReq ++ [{ on := true, domain := d }] })

/-! ### Tolerance (R473) -/

/-- PWR.LTR_PORTp at reset (R483). -/
def ltrDefault : Word := 0x600000007D0

/-- The smaller of two tolerances in nanoseconds; none is no limit. -/
def minTol (a b : Option Nat) : Option Nat :=
  match a, b with
  | none, x => x
  | x, none => x
  | some x, some y => some (min x y)

/-- A wake time within a tolerance. -/
def within (wake : Nat) (tol : Option Nat) : Bool := match tol with
  | none => true
  | some t => decide (wake ≤ t)

/-- The PWRM hint in nanoseconds; zero is no hint. -/
def Power.hintNs (w : Power) : Option Nat := if w.hint = 0 then none else some (64 * w.hint.toNat)

/-- Ticks until the next window of a Timetable opens. -/
def TimeTable.untilOpen (t : TimeTable) (now : Nat) : Option Nat :=
  let waits := t.entries.map (fun e =>
    if now ≤ t.epoch then t.epoch + e.1 - now
    else
      let r := (now - t.epoch) % t.period
      if r < e.1 then e.1 - r else t.period + e.1 - r)
  waits.foldl (fun a x => minTol a (some x)) none

/-- The effective tolerance of a port in nanoseconds. -/
def State.portTol (s : State) (p : PortIx) : Option Nat :=
  let own := bits (Table.get ltrDefault s.power.ltrPort p.val) 29 0
  let win := ((s.port p).time.active.bind (fun t => t.untilOpen s.podTime)).map (fun x => 5 * x / 6)
  minTol (minTol (if own = 0x3FFFFFFF then none else some own) s.power.hintNs) win

/-- A real-time channel is ACTIVE and not idle. -/
def State.rtBusy (s : State) : Bool := s.front.chans.any (fun x => x.2.typ == 2 && x.2.state == .active && (x.2.working || x.2.tail != x.2.head))

/-- The effective engine tolerance in nanoseconds. -/
def State.engineTol (s : State) : Option Nat :=
  let own := bits s.power.engLtr 15 0
  let t := minTol (if own = 0xFFFF then none else some own) s.power.hintNs
  if s.rtBusy then minTol t (some (bits s.power.engLtr 61 32)) else t

/-- The deepest state R470 permits an engine. -/
def State.engineFloor (s : State) (e : Nat) : Nat :=
  if e < 6 then (if s.gather.slots.any (fun x => match x.2 with
    | none => false
    | some q => q.slice == e) then 2 else 3)
  else if e = 11 then (if s.front.chans.any (fun x => x.2.state != .free) || s.front.rings.any (fun x => x.2.enabled) then 2 else 3)
  else 3

/-- Idle for 16 times a wake time. -/
def State.engineIdleFor (s : State) (e wakeNs : Nat) : Bool :=
  match (s.power.engine e).idleSince with
  | none => false
  | some t => s.nsPassed t (16 * wakeNs)

/-- The state R475 chooses; 1 where neither E2 nor E3 may be taken. -/
def State.engineChoice (s : State) (e : Nat) : Nat :=
  let tol := s.engineTol
  if s.engineWork e then 0
  else if 3 ≤ s.engineFloor e && within 20000 tol && s.engineIdleFor e 20000 then 3
  else if within 1000 tol && s.engineIdleFor e 1000 then 2
  else 1

/-! ### Lane power states (R392 to R395, R474) -/

/-- The wake times of R392 in nanoseconds. -/
def lpsWakeNs (st : Nat) : Nat := if st = 1 then 60 else if st = 2 then 2000 else if st = 3 then 25000 else if st = 4 then 400000000 else 0

/-- The far end of a port is the time child of this end: its route toward the master begins here (R302). -/
def State.farIsChild (s : State) (p : PortIx) : Bool :=
  match s.topo.install with
  | none => false
  | some t => decide ((routeOf t (neighbour t s.topo.node p) t.master).1 = p.val ^^^ 1)

/-- The deepest state a port may state (R395, R474): LIMIT, or P2. -/
def State.lpsFloor (s : State) (p : PortIx) : Nat :=
  let l := (s.port p).lane.lpsLimit
  if s.time.parent = p.val || s.farIsChild p then min l 2 else l

/-- The conditions of R393 have held for 16 times the wake time of a state and for 1 µs. -/
def State.portIdleFor (s : State) (p : PortIx) (st : Nat) : Bool :=
  (s.port p).pane.idle && (match (s.port p).lane.idleSince with
    | none => false
    | some t => s.nsPassed t (max 1000 (16 * lpsWakeNs st)))

/-- The lane power state chosen for a port (R474). DEDUCED, log entry 104. -/
def State.lpsChoice (s : State) (p : PortIx) : Nat :=
  ([4, 3, 2, 1].find? (fun st => within (lpsWakeNs st) (s.portTol p) && decide (st ≤ s.lpsFloor p) && s.portIdleFor p st)).getD 0

/-- P2_WIDTH of a port (R483). -/
def State.p2Width (s : State) (p : PortIx) : Nat := bits (Table.get ltrDefault s.power.ltrPort p.val) 43 40

/-- The codeword slot that begins the next marker (R394): one marker on each lane comes first. -/
def Port.alignSlot (q : Port) : Port :=
  { q with keys := { q.keys with slot := ceilDiv q.keys.slot q.markerSlots * q.markerSlots } }

/-- Back in P0 (R393, R394): P1 is left by a marker on each lane, P3 with the engine's outputs enabled; statements begin anew, and the timers run. -/
def State.lpsLeave (s : State) (p : PortIx) (say : Bool) : State :=
  let st := (s.port p).lane.lpsState
  let s0 := if st = 1 then s.modPort p Port.alignSlot else if st = 3 then s.txDisable p false else s
  let s1 := (s0.modLane p (fun l => { l with lpsState := 0, lpsOwn := 0, lpsFar := 0, lpsSent := false })).modPane p (fun q => { q with creditStart := s.now })
  if say then s1.ctrl p (ctrlLps 0x15 st 0) else s1

/-- The widest width the droop level and the lane power state allow. DEDUCED, log entry 105. -/
def State.widthCap (s : State) (p : PortIx) : Nat :=
  let l := (s.port p).lane
  min (droopWidth s.power.level) (if l.lpsState = 2 && l.lpsOwn = 2 then max l.lpsOwnWidth l.lpsFarWidth else 12)

/-- A port woken (R394): from P1 and P3 at once, from P2 by a wider width, from P4 by initial training once its domains are on,
which they stay off for while the droop level is 2 or 3 (R481). -/
def State.lpsWake (s : State) (p : PortIx) : State :=
  let l := (s.port p).lane
  if l.lpsState = 2 then
    let s1 := s.modLane p (fun l => { l with lpsOwn := 0 })
    if l.width < s1.widthCap p then (if l.change.isNone then s1.askWidth p lcPower l.usable (s1.widthCap p) else s1) else s1.lpsLeave p true
  else if l.lpsState = 4 && (!l.enabled || 2 ≤ s.power.level) then s
  else if l.lpsState = 4 then
    if (portDomains p).all s.power.domOn then (if (s.port p).pane.link == .down then (s.txDisable p false).startTraining p lcPower else s)
    else ((portDomains p).filter (fun d => !s.power.domOn d)).foldl State.requestDomain s
  else s.lpsLeave p true

/-! ### Droop (R476 to R480) -/

/-- The level of the enabled detectors (R476). -/
def Power.detLevel (w : Power) : Nat :=
  ((List.range 4).map (fun q => if bit w.droopCtl (16 + q) then w.dets.getD q 0 else 0)).foldl max 0

/-- The larger of both sources. -/
def Power.rawLevel (w : Power) : Nat := max w.pwrm w.detLevel

/-- The sources changed: a source above the next lower level, or newly at or below it, begins the hold anew (R477). -/
def State.modSources (s : State) (f : Power → Power) : State :=
  s.modPower (fun w =>
    let target := w.level - 1
    if target < (f w).rawLevel || target < w.rawLevel then { f w with fallStart := s.now } else f w)

/-- A reading of the sources taken. -/
def State.droopReading (s : State) (r : DroopReading) : State :=
  s.modSources (fun w => { w with pwrm := r.pwrm.toNat, dets := [r.det0.toNat, r.det1.toNat, r.det2.toNat, r.det3.toNat] })

/-- Ports in service narrowed to the cap of the level in force (R480). -/
def State.droopNarrow (s : State) : State :=
  allPorts.foldl (fun a p =>
    let l := (a.port p).lane
    if a.serving p && l.change.isNone && a.widthCap p < l.width then a.askWidth p lcPower l.usable (a.widthCap p) else a) s

/-- Ports in service asked for the width the level and the lane state then allow (R480). -/
def State.droopWiden (s : State) : State :=
  allPorts.foldl (fun a p =>
    let l := (a.port p).lane
    if a.serving p && l.change.isNone && l.width < (l.widthCfg l.farUsable (a.widthCap p) true).2 then a.askWidth p lcPower l.usable (a.widthCap p) else a) s

/-- A rise of the level to the level of the sources (R477, R478): every level entered is counted. -/
def State.droopRise (s : State) : State :=
  let old := s.power.level
  let new := s.power.rawLevel
  if old < new then
    let s1 := (List.range 3).foldl (fun a i => if old < i + 1 && i + 1 ≤ new then a.bump (ctrDroop (i + 1)) else a) s
    (s1.modPower (fun w => { w with level := new, fallStart := s.now })).droopNarrow
  else s

end Sys2Proof.Machine
end

