-- ==== Sys2Proof/Machine/OpsRegs.lean ====
section
/-!
DEFINITION. The register target (R558, R559, R570, R571): what every register of the setup window and of the channel pages reads, and what a write
to it does.
-/
namespace Sys2Proof.Machine

/-! ### Counters (R518) -/

/-- The counters of a PORT aperture (R363, R400). -/
def isPortCounter (o : Nat) : Bool :=
  (decide (0x40 ≤ o) && decide (o < 0x80)) || o == 0x140 || o == 0x148 || o == 0x150 || (decide (0x200 ≤ o) && decide (o < 0x268))

/-- The offsets of the registers with SATURATED and COUNT. -/
def isCounter (off : Nat) : Bool :=
  let o := off % 0x10000
  off % 8 == 0 && match off / 0x10000 with
    | 0 => o == 0x40
    | 3 => o == 0x20 || o == 0x110
    | 4 => (decide (0x80 ≤ o) && decide (o < 0xB0)) || (decide (0xC0 ≤ o) && decide (o < 0xF0)) || (decide (0x100 ≤ o) && decide (o < 0x130))
    | 5 => isPortCounter o
    | 6 => isPortCounter o
    | 7 => isPortCounter o
    | 8 => isPortCounter o
    | 9 => isPortCounter o
    | 10 => isPortCounter o
    | 11 => o == 0x80 || o == 0x88 || o == 0x90
    | 12 => o == 0x80 || o == 0x88 || o == 0x90
    | 13 => decide (0x80 ≤ o) && decide (o ≤ 0xA0)
    | 15 => o == 0x40
    | _ => false

/-- SATURATED and COUNT cleared. -/
def State.clearCounter (s : State) (off : Nat) : State := { s with counters := s.counters.erase off }

/-! ### Reads -/

/-- GLOBAL.INIT_STATUS (R572). -/
def State.initStatus (s : State) : Nat :=
  b2n s.global.selftestDone + place (b2n s.lodge.running) 1 1 + place (b2n (s.topo.install.isSome && s.topo.board.isSome)) 2 1 +
    place (b2n s.ident.ready) 3 1 + place (b2n s.topo.nodeReady) 4 1 + place (b2n (s.time.state == .synced || s.time.isMaster)) 5 1

/-- The GLOBAL registers (R572). -/
def State.readGlobal (s : State) (o : Nat) : Nat :=
  match o with
  | 0x00 => 0x4E36100000000000
  | 0x08 => s.global.serial.toNat
  | 0x10 => place 0x38 50 6 + place 0x10 45 5 + place 0x10 40 5 + place 0xD 36 4 + place 6 32 4 + place 3 28 4 + place 0xF 24 4 + place 0x40 16 7 + 0xFFF
  | 0x18 => s.global.ctl.toNat
  | 0x20 => s.global.resetCause.toNat
  | 0x28 => s.initStatus
  | _ => 0

/-- The FRONT registers (R122). -/
def State.readFront (s : State) (o : Nat) : Nat :=
  match o with
  | 0x00 => b2n s.front.admin0En
  | 0x08 => s.front.admin0Ring.toNat
  | 0x10 => s.front.admin0Cmpl.toNat
  | 0x18 => s.front.admin0Db.toNat
  | 0x20 => s.front.sweep.toNat
  | 0x28 => s.front.rtShareLo.toNat
  | 0x30 => s.front.rtShareHi.toNat
  | _ => 0

/-- The WIN registers (R207); a flush is done at once. -/
def State.readWin (s : State) (o : Nat) : Nat :=
  match o with
  | 0x00 => place 0x20 48 8 + place 0x4000 32 16 + place 0x1000 16 16 + 0xFFFF
  | 0x08 => b2n s.xfer.winCtl
  | _ => 0

/-- GATHER.SLICE_STATUS (R276). -/
def Gather.sliceStatus (g : Gather) (i : Nat) : Nat :=
  let r := g.resident.filter (fun e => e.2.slice == i)
  place (b2n (r.any (fun e => e.2.run.isSome))) 19 1 + place r.length 12 7 + place (g.freeKib i) 0 12

/-- The GATHER registers (R276, R313). -/
def State.readGather (s : State) (o : Nat) : Nat :=
  let g := s.gather
  match o with
  | 0x00 => place 0x100 32 16 + place 0x800 16 16 + place 0x40 8 8 + 6
  | 0x08 => g.ctl.toNat
  | 0x10 => g.knotSel.toNat
  | 0x18 => (knotData (bits g.knotSel 1 0) (bit g.knotSel 2) (bits g.knotSel 24 16)).toNat
  | 0x100 => g.progSel.toNat
  | 0x108 => g.progStatus g.progSel.toNat
  | _ => if 0x40 ≤ o && o < 0x70 then g.sliceStatus ((o - 0x40) / 8) else 0

/-- TIME.TT_STATUS (R314). -/
def PortTime.status (t : PortTime) : Nat :=
  place (b2n t.waiting.isSome) 63 1 + place (b2n t.active.isSome) 62 1 + place ((t.active.map (fun x => x.entries.length)).getD 0) 48 13

/-- The TIME registers (R314). -/
def State.readTime (s : State) (o : Nat) : Nat :=
  match o with
  | 0x00 => s.time.now.toNat
  | 0x08 => place s.time.master 16 13 + place s.time.depth 8 8 + place s.time.parent 2 3 + s.time.state.code
  | 0x10 => place s.time.ratePpb.toNat 32 32 + s.time.theta.toNat
  | 0x18 => place (b2n s.time.isMaster) 1 1 + b2n s.time.syncEn
  | _ => if h : 0x40 ≤ o ∧ o < 0x70 then (s.port ⟨(o - 0x40) / 8, by omega⟩).time.status else 0

/-- The taps of a lane as LANE_STATUS shows them (R400). -/
def Taps.word (t : Taps) : Nat := place t.cm2 10 3 + place t.cm1 5 5 + place t.cp1 0 5

/-- PORTn.LANE_STATUS (R400). -/
def State.laneStatus (s : State) (p : PortIx) (k : Nat) : Nat :=
  let l := (s.port p).lane
  let q := l.lane k
  place (s.boardTaps p k l.step).word 48 13 + place q.taps.word 32 13 + place q.fail 12 4 + place (b2n ((s.serving p) && l.active.testBit k)) 3 1 +
    place (b2n q.usable) 2 1 + place (b2n (decide (2 ≤ q.markers))) 1 1 + b2n q.cdr

/-- The registers of a PORT aperture (R363, R400). -/
def State.readPort (s : State) (p : PortIx) (o : Nat) : Nat :=
  let q := (s.port p).pane
  let l := (s.port p).lane
  match o with
  | 0x00 => q.ctl.toNat
  | 0x08 => place q.plId.toNat 32 32 + place q.cullet.length 19 13 + place q.slots.length 6 13 + place (b2n q.farOos) 3 1 + q.link.code
  | 0x10 => q.vcMax0.toNat
  | 0x18 => q.vcMax1.toNat
  | 0x20 => q.vcMax2.toNat
  | 0x28 => q.retired.toNat / 2 * 2
  | 0x100 => l.trainCtl.toNat + place (b2n l.retrainDue) 2 1
  | 0x108 => place l.farUsable 39 13 + place l.active 26 13 + place l.usable 13 13 + place (if s.serving p then l.width else 0) 9 4 + place l.step 7 2 +
      place (b2n l.leader) 6 1
  | 0x110 => place l.eventTick.toNat 32 32 + place l.causeFar 8 4 + place l.causeOwn 4 4
  | 0x118 => place l.lpsState 4 3 + place l.lpsLimit 0 3
  | 0x120 => l.testCtl.toNat
  | 0x128 => place l.moduleState.toNat 8 8 + place (b2n l.mgmtLost) 1 1 + b2n l.present
  | _ => if 0x180 ≤ o && o < 0x1E8 then s.laneStatus p ((o - 0x180) / 8) else 0

/-- GATE.LINKp (R462). -/
def PortKeys.linkWord (k : PortKeys) : Nat :=
  place k.seg.toNat 32 16 + place (((k.tx 0).map (fun x => x.gen.toNat)).getD 0) 16 16 + place k.attempts 8 8 + place k.fail 4 4 + k.session.code

/-- The GATE registers (R462). -/
def State.readGate (s : State) (o : Nat) : Nat :=
  match o with
  | 0x00 => place 0x60 40 8 + place 4 32 8 + place 0x180 16 16
  | 0x08 => place s.ident.rootKeys.length 1 3 + b2n s.ident.ready
  | 0x10 => s.gate.rotate.toNat
  | 0x18 => s.gate.pavSel.toNat
  | 0x20 => s.pavStatus s.gate.pavSel.toNat
  | _ => if h : 0x40 ≤ o ∧ o < 0x70 then (s.port ⟨(o - 0x40) / 8, by omega⟩).keys.linkWord else 0

/-- The lane PLLs of a port are locked (R467, R483): some lane is powered and no powered one has lost its lock. DEDUCED, log entry 29. -/
def State.laneLock (s : State) (p : PortIx) : Bool :=
  let on := laneIds.filter (fun k => s.power.domOn (13 * p.val + k))
  !on.isEmpty && on.all (fun k => !((s.port p).lane.lane k).pllLost)

/-- The PWR registers (R483). -/
def State.readPower (s : State) (o : Nat) : Nat :=
  let w := s.power
  match o with
  | 0x00 => place (maskOf ((allPorts.filter s.laneLock).map Fin.val)) 4 6 + place (b2n w.fallback) 2 1 + place (b2n w.rootLock) 1 1 + b2n w.refOk
  | 0x08 => place (maskOf ((List.range 4).filter (fun i => decide (1 ≤ w.dets.getD i 0)))) 12 4 + place w.detLevel 4 2 + place w.pwrm 2 2 + w.level
  | 0x10 => w.droopCtl.toNat
  | 0x18 => w.engLtr.toNat
  | 0x20 => w.domainsOn.toNat % 2 ^ 64
  | 0x28 => w.domainsOn.toNat / 2 ^ 64
  | 0x30 => (engineIds.map (fun e => place (w.engine e).state (2 * e) 2)).sum
  | _ => if 0x40 ≤ o && o < 0x70 then
      (Table.get ltrDefault w.ltrPort ((o - 0x40) / 8)).toNat + place (Table.get 0 w.chosen ((o - 0x40) / 8)) 32 3
    else 0

/-- FLT.FIRST_INFO (R519). -/
def reportWord (e : ErrorReport) : Nat :=
  place e.cause.toNat 56 8 + place e.unit.toNat 48 8 + place e.access.toNat 44 4 + place e.pav.toNat 40 4 + place e.channel.toNat 28 12 +
    place e.engine.toNat 20 8 + place e.checker.toNat 10 10 + e.status.toNat

/-- FLT.STATUS (R519). DEDUCED, log entry 32. -/
def State.fltStatus (s : State) : Nat :=
  let f := s.flt
  let cls := (f.capture.map (fun c => c.cls.code)).getD 0
  place (b2n s.retained.oos) 7 1 + place (b2n (cls == 3)) 6 1 + place (b2n f.hang) 5 1 + place (b2n f.multi) 4 1 + place (b2n f.contained) 3 1 +
    place (b2n f.corrected) 2 1 + cls

/-- The resets of the last 600 s (R515). -/
def Retained.recent (r : Retained) : List Nat := r.history.filter (fun t => decide (r.clock ≤ t + usTicks 600000000))

/-- FLT.ESCALATION (R515, R519). -/
def Retained.word (r : Retained) : Nat :=
  place (b2n r.oos) 63 1 + place (min 3 r.recent.length) 56 2 + place ((r.recent.head?.map (fun t => (r.clock - t) / usTicks 1000000)).getD 0) 32 20 +
    (if r.oos then r.nonce.toNat else 0)

/-- The FLT registers (R519). -/
def State.readFlt (s : State) (o : Nat) : Nat :=
  let f := s.flt
  match o with
  | 0x00 => f.ctl.toNat
  | 0x08 => s.fltStatus
  | 0x10 => (f.capture.map (fun c => reportWord c.report)).getD 0
  | 0x18 => (f.capture.map (fun c => c.report.addr.toNat)).getD 0
  | 0x20 => (f.capture.map (fun c => c.tick.toNat)).getD 0
  | 0x28 => f.hangCtl.toNat
  | 0x30 => place f.lastHang.toNat 32 32 + f.killed.toNat / 2 * 2 + b2n f.p0Hang
  | 0x38 => place (b2n f.injArmed) 31 1 + place (b2n f.injDone) 30 1 + place f.injMode.toNat 24 2 + f.injChecker.toNat
  | 0x40 => s.retained.word
  | 0x48 => f.vec.toNat
  | _ => 0

/-- The BELV registers (R549). -/
def State.readBelv (s : State) (o : Nat) : Nat :=
  if o = 0 then place 0x200 16 10 + place 0xFF 8 8 + 8
  else if 0x40 ≤ o && o < 0x80 then
    let b := s.belvSet ((o - 0x40) / 8)
    place b.lastSeq.toNat 32 32 + place b.owner 4 4 + place (b2n b.suspended) 2 1 + place (b2n b.faulted) 1 1 + b2n b.enabled
  else 0

/-- LODGE.ANNEAL.STATE (R548): of the Anneal whose identifier the register shows. -/
def Lodge.annealCode (l : Lodge) : Nat := ((l.anneals.find? (fun a => a.id == l.annealId)).map (fun a => a.state.code)).getD 0

/-- LODGE.ANNEAL (R548). -/
def Lodge.annealWord (l : Lodge) : Nat :=
  place l.annealId.toNat 32 32 + place l.annealHeld.toNat 8 6 + place l.annealPav.toNat 4 4 + place (b2n l.annealLate) 3 1 + l.annealCode

/-- LODGE.TOPO_NODE (R425). -/
def Topo.nodeWord (t : Topo) : Nat :=
  match t.install with
  | none => 0
  | some i =>
    place i.master 48 13 + place i.ez 42 6 + place i.ey 37 5 + place i.ex 32 5 + place t.z 24 5 + place t.y 20 4 + place t.x 16 4 + place t.node 0 13

/-- LODGE.TOPO_STATUS (R425). -/
def Topo.statusWord (t : Topo) : Nat :=
  place (popCount 24576 t.missing) 32 15 + place (popCount 8192 t.ready) 16 14 + place (b2n t.nodeReady) 3 1 + t.state.code

/-- LODGE.TOPO_PORTp (R425). DEDUCED, log entry 107. -/
def State.topoPort (s : State) (p : PortIx) : Nat :=
  let q := s.topo.port p
  let seen := place q.seenPort 45 3 + place q.seenNode 32 13 + place q.farResult 8 3 + place q.ownResult 5 3
  match s.topo.install with
  | none => seen
  | some t => seen + place (neighbour t s.topo.node p.val) 16 13 + place (b2n (s.topo.missing.testBit (linkNumber t s.topo.node p.val))) 1 1 +
      b2n (s.present p)

/-- LODGE.TOPO_DATA (R416, R425). DEDUCED, log entry 30. -/
def State.topoData (s : State) : Nat :=
  let i := bits s.topo.sel 15 0
  if bit s.topo.sel 16 then (if i < 384 then s.topo.missing / 2 ^ (64 * i) % 2 ^ 64 else 0)
  else if i < 8192 && s.topo.routeBuilt then
    let e := s.routeEntry i
    place e.1 0 3 + place (b2n e.2.2) 3 1 + place e.2.1 4 6
  else 0

/-- The LODGE registers (R425, R548). -/
def State.readLodge (s : State) (o : Nat) : Nat :=
  let l := s.lodge
  match o with
  | 0x00 => place (b2n l.running) 1 1 + b2n l.released
  | 0x08 => l.wdog.toNat
  | 0x10 => l.noticeRing.toNat
  | 0x18 => l.noticeCons.toNat
  | 0x20 => l.queueWord
  | 0x28 => l.annealWord
  | 0x8000 => s.topo.nodeWord
  | 0x8008 => s.topo.statusWord
  | 0x8040 => s.topo.sel.toNat
  | 0x8048 => s.topoData
  | _ => if h : 0x8010 ≤ o ∧ o < 0x8040 then s.topoPort ⟨(o - 0x8010) / 8, by omega⟩ else 0

/-- A register of the setup window (R570): an offset that names none reads zero. -/
def State.regRead (s : State) (off : Nat) : Nat :=
  let o := off % 0x10000
  if off % 8 ≠ 0 then 0
  else if isCounter off then (s.counter off).word.toNat
  else match off / 0x10000 with
    | 0 => s.readGlobal o
    | 1 => s.readFront o
    | 2 => s.readWin o
    | 3 => s.readGather o
    | 4 => s.readTime o
    | 5 => s.readPort 0 o
    | 6 => s.readPort 1 o
    | 7 => s.readPort 2 o
    | 8 => s.readPort 3 o
    | 9 => s.readPort 4 o
    | 10 => s.readPort 5 o
    | 11 => s.readGate o
    | 12 => s.readPower o
    | 13 => s.readFlt o
    | 14 => s.readBelv o
    | 15 => s.readLodge o
    | _ => 0

/-- A channel page (R111, R112, R571). -/
def State.pageRead (s : State) (off : Nat) : Nat :=
  let c := s.chan (off / 4096)
  match off % 4096 with
  | 0 => c.completed.toNat
  | 8 => c.statusWord
  | 16 => c.head.toNat
  | _ => 0

/-! ### Fields (R8: reserved bits are ignored) -/

/-- A word with only the bits of a mask. -/
def keepBits (v : Word) (mask : Nat) : Word := v &&& BitVec.ofNat 64 mask

/-- A field of a word clamped to a range. -/
def clampField (v : Word) (hi lo least most : Nat) : Nat := place (clampNat least most (bits v hi lo)) lo (hi + 1 - lo)

/-- SHARE_p, eight fields (R124). -/
def shareWord (v : Word) : Word := BitVec.ofNat 64 (((List.range 8).map (fun i => place (min 75 (bits v (8 * i + 6) (8 * i))) (8 * i) 8)).sum)

/-- MAX_j, four fields (R363). -/
def vcMaxWord (v : Word) : Word := BitVec.ofNat 64 (((List.range 4).map (fun i => clampField v (16 * i + 11) (16 * i) 32 3744)).sum)

/-- FRONT.SWEEP.PERIOD (R122). -/
def sweepWord (v : Word) : Word := BitVec.ofNat 64 (if bits v 19 0 = 0 then 0 else clampNat 10 1000000 (bits v 19 0))

/-- FLT.HANG_CTL.WINDOW_US (R519). -/
def hangWord (v : Word) : Word := BitVec.ofNat 64 (if bits v 16 0 = 0 then 0 else clampNat 10 100000 (bits v 16 0))

/-- The fields of TRAIN_CTL without behaviour of their own (R400). -/
def trainWord (v : Word) : Word := keepBits v 0x1FFF0000FFCF0000 ||| BitVec.ofNat 64 (clampField v 44 32 1 6000)

/-- PORTn.TEST_CTL (R400). -/
def testWord (v : Word) : Word := keepBits v (if bits v 9 8 = 3 then 0x1FFF0030 else 0x1FFF0330)

/-- PWR.LTR_PORT without CHOSEN (R483). -/
def ltrWord (v : Word) : Word :=
  let w := bits v 43 40
  keepBits v 0x3FFFFFFF ||| BitVec.ofNat 64 (place (if w = 1 || w = 2 || w = 4 || w = 6 || w = 8 then w else 6) 40 4)

/-! ### Writes with behaviour of their own -/

/-- WIN.CTL.PWC_FLUSH (R207, R208): a request in progress keeps its translation. DEDUCED, log entry 25. -/
def State.flushPwc (s : State) : State := s.modXfer (fun x => { x with pwc := x.pwc.filter (fun e => !e.users.isEmpty) })

/-- WIN.CTL.PWC_EN (R207, R208). -/
def State.setPwcEn (s : State) (en : Bool) : State :=
  if en = s.xfer.winCtl then s else s.flushPwc.modXfer (fun x => { x with winCtl := en })

/-- GATHER.CTL.SLICE_EN (R276): the bit of a slice that holds a program is cleared once it holds none. -/
def State.setSlices (s : State) (v : Nat) : State :=
  let holds := (List.range 6).filter (fun i => s.gather.resident.any (fun e => e.2.slice == i))
  s.modGather (fun g => { g with want := v % 64, ctl := BitVec.ofNat 64 (v % 64 ||| (g.ctl.toNat &&& maskOf holds)) })

/-- The far-end loopback asked for while a port is in test (R399). DEDUCED, log entry 28. -/
def State.askLoop (s : State) (p : PortIx) : State :=
  let l := (s.port p).lane
  if !l.testing then s
  else
    let m := if bits l.testCtl 5 4 = 3 then bits l.testCtl 28 16 else 0
    if m = 0 && l.loopAsked = 0 then s
    else s.modLane p (fun l => { l with loopAsked := m, train :=
      { (l.train.say tmLoopReq ([BitVec.ofNat 8 (if m = 0 then 0 else 1)] ++ beBytes 2 (if m = 0 then l.loopAsked else m))) with waiting := none } })

/-- The domains of a port that P4 left off asked for (R472), and the outputs of its engine enabled. -/
def State.powerPort (s : State) (p : PortIx) : State :=
  let off := (portDomains p).filter (fun d => !s.power.domOn d)
  if off.isEmpty then s else off.foldl State.requestDomain ((s.txDisable p false).modLane p (fun l => { l with lpsState := 0 }))

/-- TRAIN_CTL.TEST (R373, R399): a port that P4 left off is switched on. DEDUCED, log entry 28. -/
def State.setTest (s : State) (p : PortIx) (on : Bool) : State :=
  let l := (s.port p).lane
  if l.testing = on then s
  else if on then ((((s.enterDown p lcTest).powerPort p).modLane p (fun l => { (l.modAll (fun _ q => { q with check := none })) with
    trainCtl := l.trainCtl ||| 2#64, train := { phase := .tune, tuneStart := s.now } }))).askLoop p
  else
    let s1 := s.modLane p (fun l => { l with trainCtl := l.trainCtl &&& ~~~2#64, farLoop := none, loopAsked := 0, train := {} })
    if l.enabled then s1.startTraining p lcInit else s1

/-- TRAIN_CTL.ENABLE (R373): 1 takes a port that is DOWN and not in test to TRAINING, 0 takes any port DOWN. A port disabled by R411 or R442 stays
disabled (DEDUCED, log entry 26); one disabled while DOWN raises its event (R424). Domains of a port enabled anew that P4 left off are asked for
(R472), but at a droop level of 2 or 3 it stays in P4 (R481). -/
def State.setEnable (s : State) (p : PortIx) (en : Bool) : State :=
  if en && (Table.get ({} : TopoPort) s.topo.ports p.val).disabled then s
  else if en then
    let s1 := s.modLane p (fun l => { l with trainCtl := l.trainCtl ||| 1#64 })
    if (s.port p).pane.link == .down && !(s.port p).lane.testing then
      if 2 ≤ s.power.level && !(portDomains p).all s.power.domOn then s1.modLane p (fun l => { l with lpsState := 4, lpsOwn := 4 })
      else (s1.powerPort p).startTraining p lcInit
    else s1
  else
    let s1 := s.modLane p (fun l => { l with trainCtl := l.trainCtl &&& ~~~1#64 })
    if (s.port p).pane.link != .down then s1.enterDown p 0
    else if (s.port p).lane.enabled then (s1.modLane p (fun l => { l with lpsState := 0 })).linkChanged p false
    else s1

/-- TRAIN_CTL.RETRAIN (R373, R400): a port in service retrains; one that is not does when it next enters service. DEDUCED, log entry 27. -/
def State.askRetrain (s : State) (p : PortIx) : State :=
  if s.serving p then s.retrain p lcSw
  else if (s.port p).pane.link == .retraining then s
  else s.modLane p (fun l => { l with retrainDue := true })

/-- A write of TRAIN_CTL: the plain fields first, then TEST, ENABLE and RETRAIN. ENABLE written 1 as it stands starts a port that is DOWN.
DEDUCED, log entry 26. -/
def State.writeTrain (s : State) (p : PortIx) (v : Word) : State :=
  let s1 := s.modLane p (fun l => { l with trainCtl := trainWord v ||| keepBits l.trainCtl 3 })
  let s2 := (s1.setTest p (bit v 1)).setEnable p (bit v 0)
  if bit v 2 then s2.askRetrain p else s2

/-- LODGE.WDOG.KICK (R522). -/
def State.kickWatchdog (s : State) : State := s.modLodge (fun l => { l with wdogStart := s.now })

/-- A capture of a class released (R493). -/
def Flt.release (f : Flt) (cls : ErrClass) : Flt :=
  { f with capture := match f.capture with
      | some c => if c.cls = cls then none else some c
      | none => none }

/-- FLT.STATUS.CONTAINED written 1 (R493, R495). -/
def State.acknowledge (s : State) : State := s.modFlt (fun f => { (f.release .contained) with contained := false })

/-- FLT.STATUS.CORRECTED or FATAL written 1 (R493). -/
def State.releaseCapture (s : State) (fatal : Bool) : State :=
  s.modFlt (fun f => if fatal then f.release .fatal else { (f.release .corrected) with corrected := false })

/-- A write of FLT.STATUS (R519). -/
def State.writeFltStatus (s : State) (v : Word) : State :=
  let s1 := if bit v 2 then s.releaseCapture false else s
  let s2 := if bit v 3 then s1.acknowledge else s1
  let s3 := if bit v 6 then s2.releaseCapture true else s2
  s3.modFlt (fun f => { f with multi := f.multi && !bit v 4, hang := f.hang && !bit v 5 })

/-- A write of FLT.CTL (R519): FAULT_OUT follows the level once mode 1 is chosen (R494). -/
def State.writeFltCtl (s : State) (v : Word) : State :=
  let w := BitVec.ofNat 64 (clampField v 43 24 1000 1000000 + clampField v 23 4 0 1000000) ||| keepBits v 0xB
  let s1 := s.modFlt (fun f => { f with ctl := w })
  if bit v 1 && !bit s.flt.ctl 1 && s.flt.contained then s1.driveFaultOut else s1

/-- FLT.INJ.ARMED (R499): MODE and CHECKER are taken unless an injection is armed. DEDUCED, log entry 31. -/
def State.armInjection (s : State) (mode : BitVec 2) (checker : BitVec 10) : State :=
  if s.flt.injArmed then s else s.modFlt (fun f => { f with injArmed := true, injMode := if mode = 3 then 0 else mode, injChecker := checker })

/-- A write of FLT.INJ (R519). -/
def State.writeInj (s : State) (v : Word) : State :=
  let s1 := s.modFlt (fun f =>
    if f.injArmed then f
    else { f with injMode := if bits v 25 24 = 3 then 0 else BitVec.ofNat 2 (bits v 25 24), injChecker := BitVec.ofNat 10 (bits v 9 0) })
  s1.modFlt (fun f => { f with injArmed := f.injArmed || bit v 31, injDone := f.injDone && !bit v 30 })

/-- LODGE.NOTICE_CONS (R530). -/
def State.consumeNotices (s : State) (n : BitVec 56) : State := s.modLodge (fun l => { l with noticeCons := n })

/-! ### Writes -/

/-- A write to FRONT (R122 to R124). -/
def State.writeFront (s : State) (o : Nat) (v : Word) : State :=
  let free (f : FrontEnd → FrontEnd) : State := if s.front.admin0En then s else s.modFront f
  match o with
  | 0x00 => s.setAdmin0 (bit v 0)
  | 0x08 => free (fun e => { e with admin0Ring := keepBits v 0xFFFFFFFFFFF000 ||| BitVec.ofNat 64 (clampField v 59 56 4 12) })
  | 0x10 => free (fun e => { e with admin0Cmpl := keepBits v 0xFFFFFFFFFFF000 })
  | 0x18 => free (fun e => { e with admin0Db := keepBits v 0xFFFFFFFFFFFFC0 })
  | 0x20 => s.modFront (fun e => { e with sweep := sweepWord v })
  | 0x28 => s.modFront (fun e => { e with rtShareLo := shareWord v })
  | 0x30 => s.modFront (fun e => { e with rtShareHi := shareWord v })
  | _ => s

/-- A write to WIN (R207). -/
def State.writeWin (s : State) (o : Nat) (v : Word) : State :=
  if o = 8 then (if bit v 1 then s.flushPwc else s).setPwcEn (bit v 0) else s

/-- A write to GATHER (R276, R313). -/
def State.writeGather (s : State) (o : Nat) (v : Word) : State :=
  match o with
  | 0x08 => s.setSlices v.toNat
  | 0x10 => s.modGather (fun g => { g with knotSel := keepBits v 0x1FF0007 })
  | 0x100 => s.modGather (fun g => { g with progSel := keepBits v 0x3F })
  | _ => s

/-- A write to a PORT aperture (R363, R400). -/
def State.writePort (s : State) (p : PortIx) (o : Nat) (v : Word) : State :=
  match o with
  | 0x00 => s.modPane p (fun q => { q with ctl := BitVec.ofNat 64 (clampField v 47 32 2 200 + clampField v 15 0 500 20000) })
  | 0x10 => s.modPane p (fun q => { q with vcMax0 := vcMaxWord v })
  | 0x18 => s.modPane p (fun q => { q with vcMax1 := vcMaxWord v })
  | 0x20 => s.modPane p (fun q => { q with vcMax2 := vcMaxWord v })
  | 0x100 => s.writeTrain p v
  | 0x118 => s.modLane p (fun l => { l with lpsLimit := min 4 (bits v 2 0) })
  | 0x120 => (s.modLane p (fun l => { (l.modAll (fun _ q => { q with check := none })) with testCtl := testWord v })).askLoop p
  | _ => s

/-- A write to GATE (R462). -/
def State.writeGate (s : State) (o : Nat) (v : Word) : State :=
  match o with
  | 0x10 => s.modGate (fun g => { g with rotate := BitVec.ofNat 64 (clampField v 46 32 1 28800 + clampField v 5 0 20 40) })
  | 0x18 => s.modGate (fun g => { g with pavSel := keepBits v 0xF })
  | _ => s

/-- A write to PWR (R483); DET_EN changes what the detectors report (R476). -/
def State.writePower (s : State) (o : Nat) (v : Word) : State :=
  match o with
  | 0x10 => (s.modSources (fun w => { w with droopCtl := keepBits v 0xF0000 ||| BitVec.ofNat 64 (clampField v 13 0 1 10000) })).droopRise
  | 0x18 => s.modPower (fun w => { w with engLtr := keepBits v 0x3FFFFFFF0000FFFF ||| BitVec.ofNat 64 (clampField v 31 16 1 65535) })
  | _ => if 0x40 ≤ o && o < 0x70 then s.modPower (fun w => { w with ltrPort := Table.put ltrDefault w.ltrPort ((o - 0x40) / 8) (ltrWord v) }) else s

/-- A write to FLT (R519). -/
def State.writeFlt (s : State) (o : Nat) (v : Word) : State :=
  match o with
  | 0x00 => s.writeFltCtl v
  | 0x08 => s.writeFltStatus v
  | 0x28 => s.modFlt (fun f => { f with hangCtl := hangWord v })
  | 0x30 => s.modFlt (fun f => { f with killed := f.killed &&& ~~~(BitVec.ofNat 16 (bits v 15 1 * 2)), p0Hang := f.p0Hang && !bit v 0 })
  | 0x38 => s.writeInj v
  | 0x48 => s.modFlt (fun f => { f with vec := keepBits v 0x3F3F3F3F })
  | _ => s

/-- A write to LODGE (R425, R548). -/
def State.writeLodge (s : State) (o : Nat) (v : Word) : State :=
  match o with
  | 0x08 => (if bit v 32 then s.kickWatchdog else s).modLodge (fun l => { l with wdog := BitVec.ofNat 64 (clampField v 13 0 1 10000) })
  | 0x10 => s.modLodge (fun l => { l with noticeRing := keepBits v 0xBFFFFFFFFFFFF000 ||| BitVec.ofNat 64 (clampField v 3 0 4 12) })
  | 0x18 => s.consumeNotices (v.setWidth 56)
  | 0x8040 => s.modTopo (fun t => { t with sel := keepBits v 0x1FFFF })
  | _ => s

/-- A write of 8 bytes to the setup window (R558, R570): reserved offsets and read-only fields ignore it. DEDUCED, log entry 24. -/
def State.regWrite (s : State) (off : Nat) (v : Word) : State :=
  let o := off % 0x10000
  if off % 8 ≠ 0 then s
  else if isCounter off then (if bit v 63 then s.clearCounter off else s)
  else match off / 0x10000 with
    | 0 => if o = 0x18 then s.modGlobal (fun g => { g with ctl := keepBits v 0x1FFFF }) else s
    | 1 => s.writeFront o v
    | 2 => s.writeWin o v
    | 3 => s.writeGather o v
    | 4 => if o = 0x18 then s.modTime (fun t => { t.named (bit v 1) s.topo.node s.now with syncEn := bit v 0 }) else s
    | 5 => s.writePort 0 o v
    | 6 => s.writePort 1 o v
    | 7 => s.writePort 2 o v
    | 8 => s.writePort 3 o v
    | 9 => s.writePort 4 o v
    | 10 => s.writePort 5 o v
    | 11 => s.writeGate o v
    | 12 => s.writePower o v
    | 13 => s.writeFlt o v
    | 15 => s.writeLodge o v
    | _ => s

/-! ### Accesses through REGWIN (R558, R559) -/

/-- An answer on REGWIN. -/
def State.regAnswer (s : State) (v : Nat) : State := s.modPins (fun p => { p with regAnswers := p.regAnswers ++ [BitVec.ofNat 64 v] })

/-- An access of a size and alignment that the target accepts: 8 bytes, or a read of 4. -/
def regFits (a : RegAccess) : Bool :=
  (a.size == 8 && a.offset.toNat % 8 == 0) || (a.size == 4 && a.write.isNone && a.offset.toNat % 4 == 0)

/-- What an access reads: the half addressed of a read of 4 bytes. -/
def State.regValue (s : State) (a : RegAccess) : Nat :=
  let base := a.offset.toNat / 8 * 8
  let w := if a.channelPage then s.pageRead base else s.regRead (base % 0x100000)
  if a.size = 8 then w else if a.offset.toNat % 8 = 4 then w / 2 ^ 32 else w % 2 ^ 32

/-- An access performed and answered; a refused one returns zero and is counted. DEDUCED, log entry 23. -/
def State.regAccess (s : State) (a : RegAccess) : State :=
  if !regFits a then (s.bump ctrRegwinErr).regAnswer 0
  else match a.write with
    | none => s.regAnswer (s.regValue a)
    | some v => (if a.channelPage then s else s.regWrite (a.offset.toNat % 0x100000) v).regAnswer 0

end Sys2Proof.Machine
end

