-- ==== Sys2Proof/Machine/Tick.lean ====
section
/-!
DEFINITION. The passing of time: one tick of pod time (R10, R301), which is what the block does while no command waits (DESIGN CHOICE, log
entry 1).
-/
namespace Sys2Proof.Machine

/-- How far the count moves in one tick (R306): not at all while it is held, else by one, and by one more or less when the rate
correction, in parts per 10⁹, has gathered a whole tick. -/
def PodTime.advance (t : PodTime) : PodTime :=
  if 0 < t.hold then { t with hold := t.hold - 1 }
  else
    let ph := t.phase + t.ratePpb.toInt
    if 1000000000 ≤ ph then { t with now := t.now + 2, phase := ph - 1000000000 }
    else if ph ≤ -1000000000 then { t with phase := ph + 1000000000 }
    else { t with now := t.now + 1, phase := ph }

/-- Freeze (R546): the block clocks stop, the domains within 256 ticks of one another; 96 stands for the always-on domain.
DESIGN CHOICE, log entry 129. -/
def State.freeze (s : State) : State :=
  { s.modPower (fun w => { w with
      frozen := true, freezeAt := none,
      stopTimes := (List.range 97).map (fun d => (d, s.podTime + Config.free .stopTime (s.freeCount + d) % 257)) }) with freeCount := s.freeCount + 97 }

/-- A Freeze whose time has come. -/
def State.freezeDue (s : State) : State :=
  match s.power.freezeAt with
  | some t => if t ≤ s.podTime && !s.power.frozen then s.freeze else s
  | none => s

/-- One tick: the timer of retained state (R515) advances on the slow clock; pod time with it while the always-on domain is clocked (R466,
R546), and the idle counts of the engines (R470) while every block clock runs. -/
def State.tick (s : State) : State :=
  if s.power.clocksLost then { s with retained := { s.retained with clock := s.retained.clock + 1 } }
  else if s.power.frozen then { s with time := s.time.advance, retained := { s.retained with clock := s.retained.clock + 1 } }
  else { s with time := s.time.advance, retained := { s.retained with clock := s.retained.clock + 1 } }.noteEngines.freezeDue

end Sys2Proof.Machine
end

