-- ==== Sys2Proof/Machine/Resets.lean ====
section
/-!
DEFINITION. Block resets (R66, R67, R505 to R511, R515, R516, R565, R573), the loss of the reference (R466) and Freeze (R546).
-/
namespace Sys2Proof.Machine

/-! ### The warm block reset (R507 to R509) -/

/-- The NODE_RESET record of a channel (R67): for the buffer in progress of an ACTIVE channel with completion records enabled, or of one an
Anneal PAUSED, whose held operations count as in progress (R76). DEDUCED, log entry 46. -/
def State.nodeResetRecord (s : State) (i : Nat) : List FabRequest :=
  let c := s.chan i
  match c.begunBufs.head? with
  | some b => match b.hdr with
    | some h =>
      if (c.state == .active || c.state == .paused) && h.recordEn && !b.faulty then
        [{ op := .write, addr := h.recordAddr, len := 32, pav := c.pav,
           data := mkRecord h (c.completed + 1) stNodeReset b.firstOpen c.gen.toNat b.flags s.podTime, use := .nodeReset i }]
      else []
    | none => []
  | none => []

/-- A channel table after a block reset: every index FREE and zero but for its generation, which advances (R80, R112). -/
def resetChans (t : Table Channel) : Table Channel :=
  ((List.range 4096).map (fun i => (i, ({ gen := (Table.get ({} : Channel) t i).gen + 1 } : Channel)))).filter (fun p => decide (p.2 ≠ {}))

/-- The receive pool and the queues of a port as a block reset leaves them (R66): units for this node's engines are lost, transit and
MGMT messages wait on. -/
def Pane.dropOwn (q : Pane) (own : Nat) : Pane :=
  let lost := q.rxMsgs.filter (fun m => decide (2 ≤ m.1) && hdrDest m.2.msg.hdr == own)
  { (q.leaves (lost.flatMap (fun m => m.2.slots))) with
    rxMsgs := q.rxMsgs.filter (fun m => !(decide (2 ≤ m.1) && hdrDest m.2.msg.hdr == own)),
    txq := q.txq.filter (fun m => decide (m.vc < 2) || m.inbound != 0), fences := [], retired := 0 }

/-- The indices above 0 for which a port holds a key. -/
def PortKeys.held (k : PortKeys) : List Nat := (List.range 16).filter (fun i => i != 0 && decide (k.index i ≠ {}))

/-- The Pavilion keys of a port zeroised and named for KEY_LOST (R458). -/
def PortKeys.lose (k : PortKeys) : PortKeys :=
  { (k.held.foldl PortKeys.zero k) with lostDue := k.lostDue ||| maskOf k.held }

/-- A port at a warm block reset (R508): its pane state begins anew, and one in service sends RESUME. -/
def State.warmPort (s : State) (p : PortIx) : State :=
  let s0 := ((s.modPane p (fun q => q.dropOwn s.topo.node)).paneReset p).modPort p (fun q =>
    { q with keys := q.keys.lose, time := { q.time with active := none, waiting := none, opened := [] } })
  let s1 := s0.dropKeyless p ((s.port p).keys.held)
  if s.serving p then
    s1.modPane p (fun q => { q with resuming := true, resetDone := true, heardResume := false, lastResume := s.now, ctrlDue := q.ctrlDue ++ [ctrlResume] })
  else s1.modPane p (fun q => { q with blockReset := true })

/-- The counters a warm block reset keeps (R363, R400, R462, R483, R519, R548, R573): all but those in the GATHER aperture. -/
def keptWarm (off : Nat) : Bool := !(decide (0x30000 ≤ off) && decide (off < 0x40000))

/-- The stores that a warm block reset zeroes (R467, R509): the window table, the page-walk cache, the tag store, the channel table, the scoreboards,
the measurement staging and the operand buffers. -/
def zeroedWarm (c : Nat) : Bool := (decide (0x31 ≤ c) && decide (c ≤ 0x36)) || (decide (0x40 ≤ c) && decide (c < 0x58))

/-- Everything outside the ports that a warm block reset returns to its reset value (R507). DEDUCED, log entry 138. -/
def State.warmCore (s : State) : State :=
  { s with
    counters := s.counters.filter (fun c => keptWarm c.1)
    global := { s.global with ctl := 0, selftestDone := false }
    watch := { s.watch with armed := [], refused := [], sent := s.watch.sent ++ s.watch.armed.map WatchCmd.disarm }
    front := { chans := resetChans s.front.chans }
    xfer := {}
    gather := { progTag := s.gather.progTag }
    time := { s.time with isMaster := false, syncEn := false }
    gate := { s.gate with tenant := none, pavSel := 0, teardownId := 0, records := [], spdm := [], spdmNegotiated := false, killing := [], drained := [] }
    flt := { s.flt with fatal := none, quiet := [], p0Reported := false, hanging := [], resetDue := none,
                        flaws := s.flt.flaws.filter (fun f => !zeroedWarm f.1) }
    lodge := { released := s.lodge.released, trusted := s.lodge.trusted, releasedAt := s.lodge.releasedAt,
               rot := s.lodge.rot.map (fun w => { w with cmd := none, slot := none }) }
    belv := {}
    retained := { s.retained with srcGen := s.retained.srcGen + 1 } }

/-- A warm block reset begins (R509 steps 1 to 4): the NODE_RESET records go out, everything else of the engines is lost. -/
def State.beginWarm (s : State) (source : Nat) (recorded : Bool) : State :=
  let cause := match s.flt.fatal with
    | some f => f.cause
    | none => 0
  let records := s.chanList.flatMap (fun i => s.nodeResetRecord i)
  let s1 := (((s.forget (fun _ => true)).modFab (fun f => { f with contents := [] })).issueAll records).warmCore
  let s2 := allPorts.foldl State.warmPort s1
  { s2 with
    resetRun := some { scope := .warm, source := source, fatalCause := cause, recorded := recorded, began := s.now }
    pins := { s2.pins with rstReq := if s2.pins.rstReq = .warm then .none else s2.pins.rstReq } }

/-- WARM_RESET_INPUT (R565): ignored during a block reset, but that a self-reset begun in the same slow cycle, of four ticks, is recorded with the
warm input as its source; a stopped block clock leaves only the cold reset (R466, R546). DEDUCED, log entry 130. -/
def execWarmResetInput (s : State) : Out :=
  match s.resetRun with
  | none => actAll s.clocked s (s.beginWarm 2 true)
  | some r => actAll (r.source == 3 && r.began / 4 == s.now / 4) s { s with resetRun := some { r with source := 2 } }

/-! ### The cold block reset (R510, R511) -/

/-- A port after a cold block reset: PL_ID and the extended sequence counters are retained (R322, R356, R511). -/
def Port.cold (q : Port) : Port :=
  { pane := { plId := nextPlId q.pane.plId, txNext := q.pane.txNext, ackNext := q.pane.txNext, rxNext := q.pane.rxNext } }

/-- The fault controller after a cold block reset: only a capture of class fatal is retained (R511). -/
def Flt.cold (f : Flt) : Flt :=
  { capture := match f.capture with
      | some c => if c.cls = .fatal then some c else none
      | none => none }

/-- A channel table after a cold block reset holds nothing: generations are zero (R80). COLD_RESET_INPUT: the state at power-up, or all of it
but what R511 retains. The REGWIN accesses held are answered at completion (R559). -/
def State.beginCold (s : State) : State :=
  let cause := match s.flt.fatal with
    | some f => f.cause
    | none => 0
  { pending := s.pending, freeCount := s.freeCount
    pins := { msi := s.pins.msi, rotTx := s.pins.rotTx, domReq := s.pins.domReq, regAnswers := s.pins.regAnswers, regHeld := s.pins.regHeld,
              fatalOut := s.pins.fatalOut, rotDbg := s.pins.rotDbg, tapIr := s.pins.tapIr, preload := s.pins.preload, tdo := s.pins.tdo }
    fab := { out := s.fab.out.map (fun a => { a with use := .gone }), sent := s.fab.sent }
    watch := { sent := s.watch.sent ++ s.watch.armed.map WatchCmd.disarm }
    counters := s.counters.filter (fun c => c.1 == ctrFatal || c.1 == ctrBlockReset)
    ports := s.ports.map Port.cold
    flt := s.flt.cold
    retained := { s.retained with srcGen := s.retained.srcGen + 1 }
    resetRun := some { scope := .cold, source := 1, fatalCause := cause, recorded := true } }

/-- COLD_RESET_INPUT (R510, R565): it also abandons a warm reset that is running. Supply removed loses the retained state too (R511). -/
def execColdResetInput (powerUp : Bool) (s : State) : Out :=
  actAll true s (if powerUp then { State.reset with pending := s.pending, freeCount := s.freeCount } else s.beginCold)

/-! ### Completion (R509, R515, R516, R573) -/

/-- GLOBAL.RESET_CAUSE (R572). -/
def ResetRun.word (r : ResetRun) (tick : Word) (recent : Nat) : Word :=
  BitVec.ofNat 64 (place tick.toNat 32 32 + place r.fatalCause.toNat 24 8 + place r.scope.code 16 2 + place r.source 8 4 + min 3 recent)

/-- OUT_OF_SERVICE entered (R515, R516). -/
def State.enterOos (s : State) : State :=
  let s1 := { s.drawn with retained := { s.retained with oos := true, nonce := BitVec.ofNat 32 (s.freeVal .oosNonce) } }
  let s2 := ((s1.modTopo (fun t => { t with nodeReady := false })).notice 0x08 []).applyNodeEvent s.topo.node 0 s.time.now
  allPorts.foldl (fun a p => if a.serving p then a.ctrl p (ctrlOos a.topo.node) else a) s2

/-- The reset recorded in the history and the count of resets. -/
def State.recordReset (s : State) (r : ResetRun) : State :=
  if r.recorded then
    let s1 := s.bump ctrBlockReset
    { s1 with retained := { s1.retained with history := s1.retained.recent ++ [s1.retained.clock] } }
  else s

/-- Supply and clocks after a cold reset (R463, R468): the reference and the root PLL locked, every domain on. DEDUCED, log entry 126. -/
def Power.started (w : Power) : Power := { w with rootLock := true, refOk := true, domainsOn := BitVec.allOnes 96 }

/-- The Lodge restarts with its verified tables after a warm reset (R509, R576). -/
def State.restartLodge (s : State) : State :=
  let s1 := s.modLodge (fun l => { l with running := l.released && l.trusted, wdogStart := s.now })
  if s1.lodge.running then s1.modTime (fun t => { t with isMaster := s.topo.install.any (fun i => decide (i.master = s.topo.node)) }) else s1

/-- The completion of a block reset; REGWIN accesses held are performed and answered (R559). -/
def State.completeReset (s : State) (r : ResetRun) : State :=
  let s1 := ({ s with resetRun := none } : State).recordReset r
  let n := s1.retained.recent.length
  let s2 := (s1.modGlobal (fun g => { g with resetCause := r.word s1.time.now n, selftestDone := true })).modPins (fun p => { p with fatalOut := false })
  let s3 := if r.scope = .warm then
      let s4 := s2.restartLodge.notice 0x04 []
      if r.source = 5 then s4.applyNodeEvent s4.topo.node 1 s4.time.now else s4
    else s2.modPower Power.started
  let s4 := if 3 ≤ n && !s3.retained.oos then s3.enterOos else s3
  s4.pins.regHeld.foldl State.regAccess (s4.modPins (fun p => { p with regHeld := [] }))

/-- BLOCK_RESET_COMPLETE (R573); a reset whose self-test failed waits for the carrier's cold reset (R509). -/
def execBlockResetComplete (s : State) : Out :=
  match s.resetRun with
  | none => act false s s
  | some r => actAll (!s.power.clocksLost && !s.power.frozen && s.flt.fatal.isNone) s (s.completeReset r)

/-! ### Loss of the reference (R466) -/

/-- REFCLK_LOSS (R466): every block clock but the slow one stops, and CLOCK_LOSS is raised. -/
def execRefclkLoss (s : State) : Out :=
  act (!s.power.clocksLost) s ((s.modPower (fun w => { w with clocksLost := true, fallback := true, rootLock := false, refOk := false })).raiseFatal true
    (mkReport 0x33 (unit := 0x10)))

end Sys2Proof.Machine
end

