-- ==== Sys2Proof/Machine/Faults.lean ====
section
/-!
DEFINITION. The fault controller's events: errors, the acknowledge window, the hold of a fatal error, FAULT_OUT, hangs, injection and scrubbing, and
the reset functions of MGMT (R484 to R506, R515 to R517, R522).
-/
namespace Sys2Proof.Machine

/-! ### Errors (R490, R491, R496) -/

/-- The class of a cause (R491); none for a reserved code. -/
def causeClass (c : Nat) : Option ErrClass :=
  if 1 ≤ c && c ≤ 3 then some .corrected
  else if (0x10 ≤ c && c ≤ 0x1E) || c = 0x20 || c = 0x21 then some .contained
  else if 0x30 ≤ c && c ≤ 0x35 then some .fatal
  else none

/-- CORRECTED_ERROR (R490). DEDUCED, log entry 134. -/
def execCorrectedError (e : ErrorReport) (s : State) : Out :=
  act (s.linkLive && causeClass e.cause.toNat == some .corrected) s (s.raiseCorrected e)

/-- A codeword contained (R487): its transaction exists, so that nothing fatal follows. -/
def State.containable (s : State) (e : ErrorReport) : Bool :=
  s.live && checkerExists e.checker.toNat && (s.uncorrectable e.checker.toNat e.addr.toNat).flt.fatal.isNone

/-- CONTAINED_ERROR (R490); an uncorrectable codeword also fails what R487 names. -/
def execContainedError (e : ErrorReport) (s : State) : Out :=
  if e.cause = 0x10 then act (s.containable e) s (s.uncorrectable e.checker.toNat e.addr.toNat)
  else act (s.linkLive && causeClass e.cause.toNat == some .contained) s (s.raiseContained e)

/-- FATAL_ERROR (R496): CLOCK_LOSS, RETAINED_UE and SELF_TEST are of cold scope. -/
def execFatalError (e : ErrorReport) (s : State) : Out :=
  act (!s.power.clocksLost && !s.power.frozen && causeClass e.cause.toNat == some .fatal) s (s.raiseFatal (decide (0x33 ≤ e.cause.toNat)) e)

/-- ACK_TIMEOUT (R495). DEDUCED, log entry 136. -/
def execAckTimeout (s : State) : Out :=
  act (s.linkLive && s.flt.contained && !s.flt.ackExpired && s.usPassed s.flt.ackStart (bits s.flt.ctl 43 24)) s
    ((s.modFlt (fun f => { f with ackExpired := true })).raiseFatal false (mkReport 0x31 (unit := 0x0F)))

/-- FATAL_HOLD_EXPIRY (R497). -/
def execFatalHoldExpiry (s : State) : Out :=
  actAll (s.clocked && bit s.flt.ctl 3 && s.flt.fatal.any (fun f => !f.cold && s.usPassed f.since (bits s.flt.ctl 23 4))) s (s.beginWarm 3 true)

/-- FAULT_PULSE_END (R494): the pulse of mode 0 ends after 1 µs; the level of mode 1 falls with CONTAINED, after 1 µs at the least. -/
def execFaultPulseEnd (s : State) : Out :=
  act (s.linkLive && s.pins.faultOut && s.flt.pulseStart.all (fun t => s.usPassed t 1) && (!bit s.flt.ctl 1 || !s.flt.contained)) s
    ((s.modPins (fun p => { p with faultOut := false })).modFlt (fun f => { f with pulseStart := none, pulseEnd := some s.now }))

/-- LODGE_WATCHDOG (R522). -/
def execLodgeWatchdog (s : State) : Out :=
  act (s.live && s.lodge.running && s.usPassed s.lodge.wdogStart (1000 * bits s.lodge.wdog 13 0)) s (s.raiseFatal false (mkReport 0x32 (unit := 0x0D)))

/-! ### Hangs (R501 to R504) -/

/-- The Pavilion killed (R502). DEDUCED, log entry 131. -/
def State.hangKill (s : State) (pav : Nat) : State := (s.modFlt (fun f => { f with hanging := f.hanging ++ [pav] })).killPav pav stHangKilled

/-- The kill is over: channels FREE, programs unloaded, windows released. -/
def State.hangKilled (s : State) (pav : Nat) : Bool := decide (pav ∈ s.flt.hanging) && s.killOver pav

/-- The kill reported (R502). -/
def State.reportHang (s : State) (pav : Nat) : State :=
  ((((s.modFlt (fun f =>
    { f with hanging := f.hanging.filter (fun p => p != pav), killed := f.killed ||| (1#16 <<< pav), hang := true,
             lastHang := s.time.now.setWidth 32 })).bump ctrHang).raiseContained (mkReport 0x20 (unit := 0x0F) (pav := pav)))).msi (bits s.flt.vec 29 24)

/-- HANG_DECLARED (R502): the Pavilion is killed, and the kill is reported once it is over. -/
def execHangDeclared (pav : Nat) (s : State) : Out :=
  if s.hangKilled pav then act s.live s (s.reportHang pav)
  else act (s.live && 1 ≤ pav && pav ≤ 15 && decide (pav ∉ s.flt.hanging) && s.hung pav) s (s.hangKill pav)

/-- PAV0_HANG (R503): reported once for each unbroken quiet period. -/
def execPav0Hang (s : State) : Out :=
  act (s.live && !s.flt.p0Reported && s.hung 0) s
    ((s.modFlt (fun f => { f with p0Hang := true, p0Reported := true })).raiseContained (mkReport 0x21 (unit := 0x0F)))

/-! ### Injection and scrubbing (R486, R499) -/

/-- An injected codeword handled, as the checker resolves it (R485): uncorrectable, or corrected. DESIGN CHOICE, log entry 133. -/
def State.flawSeen (s : State) (c mode entry : Nat) : State :=
  match icFlaw mode with
  | none => s.uncorrectable c entry
  | some _ => s.raiseCorrected (checkerReport 0x01 c entry)

/-- FAULT_INJECTION_TAKES_PLACE (R499): a bus beat is seen at once, a stored codeword when it is read. Injections at the checks of a
transmitted pane take place when the pane is sent (PANE_TRANSMIT). -/
def execFaultInjectionTakesPlace (s : State) : Out :=
  let c := s.flt.injChecker.toNat
  let m := s.flt.injMode.toNat
  let s1 := s.injectionDone.drawn
  let e := s.freeVal .codeword
  act (s.live && s.flt.injArmed && checkerExists c && !checkerTransmit c) s
    (if checkerSram c then s1.modFlt (fun f => { f with flaws := f.flaws ++ [(c, m, e)] }) else s1.flawSeen c m e)

/-- The scrubber has read every entry: the flawed ones are seen. -/
def State.scrubFlaws (s : State) : State :=
  s.flt.flaws.foldl (fun t f => t.flawSeen f.1 f.2.1 f.2.2) (s.modFlt (fun f => { f with flaws := [] }))

/-- What the scrubber found besides (R486, R487). -/
def State.scrubbed (s : State) (o : ScrubOutcome) : State :=
  match o with
  | .clean => s
  | .corrected c e => if checkerSram c.toNat then s.raiseCorrected (checkerReport 0x01 c.toNat e) else s
  | .uncorrectable c e => if checkerSram c.toNat then s.uncorrectable c.toNat e else s

/-- SCRUB (R486). DEDUCED, log entry 135. -/
def execScrub (outcome : ScrubOutcome) (s : State) : Out := act s.live s (s.scrubFlaws.scrubbed outcome)

/-! ### Reset functions of MGMT (R506, R515 to R517) -/

/-- The completion of a command has been written and answered. -/
def State.cmdOver (s : State) (r : AdminRef) : Bool := (s.cmd r).isNone && !s.hasAnyUse (fun u => u == .adminCompletion r.pav)

/-- The warm reset a command asked for is due. DEDUCED, log entry 137. -/
def State.resetAsked (s : State) (r : AdminRef) (source : Nat) : Bool := s.clocked && s.flt.resetDue == some (r, source) && s.cmdOver r

/-- BLOCK_RESET performed (R506). -/
def State.blockReset (s : State) (r : AdminRef) : State :=
  let c := s.cmdD r
  if bits (c.arg 2) 63 1 != 0 || !c.zeroArgs [3, 4, 5, 6, 7] then s.finish r asBadCommand
  else if bit (c.arg 2) 0 then (s.finish r asOk).modPins (fun p => { p with rstReq := .cold })
  else (s.finish r asOk).modFlt (fun f => { f with resetDue := some (r, 4) })

/-- BLOCK_RESET (R506): completed OK, and the warm reset begins once the completion is written. -/
def execBlockReset (r : AdminRef) (s : State) : Out :=
  if s.resetAsked r 4 then actAll true s (s.beginWarm 4 true)
  else act (s.mgmtIs r 0x0502 && s.lodgeTurn r) s (s.blockReset r)

/-- The authorisation record names this node and this entry into OUT_OF_SERVICE, and is signed (R517). DEDUCED, log entry 125. -/
def State.authorised (s : State) (l : List Byte) : Bool :=
  l.length == 112 && leAt l 0 8 == s.global.serial.toNat && leAt l 8 4 == s.retained.nonce.toNat && signedBy s.ident.podKey l

/-- SERVICE_RESTORE performed (R517). DEDUCED, log entry 40. -/
def State.serviceRestore (s : State) (r : AdminRef) : State :=
  let c := s.cmdD r
  if bits (c.arg 2) 63 56 != 0 || !c.zeroArgs [3, 4, 5, 6, 7] then s.finish r asBadCommand
  else if !s.retained.oos then s.finish r asBadState
  else s.readThen (.admin r) (bits (c.arg 2) 55 0) 112 0 (fun auth s => match auth with
    | .data l =>
      if leAt l 12 4 != 0 then s.finish r asBadCommand
      else if s.authorised l then
        ({ s with retained := { s.retained with oos := false, nonce := 0, history := [] } } : State).finish r asOk |>.modFlt
          (fun f => { f with resetDue := some (r, 5) })
      else s.finish r asDenied
    | _ => s.finish r asDenied)

/-- SERVICE_RESTORE (R516, R517): the warm reset that follows is not recorded. -/
def execServiceRestore (r : AdminRef) (s : State) : Out :=
  if s.resetAsked r 5 then actAll true s (s.beginWarm 5 false)
  else actAll (s.mgmtIs r 0x0503 && s.lodgeTurn r && !s.readingContent (.admin r)) s (s.serviceRestore r)

end Sys2Proof.Machine
end

