-- ==== Sys2Proof/Machine/LanePower.lean ====
section
/-!
DEFINITION. Lane power states and optical engines (10, 13).
-/
namespace Sys2Proof.Machine

/-- An LPS_REQ taken (R393): the state both accept, and the larger P2 width, in the LPS_ACK. -/
def State.takeLpsReq (s : State) (p : PortIx) (b : List Byte) : State :=
  let far := (b.getD 1 0).toNat
  let l := (s.port p).lane
  let w := max (s.p2Width p) (b.getD 2 0).toNat
  let st := min l.lpsOwn far
  let s1 := s.modLane p (fun l => { l with lpsFar := far, lpsFarWidth := (b.getD 2 0).toNat, lpsOwnWidth := s.p2Width p })
  let s2 := if st < l.lpsState then s1.lpsWake p else s1
  s2.ctrl p (ctrlLps 0x14 st w)

/-- LPS_REQ (R393). -/
def execLpsReq (p : PortIx) (s : State) : Out := act (s.linkLive && s.ctrlHead p 0x13) s (s.takeCtrl p (fun b t => t.takeLpsReq p b))

/-- LPS_ACK (R393): the state taken is entered. -/
def execLpsAck (p : PortIx) (s : State) : Out :=
  act (s.linkLive && s.ctrlHead p 0x14) s (s.takeCtrl p (fun b t =>
    (t.modLane p (fun l => { l with lpsSent := false })).lpsEnter p (b.getD 1 0).toNat (b.getD 2 0).toNat true))

/-- LPS_EXIT (R394): the link is in P0. -/
def execLpsExit (p : PortIx) (s : State) : Out :=
  act (s.linkLive && s.ctrlHead p 0x15) s (s.takeCtrl p (fun _ t => t.lpsLeave p false))

/-- LPS_CHOOSE (R474): the state chosen is stated when it differs from the last statement; a shallower one wakes the port. -/
def execLpsChoose (p : PortIx) (s : State) : Out :=
  let c := s.lpsChoice p
  let l := (s.port p).lane
  act (s.linkLive && (s.serving p || l.lpsState == 4) && c != l.lpsOwn) s
    (let s1 := if c < l.lpsState || l.lpsState = 1 || l.lpsState = 3 then s.lpsWake p else s
     let s2 := s1.modPower (fun w => { w with chosen := Table.put 0 w.chosen p.val c })
     if s2.serving p then
       (s2.ctrl p (ctrlLps 0x13 c (s.p2Width p))).modLane p (fun l => { l with lpsOwn := c, lpsOwnWidth := s.p2Width p, lpsSent := true })
     else s2)

/-- A pane to send (R394). -/
def State.hasPane (s : State) (p : PortIx) : Bool :=
  let q := (s.port p).pane
  !q.idle || !q.ctrlDue.isEmpty || q.ackDue || !q.nakDue.isEmpty

/-- A TIME pane that waits for a port in P1 (R394). -/
def State.timeWaits (s : State) (p : PortIx) : Bool :=
  let q := s.port p
  s.time.syncEn && q.keys.hasSession && (match q.time.lastSent with
    | none => true
    | some t => s.usPassed t 10)

/-- LPS_WAKE (R394): a pane to send, or for P1 a TIME pane. -/
def execLpsWake (p : PortIx) (s : State) : Out :=
  let l := (s.port p).lane
  act (s.linkLive && l.lpsState != 0 && (s.hasPane p || (l.lpsState == 1 && s.timeWaits p))) s (s.lpsWake p)

/-- P3_SIGNAL_RETURN (R394). -/
def execP3SignalReturn (p : PortIx) (s : State) : Out :=
  act (s.linkLive && (s.port p).lane.lpsState == 3) s (s.lpsLeave p false)

/-! ### Optical engines (R396 to R398) -/

/-- A monitor outside the limits of the board table (R398, R407). -/
def BoardPort.outside (b : BoardPort) (m : Nat × Nat × Nat × Nat) : Bool :=
  decide (m.2.1 < b.txMin) || decide (b.txMax < m.2.1) || decide (b.biasMax < m.2.2.1) || decide (m.2.2.2 < b.rxMin)

/-- Some monitor outside its limits. -/
def State.monitorsBad (s : State) (p : PortIx) (l : List (Nat × Nat × Nat × Nat)) : Bool :=
  match s.topo.board with
  | none => false
  | some b => match b.ports[p.val]? with
    | none => false
    | some q => l.any q.outside

/-- Lane faults of the engine (R398): one on an active lane retrains the link, and the lanes named are not usable. -/
def State.laneFaults (s : State) (p : PortIx) (faulty : List Nat) : State :=
  let active := s.serving p && faulty.any (fun k => (s.port p).lane.active.testBit k)
  let s1 := if active then s.retrain p lcLaneFail else s
  s1.modLane p (fun l => l.modAll (fun k q => if k ∈ faulty then { q with markers := 0, lastCount := none, usable := false, fail := 4 } else q))

/-- A transaction on the bus of an engine. -/
def State.i3c (s : State) (p : PortIx) (l : List I3cOp) : State := s.modLane p (fun q => { q with i3c := q.i3c ++ l })

/-- The static address of an engine (R396, R407). -/
def State.staticAddr (s : State) (p : PortIx) : Nat := ((s.topo.board.bind (fun b => b.ports[p.val]?)).map BoardPort.i3cSa).getD 0

/-- An engine without a dynamic address is given one by SETDASA, which the Lodge firmware chooses, and once it has one its identity is read (R396,
R397). -/
def State.assignAddr (s : State) (p : PortIx) (answered : Bool) : State :=
  if (s.port p).lane.dynAddr.isSome then s
  else
    let a := s.freeVal .dynAddr % 128
    let s1 := s.drawn.i3c p [.setdasa (s.staticAddr p) a]
    if answered then (s1.modLane p (fun l => { l with dynAddr := some a })).i3c p [.read .identity] else s1

/-- One reading of the engine (R398): module state, lane status and monitors of both banks; three failures in a row mark it MGMT_LOST. DEDUCED, log
entry 106. -/
def State.readOptics (s : State) (p : PortIx) (r : OpticsReading) : State :=
  let s0 := ((s.assignAddr p (r != .failed)).i3c p [.read .lower, .read (.status 0), .read (.status 1)]).modLane p (fun l => { l with lastPoll := s.now })
  match r with
  | .failed =>
    let n := (s.port p).lane.i3cFails + 1
    s0.modLane p (fun l => { l with i3cFails := if n < 3 then n else 0, mgmtLost := l.mgmtLost || decide (3 ≤ n) })
  | .status st faulty mons =>
    let s1 := s0.modLane p (fun l => { l with present := true, moduleState := st, i3cFails := 0 })
    let s2 := s1.laneFaults p (laneIds.filter (fun k => k ∈ faulty))
    if s.monitorsBad p mons then s2.notice 0x05 (leBytes 2 0x3FF ++ [0, 0] ++ leBytes 4 0) else s2

/-- The Lodge firmware reads the engine of a port. -/
def State.readsOptics (s : State) (p : PortIx) : Bool := s.linkLive && s.lodge.running && s.topo.board.isSome && !(s.port p).lane.mgmtLost

/-- OPTICS_POLL (R398). -/
def execOpticsPoll (p : PortIx) (reading : OpticsReading) (s : State) : Out :=
  act (s.readsOptics p && s.usPassed (s.port p).lane.lastPoll 10000) s (s.readOptics p reading)

/-- OPTICS_IBI (R398). -/
def execOpticsIbi (p : PortIx) (reading : OpticsReading) (s : State) : Out := act (s.readsOptics p) s (s.readOptics p reading)

/-- OPTICS_MGMT_RETRY (R398). -/
def execOpticsMgmtRetry (p : PortIx) (answered : Bool) (s : State) : Out :=
  act (s.linkLive && s.lodge.running && (s.port p).lane.mgmtLost && s.usPassed (s.port p).lane.lastPoll 1000000) s
    (((s.assignAddr p answered).i3c p [.read .lower]).modLane p (fun l => { l with lastPoll := s.now, mgmtLost := !answered, i3cFails := 0 }))

end Sys2Proof.Machine
end

