-- ==== Sys2Proof/Machine/PodTime.lean ====
section
/-!
DEFINITION. Pod time and Timetables (R301 to R312): TIME panes, synchronisation, TT_LOAD and the windows of a port.
-/
namespace Sys2Proof.Machine

/-! ### TIME panes (R303, R304) -/

/-- A time stamp of nine bytes: ticks and 1/256 ticks. -/
def stampBytes (x : Nat) : List Byte := beBytes 9 x

/-- The body of a TIME pane, bytes 0 to 36 (R303). -/
def State.timeText (s : State) (p : PortIx) : List Byte :=
  let t := (s.port p).time
  [0x01, BitVec.ofNat 8 s.time.state.code] ++ beBytes 2 s.time.master ++
    [BitVec.ofNat 8 (if s.time.state = .unsynced then 0xFF else s.time.depth), 0] ++ beBytes 2 t.seq.toNat ++ stampBytes (256 * s.podTime) ++
    beBytes 2 t.farSeq ++ stampBytes t.farTx ++ stampBytes t.arrival

/-- A TIME pane sent. -/
def State.sendTime (s : State) (p : PortIx) : State :=
  let q := s.port p
  let h := mkPaneHdr ptTime 0 0 0 0 0 0 0
  let body := match q.keys.tx 0 with
    | some k => k.ctlBody q.keys.seg.toNat q.keys.slot h (s.timeText p)
    | none => padTo 240 (s.timeText p)
  ((s.modKeys p (fun k => k.modIndex 0 KeyIndex.used)).emit p h body).modPTime p (fun t =>
    { t with seq := t.seq + 1, lastSent := some s.now, sentAt := (t.seq.toNat, s.now) :: t.sentAt.take 3 })

/-- TIME_PANE_SEND (R303). DEDUCED, log entry 82. -/
def execTimePaneSend (p : PortIx) (s : State) : Out := act (s.timeDue p) s (s.sendTime p)

/-! ### Synchronisation (R302, R305, R306) -/

/-- ASYM of the link of a port, signed, in 1/256 tick (R405). -/
def State.asym (s : State) (p : PortIx) : Int :=
  match s.topo.install with
  | none => 0
  | some t => (BitVec.ofNat 16 (bits ((t.record s.topo.node).ports.getD p.val 0) 31 16)).toInt

/-- θ of R305 in 1/256 tick: parent time minus child time. DEDUCED, log entry 79. -/
def thetaOf (echoRx echoTx rx tx asym : Int) : Int := Int.fdiv ((echoRx - echoTx) - (rx - tx) + asym) 2

/-- D of R305. -/
def delayOf (echoRx echoTx rx tx asym : Int) : Int := Int.fdiv ((echoRx - echoTx) + (rx - tx) - asym) 2

/-- A rate correction within ±200 ppm (R306). DESIGN CHOICE, log entry 80. -/
def rateOf (v : Nat) : BitVec 32 := BitVec.ofInt 32 ((v % 400001 : Nat) - 200000 : Int)

/-- The count moved at the first exchange (R306): forward at once, or held until the parent's time reaches it. -/
def PodTime.step (t : PodTime) (theta : Int) : PodTime :=
  let n := Int.fdiv theta 256
  if 0 ≤ n then { t with now := t.now + BitVec.ofInt 64 n } else { t with hold := n.natAbs }

/-- The state after a valid exchange; the parent's time master becomes the node's (R303, R306). DEDUCED, log entry 81. -/
def PodTime.exchange (t : PodTime) (theta : Int) (rate : BitVec 32) (depth master tick : Nat) : PodTime :=
  let small := decide (theta.natAbs ≤ 30)
  let good := if small then t.good + 1 else 0
  let fresh := t.state = .unsynced || t.state = .holdover
  let t1 := { t with theta := BitVec.ofInt 32 theta, ratePpb := rate, lastValid := tick, good := good, holdSince := none, depth := depth, master := master }
  if fresh then
    let t2 := { t1 with state := .acquiring, good := if small then 1 else 0 }
    if t.locked then t2 else t2.step theta
  else if 16 ≤ good then { t1 with state := .synced, locked := true }
  else t1

/-- A received TIME pane taken (R305). -/
def State.takeTime (s : State) (p : PortIx) (x : RxPane) : State :=
  let b := x.body
  match (s.port p).keys.segOf x.hdr x.slot b with
  | none => s.bump (ctrBadDrop p)
  | some g =>
    let s1 := s.modKeys p (fun k => { k with rxSeg := BitVec.ofNat 16 g })
    if b.headD 0 ≠ 1 then s1.bump (ctrBadDrop p)
    else
      let tx := beAt b 8 9
      let rx := 256 * x.tick
      let s2 := s1.modPTime p (fun t => { t with farSeq := beAt b 6 2, farTx := tx, arrival := rx, heard := true,
                                                 farState := (b.getD 1 0).toNat, farDepth := (b.getD 4 0).toNat })
      let echo := beAt b 17 2
      let sentOk := (s.port p).time.sentAt.any (fun e => e.1 == echo && decide (s.now ≤ e.2 + usTicks 20))
      if s.time.isMaster || s.time.parent ≠ p.val || !sentOk || (b.getD 1 0).toNat = 0 then s2
      else
        let theta := thetaOf (beAt b 28 9) (beAt b 19 9) rx tx (s.asym p)
        let rate := rateOf (s.freeVal .timeRate)
        s2.drawn.modTime (fun t => t.exchange theta rate ((b.getD 4 0).toNat + 1) (beAt b 2 2 % 8192) s.now)

/-- TIME_PANE (R305). -/
def execTimePane (p : PortIx) (s : State) : Out :=
  act (s.linkLive && (s.rxHead p ptTime).isSome) s (s.takePane p ptTime (fun x t => t.takeTime p x))

/-- TIME_SYNC_EN_WRITE (R303, R314): TIME.CTL.SYNC_EN written. -/
def execTimeSyncEnWrite (en : Bool) (s : State) : Out :=
  act (s.resetRun.all (fun r => r.scope == .warm)) s (s.modTime (fun t => { t with syncEn := en }))

/-- TIME_HOLDOVER (R306). DEDUCED, log entry 81. -/
def execTimeHoldover (s : State) : Out :=
  act (s.clocked && !s.time.isMaster && (s.time.state == .synced || s.time.state == .acquiring) && s.usPassed s.time.lastValid 50) s
    (s.modTime (fun t => { t with state := .holdover, holdSince := some s.now, good := 0 }))

/-- The port a node in HOLDOVER takes as its parent (R306): the smallest depth, then the lower index. -/
def State.newParent (s : State) : Option PortIx :=
  (allPorts.filter (fun p => s.serving p && (s.port p).time.heard && (s.port p).time.farState == 2)).foldl (fun b p => match b with
    | none => some p
    | some q => if (s.port p).time.farDepth < (s.port q).time.farDepth then some p else some q) none

/-- Whether 100 µs of HOLDOVER have passed. -/
def State.holdoverLong (s : State) : Bool :=
  s.time.state == .holdover && (match s.time.holdSince with
    | none => false
    | some t => s.usPassed t 100)

/-- TIME_REPARENT (R306). -/
def execTimeReparent (s : State) : Out :=
  act (s.clocked && s.holdoverLong && s.newParent.isSome) s (match s.newParent with
    | none => s
    | some p => s.modTime (fun t => { t with parent := p.val, depth := (s.port p).time.farDepth + 1, holdSince := some s.now }))

/-! ### Timetables (R308 to R312) -/

/-- One entry of a table (R309): START, LENGTH, SLOT_ID. -/
def ttEntry (l : List Byte) (i : Nat) : Nat × Nat × Nat :=
  let w := wordAt l i
  (bits w 31 0, bits w 51 32, bits w 63 52)

/-- Entries in order, none overlapping the next or passing the period (R309). -/
def ttEntriesOk (period : Nat) : List (Nat × Nat × Nat) → Bool
  | [] => true
  | [e] => decide (1 ≤ e.2.1) && decide (1 ≤ e.2.2) && decide (e.1 + e.2.1 ≤ period)
  | e :: f :: r => decide (1 ≤ e.2.1) && decide (1 ≤ e.2.2) && decide (e.1 + e.2.1 ≤ f.1) && ttEntriesOk period (f :: r)

/-- The ports of a mask. -/
def portsIn (m : Nat) : List PortIx := allPorts.filter (fun p => m.testBit p.val)

/-- TT_LOAD performed (R312): the entries are read whole, and checked. -/
def State.ttLoad (s : State) (r : AdminRef) : State :=
  let c := s.cmdD r
  let n := bits (c.arg 4) 12 0
  let period := bits (c.arg 5) 32 0
  let ports := bits (c.arg 2) 5 0
  if bits (c.arg 2) 63 6 != 0 || bits (c.arg 3) 63 56 != 0 || bits (c.arg 3) 2 0 != 0 || bits (c.arg 4) 63 13 != 0 || 4096 < n ||
      bits (c.arg 5) 63 33 != 0 || period < 1024 || 2 ^ 32 < period || !c.zeroArgs [7] then s.finish r asBadCommand
  else s.readThen (.admin r) (bits (c.arg 3) 55 0) (8 * n) 0 (fun table s => match table with
    | .data l =>
      let es := (List.range n).map (ttEntry l)
      if l.length < 8 * n || !ttEntriesOk period es then s.finish r asBadCommand
      else if c.pav != 0 && (portsIn ports).any (fun p => !s.linkInBlock c.pav p) then s.finish r asDenied
      else if (c.arg 6).toNat < s.podTime + usTicks 100 then s.finish r asBadState s.podTime
      else
        let t : TimeTable := { entries := es, period := period, epoch := (c.arg 6).toNat }
        ((portsIn ports).foldl (fun a p => a.modPTime p (fun q => { q with waiting := some t })) s).finish r asOk s.podTime
    | _ => s.finish r asBadCommand)

/-- TT_LOAD (R312). -/
def execTtLoad (r : AdminRef) (s : State) : Out := act (s.mgmtIs r 0x0201 && s.lodgeTurn r && !s.readingContent (.admin r)) s (s.ttLoad r)

/-- The chunk lane a send works through. -/
def sendLane (x : Nat) (y : Send) : WorkLane := if y.src = .result then .main else if x = 0 then .send0 else .send1

/-- A send has chunks left. -/
def sendLeft (p : Program) (r : Run) (k x : Nat) (t : GStep) (y : Send) : Bool :=
  let w := sendLane x y
  decide (((r.step k).work w).done < t.laneChunks p r w) || !((r.step k).tx x).queue.isEmpty

/-- The sends of the runs in progress that have a slot at a port: program slot, step, send. -/
def State.slotSends (s : State) (p : PortIx) (slot : Nat) : List (Nat × Nat × Nat × Send) :=
  (s.gather.slots.keys).flatMap (fun i => match s.running i with
    | none => []
    | some (q, _) => (q.prog.steps.zipIdx).flatMap (fun e => [0, 1].filterMap (fun x => match e.1.tx x with
      | none => none
      | some y => if y.slotId = slot && s.sendPort y = p.val then some (i, e.2, x, y) else none)))

/-- The sends that wait for a slot begin (R311); those of a Pavilion in an Anneal let it pass (R73). -/
def State.beginSlot (s : State) (p : PortIx) (slot : Nat) : State :=
  let l := (s.slotSends p slot).filter (fun e => match s.running e.1 with
    | none => false
    | some (q, r) => !s.annealed q.pav && ((r.step e.2.1).tx e.2.2.1).phase == .waiting)
  let s1 := l.foldl (fun a e => a.modRun e.1 (fun r => r.modStep e.2.1 (fun t => t.modTx e.2.2.1 (fun z => { z with phase := .begun })))) s
  (l.map Prod.fst).eraseDups.foldl State.pumpSends s1

/-- A send of a slot has begun and is not finished (R311). -/
def State.slotUnfinished (s : State) (p : PortIx) (slot : Nat) : Bool :=
  (s.slotSends p slot).any (fun e => match s.running e.1 with
    | none => false
    | some (q, r) => ((r.step e.2.1).tx e.2.2.1).phase == .begun && (match q.prog.steps[e.2.1]? with
      | none => false
      | some t => sendLeft q.prog r e.2.1 e.2.2.1 t e.2.2.2))

/-- A window closed: counted when a send of its slot is unfinished (R311). -/
def State.closeWindow (s : State) (p : PortIx) (w : Nat × Nat) : State :=
  let s1 := s.modPTime p (fun t => { t with opened := t.opened.erase w })
  if s.slotUnfinished p w.1 then s1.bump (ctrTtOverrun p) else s1

/-- TT_EPOCH (R312): the windows of the old table close. -/
def execTtEpoch (p : PortIx) (s : State) : Out :=
  act (s.live && (s.port p).time.waiting.any (fun t => decide (t.epoch ≤ s.podTime))) s
    (((s.port p).time.opened.foldl (fun a w => a.closeWindow p w) s).modPTime p (fun t => { t with active := t.waiting, waiting := none }))

/-- A window that opens: open by the active Timetable and not yet noted. DEDUCED, log entry 83. -/
def State.opening (s : State) (p : PortIx) : Option (Nat × Nat) :=
  match s.window p with
  | none => none
  | some w => if w ∈ (s.port p).time.opened then none else some w

/-- TT_WINDOW_OPEN (R311). -/
def execTtWindowOpen (p : PortIx) (s : State) : Out :=
  act (s.live && (s.opening p).isSome) s (match s.opening p with
    | none => s
    | some w => (s.modPTime p (fun t => { t with opened := t.opened ++ [w] })).beginSlot p w.1)

/-- A window that closes. -/
def State.closing (s : State) (p : PortIx) : Option (Nat × Nat) := (s.port p).time.opened.find? (fun w => decide (w.2 ≤ s.podTime))

/-- TT_WINDOW_CLOSE (R311). -/
def execTtWindowClose (p : PortIx) (s : State) : Out :=
  act (s.live && (s.closing p).isSome) s (match s.closing p with
    | none => s
    | some w => s.closeWindow p w)

end Sys2Proof.Machine
end

