-- ==== Sys2Proof/Machine/Power.lean ====
section
/-!
DEFINITION. Droop, power domains, the tolerance hint and engine states (13).
-/
namespace Sys2Proof.Machine

/-- DROOP_RISE (R476 to R478). DEDUCED, log entry 128. -/
def execDroopRise (src : DroopReading) (s : State) : Out := act (!s.power.clocksLost && !s.power.frozen) s ((s.droopReading src).droopRise)

/-- One level down when the sources have stayed at or below it for HOLD_US (R477). -/
def State.droopFall (s : State) : State :=
  let w := s.power
  if 0 < w.level && w.rawLevel < w.level && s.usPassed w.fallStart (bits w.droopCtl 13 0) then
    (s.modPower (fun w => { w with level := w.level - 1, fallStart := s.now })).droopWiden
  else s

/-- DROOP_FALL_STEP (R477). -/
def execDroopFallStep (src : DroopReading) (s : State) : Out := act (!s.power.clocksLost && !s.power.frozen) s ((s.droopReading src).droopFall)

/-- PWRM_DOM_ACK (R472, R563): the domain is on, and an engine in it wakes. -/
def execPwrmDomAck (domain : Nat) (s : State) : Out :=
  act (s.power.domReqs.any (fun r => r.domain == domain)) s
    (s.modPower (fun w =>
      let w1 := { w with domReqs := w.domReqs.filter (fun r => r.domain != domain), domainsOn := w.domainsOn ||| (1#96 <<< domain) }
      if 84 ≤ domain then w1.modEngine (domain - 84) (fun _ => {}) else w1))

/-- PWRM_NO_ACK (R472): a request unanswered for 1 ms is reported once and waits on. -/
def execPwrmNoAck (domain : Nat) (s : State) : Out :=
  act (s.clocked && s.power.domReqs.any (fun r => r.domain == domain && !r.reported && s.usPassed r.since 1000)) s
    ((s.modPower (fun w => { w with domReqs := w.domReqs.map (fun r => if r.domain = domain then { r with reported := true } else r) })).raiseContained
      (mkReport 0x19 (unit := 0x10) (engine := domain)))

/-- PWRM_LTR_HINT (R473). -/
def execPwrmLtrHint (hint : BitVec 16) (s : State) : Out := act (!s.power.clocksLost && !s.power.frozen) s (s.modPower (fun w => { w with hint := hint }))

/-- ENGINE_IDLE_E1 (R470): ENG_IDLE core cycles without work. -/
def execEngineIdleE1 (e : Nat) (s : State) : Out :=
  let x := s.power.engine e
  let due := match x.idleSince with
    | none => false
    | some t => decide (t + bits s.power.engLtr 31 16 ≤ s.now)
  act (s.clocked && decide (e < 12) && x.state == 0 && due && !s.engineWork e) s (s.modPower (fun w => w.modEngine e (fun q => { q with state := 1 })))

/-- ENGINE_DEEP_SLEEP (R475): the deepest of E2 and E3; the domain's switch-off is reported (R472). -/
def execEngineDeepSleep (e : Nat) (s : State) : Out :=
  let c := s.engineChoice e
  act (s.clocked && decide (e < 12) && 1 ≤ (s.power.engine e).state && 2 ≤ c && decide ((s.power.engine e).state < c)) s
    ((s.modPower (fun w => w.modEngine e (fun q => { q with state := c }))).dropDomain (84 + e))

/-- The level still permits the work of an engine (R481): always for slices, for a cluster if some operation of it is not held back. -/
def State.workPermitted (s : State) (e : Nat) : Bool :=
  if e < 6 || 10 ≤ e || s.power.level < 2 then true
  else s.front.chans.any (fun x => x.2.inCluster (e - 6) && x.2.bufs.any (fun b => b.ops.any (fun o => match o.oper with
    | none => false
    | some y => o.phase == .running && o.cluster == e - 6 && !s.shed x.2 (x.2.cls y.body) (e - 6))))

/-- ENGINE_WAKE (R471, R472, R481): from E1 at once; from E2 and E3 the domain is asked for. -/
def execEngineWake (e : Nat) (s : State) : Out :=
  let x := s.power.engine e
  act (s.clocked && decide (e < 12) && x.state != 0 && s.engineWork e && (decide (x.state < 2) || s.workPermitted e)) s
    (if x.state = 1 then s.modPower (fun w => w.modEngine e (fun _ => {}))
     else (s.modPower (fun w => w.modEngine e (fun q => { q with waking := some s.now }))).requestDomain (84 + e))

end Sys2Proof.Machine
end

