-- ==== Sys2Proof/Machine/Registers.lean ====
section
/-!
DEFINITION. The commands of the register target: REGWIN accesses (R558, R559), plain register writes and the writes that do something (R124, R207, R303,
R373, R399, R400, R493, R495, R499, R518, R522, R530).
-/
namespace Sys2Proof.Machine

/-- REGWIN_ACCESS (R558, R559): held while the always-on domain is initialised. -/
def execRegwinAccess (a : RegAccess) (s : State) : Out :=
  actAll true s (if s.regsOpen then s.regAccess a else s.modPins (fun p => { p with regHeld := p.regHeld ++ [a] }))

/-- REGISTER_WRITE (R558, R570). -/
def execRegisterWrite (offset : BitVec 20) (value : Word) (s : State) : Out := actAll s.regsOpen s (s.regWrite offset.toNat value)

/-- PWC_FLUSH (R207, R208). -/
def execPwcFlush (s : State) : Out := act s.regsOpen s s.flushPwc

/-- PWC_EN_WRITE (R208). -/
def execPwcEnWrite (en : Bool) (s : State) : Out := act s.regsOpen s (s.setPwcEn en)

/-- TRAIN_ENABLE_WRITE (R373). -/
def execTrainEnableWrite (p : PortIx) (en : Bool) (s : State) : Out := act s.regsOpen s (s.setEnable p en)

/-- TRAIN_RETRAIN_WRITE (R400). -/
def execTrainRetrainWrite (p : PortIx) (s : State) : Out := act s.regsOpen s (s.askRetrain p)

/-- TRAIN_TEST_WRITE (R399). -/
def execTrainTestWrite (p : PortIx) (on : Bool) (s : State) : Out := act s.regsOpen s (s.setTest p on)

/-- WATCHDOG_KICK (R522). -/
def execWatchdogKick (s : State) : Out := act s.regsOpen s s.kickWatchdog

/-- CONTAINED_ACKNOWLEDGE (R495). -/
def execContainedAcknowledge (s : State) : Out := act s.regsOpen s s.acknowledge

/-- CAPTURE_RELEASE (R493). -/
def execCaptureRelease (fatal : Bool) (s : State) : Out := act s.regsOpen s (s.releaseCapture fatal)

/-- COUNTER_SAT_CLEAR (R518). -/
def execCounterSatClear (offset : BitVec 20) (s : State) : Out := act (s.regsOpen && isCounter offset.toNat) s (s.clearCounter offset.toNat)

/-- FAULT_INJECTION_ARM (R499). -/
def execFaultInjectionArm (mode : BitVec 2) (checker : BitVec 10) (s : State) : Out := act s.regsOpen s (s.armInjection mode checker)

/-- NOTICE_CONSUMED_WRITE (R530). -/
def execNoticeConsumedWrite (consumed : BitVec 56) (s : State) : Out := act s.regsOpen s (s.consumeNotices consumed)

end Sys2Proof.Machine
end

