-- ==== Sys2Proof/Machine/TestPort.lean ====
section
/-!
DEFINITION. The test port (R569): the TAP of IEEE 1149.1 with its boundary-scan register, and behind the root of trust's grant (R545) the FREEZE
instrument (R546), the capture network (R547) and the wrappers.
-/
namespace Sys2Proof.Machine

/-- IDCODE (R569). -/
def State.idcode (s : State) : BitVec 32 :=
  BitVec.ofNat 32 (place (s.readGlobal 0 >>> 44) 28 4 + place 0x4E36 12 16 + place Config.testMfr.toNat 1 11 + 1)

/-- RST_REQ (R566). -/
def RstReq.pins : RstReq → BitVec 2
  | .none => 0
  | .warm => 1
  | .cold => 2

/-- The levels the block gives its boundary signals. DESIGN CHOICE, log entry 168. -/
def State.boundary (s : State) : Boundary :=
  { faultOut := s.pins.faultOut, fatalOut := s.pins.fatalOut, rstReq := s.pins.rstReq.pins, podTime := s.time.now,
    podState := BitVec.ofNat 2 s.time.state.code, rotDbg := s.pins.rotDbg }

/-- The levels on the boundary: under EXTEST those of the boundary-scan register, and the block's own otherwise (IEEE 1149.1, R11). -/
def State.driven (s : State) : Boundary := if s.pins.tapIr = .extest then { s.pins.preload with rotDbg := s.pins.rotDbg } else s.boundary

/-- The stored codewords of a domain (R467, R484): the Cullet and the receive pool of a port, the chunks held and the accumulator of a Gather slice,
and the measurement staging. DESIGN CHOICE, log entry 167. -/
def State.domainStores (s : State) (d : Nat) : List (Nat × List Byte) :=
  if 78 ≤ d && d < 84 then
    let p : PortIx := Fin.ofNat 6 (d - 78)
    (s.port p).pane.held.filterMap (fun h => h.body.map (fun b => (0x80 + 8 * (d - 78), b))) ++
      (s.port p).pane.cullet.map (fun c => (0x81 + 8 * (d - 78), c.body))
  else if 84 ≤ d && d < 90 then
    (List.range 64).flatMap (fun i =>
      match s.gather.slot i with
      | some q => if q.slice = d - 84 then
          q.held.flatMap (fun h => h.parts.map (fun x => (0x40 + 4 * (d - 84), x.2.2))) ++
            (match q.run with
             | some r => [(0x40 + 4 * (d - 84), r.acc.map (fun c => c.2))]
             | none => [])
        else []
      | none => [])
  else if d = 96 then (s.xfer.meas.flatMap (fun m => m.2.staged)).map (fun x => (0x36, x.2))
  else []

/-- A stored codeword as the capture shows it, uncorrected (R547): with the check bytes an injection inverted (R499). -/
def State.stored (s : State) (checker i : Nat) (data : List Byte) : List Byte :=
  match s.flt.flaws.find? (fun f => f.1 == checker && f.2.2 == i) with
  | some f => icInvert f.2.1 (icEncode data)
  | none => icEncode data

/-- The capture of one domain (R546, R547): the time its clock stopped, and its stored codewords with their check bytes. Nothing of it is key
material (R461). -/
def State.captureOf (s : State) (d : Nat) : TestData :=
  .capture d (BitVec.ofNat 64 (Table.get 0 s.power.stopTimes d))
    (((s.domainStores d).flatMap (fun e => (icEntries e.2).map (fun x => (e.1, x)))).zipIdx.map (fun q => s.stored q.1.1 q.2 q.1.2))

/-- A TAP instruction taken: without the grant nothing but the four public ones is reachable (R545), and the TAP selects BYPASS. DESIGN CHOICE,
log entry 168. -/
def tapGranted (i : TapInstr) (dbg : Bool) : TapInstr :=
  match i with
  | .network => if dbg then .network else .bypass
  | .wrapper => if dbg then .wrapper else .bypass
  | i => i

/-- A data scan under the instruction the TAP holds: what comes out, and the boundary-scan register updated. -/
def State.scan (s : State) (tdi : Boundary) : State :=
  match tapGranted s.pins.tapIr s.pins.rotDbg with
  | .idcode => s.modPins (fun p => { p with tdo := .idcode s.idcode })
  | .sample => s.modPins (fun p => { p with tdo := .boundary s.boundary, preload := tdi })
  | .extest => s.modPins (fun p => { p with tdo := .boundary s.boundary, preload := tdi })
  | _ => s.modPins (fun p => { p with tdo := .bypass })

/-- The FREEZE instrument (R546): at once, or from FREEZE_AT on; without the grant it is not reached (R545), and a block whose clocks are stopped
does not stop again. -/
def State.freezeOp (s : State) (dbg : Bool) (atTick : Option Word) : State :=
  if dbg && !s.power.clocksLost && !s.power.frozen then
    match atTick with
    | none => s.freeze
    | some t => if t.toNat ≤ s.podTime then s.freeze else s.modPower (fun w => { w with freezeAt := some t.toNat })
  else s

/-- One access of the test port. -/
def State.testOp (s : State) (dbg : Bool) (op : TestOp) : State :=
  match op with
  | .freeze t => s.freezeOp dbg t
  | .reset => s.modPins (fun p => { p with tapIr := .idcode })
  | .instruct i => s.modPins (fun p => { p with tapIr := tapGranted i dbg })
  | .scan tdi => s.scan tdi
  | .capture d => if dbg && s.power.frozen && decide (d ≤ 96) then s.modPins (fun p => { p with tdo := s.captureOf d }) else s

/-- FREEZE (R546): an access of the test port while ROT_DBG is `dbg` (R545, R561). DESIGN CHOICE, log entry 129. -/
def execFreeze (dbg : Bool) (op : TestOp) (s : State) : Out := act true s ((s.modPins (fun p => { p with rotDbg := dbg })).testOp dbg op)

end Sys2Proof.Machine
end

