-- ==== Sys2Proof/Machine/Training.lean ====
section
/-!
DEFINITION. Training, tuning and width changes (10).
-/
namespace Sys2Proof.Machine

/-! ### Markers and lanes -/

/-- Since when a lane may lag the earliest lane that took the same COUNT, in ticks (R371). -/
def LaneUnit.earliest (l : LaneUnit) (count now : Nat) : Nat :=
  laneIds.foldl (fun a k => let q := l.lane k; if q.cdr && q.lastCount = some count then min a q.markerTick else a) now

/-- A marker taken on a lane in training (R371, R382): locked after two at the expected spacing; usable within the deskew. A lane that had lost its lock
is found again. DEDUCED, log entry 96. -/
def State.trainMarker (s : State) (p : PortIx) (k count : Nat) : State :=
  let l0 := (s.port p).lane
  let late := decide (6 * 64 < 5 * (s.now - l0.earliest count s.now))
  let s1 := s.modLane p (fun l => l.modAt k (fun q =>
    let n := if q.lastCount = some ((count + 2 ^ 56 - 1) % 2 ^ 56) then q.markers + 1 else 1
    let q1 := { q with cdr := true, pllLost := false, markers := n, lastCount := some count, markerTick := s.now, slot := count * markerPeriod false }
    if late && (q.usable || l.train.phase == .lock) then { q1 with usable := false, fail := 2 }
    else if l.train.phase == .lock && 2 ≤ n && (q.fail = 0 || q.fail = 1) then { q1 with usable := true, fail := 0 } else q1))
  (s1.relockNow p).leadOn p

/-- A marker taken on an active lane in service (R370, R371): its COUNT, for its place among the markers of its lane, agrees with the other active
lanes, or the link retrains. One later than the deskew allows leaves the lane not usable. -/
def State.serviceMarker (s : State) (p : PortIx) (k count : Nat) : State :=
  let l := (s.port p).lane
  let act := bitsSet 13 l.rxActive
  let n := (l.lane k).place + 1
  let differs := act.any (fun i => i != k && (match (l.lane i).lastCount with
    | none => false
    | some c => (c + n) % 2 ^ 56 != (count + (l.lane i).place) % 2 ^ 56))
  let late := decide (6 * 64 < 5 * (s.now - l.earliest count s.now))
  let s1 := s.modLane p (fun l => l.modAt k (fun q =>
    let q1 := { q with cdr := true, markers := q.markers + 1, missed := 0, place := n, lastCount := some count, markerTick := s.now }
    if late && q.usable then { q1 with usable := false, fail := 2 } else q1))
  if differs then s1.retrain p lcDeskew
  else if act.head? = some k then s1.modKeys p (fun q => { q with rxSlot := count * markerPeriod true * max 1 l.rxWidth }) else s1

/-- A marker that was not taken (R371): a lane in training begins its lock anew; in service two in a row retrain. -/
def State.missedMarker (s : State) (p : PortIx) (k : Nat) : State :=
  if s.serving p then
    let n := ((s.port p).lane.lane k).missed + 1
    let s1 := s.modLane p (fun l => l.modAt k (fun q =>
      { q with missed := n, place := q.place + 1, lastCount := q.lastCount.map (fun c => (c + 1) % 2 ^ 56) }))
    if (s.port p).lane.rxActive.testBit k && 2 ≤ n then s1.retrain p lcDeskew else s1
  else s.modLane p (fun l => l.modAt k (fun q => { q with markers := 0, lastCount := none }))

/-- ALIGNMENT_MARKER (R371). -/
def execAlignmentMarker (p : PortIx) (lane : Nat) (bytes : List Byte) (s : State) : Out :=
  act (s.linkLive && decide (lane < 13) && bytes.length == 272 && (s.port p).pane.link != .down) s
    (if !markerTaken bytes then s.missedMarker p lane
     else if s.serving p then (if (s.port p).lane.rxActive.testBit lane then s.serviceMarker p lane (beAt bytes 21 7)
       else s.modLane p (fun l => l.modAt lane (fun q => { q with cdr := true, markers := q.markers + 1, lastCount := some (beAt bytes 21 7) })))
     else s.trainMarker p lane (beAt bytes 21 7))

/-- A lane lost: not usable until a training finds it again. -/
def State.loseLane (s : State) (p : PortIx) (k : Nat) (why : LaneFault) : State :=
  s.modLane p (fun l => l.modAt k (fun q => { q with
    cdr := q.cdr && why == .optics, pllLost := q.pllLost || why == .pll, markers := 0, lastCount := none, usable := false, fail := if why == .optics then 4 else 1 }))

/-- LANE_FAIL (R374, R398, R467). -/
def execLaneFail (p : PortIx) (lane : Nat) (why : LaneFault) (s : State) : Out :=
  let active := s.serving p && ((s.port p).lane.active ||| (s.port p).lane.rxActive).testBit lane
  act (s.linkLive && decide (lane < 13)) s
    (if active then (s.retrain p lcLaneFail).loseLane p lane why else s.loseLane p lane why)

/-! ### TRAIN messages -/

/-- The far end's current message in the first phase: a leader that has left it begins a new round (R383). DEDUCED, log entry 102. -/
def State.takeHello (s : State) (p : PortIx) : State :=
  if s.leads p && (s.port p).lane.train.phase != .lock then s.newRound p ((s.port p).lane.train.round + 1) else s

/-- HELLO (R382). -/
def execHello (p : PortIx) (s : State) : Out := act (s.linkLive && s.trainHead p tmHello) s (s.takeTrain p tmHello (fun _ t => t.takeHello p))

/-- RETRAIN (R384). -/
def execRetrain (p : PortIx) (s : State) : Out := act (s.linkLive && s.trainHead p tmRetrain) s (s.takeTrain p tmRetrain (fun _ t => t.takeHello p))

/-- A CONFIG compared with this end's own result (R382). -/
def State.takeConfig (s : State) (p : PortIx) (b : List Byte) : State :=
  if s.leads p then s
  else if s.nextCfg p == some (TrainCfg.ofBody b) then (s.configured p (TrainCfg.ofBody b) false).say p tmConfigAck (slice b 24 5)
  else s.say p tmConfigAck (slice b 24 5) (reject := true)

/-- CONFIG (R382). -/
def execConfig (p : PortIx) (s : State) : Out := act (s.linkLive && s.trainHead p tmConfig) s (s.takeTrain p tmConfig (fun b t => t.takeConfig p b))

/-- A CONFIG_ACK taken by the leader (R382): a copy goes on, REJECT begins a new round. -/
def State.takeConfigAck (s : State) (p : PortIx) (b : List Byte) : State :=
  match (s.port p).lane.train.msg with
  | none => s
  | some m =>
    if !s.leads p || m.code != tmConfig then s
    else if bit (b.getD 1 0) 1 then s.newRound p ((s.port p).lane.train.round + 1)
    else if slice b 24 5 == m.args then s.configured p (TrainCfg.ofBody b) true
    else s

/-- CONFIG_ACK (R382). -/
def execConfigAck (p : PortIx) (s : State) : Out :=
  act (s.linkLive && s.trainHead p tmConfigAck) s (s.takeTrain p tmConfigAck (fun b t => t.takeConfigAck p b))

/-- TUNE_REQ (R385). -/
def execTuneReq (p : PortIx) (s : State) : Out := act (s.linkLive && s.trainHead p tmTuneReq) s (s.takeTrain p tmTuneReq (fun b t => t.applyTune p b))

/-- A TUNE_RSP taken: the receiver's own algorithm goes on, or the judging begins; after PRESET 0 it begins again (R385, R386). In test it goes on or
ends (R399). -/
def State.takeTuneRsp (s : State) (p : PortIx) : State :=
  let t := (s.port p).lane.train
  if t.phase != .tune || t.waiting.isNone then s
  else if t.second || s.freeVal .tuneCommand % 2 = 0 then
    (if t.second then s else s.drawn).modTrain p (fun t =>
      { t with phase := if (s.port p).lane.testing then .idle else .measure, waiting := none })
  else s.drawn.tuneNext p

/-- TUNE_RSP (R385). -/
def execTuneRsp (p : PortIx) (s : State) : Out := act (s.linkLive && s.trainHead p tmTuneRsp) s (s.takeTrain p tmTuneRsp (fun _ t => t.takeTuneRsp p))

/-- TUNE_DONE (R386). -/
def execTuneDone (p : PortIx) (s : State) : Out :=
  act (s.linkLive && s.trainHead p tmTuneDone) s (s.takeTrain p tmTuneDone (fun b t =>
    (t.modTrain p (fun q => { q with farPass := some (beAt b 24 2 % 8192) })).refuse p))

/-- A GO taken (R382): the follower answers it at the old step, and each end enters the step. -/
def State.takeGo (s : State) (p : PortIx) : State :=
  let t := (s.port p).lane.train
  if t.phase != .going && !(t.phase == .ident && !s.leads p) then s
  else if s.leads p then s.enterStep p
  else ((s.say p tmGo [BitVec.ofNat 8 t.cfg.step]).sayNow p).enterStep p

/-- GO (R382). -/
def execGo (p : PortIx) (s : State) : Out := act (s.linkLive && s.trainHead p tmGo) s (s.takeTrain p tmGo (fun _ t => t.takeGo p))

/-- A READY taken (R382): an end that has sent and received READY enters service. -/
def State.takeReady (s : State) (p : PortIx) : State :=
  let t := (s.port p).lane.train
  if t.phase != .service then s
  else if t.readySent then s.enterService p
  else ((s.say p tmReady []).sayNow p).enterService p

/-- READY (R382). -/
def execReady (p : PortIx) (s : State) : Out := act (s.linkLive && s.trainHead p tmReady) s (s.takeTrain p tmReady (fun _ t => t.takeReady p))

/-- LOOP_REQ (R399): far-end loopback of the lanes named begins with MODE 1 and ends with MODE 0. -/
def execLoopReq (p : PortIx) (s : State) : Out :=
  act (s.linkLive && s.trainHead p tmLoopReq) s (s.takeTrain p tmLoopReq (fun b t => t.modLane p (fun l =>
    { l with farLoop := if b.getD 24 0 = 1 then some (beAt b 25 2 % 8192) else if b.getD 24 0 = 0 then none else l.farLoop })))

/-! ### Timers of training -/

/-- A message has waited 1 ms for its answer (R383). -/
def State.msgLate (s : State) (p : PortIx) : Bool :=
  match (s.port p).lane.train.waiting with
  | none => false
  | some t => s.usPassed t 1000

/-- A recovery has used the time of its attempt (R384). DEDUCED, log entry 101. -/
def State.attemptLate (s : State) (p : PortIx) : Bool :=
  let t := (s.port p).lane.train
  !t.initial && s.usPassed t.start t.limitUs

/-- TRAINING_MSG_TIMEOUT (R383, R384): the attempt that is over its time fails; else the round begins again. -/
def execTrainingMsgTimeout (p : PortIx) (s : State) : Out :=
  act (s.linkLive && s.inTraining p && (s.msgLate p || s.attemptLate p)) s
    (if s.attemptLate p then s.failAttempt p
     else s.newRound p ((s.port p).lane.train.round + (if s.leads p then 1 else 0)))

/-- TUNING_TIMEOUT (R383): the step fails as for a failed margin check. -/
def execTuningTimeout (p : PortIx) (s : State) : Out :=
  let t := (s.port p).lane.train
  act (s.linkLive && s.inTraining p && t.phase == .tune && s.usPassed t.tuneStart 60000) s ((s.tuneDone p 0).leadOn p)

/-- The first or the second judgement of a step (R386). -/
def State.judgeLanes (s : State) (p : PortIx) (ratios : List (Nat × Nat)) : State :=
  let l := (s.port p).lane
  let t := l.train
  let pass := passMask ratios
  if l.adopt then s.tuneDone p pass
  else match t.firstPass with
    | some a => if t.second then s.tuneDone p (a &&& pass) else s
    | none => (s.modTrain p (fun t => { t with firstPass := some pass, second := true, phase := .tune, tuneStart := s.now })).ask p tmTuneReq presetWords

/-- MARGIN_MEASURED (R386): the corrected bytes and the bytes of the window on each lane. -/
def execMarginMeasured (p : PortIx) (ratios : List (Nat × Nat)) (s : State) : Out :=
  let t := (s.port p).lane.train
  act (s.linkLive && s.inTraining p && t.phase == .measure && ratios.length == 13 && ratios.all (fun r => r.2 == t.window)) s
    ((s.judgeLanes p ratios).leadOn p)

/-- DOWN_RETRY (R375). -/
def execDownRetry (p : PortIx) (s : State) : Out :=
  let l := (s.port p).lane
  act (s.linkLive && (s.port p).pane.link == .down && l.enabled && !l.testing && l.lpsState != 4 && s.usPassed l.downSince (10000 * l.retry10ms)) s
    (s.startTraining p lcInit)

/-! ### Width changes -/

/-- LANE_BER (R389): the lane is left out of USABLE and a width change is asked for. -/
def execLaneBer (p : PortIx) (lane : Nat) (s : State) : Out :=
  let l := (s.port p).lane
  act (s.linkLive && s.serving p && decide (lane < 13) && l.rxActive.testBit lane && (l.lane lane).berOver && l.change.isNone) s
    (let s1 := s.modLane p (fun l => l.modAt lane (fun q => { q with usable := false, fail := 7, errAt := [], berOver := false }))
     s1.askWidth p lcLaneBer (s1.port p).lane.usable 12)

/-- WIDTH_REQ (R389). -/
def execWidthReq (p : PortIx) (s : State) : Out := act (s.linkLive && s.ctrlHead p 0x10) s (s.takeCtrl p (fun b t => t.takeWidthReq p b))

/-- WIDTH_ACK (R389). -/
def execWidthAck (p : PortIx) (s : State) : Out := act (s.linkLive && s.ctrlHead p 0x11) s (s.takeCtrl p (fun b t => t.takeWidthAck p b))

/-- WIDTH_GO (R390). -/
def execWidthGo (p : PortIx) (s : State) : Out := act (s.linkLive && s.ctrlHead p 0x12) s (s.takeCtrl p (fun b t => t.takeWidthGo p b))

/-- WIDTH_REQ_TIMEOUT (R389). -/
def execWidthReqTimeout (p : PortIx) (s : State) : Out :=
  let due := match (s.port p).lane.change with
    | none => false
    | some c => c.own && c.leading && !c.acked && s.usPassed c.since 20
  act (s.linkLive && s.serving p && due) s (s.retrain p lcTimeout)

/-- SPARE_IN (R391). -/
def execSpareIn (p : PortIx) (s : State) : Out :=
  let due := match (s.port p).lane.spareAt with
    | none => false
    | some t => decide (t ≤ s.now)
  act (s.linkLive && (s.port p).pane.link == .degraded && due) s (s.retrain p lcSpare)

end Sys2Proof.Machine
end

