-- ==== Sys2Proof/Machine/Dispatch.lean ====
section
/-!
DEFINITION. The meaning of every command: one arm per constructor, each a call of that command's own meaning.
-/
namespace Sys2Proof.Machine

def exec (i : Instr) (s : State) : Host.Outcome State Fault Refusal :=
  match i with
  | .coldResetInput powerUp => Sys2Proof.Machine.execColdResetInput powerUp s
  | .warmResetInput => Sys2Proof.Machine.execWarmResetInput s
  | .blockResetComplete => Sys2Proof.Machine.execBlockResetComplete s
  | .refclkLoss => Sys2Proof.Machine.execRefclkLoss s
  | .regwinAccess a => Sys2Proof.Machine.execRegwinAccess a s
  | .registerWrite offset value => Sys2Proof.Machine.execRegisterWrite offset value s
  | .admin0Enable => Sys2Proof.Machine.execAdmin0Enable s
  | .admin0Disable => Sys2Proof.Machine.execAdmin0Disable s
  | .pwcFlush => Sys2Proof.Machine.execPwcFlush s
  | .pwcEnWrite en => Sys2Proof.Machine.execPwcEnWrite en s
  | .trainEnableWrite p en => Sys2Proof.Machine.execTrainEnableWrite p en s
  | .trainRetrainWrite p => Sys2Proof.Machine.execTrainRetrainWrite p s
  | .trainTestWrite p on => Sys2Proof.Machine.execTrainTestWrite p on s
  | .timeSyncEnWrite en => Sys2Proof.Machine.execTimeSyncEnWrite en s
  | .watchdogKick => Sys2Proof.Machine.execWatchdogKick s
  | .lodgeWatchdog => Sys2Proof.Machine.execLodgeWatchdog s
  | .containedAcknowledge => Sys2Proof.Machine.execContainedAcknowledge s
  | .captureRelease fatal => Sys2Proof.Machine.execCaptureRelease fatal s
  | .counterSatClear offset => Sys2Proof.Machine.execCounterSatClear offset s
  | .faultInjectionArm mode checker => Sys2Proof.Machine.execFaultInjectionArm mode checker s
  | .faultInjectionTakesPlace => Sys2Proof.Machine.execFaultInjectionTakesPlace s
  | .noticeConsumedWrite consumed => Sys2Proof.Machine.execNoticeConsumedWrite consumed s
  | .freeze dbg op => Sys2Proof.Machine.execFreeze dbg op s
  | .adminDoorbellNotify pav => Sys2Proof.Machine.execAdminDoorbellNotify pav s
  | .adminDoorbellPoll pav => Sys2Proof.Machine.execAdminDoorbellPoll pav s
  | .adminDoorbellReadDone pav res => Sys2Proof.Machine.execAdminDoorbellReadDone pav res s
  | .adminEntryReadDone pav res => Sys2Proof.Machine.execAdminEntryReadDone pav res s
  | .adminEntryRetry pav => Sys2Proof.Machine.execAdminEntryRetry pav s
  | .adminCompletionWrite r => Sys2Proof.Machine.execAdminCompletionWrite r s
  | .createChannel r => Sys2Proof.Machine.execCreateChannel r s
  | .destroyChannel r => Sys2Proof.Machine.execDestroyChannel r s
  | .resetChannel r => Sys2Proof.Machine.execResetChannel r s
  | .registerWindow r => Sys2Proof.Machine.execRegisterWindow r s
  | .releaseWindow r => Sys2Proof.Machine.execReleaseWindow r s
  | .loadProgram r => Sys2Proof.Machine.execLoadProgram r s
  | .unloadProgram r => Sys2Proof.Machine.execUnloadProgram r s
  | .pavilionCreate r => Sys2Proof.Machine.execPavilionCreate r s
  | .pavilionTeardown r => Sys2Proof.Machine.execPavilionTeardown r s
  | .measOpen r => Sys2Proof.Machine.execMeasOpen r s
  | .measSeal r => Sys2Proof.Machine.execMeasSeal r s
  | .ttLoad r => Sys2Proof.Machine.execTtLoad r s
  | .purge r => Sys2Proof.Machine.execPurge r s
  | .spdmMsg r req => Sys2Proof.Machine.execSpdmMsg r req s
  | .svnCommit r => Sys2Proof.Machine.execSvnCommit r s
  | .epochCommit r => Sys2Proof.Machine.execEpochCommit r s
  | .pavReset r => Sys2Proof.Machine.execPavReset r s
  | .blockReset r => Sys2Proof.Machine.execBlockReset r s
  | .serviceRestore r => Sys2Proof.Machine.execServiceRestore r s
  | .anneal r => Sys2Proof.Machine.execAnneal r s
  | .annealRelease r => Sys2Proof.Machine.execAnnealRelease r s
  | .belvSet r => Sys2Proof.Machine.execBelvSet r s
  | .queryChannel r => Sys2Proof.Machine.execQueryChannel r s
  | .queryProgram r => Sys2Proof.Machine.execQueryProgram r s
  | .queryPavilion r => Sys2Proof.Machine.execQueryPavilion r s
  | .queryLodgeQueues r => Sys2Proof.Machine.execQueryLodgeQueues r s
  | .doorbellNotify ch => Sys2Proof.Machine.execDoorbellNotify ch s
  | .doorbellSweep => Sys2Proof.Machine.execDoorbellSweep s
  | .doorbellReadDone ch res => Sys2Proof.Machine.execDoorbellReadDone ch res s
  | .ringEntryReadDone ch res => Sys2Proof.Machine.execRingEntryReadDone ch res s
  | .bufferReadDone ch ring res => Sys2Proof.Machine.execBufferReadDone ch ring res s
  | .admitOperation => Sys2Proof.Machine.execAdmitOperation s
  | .nop o => Sys2Proof.Machine.execNop o s
  | .put o => Sys2Proof.Machine.execPut o s
  | .putInline o => Sys2Proof.Machine.execPutInline o s
  | .get o => Sys2Proof.Machine.execGet o s
  | .copy o => Sys2Proof.Machine.execCopy o s
  | .kvmove o => Sys2Proof.Machine.execKvmove o s
  | .atomic o => Sys2Proof.Machine.execAtomic o s
  | .wait o => Sys2Proof.Machine.execWait o s
  | .signal o => Sys2Proof.Machine.execSignal o s
  | .fence o => Sys2Proof.Machine.execFence o s
  | .gatherRun o => Sys2Proof.Machine.execGatherRun o s
  | .tagGrant pav => Sys2Proof.Machine.execTagGrant pav s
  | .measureStagingGrant slot => Sys2Proof.Machine.execMeasureStagingGrant slot s
  | .requestIssue o => Sys2Proof.Machine.execRequestIssue o s
  | .pageWalkDone id res => Sys2Proof.Machine.execPageWalkDone id res s
  | .completionTimeout tag => Sys2Proof.Machine.execCompletionTimeout tag s
  | .waitWatchNotify wid => Sys2Proof.Machine.execWaitWatchNotify wid s
  | .waitPoll o => Sys2Proof.Machine.execWaitPoll o s
  | .semaphoreReadDone o res => Sys2Proof.Machine.execSemaphoreReadDone o res s
  | .waitTimeout o => Sys2Proof.Machine.execWaitTimeout o s
  | .operationComplete o => Sys2Proof.Machine.execOperationComplete o s
  | .bufferComplete ch => Sys2Proof.Machine.execBufferComplete ch s
  | .signalWordWrite ch => Sys2Proof.Machine.execSignalWordWrite ch s
  | .engineStopped ch engine => Sys2Proof.Machine.execEngineStopped ch engine s
  | .channelRetireComplete ch => Sys2Proof.Machine.execChannelRetireComplete ch s
  | .drainComplete ch => Sys2Proof.Machine.execDrainComplete ch s
  | .fabricDataResponse f txid bytes => Sys2Proof.Machine.execFabricDataResponse f txid bytes s
  | .fabricVisibleResponse f txid => Sys2Proof.Machine.execFabricVisibleResponse f txid s
  | .fabricFaultResponse f txid => Sys2Proof.Machine.execFabricFaultResponse f txid s
  | .fabricUeResponse f txid => Sys2Proof.Machine.execFabricUeResponse f txid s
  | .fabricPartReset f txid => Sys2Proof.Machine.execFabricPartReset f txid s
  | .watchRefused wid => Sys2Proof.Machine.execWatchRefused wid s
  | .paneTransmit p => Sys2Proof.Machine.execPaneTransmit p s
  | .codewordReceive p lane bytes => Sys2Proof.Machine.execCodewordReceive p lane bytes s
  | .alignmentMarker p lane bytes => Sys2Proof.Machine.execAlignmentMarker p lane bytes s
  | .laneFail p lane why => Sys2Proof.Machine.execLaneFail p lane why s
  | .dataPane p => Sys2Proof.Machine.execDataPane p s
  | .ackPane p => Sys2Proof.Machine.execAckPane p s
  | .idlePane p => Sys2Proof.Machine.execIdlePane p s
  | .nakPane p => Sys2Proof.Machine.execNakPane p s
  | .retireFence p => Sys2Proof.Machine.execRetireFence p s
  | .voidFence p => Sys2Proof.Machine.execVoidFence p s
  | .slotFreed p slot => Sys2Proof.Machine.execSlotFreed p slot s
  | .nakRereport p => Sys2Proof.Machine.execNakRereport p s
  | .ackTimerExpiry p => Sys2Proof.Machine.execAckTimerExpiry p s
  | .creditTimeout p => Sys2Proof.Machine.execCreditTimeout p s
  | .resume p => Sys2Proof.Machine.execResume p s
  | .resumeTimer p => Sys2Proof.Machine.execResumeTimer p s
  | .outOfServiceCtrl p => Sys2Proof.Machine.execOutOfServiceCtrl p s
  | .writeB src => Sys2Proof.Machine.execWriteB src s
  | .writeS src => Sys2Proof.Machine.execWriteS src s
  | .writeX src => Sys2Proof.Machine.execWriteX src s
  | .readB src => Sys2Proof.Machine.execReadB src s
  | .readX src => Sys2Proof.Machine.execReadX src s
  | .atomicMessage src => Sys2Proof.Machine.execAtomicMessage src s
  | .copyReq src => Sys2Proof.Machine.execCopyReq src s
  | .relayTimeout tag => Sys2Proof.Machine.execRelayTimeout tag s
  | .kvCmd src => Sys2Proof.Machine.execKvCmd src s
  | .kvWrite src => Sys2Proof.Machine.execKvWrite src s
  | .response src => Sys2Proof.Machine.execResponse src s
  | .operand src => Sys2Proof.Machine.execOperand src s
  | .credit src => Sys2Proof.Machine.execCredit src s
  | .mgmtMessage p => Sys2Proof.Machine.execMgmtMessage p s
  | .timePaneSend p => Sys2Proof.Machine.execTimePaneSend p s
  | .timePane p => Sys2Proof.Machine.execTimePane p s
  | .timeHoldover => Sys2Proof.Machine.execTimeHoldover s
  | .timeReparent => Sys2Proof.Machine.execTimeReparent s
  | .hello p => Sys2Proof.Machine.execHello p s
  | .retrain p => Sys2Proof.Machine.execRetrain p s
  | .config p => Sys2Proof.Machine.execConfig p s
  | .configAck p => Sys2Proof.Machine.execConfigAck p s
  | .tuneReq p => Sys2Proof.Machine.execTuneReq p s
  | .tuneRsp p => Sys2Proof.Machine.execTuneRsp p s
  | .tuneDone p => Sys2Proof.Machine.execTuneDone p s
  | .go p => Sys2Proof.Machine.execGo p s
  | .ready p => Sys2Proof.Machine.execReady p s
  | .loopReq p => Sys2Proof.Machine.execLoopReq p s
  | .ident p => Sys2Proof.Machine.execIdent p s
  | .identAck p => Sys2Proof.Machine.execIdentAck p s
  | .trainingMsgTimeout p => Sys2Proof.Machine.execTrainingMsgTimeout p s
  | .tuningTimeout p => Sys2Proof.Machine.execTuningTimeout p s
  | .marginMeasured p ratios => Sys2Proof.Machine.execMarginMeasured p ratios s
  | .downRetry p => Sys2Proof.Machine.execDownRetry p s
  | .laneBer p lane => Sys2Proof.Machine.execLaneBer p lane s
  | .widthReq p => Sys2Proof.Machine.execWidthReq p s
  | .widthAck p => Sys2Proof.Machine.execWidthAck p s
  | .widthGo p => Sys2Proof.Machine.execWidthGo p s
  | .widthReqTimeout p => Sys2Proof.Machine.execWidthReqTimeout p s
  | .spareIn p => Sys2Proof.Machine.execSpareIn p s
  | .lpsReq p => Sys2Proof.Machine.execLpsReq p s
  | .lpsAck p => Sys2Proof.Machine.execLpsAck p s
  | .lpsExit p => Sys2Proof.Machine.execLpsExit p s
  | .lpsChoose p => Sys2Proof.Machine.execLpsChoose p s
  | .lpsWake p => Sys2Proof.Machine.execLpsWake p s
  | .p3SignalReturn p => Sys2Proof.Machine.execP3SignalReturn p s
  | .opticsPoll p reading => Sys2Proof.Machine.execOpticsPoll p reading s
  | .opticsIbi p reading => Sys2Proof.Machine.execOpticsIbi p reading s
  | .opticsMgmtRetry p answered => Sys2Proof.Machine.execOpticsMgmtRetry p answered s
  | .lHello p => Sys2Proof.Machine.execLHello p s
  | .lReply p => Sys2Proof.Machine.execLReply p s
  | .lCert p => Sys2Proof.Machine.execLCert p s
  | .lProof p => Sys2Proof.Machine.execLProof p s
  | .lDone p => Sys2Proof.Machine.execLDone p s
  | .handshakeTimeout p => Sys2Proof.Machine.execHandshakeTimeout p s
  | .handshakeRetry p => Sys2Proof.Machine.execHandshakeRetry p s
  | .keyOffer p => Sys2Proof.Machine.execKeyOffer p s
  | .keyAccept p => Sys2Proof.Machine.execKeyAccept p s
  | .keySwitch p => Sys2Proof.Machine.execKeySwitch p s
  | .keyReject p => Sys2Proof.Machine.execKeyReject p s
  | .keyRejectRetry p key => Sys2Proof.Machine.execKeyRejectRetry p key s
  | .keyLost p => Sys2Proof.Machine.execKeyLost p s
  | .keyRotationDue p key => Sys2Proof.Machine.execKeyRotationDue p key s
  | .keyRotationStall p key => Sys2Proof.Machine.execKeyRotationStall p key s
  | .wave p => Sys2Proof.Machine.execWave p s
  | .waveSend p => Sys2Proof.Machine.execWaveSend p s
  | .linkEvent p => Sys2Proof.Machine.execLinkEvent p s
  | .nodeEvent p => Sys2Proof.Machine.execNodeEvent p s
  | .nodeReady => Sys2Proof.Machine.execNodeReady s
  | .startupBound => Sys2Proof.Machine.execStartupBound s
  | .podStateReport => Sys2Proof.Machine.execPodStateReport s
  | .annealReq p => Sys2Proof.Machine.execAnnealReq p s
  | .annealTa => Sys2Proof.Machine.execAnnealTa s
  | .annealDoneMsg p => Sys2Proof.Machine.execAnnealDoneMsg p s
  | .annealBound => Sys2Proof.Machine.execAnnealBound s
  | .annealReleaseMsg p => Sys2Proof.Machine.execAnnealReleaseMsg p s
  | .annealTr => Sys2Proof.Machine.execAnnealTr s
  | .triggerObserved slot res => Sys2Proof.Machine.execTriggerObserved slot res s
  | .triggerPoll slot => Sys2Proof.Machine.execTriggerPoll slot s
  | .runStart slot => Sys2Proof.Machine.execRunStart slot s
  | .chunkCombine slot step => Sys2Proof.Machine.execChunkCombine slot step s
  | .stepTimeout slot step => Sys2Proof.Machine.execStepTimeout slot step s
  | .runEnd slot => Sys2Proof.Machine.execRunEnd slot s
  | .ttEpoch p => Sys2Proof.Machine.execTtEpoch p s
  | .ttWindowOpen p => Sys2Proof.Machine.execTtWindowOpen p s
  | .ttWindowClose p => Sys2Proof.Machine.execTtWindowClose p s
  | .hangDeclared pav => Sys2Proof.Machine.execHangDeclared pav s
  | .pav0Hang => Sys2Proof.Machine.execPav0Hang s
  | .correctedError e => Sys2Proof.Machine.execCorrectedError e s
  | .containedError e => Sys2Proof.Machine.execContainedError e s
  | .fatalError e => Sys2Proof.Machine.execFatalError e s
  | .ackTimeout => Sys2Proof.Machine.execAckTimeout s
  | .fatalHoldExpiry => Sys2Proof.Machine.execFatalHoldExpiry s
  | .faultPulseEnd => Sys2Proof.Machine.execFaultPulseEnd s
  | .scrub outcome => Sys2Proof.Machine.execScrub outcome s
  | .droopRise src => Sys2Proof.Machine.execDroopRise src s
  | .droopFallStep src => Sys2Proof.Machine.execDroopFallStep src s
  | .pwrmDomAck domain => Sys2Proof.Machine.execPwrmDomAck domain s
  | .pwrmNoAck domain => Sys2Proof.Machine.execPwrmNoAck domain s
  | .pwrmLtrHint hint => Sys2Proof.Machine.execPwrmLtrHint hint s
  | .engineIdleE1 e => Sys2Proof.Machine.execEngineIdleE1 e s
  | .engineDeepSleep e => Sys2Proof.Machine.execEngineDeepSleep e s
  | .engineWake e => Sys2Proof.Machine.execEngineWake e s
  | .belvSample set => Sys2Proof.Machine.execBelvSample set s
  | .noticeWrite => Sys2Proof.Machine.execNoticeWrite s
  | .rotRelease m => Sys2Proof.Machine.execRotRelease m s
  | .rotIdentity priv pub => Sys2Proof.Machine.execRotIdentity priv pub s
  | .rotReply done value => Sys2Proof.Machine.execRotReply done value s
  | .rotReplyTimeout => Sys2Proof.Machine.execRotReplyTimeout s
  | .tableLoad => Sys2Proof.Machine.execTableLoad s
  | .routeTableBuilt => Sys2Proof.Machine.execRouteTableBuilt s
  | .triggerWatchNotify slot => Sys2Proof.Machine.execTriggerWatchNotify slot s
  | .measureLeafHashed slot leaf => Sys2Proof.Machine.execMeasureLeafHashed slot leaf s

end Sys2Proof.Machine
end

