-- ==== Sys2Proof/WellFormed.lean ====
section
/-!
DEFINITION. Which commands name objects that exist: every index lies in the range the spec gives the table it points into.
-/
namespace Sys2Proof

/-- What a read brings back is at most the largest image or table that one command reads (R285, R308). -/
def ReadResult.wf : ReadResult → Bool
  | .data bytes => decide (bytes.length ≤ 2 ^ 20)
  | .fault | .ue | .partReset => true

/-- A channel of 4,096 (R78), a ring index modulo 2³² (R106), an operation of at most 1,024 (R127). -/
def OpRef.wf (o : OpRef) : Bool := decide (o.chan < 4096) && decide (o.ring < 2 ^ 32) && decide (o.op < 1024)

/-- A Pavilion of 16 (R446) and a count of its admin ring (R90). -/
def AdminRef.wf (r : AdminRef) : Bool := decide (r.pav < 16) && decide (r.entry < 2 ^ 32)

/-- One of the twelve virtual channels of a port (R317), or the node itself. -/
def MsgSource.wf : MsgSource → Bool
  | .port _ vc => decide (vc < 12)
  | .sameNode => true

/-- A REGWIN access of 1 to 8 bytes (R558): the sizes and alignments the block ignores are among them. -/
def RegAccess.wf (a : RegAccess) : Bool := decide (1 ≤ a.size) && decide (a.size ≤ 8)

/-- One of the four copy-engine clusters, of the six Gather slices (R235), or the atomic unit. -/
def EngineKind.wf : EngineKind → Bool
  | .copy k => decide (k < 4)
  | .gather k => decide (k < 6)
  | .atomic => true

/-- Fields of SPDM requests within their widths: slots of four bits, offsets and lengths of sixteen, indices of eight. -/
def SpdmRequest.wf : SpdmRequest → Bool
  | .getCertificate slot off len => decide (slot < 16) && decide (off < 2 ^ 16) && decide (len < 2 ^ 16)
  | .challenge slot _ => decide (slot < 16)
  | .getMeasurements _ i _ => decide (i < 256)
  | .getVersion | .getCapabilities | .negotiateAlgorithms _ | .getDigests | .keyExchange | .finish _ | .keyUpdate _ | .heartbeat _ |
    .endSession _ | .wrongVersion | .other _ => true

/-- Lanes of thirteen, and monitors of sixteen bits (R397, R398). -/
def OpticsReading.wf : OpticsReading → Bool
  | .failed => true
  | .status _ faulty monitors => faulty.all (fun k => decide (k < 13)) &&
      monitors.all (fun m => decide (m.1 < 13) && decide (m.2.1 < 2 ^ 16) && decide (m.2.2.1 < 2 ^ 16) && decide (m.2.2.2 < 2 ^ 16))

/-- One to four trusted root keys (R428), a chain of at most 4,000 bytes (R427), carrier addresses of 56 bits (R551). -/
def RotRelease.wf (m : RotRelease) : Bool :=
  decide (1 ≤ m.rootKeys.length) && decide (m.rootKeys.length ≤ 4) && decide (m.chain.length ≤ 4000) &&
    decide (m.installAddr < 2 ^ 56) && decide (m.boardAddr < 2 ^ 56)

/-- A well-formed command. DEDUCED, log entry 147. -/
def Instr.wf : Instr → Bool
  | .regwinAccess a => a.wf
  | .adminDoorbellNotify pav => decide (pav < 16)
  | .adminDoorbellPoll pav => decide (pav < 16)
  | .adminDoorbellReadDone pav res => decide (pav < 16) && res.wf
  | .adminEntryReadDone pav res => decide (pav < 16) && res.wf
  | .adminEntryRetry pav => decide (pav < 16)
  | .adminCompletionWrite r => r.wf
  | .createChannel r => r.wf
  | .destroyChannel r => r.wf
  | .resetChannel r => r.wf
  | .registerWindow r => r.wf
  | .releaseWindow r => r.wf
  | .loadProgram r => r.wf
  | .unloadProgram r => r.wf
  | .pavilionCreate r => r.wf
  | .pavilionTeardown r => r.wf
  | .measOpen r => r.wf
  | .measSeal r => r.wf
  | .ttLoad r => r.wf
  | .purge r => r.wf
  | .spdmMsg r req => r.wf && req.wf
  | .svnCommit r => r.wf
  | .epochCommit r => r.wf
  | .pavReset r => r.wf
  | .blockReset r => r.wf
  | .serviceRestore r => r.wf
  | .anneal r => r.wf
  | .annealRelease r => r.wf
  | .belvSet r => r.wf
  | .queryChannel r => r.wf
  | .queryProgram r => r.wf
  | .queryPavilion r => r.wf
  | .queryLodgeQueues r => r.wf
  | .doorbellNotify ch => decide (ch < 4096)
  | .doorbellReadDone ch res => decide (ch < 4096) && res.wf
  | .ringEntryReadDone ch res => decide (ch < 4096) && res.wf
  | .bufferReadDone ch ring res => decide (ch < 4096) && decide (ring < 2 ^ 32) && res.wf
  | .nop o => o.wf
  | .put o => o.wf
  | .putInline o => o.wf
  | .get o => o.wf
  | .copy o => o.wf
  | .kvmove o => o.wf
  | .atomic o => o.wf
  | .wait o => o.wf
  | .signal o => o.wf
  | .fence o => o.wf
  | .gatherRun o => o.wf
  | .tagGrant pav => decide (pav < 16)
  | .measureStagingGrant slot => decide (slot < 256)
  | .requestIssue o => o.wf
  | .pageWalkDone _ res => res.wf
  | .completionTimeout tag => decide (tag < 16384)
  | .waitWatchNotify wid => decide (wid < 6224)
  | .waitPoll o => o.wf
  | .semaphoreReadDone o res => o.wf && res.wf
  | .waitTimeout o => o.wf
  | .operationComplete o => o.wf
  | .bufferComplete ch => decide (ch < 4096)
  | .signalWordWrite ch => decide (ch < 4096)
  | .engineStopped ch engine => decide (ch < 4096) && engine.wf
  | .channelRetireComplete ch => decide (ch < 4096)
  | .drainComplete ch => decide (ch < 4096)
  | .fabricDataResponse f txid bytes => decide (f < 16) && decide (txid < 1024) && decide (1 ≤ bytes.length) && decide (bytes.length ≤ 256)
  | .fabricVisibleResponse f txid => decide (f < 16) && decide (txid < 1024)
  | .fabricFaultResponse f txid => decide (f < 16) && decide (txid < 1024)
  | .fabricUeResponse f txid => decide (f < 16) && decide (txid < 1024)
  | .fabricPartReset f txid => decide (f < 16) && decide (txid < 1024)
  | .watchRefused wid => decide (wid < 6224)
  | .codewordReceive _ lane bytes => decide (lane < 13) && bytes.length == 272
  | .alignmentMarker _ lane bytes => decide (lane < 13) && bytes.length == 272
  | .laneFail _ lane _ => decide (lane < 13)
  | .slotFreed _ slot => decide (slot < 2 ^ 64)
  | .writeB src => src.wf
  | .writeS src => src.wf
  | .writeX src => src.wf
  | .readB src => src.wf
  | .readX src => src.wf
  | .atomicMessage src => src.wf
  | .copyReq src => src.wf
  | .relayTimeout tag => decide (tag < 16384)
  | .kvCmd src => src.wf
  | .kvWrite src => src.wf
  | .response src => src.wf
  | .operand src => src.wf
  | .credit src => src.wf
  | .marginMeasured _ ratios => ratios.length == 13
  | .laneBer _ lane => decide (lane < 13)
  | .opticsPoll _ reading => reading.wf
  | .opticsIbi _ reading => reading.wf
  | .keyRejectRetry _ key => decide (key < 16)
  | .keyRotationDue _ key => decide (key < 16)
  | .keyRotationStall _ key => decide (key < 16)
  | .triggerObserved slot res => decide (slot < 64) && res.wf
  | .triggerPoll slot => decide (slot < 64)
  | .runStart slot => decide (slot < 64)
  | .chunkCombine slot step => decide (slot < 64) && decide (step < 1024)
  | .stepTimeout slot step => decide (slot < 64) && decide (step < 1024)
  | .runEnd slot => decide (slot < 64)
  | .hangDeclared pav => decide (pav < 16)
  | .pwrmDomAck domain => decide (domain < 96)
  | .pwrmNoAck domain => decide (domain < 96)
  | .engineIdleE1 e => decide (e < 12)
  | .engineDeepSleep e => decide (e < 12)
  | .engineWake e => decide (e < 12)
  | .belvSample set => decide (set < 8)
  | .rotRelease m => m.wf
  | .triggerWatchNotify slot => decide (slot < 64)
  | .measureLeafHashed slot leaf => decide (slot < 256) && decide (leaf < 2 ^ 32)
  | .coldResetInput _ | .warmResetInput | .blockResetComplete | .refclkLoss | .registerWrite _ _ | .admin0Enable | .admin0Disable |
    .pwcFlush | .pwcEnWrite _ | .trainEnableWrite _ _ | .trainRetrainWrite _ | .trainTestWrite _ _ | .timeSyncEnWrite _ | .watchdogKick |
    .lodgeWatchdog | .containedAcknowledge | .captureRelease _ | .counterSatClear _ | .faultInjectionArm _ _ | .faultInjectionTakesPlace |
    .noticeConsumedWrite _ | .freeze _ _ | .doorbellSweep | .admitOperation | .paneTransmit _ | .dataPane _ | .ackPane _ | .idlePane _ |
    .nakPane _ | .retireFence _ | .voidFence _ | .nakRereport _ | .ackTimerExpiry _ | .creditTimeout _ | .resume _ | .resumeTimer _ |
    .outOfServiceCtrl _ | .mgmtMessage _ | .timePaneSend _ | .timePane _ | .timeHoldover | .timeReparent | .hello _ | .retrain _ |
    .config _ | .configAck _ | .tuneReq _ | .tuneRsp _ | .tuneDone _ | .go _ | .ready _ | .loopReq _ | .ident _ | .identAck _ |
    .trainingMsgTimeout _ | .tuningTimeout _ | .downRetry _ | .widthReq _ | .widthAck _ | .widthGo _ | .widthReqTimeout _ | .spareIn _ |
    .lpsReq _ | .lpsAck _ | .lpsExit _ | .lpsChoose _ | .lpsWake _ | .p3SignalReturn _ | .opticsMgmtRetry _ _ | .lHello _ | .lReply _ |
    .lCert _ | .lProof _ | .lDone _ | .handshakeTimeout _ | .handshakeRetry _ | .keyOffer _ | .keyAccept _ | .keySwitch _ | .keyReject _ |
    .keyLost _ | .wave _ | .waveSend _ | .linkEvent _ | .nodeEvent _ | .nodeReady | .startupBound | .podStateReport | .annealReq _ |
    .annealTa | .annealDoneMsg _ | .annealBound | .annealReleaseMsg _ | .annealTr | .ttEpoch _ | .ttWindowOpen _ | .ttWindowClose _ |
    .pav0Hang | .ackTimeout | .correctedError _ | .containedError _ | .fatalError _ | .scrub _ | .fatalHoldExpiry | .faultPulseEnd |
    .droopRise _ | .droopFallStep _ | .pwrmLtrHint _ | .noticeWrite | .rotIdentity _ _ | .rotReply _ _ | .rotReplyTimeout | .tableLoad |
    .routeTableBuilt => true

end Sys2Proof
end

