-- ==== Sys2Proof/Safety.lean ====
section
/-!
DEFINITION. What a safe run is and what claims are stated in: the invariant of the state that outlives resets, the accesses a state has asked for, and
the result an admin command has reached.
-/
namespace Sys2Proof.Machine

/-- A step does not stop: neither a fault nor a refusal. -/
def Safe (s : State) : Prop := ∃ t, step s = .next t

/-- An access is asked for: it waits for a fabric port, or it is outstanding with its 56-bit address. -/
def State.asks (s : State) (q : FabRequest) : Prop :=
  q ∈ s.fab.waiting ∨ ∃ a ∈ s.fab.out, a.op = q.op ∧ a.addr = q.addr % 2 ^ 56 ∧ a.len = q.len ∧ a.pav = q.pav ∧ a.data = q.data ∧ a.use = q.use

/-- Where an admin command stands. -/
def State.phaseOf (s : State) (r : AdminRef) : Option CmdPhase := (s.cmd r).map AdminCmd.phase

/-- A message stands ready in the queue of a first hop: of a port, or of the node's own completer (6). -/
def State.queues (s : State) (hop : Nat) (m : Msg) : Prop :=
  (hop = 6 → ∃ item ∈ s.xfer.localQ, item.msg = m ∧ item.ready = true) ∧
    ∀ h : hop < 6, ∃ item ∈ (s.port ⟨hop, h⟩).pane.txq, item.msg = m ∧ item.ready = true

/-- The next request of an operation can be formed as it stands: it goes to a completer, and its offset, and that of the source of a relayed copy, fit the
40 bits of OFFSET. -/
def OpSlot.formsNext (q : OpSlot) : Bool :=
  decide (q.body.range.1 + q.formed < 2 ^ 40) && (match q.body with
    | .put .. => true
    | .putInline .. => true
    | .get .. => true
    | .copy (.localAddr _) .. => true
    | .copy (.remote r) .. => decide (r.offset + q.formed < 2 ^ 40)
    | .kvmove _ => true
    | .atomic _ => true
    | .signal (.remote _) .. => true
    | _ => false)

/-- A block reset in progress is one the block knows (R572): power-up is source 0, the cold input source 1, a warm reset sources 2 to 5; SERVICE_RESTORE
and power-up are not recorded (R515, R516). -/
def ResetRun.ok (r : ResetRun) : Bool :=
  match r.scope with
  | .powerUp => r.source == 0 && !r.recorded
  | .cold => r.source == 1 && r.recorded
  | .warm => decide (2 ≤ r.source) && decide (r.source ≤ 5) && (r.recorded == (r.source != 5))

/-- GLOBAL.RESET_CAUSE keeps its layout (R572): SCOPE is never 3, SOURCE at most 5, the reserved bits zero. -/
def causeWordOk (w : Word) : Bool :=
  decide (bits w 17 16 < 3) && decide (bits w 11 8 ≤ 5) && bits w 23 18 == 0 && bits w 15 12 == 0 && bits w 7 2 == 0

/-- The history of completed resets is in order and lies in the past of the retained timer (R515). -/
def Retained.historyOk (r : Retained) : Bool := decide (r.history.Pairwise (· ≤ ·)) && r.history.all (fun t => decide (t ≤ r.clock))

/-- The invariant of the retained and protected state (R511, R515, R572). -/
def State.Inv (s : State) : Prop :=
  s.retained.historyOk = true ∧ (s.retained.oos = false → s.retained.nonce = 0) ∧ causeWordOk s.global.resetCause = true ∧
    s.resetRun.all ResetRun.ok = true

end Sys2Proof.Machine
end

