-- ==== Sys2Proof/Certificates/Slice0/Obligations.lean ====
section
/-!
DEFINITION. The statements for the provers. Each says which rules of spec/ it formalises; hypotheses are on the state and the operands alone, and a
conclusion of the form exec … = .next t says that the command completes.
-/
section

open Sys2Proof Sys2Proof.Machine

/-! ### The queue, the tick and reset -/

/-- The front command of the queue is executed on the state with the queue's rest. -/
def Obligations.StepRunsTheFrontCommand : Prop :=
  ∀ (c : Instr) (rest : List Instr) (s : State), s.pending = c :: rest → step s = exec c { s with pending := rest }

/-- An empty queue is one tick (DESIGN CHOICE, the model's choice, log entry 1). While the clocks run, none is held and no rate correction is in force, pod time counts
one (R301) and the retained timer with it; the block's registers, ports and queues stay. -/
def Obligations.EmptyQueueIsOneTick : Prop :=
  ∀ s : State, s.pending = [] → s.power.clocksLost = false → s.power.frozen = false → s.power.freezeAt = none → s.time.hold = 0 →
    s.time.ratePpb = 0 → s.time.phase = 0 →
    ∃ t, step s = .next t ∧ t.time = { s.time with now := s.time.now + 1 } ∧ t.retained = { s.retained with clock := s.retained.clock + 1 } ∧
      t.ports = s.ports ∧ t.front = s.front ∧ t.xfer = s.xfer ∧ t.gather = s.gather ∧ t.gate = s.gate ∧ t.lodge = s.lodge ∧ t.topo = s.topo ∧
      t.flt = s.flt ∧ t.global = s.global ∧ t.counters = s.counters ∧ t.fab = s.fab ∧ t.pins = s.pins ∧ t.pending = []

/-- What the registers of each aperture read at reset, as the register tables of the spec give it (R122, R207, R276, R314, R363, R400, R425, R462, R483,
R519, R548, R572). Model choices: log entries 3, 4. -/
def Obligations.RegistersReadTheirResetValues : Prop :=
  [0x00000, 0x00018, 0x00020, 0x10000, 0x10008, 0x10010, 0x10018, 0x10020, 0x10028, 0x10030, 0x20008, 0x30010, 0x30100, 0x40000, 0x40018, 0x50000,
      0x50008, 0x50010, 0x50018, 0x50020, 0x50028, 0x50100, 0x50110, 0x50118, 0x50120, 0xB0010, 0xB0018, 0xC0010, 0xC0018, 0xC0040, 0xD0000,
      0xD0008, 0xD0010, 0xD0028, 0xD0030, 0xD0038, 0xD0040, 0xD0048, 0xF0000, 0xF0008, 0xF0010, 0xF0018, 0xF8000, 0xF8008, 0xF8040].map
    State.reset.regRead =
  [0x4E36100000000000, 0, 0, 0, 0x400000000000000, 0, 0, 0x3E8, 0x1919191919191919, 0x1919191919191919, 0x1, 0, 0, 0, 0, 0x14000005DC,
      0x100000004, 0x400040004000400, 0x400040004000400, 0x400040004000400, 0, 0x64004E0000, 0, 0x4, 0, 0xE1000000028, 0, 0xF0032, 0x64004007D0,
      0x600000007D0, 0x2710003E89, 0, 0, 0xC8, 0, 0, 0, 0x3F3E3D3C, 0, 0x64, 0x3B00000000000008, 0, 0, 0, 0]

/-! ### The register target (R558, R570) -/

/-- R558: in both apertures a naturally aligned read of 8 bytes is answered with the register and a read of 4 bytes with the half addressed, and no read
changes anything but the answer; an aligned write of 8 bytes does what a register write does, and in the channel-page aperture nothing; a write of any
other size, and an access of any other size or alignment, returns zero, is counted in REGWIN_ERR_CNT and changes nothing else. The premise is that the
always-on initialisation is done (R559), and that the count is below saturation (R518). -/
def Obligations.RegisterTargetAnswers : Prop :=
  ∀ s : State, s.regsOpen = true →
    let answered (u : State) (x : Nat) : State := { u with pins := { u.pins with regAnswers := u.pins.regAnswers ++ [BitVec.ofNat 64 x] } }
    (∀ (page : Bool) (off : BitVec 24), off.toNat % 8 = 0 →
      let v := if page then s.pageRead off.toNat else s.regRead (off.toNat % 0x100000)
      exec (.regwinAccess ⟨page, off, 8, none⟩) s = .next (answered s v) ∧ exec (.regwinAccess ⟨page, off, 4, none⟩) s = .next (answered s (v % 2 ^ 32)) ∧
        exec (.regwinAccess ⟨page, off + 4, 4, none⟩) s = .next (answered s (v / 2 ^ 32))) ∧
    (∀ (off : BitVec 24) (v : Word), off.toNat % 8 = 0 →
      exec (.regwinAccess ⟨true, off, 8, some v⟩) s = .next (answered s 0) ∧
      ∃ u, exec (.registerWrite (off.setWidth 20) v) s = .next u ∧ exec (.regwinAccess ⟨false, off, 8, some v⟩) s = .next (answered u 0)) ∧
    (∀ a : RegAccess, (s.counter ctrRegwinErr).count < 0xFFFFFFFE → (a.size ≠ 8 ∨ a.offset.toNat % 8 ≠ 0) → (a.size ≠ 4 ∨ a.write.isSome = true ∨ a.offset.toNat % 4 ≠ 0) →
      ∃ t, exec (.regwinAccess a) s = .next t ∧ t.pins = { s.pins with regAnswers := s.pins.regAnswers ++ [0] } ∧
        (t.counter ctrRegwinErr).count = (s.counter ctrRegwinErr).count + 1 ∧ (∀ o, o ≠ ctrRegwinErr → t.counter o = s.counter o) ∧
        { t with pins := s.pins, counters := s.counters } = s)

/-- A register write lands: what is read back is what was written, within the field and its range (R122, R363, R425, R462, R483, R519, R548, R572).
Model choices: log entry 24. -/
def Obligations.RegisterWritesReadBack : Prop :=
  ∀ (s : State) (v : Word), s.regsOpen = true →
    (∃ t, exec (.registerWrite 0x00018 v) s = .next t ∧ t.regRead 0x00018 = v.toNat % 2 ^ 17) ∧
    (∃ t, exec (.registerWrite 0x10020 v) s = .next t ∧
      t.regRead 0x10020 = if v.toNat % 2 ^ 20 = 0 then 0 else max 10 (min 1000000 (v.toNat % 2 ^ 20))) ∧
    (s.front.admin0En = false → ∃ t, exec (.registerWrite 0x10010 v) s = .next t ∧ t.regRead 0x10010 = v.toNat % 2 ^ 56 / 2 ^ 12 * 2 ^ 12) ∧
    (s.front.admin0En = true → exec (.registerWrite 0x10010 v) s = .next s) ∧
    (∃ t, exec (.registerWrite 0x50000 v) s = .next t ∧
      t.regRead 0x50000 = max 2 (min 200 (v.toNat / 2 ^ 32 % 2 ^ 16)) * 2 ^ 32 + max 500 (min 20000 (v.toNat % 2 ^ 16))) ∧
    (∃ t, exec (.registerWrite 0xB0018 v) s = .next t ∧ t.regRead 0xB0018 = v.toNat % 16) ∧
    (∃ t, exec (.registerWrite 0xD0028 v) s = .next t ∧
      t.regRead 0xD0028 = if v.toNat % 2 ^ 17 = 0 then 0 else max 10 (min 100000 (v.toNat % 2 ^ 17))) ∧
    (∃ t, exec (.registerWrite 0xF8040 v) s = .next t ∧ t.regRead 0xF8040 = v.toNat % 2 ^ 17)

/-- The register writes that do something complete, and each changes what it names and nothing else (R207, R208, R303, R493, R495, R499, R518, R522,
R530). Model choices: log entry 25. -/
def Obligations.RegisterCommandsComplete : Prop :=
  ∀ s : State, s.regsOpen = true →
    exec .watchdogKick s = .next { s with lodge := { s.lodge with wdogStart := s.now } } ∧
    (∀ n, exec (.noticeConsumedWrite n) s = .next { s with lodge := { s.lodge with noticeCons := n } }) ∧
    (∀ en, exec (.timeSyncEnWrite en) s = .next { s with time := { s.time with syncEn := en } }) ∧
    exec .pwcFlush s = .next { s with xfer := { s.xfer with pwc := s.xfer.pwc.filter (fun e => !e.users.isEmpty) } } ∧
    (∀ en, ∃ t, exec (.pwcEnWrite en) s = .next t ∧ t.xfer.winCtl = en ∧ { t with xfer := s.xfer } = s) ∧
    (∀ m c, ∃ t, exec (.faultInjectionArm m c) s = .next t ∧ t.flt.injArmed = true ∧
      (s.flt.injArmed = false → t.flt.injChecker = c ∧ (m ≠ 3 → t.flt.injMode = m)) ∧
      (s.flt.injArmed = true → t.flt.injChecker = s.flt.injChecker ∧ t.flt.injMode = s.flt.injMode) ∧ { t with flt := s.flt } = s) ∧
    (∃ t, exec .containedAcknowledge s = .next t ∧ t.flt.contained = false ∧
      (∀ k ∈ t.flt.capture, k.cls ≠ .contained) ∧ (∀ k ∈ s.flt.capture, k.cls ≠ .contained → t.flt.capture = s.flt.capture) ∧ { t with flt := s.flt } = s) ∧
    (∀ fatal, ∃ t, exec (.captureRelease fatal) s = .next t ∧ (∀ k ∈ t.flt.capture, k.cls ≠ if fatal then .fatal else .corrected) ∧
      (fatal = false → t.flt.corrected = false) ∧ (fatal = true → t.flt.corrected = s.flt.corrected) ∧ { t with flt := s.flt } = s) ∧
    (∀ off, isCounter off.toNat = true → ∃ t, exec (.counterSatClear off) s = .next t ∧ t.counter off.toNat = {} ∧
      (∀ o, o ≠ off.toNat → t.counter o = s.counter o) ∧ { t with counters := s.counters } = s)

/-- ENABLE, TEST and RETRAIN of TRAIN_CTL move the link state as R373 and R400 say: ENABLE 1 takes a port that is DOWN and not in test to TRAINING, its
domains asked for (R472), but one that P4 left off stays in P4 at a droop level of 2 or 3 (R481); ENABLE 0 takes any port DOWN, TEST 1 takes a port not in test DOWN, and RETRAIN takes a port in service to RETRAINING; the other ports keep their link state.
ENABLE 1 on a port that R411 or R442 disabled changes nothing. Model choices: log entries 26, 27. -/
def Obligations.TrainControlMovesTheLink : Prop :=
  ∀ (s : State) (p : PortIx), s.regsOpen = true →
    ((Table.get ({} : TopoPort) s.topo.ports p.val).disabled = true → exec (.trainEnableWrite p true) s = .next s) ∧
    ((Table.get ({} : TopoPort) s.topo.ports p.val).disabled = false → (s.port p).pane.link = .down → (s.port p).lane.testing = false →
      let powered := (portDomains p).all s.power.domOn
      (s.power.level < 2 ∨ powered = true → ∃ t, exec (.trainEnableWrite p true) s = .next t ∧ (t.port p).pane.link = .training ∧ (t.port p).lane.enabled = true ∧
        ∀ d ∈ portDomains p, s.power.domOn d = true ∨ t.power.domReqs.any (fun r => r.domain == d) = true) ∧
      (2 ≤ s.power.level → powered = false → ∃ t, exec (.trainEnableWrite p true) s = .next t ∧ (t.port p).pane.link = .down ∧ (t.port p).lane.enabled = true ∧
        (t.port p).lane.lpsState = 4 ∧ t.power = s.power)) ∧
    (∃ t, exec (.trainEnableWrite p false) s = .next t ∧ (t.port p).pane.link = .down ∧ (t.port p).lane.enabled = false ∧
      ∀ q, q ≠ p → (t.port q).pane.link = (s.port q).pane.link) ∧
    ((s.port p).lane.testing = false →
      ∃ t, exec (.trainTestWrite p true) s = .next t ∧ (t.port p).pane.link = .down ∧ (t.port p).lane.testing = true) ∧
    (s.serving p = true → ∃ t, exec (.trainRetrainWrite p) s = .next t ∧ (t.port p).pane.link = .retraining ∧ (t.port p).lane.causeOwn = lcSw) ∧
    (s.serving p = false → (s.port p).pane.link ≠ .retraining →
      ∃ t, exec (.trainRetrainWrite p) s = .next t ∧ (t.port p).lane.retrainDue = true ∧ (t.port p).pane = (s.port p).pane)

/-! ### Admin rings (R85 to R92, R105, R124, R577) -/

/-- ADMIN0_EN (R124): an enable with no command of the previous one outstanding starts the Pavilion 0 ring from the FRONT registers, counts at zero and
PHASE 1, arms its watch and reads TAIL once; a disable stops it and disarms the watch. R101, R102, R105: a notification or a poll reads TAIL; the
answer becomes the ring's TAIL, ADMIN_OVERRUN is raised beyond the ring size, and an entry faulted a millisecond ago is read again. An answer to a read of an earlier start is taken for nothing. R90: a returned
entry of a ring with entries pending is taken: HEAD and TAKEN pass it, and its eight words wait for their unit. Model choices: log entry 35. -/
def Obligations.AdminRingsAreFed : Prop :=
  (∀ s : State, s.regsOpen = true →
    (s.front.admin0En = false → s.ringBusy 0 = false →
      ∃ t, exec .admin0Enable s = .next t ∧ t.front.admin0En = true ∧ (t.ring 0).enabled = true ∧
        (t.ring 0).base = bits s.front.admin0Ring 55 12 * 4096 ∧ (t.ring 0).log2 = bits s.front.admin0Ring 59 56 ∧
        (t.ring 0).head = 0 ∧ (t.ring 0).next = 0 ∧ (t.ring 0).phase = true ∧ 4096 ∈ t.watch.armed ∧
        t.asks { op := .read, addr := bits s.front.admin0Db 55 6 * 64, len := 4, pav := 0, use := .adminDoorbell 0 ((s.ring 0).epoch + 1) }) ∧
    (s.front.admin0En = true →
      ∃ t, exec .admin0Disable s = .next t ∧ t.front.admin0En = false ∧ (t.ring 0).enabled = false ∧ 4096 ∉ t.watch.armed ∧
        t.front.cmds = s.front.cmds ∧ t.front.chans = s.front.chans)) ∧
  (∀ (s : State) (pav : Nat), s.live = true → (s.ring pav).enabled = true →
    let read : FabRequest := { op := .read, addr := (s.ring pav).db, len := 4, pav := pav, use := .adminDoorbell pav (s.ring pav).epoch }
    (s.watching (4096 + pav) = true → ∃ t, exec (.adminDoorbellNotify pav) s = .next t ∧ t.asks read ∧ t.front = s.front ∧ t.ports = s.ports) ∧
    (s.adminPollDue pav = true → ∃ t, exec (.adminDoorbellPoll pav) s = .next t ∧ t.asks read ∧
      t.ring pav = { s.ring pav with lastPoll := s.now } ∧ t.front.chans = s.front.chans ∧ t.ports = s.ports) ∧
    (∀ res, s.hasUse (isAdminDb pav) = true → s.useEpoch (isAdminDb pav) ≠ (s.ring pav).epoch →
      ∃ t, exec (.adminDoorbellReadDone pav res) s = .next t ∧ t.ring pav = s.ring pav ∧ t.flt = s.flt) ∧
    (∀ res, s.hasUse (isAdminEntry pav) = true → s.useEpoch (isAdminEntry pav) ≠ (s.ring pav).epoch →
      ∃ t, exec (.adminEntryReadDone pav res) s = .next t ∧ t.ring pav = s.ring pav ∧ t.front.cmds = s.front.cmds) ∧
    (∀ l, s.hasUse (isAdminDb pav) = true → s.useEpoch (isAdminDb pav) = (s.ring pav).epoch →
      ∃ t, exec (.adminDoorbellReadDone pav (.data l)) s = .next t ∧ (t.ring pav).tail = BitVec.ofNat 32 (leAt l 0 4) ∧
        (t.ring pav).head = (s.ring pav).head ∧
        (t.ring pav).overrun = decide (2 ^ (s.ring pav).log2 < (BitVec.ofNat 32 (leAt l 0 4) - (s.ring pav).head).toNat) ∧
        t.front.chans = s.front.chans ∧ t.ports = s.ports) ∧
    ((s.ring pav).faultAt.any (fun f => s.usPassed f 1000) = true →
      ∃ t, exec (.adminEntryRetry pav) s = .next t ∧ (t.ring pav).faultAt = none ∧
        ((s.ring pav).entryOut = false → 1 ≤ (s.ring pav).pending → (s.ring pav).pending ≤ 2 ^ (s.ring pav).log2 → (t.ring pav).entryOut = true) ∧
        t.front.chans = s.front.chans ∧ t.ports = s.ports)) ∧
  (∀ (s : State) (pav : Nat) (l : List Byte), s.live = true → s.hasUse (isAdminEntry pav) = true → s.useEpoch (isAdminEntry pav) = (s.ring pav).epoch →
    (s.ring pav).enabled = true → (s.ring pav).entryOut = true → 1 ≤ (s.ring pav).pending → (s.ring pav).pending ≤ 2 ^ (s.ring pav).log2 →
    ∃ t, exec (.adminEntryReadDone pav (.data l)) s = .next t ∧ (t.ring pav).head = (s.ring pav).head + 1 ∧
      (t.ring pav).taken = (s.ring pav).taken + 1 ∧
      (∃ c ∈ t.front.cmds, c.pav = pav ∧ c.entry = (s.ring pav).head.toNat ∧ c.words = wordsOf l 8) ∧
      t.front.chans = s.front.chans ∧ t.ports = s.ports)

/-- R88, R90: the first command of its ring to have finished is completed by one write of 32 bytes into the next slot of the completion ring; PHASE,
ADMIN_STATUS, COOKIE, RETRY_AFTER, TAKEN and the results are in their places, and the slot advances, PHASE inverted on each pass. QUERY (R524) answers
from the state and changes nothing but its own completion: STATUS, COMPLETED and HEAD of a channel, the status of a program slot, of a Pavilion, and
of the queues of the Lodge firmware. Model choices: log entry 20. -/
def Obligations.CompletionsAndQueries : Prop :=
  (∀ (s : State) (r : AdminRef) (c : AdminCmd) (st ra r1 r2 r3 : Nat), s.live = true → s.firstDone r = true → s.cmd r = some c →
    c.phase = .finished st ra r1 r2 r3 →
    let q := s.ring r.pav
    ∃ t, exec (.adminCompletionWrite r) s = .next t ∧ t.cmd r = none ∧
      t.ring r.pav = (if q.next + 1 = 2 ^ q.log2 then { q with next := 0, phase := !q.phase } else { q with next := q.next + 1 }) ∧
      t.asks { op := .write, addr := q.cmpl + 32 * q.next, len := 32, pav := r.pav, use := .adminCompletion r.pav,
               data := leBytes 8 (b2n q.phase + place st 8 8 + place (bits (c.words.getD 0 0) 31 16) 16 16 + place ra 32 16 + place q.taken.toNat 48 16) ++
                 leBytes 8 r1 ++ leBytes 8 r2 ++ leBytes 8 r3 } ∧
      t.front.chans = s.front.chans ∧ t.ports = s.ports ∧ t.counters = s.counters ∧ t.flt = s.flt) ∧
  (∀ (s : State) (r : AdminRef), (s.cmdD r).zeroArgs [3, 4, 5, 6, 7] = true →
    let arg := (s.cmdD r).arg 2
    let onlyAnswers (c : Instr) (r1 r2 r3 : Nat) : Prop := ∃ t, exec c s = .next t ∧ t.phaseOf r = some (.finished 0 0 r1 r2 r3) ∧
      t.front.doneQ = s.front.doneQ ++ [r] ∧
      { t with front := { t.front with cmds := s.front.cmds, doneQ := s.front.doneQ }, lodge := { t.lodge with items := s.lodge.items } } = s
    (∀ i, s.live = true → s.queryIs r 1 = true → bits arg 63 24 = 0 → ((s.cmdD r).pav = 0 ∨ bits arg 15 12 = (s.cmdD r).pav) →
      s.chanOf (bits arg 31 0) = some i →
      onlyAnswers (.queryChannel r) (s.chan i).statusWord (s.chan i).completed.toNat (s.chan i).head.toNat) ∧
    (s.live = true → s.queryIs r 2 = true → bits arg 63 6 = 0 → (s.cmdD r).pav = 0 →
      onlyAnswers (.queryProgram r) (s.gather.progStatus (bits arg 5 0)) 0 0) ∧
    (s.queryIs r 3 = true → s.lodgeTurn r = true → bits arg 63 4 = 0 → ((s.cmdD r).pav = 0 ∨ bits arg 3 0 = (s.cmdD r).pav) →
      onlyAnswers (.queryPavilion r) (s.pavStatus (bits arg 3 0)) 0 0) ∧
    (s.queryIs r 4 = true → s.lodgeTurn r = true → arg = 0 →
      onlyAnswers (.queryLodgeQueues r) (s.working r).lodge.queueWord 0 0))

/-! ### Channels (03) -/

/-- CREATE_CHANNEL (R94, R95): with arguments in range and an index free, the lowest free index of the Pavilion becomes ACTIVE with the rings and the type
of the arguments, its watch is armed, TAIL is read, and the completion names the handle; every other channel stays. DESTROY_CHANNEL and RESET_CHANNEL
(R96, R97, R118, R119): an idle index whose handle is live goes to RETIRING, draining unless ABORT is set or the channel had failed, and its watch is
disarmed. Stopping, draining and retiring (R118 to R120): an engine at its safe point leaves the list of those the retirement waits for; a drained
channel retires; a retirement with no buffer and no record left frees the index under the next generation and completes its command with COMPLETED.
Model choices: log entry 45. -/
def Obligations.ChannelsLiveAndRetire : Prop :=
  (∀ (s : State) (r : AdminRef) (i : Nat), s.live = true → s.cmdIs r 0x01 = true → createArgsOk (s.cmdD r) = true →
    s.freeChan (s.cmdD r).pav = some i →
    let c := s.cmdD r
    ∃ t, exec (.createChannel r) s = .next t ∧ (t.chan i).state = .active ∧ (t.chan i).pav = c.pav ∧ (t.chan i).gen = (s.chan i).gen ∧
      (t.chan i).ringBase = bits (c.arg 1) 55 0 ∧ (t.chan i).ringLog2 = bits (c.arg 1) 60 56 ∧ (t.chan i).doorbell = bits (c.arg 2) 55 0 ∧
      (t.chan i).typ = bits (c.arg 3) 1 0 ∧ (t.chan i).head = 0 ∧ (t.chan i).completed = 0 ∧ i ∈ t.watch.armed ∧
      t.asks { op := .read, addr := bits (c.arg 2) 55 0, len := 4, pav := c.pav, use := .doorbell i (s.chan i).gen.toNat .normal } ∧
      t.phaseOf r = some (.finished 0 0 (place i 0 12 + place c.pav 12 4 + place (s.chan i).gen.toNat 16 8) 0 0) ∧
      (∀ j, j ≠ i → t.chan j = s.chan j) ∧ t.ports = s.ports ∧ t.gather = s.gather ∧ t.counters = s.counters) ∧
  (∀ (s : State) (r : AdminRef) (i : Nat), channelCmdRefused (s.cmdD r) = none → s.chanOf (bits ((s.cmdD r).arg 1) 31 0) = some i →
    (s.channelCmdDue r 0x02 = true →
      ∃ t, exec (.destroyChannel r) s = .next t ∧ (t.chan i).state = .retiring ∧ (t.chan i).cmd = some r ∧ i ∉ t.watch.armed ∧
        ((bit ((s.cmdD r).arg 2) 0 = true ∨ (s.chan i).state = .guilty ∨ (s.chan i).state = .error) → (t.chan i).retire.isSome = true) ∧
        (bit ((s.cmdD r).arg 2) 0 = false → (s.chan i).state = .active → (t.chan i).drain.isSome = true)) ∧
    (s.channelCmdDue r 0x03 = true →
      ∃ t, exec (.resetChannel r) s = .next t ∧ (t.chan i).state = .retiring ∧ (t.chan i).cmd = some r ∧ i ∉ t.watch.armed ∧
        (t.chan i).retire.map Retire.next = some (.reset (bit ((s.cmdD r).arg 2) 0)))) ∧
  (∀ (s : State) (ch : Nat), s.live = true →
    (∀ e, e ∈ (s.chan ch).stopping → s.engineIdle ch e = true → ∃ t, exec (.engineStopped ch e) s = .next t ∧ e ∉ (t.chan ch).stopping) ∧
    ((s.chan ch).drained = true → ∃ t, exec (.drainComplete ch) s = .next t ∧ (t.chan ch).state = .retiring ∧ (t.chan ch).drain = none ∧
      (t.chan ch).retire.map Retire.next = some .free) ∧
    (∀ q r, s.retireDue ch = true → (s.chan ch).retire = some q → q.next = .free → (s.chan ch).bufs = [] → (s.chan ch).recs = [] →
      (s.chan ch).cmd = some r → (s.cmd r).any AdminCmd.unfinished = true →
      ∃ t, exec (.channelRetireComplete ch) s = .next t ∧ (t.chan ch).state = .free ∧ (t.chan ch).gen = (s.chan ch).gen + 1 ∧
        t.phaseOf r = some (.finished 0 0 (s.chan ch).completed.toNat 0 0) ∧ (∀ j, j ≠ ch → t.chan j = s.chan j) ∧ t.ports = s.ports))

/-- The doorbells of channels (R100 to R103): a notification reads TAIL and, where an entry may be read, the entry at HEAD with it; a sweep reads TAIL of
every ACTIVE channel; the answer becomes TAIL, and one beyond the ring puts the channel in ERROR with cause DB_OVERRUN. Entries, buffers and admission
(R98, R99, R107, R127, R142, R143): a ring entry read names a buffer, or waits while its doorbell read is out or the channel is PAUSED; a buffer read
brings its header and operations, a malformed header makes the channel GUILTY; and admission takes the operations of a begun
buffer one by one in index order. Model choices: log entries 43, 155. -/
def Obligations.BuffersAreFetched : Prop :=
  (∀ s : State, s.live = true →
    (∀ ch, s.watching ch = true → (s.chan ch).state ≠ .free → (s.chan ch).state ≠ .retiring →
      ∃ t, exec (.doorbellNotify ch) s = .next t ∧
        t.asks { op := .read, addr := (s.chan ch).doorbell, len := 4, pav := (s.chan ch).pav, use := .doorbell ch (s.chan ch).gen.toNat .normal } ∧
        (s.mayReadEntry ch = true → (t.chan ch).entry = some { ring := (s.chan ch).head.toNat, serial := (s.chan ch).entrySeq, spec := true } ∧
          (t.chan ch).entrySeq = (s.chan ch).entrySeq + 1) ∧
        (∀ j, j ≠ ch → t.chan j = s.chan j) ∧ t.ports = s.ports) ∧
    (s.sweepUs ≠ 0 → s.usPassed s.front.lastSweep s.sweepUs = true →
      ∃ t, exec .doorbellSweep s = .next t ∧ t.front.lastSweep = s.now ∧
        (∀ i ∈ s.chanList, (s.chan i).state = .active →
          t.asks { op := .read, addr := (s.chan i).doorbell, len := 4, pav := (s.chan i).pav, use := .doorbell i (s.chan i).gen.toNat .normal }) ∧
        t.front.chans = s.front.chans ∧ t.ports = s.ports) ∧
    (∀ ch l, s.hasUse (isDoorbell ch (s.chan ch).gen.toNat) = true → s.doorbellWhy ch = .normal → (s.chan ch).state = .active →
      (s.chan ch).drain = none →
      ∃ t, exec (.doorbellReadDone ch (.data l)) s = .next t ∧ (t.chan ch).tail = BitVec.ofNat 32 (leAt l 0 4) ∧
        (2 ^ (s.chan ch).ringLog2 < (BitVec.ofNat 32 (leAt l 0 4) - (s.chan ch).head).toNat → (t.chan ch).state = .error ∧ (t.chan ch).cause = 5) ∧
        t.ports = s.ports)) ∧
  (∀ s : State, s.live = true →
    (∀ ch l e a n, s.hasUse (isEntry ch (s.chan ch).gen.toNat) = true → (s.chan ch).entry = some e → e.serial = s.entrySerial ch → e.spec = false →
      (s.chan ch).state ≠ .paused → decodeEntry l = some (a, n) →
      ∃ t, exec (.ringEntryReadDone ch (.data l)) s = .next t ∧ (t.chan ch).entry = none ∧
        ∃ b ∈ (t.chan ch).bufs, b.ring = (s.chan ch).head.toNat ∧ b.addr = a ∧ b.lines = n) ∧
    (∀ ch l e, s.hasUse (isEntry ch (s.chan ch).gen.toNat) = true → (s.chan ch).entry = some e → e.serial = s.entrySerial ch →
      (e.spec = true ∨ (s.chan ch).state = .paused) →
      ∃ t, exec (.ringEntryReadDone ch (.data l)) s = .next t ∧ (t.chan ch).entry = some { e with res := some (.data l) } ∧
        (t.chan ch).bufs = (s.chan ch).bufs) ∧
    (∀ ch ring l b, s.hasUse (isBuffer ch (s.chan ch).gen.toNat ring) = true → (s.chan ch).buf ring = some b → b.reading = true → b.begun = false →
      (s.chan ch).bufs.filter (fun x => !x.begun) = [b] → b.hdr = none → b.read ≤ 64 →
      (∀ h, decodeHeader (l.take 64) b.lines = some h → h.sigwordEn = false → firstBad (decodeOps l 0) 0 = none →
        ∃ t, exec (.bufferReadDone ch ring (.data l)) s = .next t ∧
          ∃ x ∈ (t.chan ch).bufs, x.ring = ring ∧ x.got = true ∧ x.hdr = some h ∧ x.ops = decodeOps l 0) ∧
      (decodeHeader (l.take 64) b.lines = none → (s.chan ch).state = .active → (s.chan ch).canBegin = true → s.annealed (s.chan ch).pav = false →
        ∃ t, exec (.bufferReadDone ch ring (.data l)) s = .next t ∧ (t.chan ch).state = .guilty ∧ (t.chan ch).failStatus = stMalformed ∧
          (t.chan ch).failOp = failHeader)) ∧
    (∀ i rt b, s.awake 11 = true → s.scoreboard < 16384 → s.admitFrom = some (i, rt) → (s.chan i).admitting = some b →
      ∃ t, exec .admitOperation s = .next t ∧ (t.chan i).admSeq = (s.chan i).admSeq + 1 ∧
        (∀ p, (b.ops[b.admitted]?).bind OpSlot.oper = some p → p.measure = false → s.nodeCheck (s.chan i).pav p.body = none →
          (s.chan i).waitingBuf = none → ∃ x ∈ (t.chan i).bufs, x.ring = b.ring ∧ x.admitted = b.admitted + 1)))

/-! ### The fabric (R552, R553, R512) -/

/-- Every response answers the access it names (R552, R512): DATA to the read of an admin doorbell becomes TAIL; FAULT, UE and PART_RESET leave TAIL and
capture their causes; VISIBLE of an admin completion interrupts where the ring's bit of GLOBAL.CTL enables it (R567). R557: a watch the carrier
refuses is treated as absent, and nothing else changes. R553: a carrier that answers an access which is not outstanding breaks its obligations; the
model stops there (Fault.carrierProtocol). Model choices: log entry 139. -/
def Obligations.FabricAnswers : Prop :=
  (∀ (s : State) (f x pav : Nat) (a : FabAccess), s.live = true → s.access f x = some a → a.old = none → a.vis = false → (s.ring pav).enabled = true →
    (∀ l, a.op = .read → a.use = .adminDoorbell pav (s.ring pav).epoch → l.length = a.len →
      ∃ t, exec (.fabricDataResponse f x l) s = .next t ∧ (t.ring pav).tail = BitVec.ofNat 32 (leAt l 0 4) ∧ t.front.chans = s.front.chans ∧ t.ports = s.ports) ∧
    (a.op = .read → a.use = .adminDoorbell pav (s.ring pav).epoch → s.flt.capture = none →
      let caught (t : State) (cause : Nat) : Prop := (∃ c, t.flt.capture = some c ∧ c.cls = .contained ∧ c.report.cause = BitVec.ofNat 8 cause ∧
          c.report.addr = BitVec.ofNat 56 (s.ring pav).db ∧ c.report.pav = BitVec.ofNat 4 pav) ∧ t.flt.contained = true ∧
        (t.ring pav).tail = (s.ring pav).tail ∧ t.front.chans = s.front.chans ∧ t.ports = s.ports
      (∃ t, exec (.fabricFaultResponse f x) s = .next t ∧ caught t 0x15) ∧ (∃ t, exec (.fabricUeResponse f x) s = .next t ∧ caught t 0x15) ∧
        (∃ t, exec (.fabricPartReset f x) s = .next t ∧ caught t 0x13)) ∧
    (a.op = .write → a.use = .adminCompletion pav → pav < 16 → s.global.ctl.getLsbD pav = true → bit s.global.ctl 16 = true → (s.ring pav).wanted = false →
      ∃ t, exec (.fabricVisibleResponse f x) s = .next t ∧ t.pins.msi = s.pins.msi ++ [BitVec.ofNat 6 pav] ∧ t.front.chans = s.front.chans ∧ t.ports = s.ports)) ∧
  (∀ (s : State) (wid : Nat), s.clocked = true → wid ∈ s.watch.armed → wid ∉ s.watch.refused →
    exec (.watchRefused wid) s = .next { s with watch := { s.watch with refused := s.watch.refused ++ [wid] } }) ∧
  (∀ (s : State) (f x : Nat), s.power.clocksLost = false → s.power.frozen = false → s.access f x = none →
    (∀ l, exec (.fabricDataResponse f x l) s = .fault .carrierProtocol) ∧ exec (.fabricVisibleResponse f x) s = .fault .carrierProtocol ∧
      exec (.fabricFaultResponse f x) s = .fault .carrierProtocol ∧ exec (.fabricUeResponse f x) s = .fault .carrierProtocol ∧
      exec (.fabricPartReset f x) s = .fault .carrierProtocol)

/-! ### Operations (R37 to R46, R145 to R160, R184) -/

/-- An operation its engine can take starts running (R145, R184): of a copy engine in the cluster R184 picks, where the requests of PUT, PUT_INLINE, GET,
COPY and KVMOVE follow; ATOMIC and a SIGNAL of a remote semaphore in the atomic unit. Nothing is sent yet, and every other channel, the transfers in
progress, the fabric and the ports stay. Model choices: log entry 6. -/
def Obligations.OperationsAreTaken : Prop :=
  ∀ (s : State) (o : OpRef) (p : Operation) (q : OpSlot), s.takeable o = some p → s.opOf o = some q →
    let runs (c : Instr) (cl : Nat) : Prop := ∃ t, exec c s = .next t ∧ t.opOf o = some { q with phase := .running, cluster := cl } ∧
      (∀ j, j ≠ o.chan → t.chan j = s.chan j) ∧ t.xfer = s.xfer ∧ t.fab = s.fab ∧ t.watch = s.watch ∧ t.ports = s.ports ∧ t.gather = s.gather ∧
      t.counters = s.counters ∧ t.belv = s.belv ∧ t.lodge = s.lodge
    let copies (c : Instr) : Prop := runs c (s.pickCluster (s.chan o.chan).pav)
    (∀ src d n m, p.body = .put src d n m → copies (.put o)) ∧
    (∀ d n l, p.body = .putInline d n l → copies (.putInline o)) ∧
    (∀ dst r n m, p.body = .get dst r n m → copies (.get o)) ∧
    (∀ src d n m, p.body = .copy src d n m → copies (.copy o)) ∧
    (∀ k, p.body = .kvmove k → k.srcNode ≠ s.topo.node → copies (.kvmove o)) ∧
    (∀ a, p.body = .atomic a → runs (.atomic o) q.cluster) ∧
    (∀ r mode v, p.body = .signal (.remote r) mode v → s.earlierOpen o q = [] → runs (.signal o) q.cluster)

/-- R43: a SIGNAL of a semaphore of the own node, once every operation of its channel admitted before it has completed, is one fabric atomic of 8 bytes.
NOP and FENCE complete OK (R42, R149): the first when its dependencies have, the second when every operation of its channel admitted before it has.
WAIT (R44, R159, R160): taken, it holds a watch when one is free and reads its semaphore; a notification, or a microsecond without a watch, reads it
again; a value at or above the threshold ends it OK, a lower one leaves it waiting, and its timeout ends it WAIT_TIMEOUT, which stops no channel.
Model choices: log entries 49, 54, 148, 154. -/
def Obligations.LocalOperationsRun : Prop :=
  (∀ (s : State) (o : OpRef) (p : Operation) (q : OpSlot) (a mode : Nat) (v : Word), s.takeable o = some p → s.opOf o = some q →
    p.body = .signal (.localAddr a) mode v → s.earlierOpen o q = [] → s.atomicsHeld < 512 →
    ∃ t, exec (.signal o) s = .next t ∧ t.opOf o = some { q with phase := .running, allFormed := true, out := 1 } ∧
      t.asks { op := .atomic, addr := a, len := 8, pav := (s.chan o.chan).pav, data := leBytes 8 v.toNat, subop := 0x80 + mode, fmt := 5,
               use := .semAtomic o (s.chan o.chan).gen.toNat } ∧
      (∀ j, j ≠ o.chan → t.chan j = s.chan j) ∧ t.xfer = s.xfer ∧ t.ports = s.ports) ∧
  (∀ (s : State) (o : OpRef) (p : Operation) (q : OpSlot), s.takeable o = some p → s.opOf o = some q →
    let ends (c : Instr) : Prop := ∃ t, exec c s = .next t ∧
      t.opOf o = some { q with phase := .ended, status := 0, flags := 0, allFormed := true, out := 0 } ∧
      (∀ j, j ≠ o.chan → t.chan j = s.chan j) ∧ t.fab = s.fab ∧ t.ports = s.ports ∧ t.counters = s.counters
    (p.body = .nop → ends (.nop o)) ∧ (p.body = .fence → s.earlierOpen o q = [] → ends (.fence o))) ∧
  (∀ (s : State) (o : OpRef) (q : OpSlot) (a : Nat) (th : Word) (ns : Nat), s.live = true → s.opOf o = some q → q.body = .wait a th ns →
    let asksSem (t : State) : Prop := t.asks { op := .read, addr := a, len := 8, pav := (s.chan o.chan).pav, use := .semRead o (s.chan o.chan).gen.toNat }
    let elsewhere (t : State) : Prop := (∀ j, j ≠ o.chan → t.chan j = s.chan j) ∧ t.ports = s.ports
    ((s.takeable o).isSome = true →
      ∃ t, exec (.wait o) s = .next t ∧ asksSem t ∧
        t.opOf o = some { q with phase := .running, armed := s.now, wid := s.freeWait, lastRead := s.now } ∧
        (∀ w, s.freeWait = some w → w ∈ t.watch.armed ∧ w ∉ t.watch.refused ∧ (w, o) ∈ t.front.waits) ∧ elsewhere t) ∧
    (q.phase = .running →
      (∀ wid, s.front.waits.find? (fun w => w.1 == wid) = some (wid, o) → s.watching wid = true →
        ∃ t, exec (.waitWatchNotify wid) s = .next t ∧ asksSem t ∧ t.opOf o = some { q with lastRead := s.now } ∧ elsewhere t) ∧
      ((q.wid = none ∨ ∃ w, q.wid = some w ∧ w ∈ s.watch.refused) → s.usPassed q.lastRead 1 = true →
        ∃ t, exec (.waitPoll o) s = .next t ∧ asksSem t ∧ t.opOf o = some { q with lastRead := s.now } ∧ elsewhere t) ∧
      (∀ l, s.hasUse (isSemRead o (s.chan o.chan).gen.toNat) = true → (s.chan o.chan).state ≠ .free →
        (th.toNat ≤ leAt l 0 8 → ∃ t q2, exec (.semaphoreReadDone o (.data l)) s = .next t ∧ t.opOf o = some q2 ∧ q2.phase = .ended ∧ q2.status = 0 ∧
          elsewhere t) ∧
        (leAt l 0 8 < th.toNat → ∃ t, exec (.semaphoreReadDone o (.data l)) s = .next t ∧ t.opOf o = some q ∧ t.front = s.front ∧ t.ports = s.ports)) ∧
      (s.nsExpired q.armed ns = true →
        ∃ t q2, exec (.waitTimeout o) s = .next t ∧ t.opOf o = some q2 ∧ q2.phase = .ended ∧ q2.status = 0x22 ∧
          (t.chan o.chan).state = (s.chan o.chan).state ∧ elsewhere t)))

/-- The end of operations, buffers and signal words (R37, R38, R114, R135, R136): an operation whose requests have all completed well ends with its
status; one of a status of R114 makes an active channel GUILTY and is the first failure; the head buffer of an active channel, all its operations
complete, is counted and gone; a signal word takes a tag of its Pavilion, or waits for one. What is said of other channels is said while no measurement
slot is open (R204). Model choices: log entries 41, 153. -/
def Obligations.OperationsAndBuffersComplete : Prop :=
  ∀ (s : State), s.live = true →
    (∀ o q, s.opOf o = some q → s.opDone o = true →
      (goodStatus q.endStatus = true →
        ∃ t q2, exec (.operationComplete o) s = .next t ∧ t.opOf o = some q2 ∧ q2.phase = .ended ∧ q2.status = q.endStatus ∧
          (t.chan o.chan).state = (s.chan o.chan).state ∧ t.ports = s.ports ∧
          ((∀ k, (s.meas k).state ≠ .opened) → q2 = { q with phase := .ended, status := q.endStatus, allFormed := true, out := 0 } ∧
            ∀ j, j ≠ o.chan → t.chan j = s.chan j)) ∧
      (guiltyStatus q.endStatus = true → (s.chan o.chan).state = .active →
        ∃ t, exec (.operationComplete o) s = .next t ∧ (t.chan o.chan).state = .guilty ∧ (t.chan o.chan).failStatus = q.endStatus ∧
          (t.chan o.chan).failOp = o.op ∧ t.ports = s.ports ∧ ((∀ k, (s.meas k).state ≠ .opened) → ∀ j, j ≠ o.chan → t.chan j = s.chan j))) ∧
    (∀ ch b st k, s.bufferDone ch = some (b, st, k) → (s.chan ch).waitingBuf = none →
      ∃ t, exec (.bufferComplete ch) s = .next t ∧ (t.chan ch).completed = (s.chan ch).completed + 1 ∧
        (∀ x ∈ (t.chan ch).bufs, x.ring ≠ b.ring) ∧ (∀ j, j ≠ ch → t.chan j = s.chan j) ∧ t.ports = s.ports ∧
        (∀ h, b.hdr = some h → b.faulty = false → h.recordEn = true → ∃ q : FabRequest, t.asks q ∧ q.op = .write ∧ q.addr = h.recordAddr ∧ q.len = 32 ∧
          q.use = .record ch (s.chan ch).gen.toNat b.ring)) ∧
    (∀ ch r, (s.chan ch).nextSig = some r → s.waitsTag (.sigWord ch) = false → s.annealed (s.chan ch).pav = false →
      (s.tagFree (s.chan ch).pav = true →
        ∃ t, exec (.signalWordWrite ch) s = .next t ∧ (∃ a ∈ t.xfer.tags.used, a.owner = .sigWord ch ∧ a.dest = r.hdr.sigNode ∧ a.len = 8) ∧
          (t.chan ch).recs = (s.chan ch).recs.filter (fun x => x != r)) ∧
      (s.tagFree (s.chan ch).pav = false →
        ∃ t, exec (.signalWordWrite ch) s = .next t ∧ ((s.chan ch).pav, .sigWord ch) ∈ t.xfer.tags.waiting ∧ t.front = s.front))

/-! ### Requests of this node (R61 to R63, R185 to R188, R201 to R206) -/

/-- REQUEST_ISSUE and TAG_GRANT of an operation that is neither measured nor a KVMOVE of the own node, within the 40-bit OFFSET: its request takes the
next tag of the first-in first-out order with that tag's next use count, and the operation counts it; with no tag free it waits for one (R61, R62,
R185, R186). RESPONSE (R61): one that names no tag in use, or carries another SGEN or USE, is dropped and counted late; one that matches frees the
tag, and a write's completes one request of its operation, or fails the operation with the status it carries, the first failure standing (R37, R77).
COMPLETION_TIMEOUT (R63): the tag is freed and its operation fails, PEER_DOWN where the route is down, else TIMEOUT. RELAY_TIMEOUT (R188): the tag is
freed, the copy request is gone, and nothing more is sent. Before its time neither does anything. Model choices: log entry 9. -/
def Obligations.RequestsAndTags : Prop :=
  (∀ (s : State) (o : OpRef) (q : OpSlot), s.opOf o = some q → q.measAt = none → s.jobOf o = none → s.heldWrite o = none →
    let formed (c : Instr) : Prop := ∃ t a, exec c s = .next t ∧ a ∈ t.xfer.tags.used ∧ a.owner = .op o ∧ a.tag = s.nextTag.1 ∧ a.use = s.nextTag.2 ∧
      a.pav = (s.chan o.chan).pav ∧ a.issued = s.now ∧ t.xfer.tags.used.length = s.xfer.tags.used.length + 1 ∧
      (∃ q2, t.opOf o = some q2 ∧ q2.out = q.out + 1 ∧ q.formed ≤ q2.formed ∧ q2.phase = q.phase) ∧ (∀ j, j ≠ o.chan → t.chan j = s.chan j)
    (s.issueDue o = true → s.tagFree (s.chan o.chan).pav = true → q.formsNext = true → formed (.requestIssue o)) ∧
    (s.issueDue o = true → s.tagFree (s.chan o.chan).pav = false →
      ∃ t, exec (.requestIssue o) s = .next t ∧ ((s.chan o.chan).pav, .op o) ∈ t.xfer.tags.waiting ∧ t.front = s.front ∧ t.fab = s.fab ∧
        t.xfer.tags.used = s.xfer.tags.used) ∧
    (s.live = true → s.tagFree (s.chan o.chan).pav = true → s.nextWaiter (s.chan o.chan).pav = some ((s.chan o.chan).pav, .op o) →
      q.formsNext = true → formed (.tagGrant (s.chan o.chan).pav))) ∧
  (∀ (s : State) (src : MsgSource) (m : Arrived), s.live = true → s.arrived src = some m → m.msg.kind = kResponse →
    (s.tagAlloc (hdrTag m.msg.hdr) = none →
      ∃ t, exec (.response src) s = .next t ∧ t.xfer.tags = { s.xfer.tags with late := s.xfer.tags.late + 1 } ∧ t.front = s.front ∧ t.fab = s.fab) ∧
    (∀ a, s.tagAlloc (hdrTag m.msg.hdr) = some a →
      (hdrSgen m.msg.hdr ≠ s.retained.srcGen.toNat ∨ hdrUse m.msg.hdr ≠ a.use →
        ∃ t, exec (.response src) s = .next t ∧ t.xfer.tags = { s.xfer.tags with late := s.xfer.tags.late + 1 } ∧ t.front = s.front ∧ t.fab = s.fab) ∧
      (∀ o q, hdrSgen m.msg.hdr = s.retained.srcGen.toNat → hdrUse m.msg.hdr = a.use → a.withdrawn = false →
        hdrCgen m.msg.hdr = (s.chan a.chan).gen.toNat → a.owner = .op o → a.kind = .write → s.opOf o = some q →
        ∃ t, exec (.response src) s = .next t ∧ t.xfer.tags.used = s.xfer.tags.used.filter (fun b => b.tag != a.tag) ∧
          t.xfer.tags.freed = s.xfer.tags.freed ++ [a.tag] ∧ t.opOf o = some (if goodStatus (rspStatus m.msg.hdr) then { q with out := q.out - 1 }
            else { q with status := if q.status = 0 then rspStatus m.msg.hdr else q.status, allFormed := true,
                          out := q.out - 1 - (s.xfer.held.filter (fun w => w.op == o)).length }) ∧
          (∀ j, j ≠ o.chan → t.chan j = s.chan j) ∧ t.fab = s.fab))) ∧
  (∀ (s : State) (tag : Nat) (a : TagAlloc), s.live = true → s.tagAlloc tag = some a →
    let freed (t : State) : Prop := t.xfer.tags.used = s.xfer.tags.used.filter (fun b => b.tag != a.tag)
    (s.usPassed a.issued a.timeoutUs = false → exec (.completionTimeout tag) s = .next s ∧ exec (.relayTimeout tag) s = .next s) ∧
    (∀ o q, s.usPassed a.issued a.timeoutUs = true → a.withdrawn = false → a.owner = .op o → s.opOf o = some q → (s.chan a.chan).state ≠ .free →
      (s.chan a.chan).gen.toNat = a.cgen →
      ∃ t, exec (.completionTimeout tag) s = .next t ∧ freed t ∧ (∀ j, j ≠ o.chan → t.chan j = s.chan j) ∧ t.fab = s.fab ∧
        t.opOf o = some { q with status := if q.status = 0 then (if s.routeDown a.dest then 0x32 else 0x20) else q.status, allFormed := true,
                                 out := q.out - 1 - (s.xfer.held.filter (fun w => w.op == o)).length }) ∧
    (∀ id r, s.usPassed a.issued a.timeoutUs = true → a.owner = .relay id → s.creq id = some r →
      (∀ x ∈ s.xfer.creqs, x.id ≠ id → x.issued = true ∨ x.walking = true) →
      ∃ t, exec (.relayTimeout tag) s = .next t ∧ freed t ∧ t.creq r.id = none ∧ t.front.chans = s.front.chans ∧
        (∀ x ∈ t.xfer.localQ, x ∈ s.xfer.localQ) ∧ (∀ p, ∀ x ∈ (t.port p).pane.txq, x ∈ (s.port p).pane.txq)))

/-- The measurement path (R201 to R206, R433): MEAS_OPEN binds a closed slot to a channel of the caller's Pavilion; MEAS_SEAL of a closed slot is
BAD_STATE, of a failed one BAD_STATE with result 2 and the slot closes, of an incomplete one BAD_STATE with result 1; a leaf that has entered is
hashed; a waiting request is granted staging. Model choices: log entries 55, 56. -/
def Obligations.MeasurementSlotsOpenHashAndSeal : Prop :=
  ∀ (s : State) (r : AdminRef),
    let c := s.cmdD r
    let slot := bits (c.arg 2) 7 0
    (s.mgmtIs r 0x0101 = true → s.lodgeTurn r = true → bits (c.arg 2) 63 8 = 0 → bits (c.arg 3) 63 24 = 0 → 1 ≤ bits (c.arg 4) 63 0 → bits (c.arg 4) 63 0 ≤ 2 ^ 40 →
      bits (c.arg 5) 63 16 = 0 → c.zeroArgs [6, 7] = true → (s.meas slot).state = .closed →
      (∃ i, s.chanOf (bits (c.arg 3) 31 0) = some i ∧ (s.chan i).pav = c.pav) →
      ∃ t, exec (.measOpen r) s = .next t ∧ (t.meas slot).state = .opened ∧ (t.meas slot).handle.toNat = bits (c.arg 3) 31 0 ∧
        (t.meas slot).objLen = bits (c.arg 4) 63 0 ∧ (t.meas slot).label = bits (c.arg 5) 15 0 ∧ (∀ k, k ≠ slot → t.meas k = s.meas k) ∧
        t.phaseOf r = some (.finished 0 0 0 0 0) ∧ t.front.chans = s.front.chans ∧ t.ports = s.ports) ∧
    (s.mgmtIs r 0x0102 = true → s.lodgeTurn r = true → bits (c.arg 2) 63 8 = 0 → bits (c.arg 3) 63 56 = 0 → bits (c.arg 3) 5 0 = 0 → c.zeroArgs [4, 5, 6, 7] = true →
      ((s.meas slot).state = .closed → ∃ t, exec (.measSeal r) s = .next t ∧ t.phaseOf r = some (.finished 5 0 0 0 0) ∧ t.xfer = s.xfer) ∧
      ((s.meas slot).state = .failed → ∃ t, exec (.measSeal r) s = .next t ∧ t.phaseOf r = some (.finished 5 0 2 0 0) ∧ (t.meas slot).state = .closed) ∧
      ((s.meas slot).state = .opened → (s.meas slot).sealable = false →
        ∃ t, exec (.measSeal r) s = .next t ∧ t.phaseOf r = some (.finished 5 0 1 0 0) ∧ t.xfer = s.xfer) ∧
      (∀ i, (s.meas slot).state = .opened → (s.meas slot).sealable = true → s.gate.recordFor (s.meas slot).label (bits (s.meas slot).handle 15 12) = some i →
        ∃ t, exec (.measSeal r) s = .next t ∧ t.phaseOf r = some .working ∧ t.xfer = s.xfer ∧ t.front.chans = s.front.chans)) ∧
    (∀ k i l, s.live = true → (s.meas k).state = .opened → (s.meas k).leaf i = some l → l.digest = none → l.entered.length = (s.meas k).leafLen i →
      ∃ t, exec (.measureLeafHashed k i) s = .next t ∧
        (t.meas k).leaf i = some { l with entered := [], digest := some (leafHash i l.entered) } ∧ t.front = s.front ∧ t.ports = s.ports) ∧
    (∀ k o pos len, s.live = true → s.stagingNext k = some (o, pos, len) → s.stagingFree k pos len = true → s.measWindow k pos len = true →
      s.waiterOk ((s.chan o.chan).pav, .op o) = true →
      ∃ t, exec (.measureStagingGrant k) s = .next t ∧
        t.xfer.staging = s.xfer.staging ++ [{ slot := k, pos := pos, len := len, fromReserve := s.inLowest k pos len }] ∧
        (∀ w ∈ t.xfer.stagingWait, w.2 ≠ o))

/-! ### Windows and the completer (05, R20, R31, R36, R326 to R329) -/

/-- Requests of a linear window, unordered, that pass the checks of R181 reach memory at once at BASE plus the offset: a write as writes of its data, a
read as reads, an ATOMIC as one atomic, a COPY_REQ under a relay tag as reads of its source (R36, R46, R166, R188, R197, R551). `id` is the number the
request takes, which no request in progress has. A request that fails a check of R181 is answered at once with the status of the first that failed,
and holds nothing at the completer; a completer OUT_OF_SERVICE answers nothing and counts it (R516). Model choices: log entries 6, 10, 58. -/
def Obligations.RequestsAreServed : Prop :=
  (∀ (s : State) (src : MsgSource) (m : Arrived) (d : WinDesc), s.live = true → s.arrived src = some m → s.retained.oos = false →
    hdrOrd m.msg.hdr = false → d.kind = .linear → s.creq s.xfer.nextId = none →
    let h := m.msg.hdr
    let id := s.xfer.nextId
    let here := d.base + hdrOffset h
    let elsewhere (t : State) : Prop := t.front = s.front ∧ t.gather = s.gather ∧ t.lodge = s.lodge ∧ t.counters = s.counters
    let passes (p : Perm) (n : Nat) : Prop := s.winCheck (hdrWindow h) m.key false p = .ok d ∧ hdrOffset h + n ≤ d.size
    let writes (c : Instr) : Prop := passes .w (writeData m.msg).length → ∃ t, exec c s = .next t ∧
      (∀ q ∈ writePieces here (writeData m.msg) d.pav (fun o => .creq id o), t.asks q) ∧ elsewhere t
    let reads (c : Instr) : Prop := passes .r (readLen m.msg) → ∃ t, exec c s = .next t ∧
      (∀ q ∈ readPieces here (readLen m.msg) d.pav (fun o => .creq id o), t.asks q) ∧ elsewhere t
    let a := m.msg.body.getD 0 0
    let n := fmtSize (bits a 119 117)
    (m.msg.kind = kWriteB → writes (.writeB src)) ∧ (m.msg.kind = kWriteS → writes (.writeS src)) ∧ (m.msg.kind = kWriteX → writes (.writeX src)) ∧
    (m.msg.kind = kReadB → reads (.readB src)) ∧ (m.msg.kind = kReadX → reads (.readX src)) ∧
    (m.msg.kind = kAtomic → s.awake 10 = true → hdrOffset h % n = 0 → passes .a n → s.atomicsHeld < 512 →
      ∃ t, exec (.atomicMessage src) s = .next t ∧ (∃ q : FabRequest, t.asks q ∧ q.op = .atomic ∧ q.addr = here ∧ q.len = n ∧ q.use = .creq id 0) ∧ elsewhere t) ∧
    (m.msg.kind = kCopyReq → passes .r (bits a 58 46) → s.tagFree m.key = true →
      ∃ t, exec (.copyReq src) s = .next t ∧ (∃ x ∈ t.xfer.tags.used, x.owner = .relay id ∧ x.tag = s.nextTag.1 ∧ x.dest = bits a 127 115 ∧ x.len = bits a 58 46) ∧
        (∀ q ∈ readPieces here (bits a 58 46) d.pav (fun o => .tagRead s.nextTag.1 s.nextTag.2 o), t.asks q) ∧ elsewhere t)) ∧
  (∀ (s : State) (src : MsgSource) (m : Arrived) (st : Nat), s.live = true → s.arrived src = some m →
    let h := m.msg.hdr
    let a := m.msg.body.getD 0 0
    let lin (p : Perm) (n : Nat) : Prop := s.winCheck (hdrWindow h) m.key false p = .error st ∨
      st = 0x13 ∧ ∃ d, s.winCheck (hdrWindow h) m.key false p = .ok d ∧ d.size < hdrOffset h + n
    let answered (c : Instr) : Prop := s.retained.oos = false → ∃ t, exec c s = .next t ∧ t.xfer.creqs = s.xfer.creqs ∧ t.fab = s.fab ∧ t.front = s.front ∧
      t.queues (s.firstHop (hdrSrc h)) { hdr := mkRspHdr h s.topo.node st 0 0, body := [] }
    let dropped (c : Instr) : Prop := ∀ p vc, src = .port p vc → s.retained.oos = true → (∀ x ∈ (s.port p).pane.rxMsgs, x.2.dead = false) →
      (s.counter (ctrPlDiscard p)).count < 0xFFFFFFFE →
      ∃ t, exec c s = .next t ∧ t.xfer = s.xfer ∧ t.fab = s.fab ∧ t.front = s.front ∧
        (t.counter (ctrPlDiscard p)).count = (s.counter (ctrPlDiscard p)).count + 1 ∧ ∀ q, (t.port q).pane.txq = (s.port q).pane.txq
    (m.msg.kind = kWriteB → (lin .w (writeData m.msg).length → answered (.writeB src)) ∧ dropped (.writeB src)) ∧
    (m.msg.kind = kWriteS → (lin .w (writeData m.msg).length → answered (.writeS src)) ∧ dropped (.writeS src)) ∧
    (m.msg.kind = kWriteX → (lin .w (writeData m.msg).length → answered (.writeX src)) ∧ dropped (.writeX src)) ∧
    (m.msg.kind = kReadB → (lin .r (readLen m.msg) → answered (.readB src)) ∧ dropped (.readB src)) ∧
    (m.msg.kind = kReadX → (lin .r (readLen m.msg) → answered (.readX src)) ∧ dropped (.readX src)) ∧
    (m.msg.kind = kAtomic → s.awake 10 = true → dropped (.atomicMessage src) ∧
      let n := fmtSize (bits a 119 117)
      (hdrOffset h % n ≠ 0 → st = 0x10 → answered (.atomicMessage src)) ∧ (hdrOffset h % n = 0 → lin .a n → answered (.atomicMessage src))) ∧
    (m.msg.kind = kCopyReq → (lin .r (bits a 58 46) → answered (.copyReq src)) ∧ dropped (.copyReq src)) ∧
    (m.msg.kind = kKvCmd → (s.winCheck (hdrWindow h) m.key true .r = .error st → answered (.kvCmd src)) ∧ dropped (.kvCmd src)) ∧
    (m.msg.kind = kKvWrite → (s.winCheck (hdrWindow h) m.key true .w = .error st → answered (.kvWrite src)) ∧ dropped (.kvWrite src)))

/-- KV_WRITE and KV_CMD (R170, R172, R190, R191): a request that passes its checks reads the sequence entry of the KV window first: of the destination
sequence for the first KV_WRITE of a move, of the source sequence for a KV_CMD; a later KV_WRITE of the move reads the page-list entry it has no
translation of. PAGE_WALK_DONE (R167, R175): it completes for every answer of a walk that is outstanding; the frame of a VALID entry translates the last
page a read waited for, and its accesses are issued; an entry that is not VALID ends the request with BOUNDS. Model choices: log entries 52, 59, 159. -/
def Obligations.WindowsTranslate : Prop :=
  (∀ (s : State) (src : MsgSource) (m : Arrived) (d : WinDesc), s.live = true → s.arrived src = some m → s.retained.oos = false →
    hdrOrd m.msg.hdr = false → s.creq s.xfer.nextId = none → s.job s.xfer.nextId = none →
    let h := m.msg.hdr
    let u := m.msg.body.getD 0 0
    let id := s.xfer.nextId
    let asksEntry (t : State) (w seq : Nat) : Prop := t.asks { op := .read, addr := d.base + 16 * seq, len := 16, pav := d.pav, use := .walk w }
    (m.msg.kind = kKvWrite → s.winCheck (hdrWindow h) m.key true .w = .ok d → bits u 40 29 * 16 = d.entryBytes → bits u 127 96 < d.seqCount →
      bits u 95 80 < d.layers → bits u 79 72 < d.hgTotal → bits u 71 50 + bits u 49 41 ≤ 2 ^ d.maxTokensLog2 →
      (let place := kvPlace d (bits u 95 80) (bits u 79 72) (bits u 71 50) (bits u 28 17); place.2.1 + (writeData m.msg).length ≤ place.2.2) →
      ((s.xfer.dests.find? (fun x => (x.src, x.pav, x.cgen) == (hdrSrc h, m.key, hdrCgen h) && x.win == hdrWindow h && x.slot == bits u 127 96)) = none →
        s.dest (id + 1) = none →
        ∃ t, exec (.kvWrite src) s = .next t ∧ asksEntry t (id + 1) (bits u 127 96) ∧
          (∃ r, t.creq id = some r ∧ r.move = id + 1 ∧ r.issued = false ∧ r.data = writeData m.msg) ∧ t.front = s.front ∧ t.counters = s.counters) ∧
      (∀ x list, (s.xfer.dests.find? (fun x => (x.src, x.pav, x.cgen) == (hdrSrc h, m.key, hdrCgen h) && x.win == hdrWindow h && x.slot == bits u 127 96)) = some x →
        s.dest x.id = some x → x.list = some list →
        (let page := (kvPlace d (bits u 95 80) (bits u 79 72) (bits u 71 50) (bits u 28 17)).1
        s.pwcFind (hdrWindow h) page (some x.id) = none →
        ∃ t, exec (.kvWrite src) s = .next t ∧ t.asks { op := .read, addr := list + 8 * page, len := 8, pav := d.pav, use := .walk id } ∧
          (∃ r, t.creq id = some r ∧ r.move = x.id ∧ r.walking = true) ∧ t.front = s.front ∧ t.counters = s.counters))) ∧
    (∀ k, k = kvOfCmd m.msg → m.msg.kind = kKvCmd → s.winCheck (hdrWindow h) m.key true .r = .ok d → k.srcSeq < d.seqCount →
      k.layerFirst + k.layerCount ≤ d.layers → k.hgFirst + k.hgCount ≤ d.hgTotal → s.clustersOf m.key ≠ [] →
      ∃ t, exec (.kvCmd src) s = .next t ∧ asksEntry t id k.srcSeq ∧ (∃ j, t.job id = some j ∧ j.move = k ∧ j.op = none) ∧
        t.front = s.front ∧ t.counters = s.counters)) ∧
  (∀ (s : State) (id : Nat) (res : ReadResult), s.live = true → s.hasUse (isWalk id) = true →
    ∃ t, exec (.pageWalkDone id res) s = .next t ∧ t.gather = s.gather ∧ t.gate = s.gate ∧ t.topo = s.topo ∧ t.time = s.time ∧ t.watch = s.watch) ∧
  (∀ (s : State) (id : Nat) (l : List Byte) (r : CReq) (e : WinEntry) (p : Nat), s.live = true → s.hasUse (isWalk id) = true → s.creq id = some r →
    s.job id = none → r.walking = true → r.issued = false → r.kind = .read → r.ordered = false → r.pages = [p] → s.win r.win = some e →
    (∀ f, frameOf l e.desc.pageLog2 = some f →
      ∃ t x, exec (.pageWalkDone id (.data l)) s = .next t ∧ t.creq id = some x ∧ x.issued = true ∧ x.trans = r.trans ++ [(p, f)] ∧ t.front = s.front) ∧
    (frameOf l e.desc.pageLog2 = none → (∀ x ∈ s.xfer.creqs, x.id ≠ id → x.issued = true ∨ x.walking = true) →
      ∃ t, exec (.pageWalkDone id (.data l)) s = .next t ∧ t.creq id = none ∧
        t.queues (s.firstHop (hdrSrc r.hdr)) { hdr := mkRspHdr r.hdr s.topo.node 0x13 0 0, body := [] } ∧ t.front.chans = s.front.chans))

/-- REGISTER_WINDOW and RELEASE_WINDOW (R176 to R178, R449): a descriptor of the caller's Pavilion goes to the index given, or to the lowest free one of
its range, and the completion names it; it accepts requests once that completion is written; every registration that is due ends with a status. A
release frees the index once no request and no KVMOVE uses it, and until then it accepts nothing; one of an index with no window is BAD_STATE. -/
def Obligations.WindowsAreRegisteredAndReleased : Prop :=
  ∀ (s : State) (r : AdminRef), s.live = true →
    let c := s.cmdD r
    (∀ d w, s.cmdIs r 0x10 = true → c.descriptor = some d → bits (c.arg 5) 63 17 = 0 → c.zeroArgs [6, 7] = true → s.win w = none →
      (bit (c.arg 5) 16 = true → s.freeWin d.pav = some w ∧ (c.pav = 0 ∨ d.pav = c.pav)) →
      (bit (c.arg 5) 16 = false → w = bits (c.arg 5) 15 0 ∧ (c.pav = 0 ∨ (d.pav = c.pav ∧ s.winInRange c.pav w = true))) →
      ∃ t, exec (.registerWindow r) s = .next t ∧ t.win w = some { desc := d, opening := some r } ∧ (∀ v, v ≠ w → t.win v = s.win v) ∧
        t.phaseOf r = some (.finished 0 0 w 0 0) ∧ t.front.chans = s.front.chans ∧ t.ports = s.ports) ∧
    (∀ e, s.cmdIs r 0x11 = true → bits (c.arg 1) 63 16 = 0 → c.zeroArgs [2, 3, 4, 5, 6, 7] = true → s.win (bits (c.arg 1) 15 0) = some e →
      e.releasing = false → e.opening = none → (c.pav = 0 ∨ e.desc.pav = c.pav) →
      (s.winBusy (bits (c.arg 1) 15 0) = false →
        ∃ t, exec (.releaseWindow r) s = .next t ∧ t.win (bits (c.arg 1) 15 0) = none ∧ t.phaseOf r = some (.finished 0 0 0 0 0) ∧
          t.front.chans = s.front.chans ∧ t.ports = s.ports) ∧
      (s.winBusy (bits (c.arg 1) 15 0) = true →
        ∃ t x, exec (.releaseWindow r) s = .next t ∧ t.win (bits (c.arg 1) 15 0) = some x ∧ x.releasing = true ∧
          t.front.chans = s.front.chans ∧ t.ports = s.ports)) ∧
    (s.cmdIs r 0x10 = true → (bit (c.arg 5) 16 = true ∨ s.win (bits (c.arg 5) 15 0) = none) →
      ∃ t st w, exec (.registerWindow r) s = .next t ∧ t.phaseOf r = some (.finished st 0 w 0 0) ∧ (st ≠ 0 → t.xfer.wins = s.xfer.wins)) ∧
    (s.cmdIs r 0x11 = true → s.win (bits (c.arg 1) 15 0) = none → bits (c.arg 1) 63 16 = 0 → c.zeroArgs [2, 3, 4, 5, 6, 7] = true →
      ∃ t, exec (.releaseWindow r) s = .next t ∧ t.phaseOf r = some (.finished 5 0 0 0 0) ∧ t.xfer = s.xfer) ∧
    (∀ w x q st ra r1 r2 r3, s.firstDone r = true → s.cmd r = some q → q.phase = .finished st ra r1 r2 r3 → s.win w = some x → x.opening = some r →
      ∃ t, exec (.adminCompletionWrite r) s = .next t ∧ t.win w = some { x with opening := none })

/-! ### The Gather engine (07, 08) -/

/-- LOAD_PROGRAM (R283, R285, R286): the image is read first; a valid image that is not persistent goes to the lowest free slot on a slice with room; the completion names slot and
tag and the next program takes the next tag. An image that is refused gives its status, one that cannot be read BAD_COMMAND, and one without room
NO_RESOURCE. UNLOAD_PROGRAM (R287): an idle program of the tag given leaves its slot at once; a run in progress is BAD_STATE unless FORCE is set,
another tag or an empty slot BAD_STATE, and a program of another Pavilion DENIED to a tenant. Model choices: log entry 13. -/
def Obligations.ProgramsComeAndGo : Prop :=
  (∀ (s : State) (r : AdminRef), s.live = true → s.cmdIs r 0x20 = true →
    let c := s.cmdD r
    bits (c.arg 1) 63 56 = 0 → bits (c.arg 1) 5 0 = 0 → bits (c.arg 2) 63 17 = 0 → c.zeroArgs [3, 4, 5, 6, 7] = true →
    let stays (t : State) : Prop := t.front.chans = s.front.chans ∧ t.xfer = s.xfer ∧ t.ports = s.ports ∧ t.counters = s.counters
    (s.contentRead (.admin r) = none →
      ∃ t, exec (.loadProgram r) s = .next t ∧ t.gather = s.gather ∧ t.front = s.front ∧ t.ports = s.ports ∧
        (∀ q ∈ readPieces (bits (c.arg 1) 55 0) (bits (c.arg 2) 16 0) c.pav (fun o => .content (.admin r) o), t.asks q)) ∧
    (∀ l p i k, s.content (.admin r) = some (.data l) → s.loadImage c.pav (bits (c.arg 2) 16 0) l = .ok [p] → p.persistent = false → s.placesFor c.pav [p] [] [] = some [(i, k)] →
      s.gather.memoryUsed + p.memory ≤ 262144 →
      ∃ t, exec (.loadProgram r) s = .next t ∧ t.gslot i = some { tag := s.gather.progTag.toNat, pav := c.pav, slice := k, prog := p } ∧
        (∀ j, j ≠ i → t.gslot j = s.gslot j) ∧ t.gather.progTag = nextProgTag s.gather.progTag ∧
        t.phaseOf r = some (.finished 0 0 (placedResult i s.gather.progTag.toNat) 0 0) ∧ stays t) ∧
    (∀ l p, s.content (.admin r) = some (.data l) → s.loadImage c.pav (bits (c.arg 2) 16 0) l = .ok [p] → (s.placesFor c.pav [p] [] [] = none ∨ 262144 < s.gather.memoryUsed + p.memory) →
      ∃ t, exec (.loadProgram r) s = .next t ∧ t.gather = s.gather ∧ t.phaseOf r = some (.finished 3 0 0 0 0) ∧ stays t) ∧
    (∀ l st, s.content (.admin r) = some (.data l) → s.loadImage c.pav (bits (c.arg 2) 16 0) l = .error st →
      ∃ t, exec (.loadProgram r) s = .next t ∧ t.gather = s.gather ∧ t.phaseOf r = some (.finished st 0 0 0 0) ∧ stays t) ∧
    (∀ res, s.content (.admin r) = some res → res = .fault ∨ res = .ue ∨ res = .partReset →
      ∃ t, exec (.loadProgram r) s = .next t ∧ t.gather = s.gather ∧ t.phaseOf r = some (.finished 2 0 0 0 0) ∧ stays t)) ∧
  (∀ (s : State) (r : AdminRef) (i : Nat), s.live = true → s.cmdIs r 0x21 = true →
    let c := s.cmdD r
    i = bits (c.arg 1) 5 0 → bits (c.arg 1) 31 6 = 0 → bits (c.arg 2) 63 1 = 0 → c.zeroArgs [3, 4, 5, 6, 7] = true →
    let refused (st : Nat) : Prop := ∃ t, exec (.unloadProgram r) s = .next t ∧ t.gather = s.gather ∧ t.phaseOf r = some (.finished st 0 0 0 0) ∧
      t.front.chans = s.front.chans
    (s.gslot i = none → refused 5) ∧
    (∀ q, s.gslot i = some q → (q.tag ≠ bits (c.arg 1) 63 32 → refused 5) ∧
      (q.tag = bits (c.arg 1) 63 32 → c.pav ≠ 0 → q.pav ≠ c.pav → refused 6) ∧
      (q.tag = bits (c.arg 1) 63 32 → (c.pav = 0 ∨ q.pav = c.pav) →
        (q.run.isSome = true → bit (c.arg 2) 0 = false → refused 5) ∧
        (q.run = none → q.queue = [] → (∀ w ∈ s.gather.loads, w.cmd ≠ r) →
          ∃ t, exec (.unloadProgram r) s = .next t ∧ t.gslot i = none ∧ (∀ j, j ≠ i → t.gslot j = s.gslot j) ∧ 6160 + i ∉ t.watch.armed ∧
            t.phaseOf r = some (.finished 0 0 0 0 0) ∧ t.front.chans = s.front.chans))))

/-- GATHER_RUN (R156, R289): one that names a program of its Pavilion joins the runs that wait for it; a program that is absent, of another tag or
persistent is MALFORMED, one of another Pavilion PERMISSION, and the active channel becomes GUILTY. RUN_START (R156, R289, R291): the first run that
waits begins, or the next of a persistent program, with the next run number; one whose accesses cannot fit has failed MALFORMED at its first step
(R148, R284). STEP_TIMEOUT (R274, R293) counts and fails the run with PEER_TIMEOUT at its step, and no result write of the slot waits any more. RUN_END (R292) writes the status record of a persistent run,
and updates the completion semaphore of a GATHER_RUN by one atomic. Model choices: log entries 64, 148, 154. -/
def Obligations.GatherRunsGoThrough : Prop :=
  (∀ (s : State) (o : OpRef) (p : Operation) (x : OpSlot) (g : GatherRunOp), s.takeable o = some p → s.opOf o = some x → p.body = .gatherRun g →
    let refused (st : Nat) : Prop := (s.chan o.chan).state = .active → ∃ t, exec (.gatherRun o) s = .next t ∧ (t.chan o.chan).state = .guilty ∧
      (t.chan o.chan).failStatus = st ∧ (t.chan o.chan).failOp = o.op ∧ t.ports = s.ports ∧ ((∀ k, (s.meas k).state ≠ .opened) → ∀ j, j ≠ o.chan → t.chan j = s.chan j)
    (s.gslot g.program = none → refused 0x10) ∧
    (∀ q, s.gslot g.program = some q →
      (q.tag ≠ g.progTag ∨ q.prog.persistent = true → refused 0x10) ∧
      (q.tag = g.progTag → q.prog.persistent = false → q.pav ≠ (s.chan o.chan).pav → refused 0x12) ∧
      (q.tag = g.progTag → q.prog.persistent = false → q.pav = (s.chan o.chan).pav →
        ∃ t, exec (.gatherRun o) s = .next t ∧ t.gslot g.program = some { q with queue := q.queue ++ [o] } ∧
          t.opOf o = some { x with phase := .running, out := 1 } ∧ (∀ j, j ≠ g.program → t.gslot j = s.gslot j) ∧
          (∀ j, j ≠ o.chan → t.chan j = s.chan j) ∧ t.ports = s.ports ∧ t.fab = s.fab))) ∧
  (∀ (s : State) (i : Nat) (q : GSlot), s.live = true → s.gslot i = some q →
    (s.runDue i = true →
      ∃ t x r, exec (.runStart i) s = .next t ∧ t.gslot i = some x ∧ x.runs = q.runs + 1 ∧ x.queue = q.queue.drop 1 ∧ x.run = some r ∧
        r.num = q.runs + 1 ∧ r.op = (s.newRun q).op ∧ r.count = (s.newRun q).count ∧ r.input = (s.newRun q).input ∧ r.output = (s.newRun q).output ∧
        r.failed = (if accFits q.prog (s.newRun q) && addressesFit q.prog (s.newRun q) then none else some (0x10, 0)) ∧
        (∀ j, j ≠ i → t.gslot j = s.gslot j) ∧ t.front = s.front ∧ t.ports = s.ports) ∧
    (∀ r k, q.run = some r →
      (s.stepTimedOut i k = true → (s.counter ctrTimeout).count < 0xFFFFFFFE →
        ∃ t, exec (.stepTimeout i k) s = .next t ∧ t.gslot i = some { q with run := some { r with failed := some (0x21, k) } } ∧
          (t.counter ctrTimeout).count = (s.counter ctrTimeout).count + 1 ∧ (∀ j, j ≠ i → t.gslot j = s.gslot j) ∧ t.front = s.front ∧
          t.fab.out = s.fab.out ∧ (∀ a ∈ t.fab.waiting, a ∈ s.fab.waiting ∧ isResultWrite i q.tag a.use = false)) ∧
      (s.runOver i = true → q.prog.persistent = true →
        ∃ t x y, exec (.runEnd i) s = .next t ∧ t.gslot i = some x ∧ x.run = some y ∧ y.phase = .record ∧ y.num = r.num ∧
          (∀ w ∈ writePieces q.prog.status (runRecord i r s.podTime) q.pav (fun _ => .runStatus i q.tag), t.asks w) ∧ t.front = s.front) ∧
      (s.runOver i = true → q.prog.persistent = false →
        ∃ t x y, exec (.runEnd i) s = .next t ∧ t.gslot i = some x ∧ x.run = some y ∧ y.phase = .semaphore ∧ y.num = r.num ∧ t.front = s.front ∧
          t.asks { op := .atomic, addr := r.done, len := 8, pav := q.pav, data := leBytes 8 1, subop := 0x80, fmt := 5, use := .doneSem i q.tag })))

/-- CHUNK_COMBINE (R237, R246, R264, R273, R291): with the operands of the next chunk of a step all there, the chunk is combined, its flags join those of
the run, and the step has done one chunk more; a chunk of the wrong format or length, or a list out of rank order, fails the run MALFORMED at that
step. OPERAND and CREDIT (R239 to R242): a part of a run its program expects is held; a chunk for an empty slot or of another Pavilion is counted and
reported on its first part, and dropped; a credit of the program's Pavilion gives back what was spent, one of another does nothing.
Model choices: log entries 63, 68, 69. -/
def Obligations.GatherChunksMove : Prop :=
  (∀ (s : State) (i n k : Nat) (q : GSlot) (r : Run) (g : GStep) (w : WorkLane), s.live = true → s.combineStep i n = some k → s.running i = some (q, r) →
    q.prog.steps[k]? = some g → readyLane q r k = some w → q.unload = [] → q.kill = false →
    let fails : Prop := ∃ t x y, exec (.chunkCombine i n) s = .next t ∧ t.gslot i = some x ∧ x.run = some y ∧ y.failed = some (0x10, n) ∧ y.num = r.num ∧
      t.front = s.front
    (operandBytes q r k w = some none → fails) ∧
    (∀ l, operandBytes q r k .main = some (some l) → w = .main →
      let c := g.laneChunk q.prog r .main (r.step k).main.done
      let res := (combineChunk q.prog r k c.1 c.2 g l).run 0
      (res.1.malformed = true → fails) ∧
      (res.1.malformed = false → ∃ t x y, exec (.chunkCombine i n) s = .next t ∧ t.gslot i = some x ∧ x.run = some y ∧ y.failed = none ∧
        (y.step k).main.done = (r.step k).main.done + 1 ∧ y.flags = r.flags ||| res.2 ∧ y.acc = writeArea r.acc res.1.acc ∧
        (∀ e ∈ res.1.output, ∀ a ∈ writePieces (r.output + e.1) e.2 q.pav (fun _ => .gatherOut i q.tag r.num k), t.asks a) ∧ t.front = s.front))) ∧
  (∀ (s : State) (src : MsgSource) (m : Arrived), s.live = true → s.arrived src = some m →
    let h := m.msg.hdr
    let i := opdSlot h
    (m.msg.kind = kOperand → s.retained.oos = false →
      (∀ q, s.gslot i = some q → q.pav = m.key → q.expects (opdRun h) = true →
        ∃ t x, exec (.operand src) s = .next t ∧ t.gslot i = some x ∧ x.held = (q.holdPart h (m.vc / 2) (unitBytes m.msg.body)).held ∧
          x.runs = q.runs ∧ (∀ j, j ≠ i → t.gslot j = s.gslot j) ∧ t.front = s.front ∧ t.counters = s.counters) ∧
      ((s.gslot i = none ∨ ∃ q, s.gslot i = some q ∧ q.pav ≠ m.key) → opdPart h ≠ 0 →
        ∃ t, exec (.operand src) s = .next t ∧ t.gather = s.gather ∧ t.counters = s.counters ∧ t.front = s.front) ∧
      ((s.gslot i = none ∨ ∃ q, s.gslot i = some q ∧ q.pav ≠ m.key) → opdPart h = 0 → (s.counter ctrDiscard).count < 0xFFFFFFFE → s.flt.capture = none →
        ∃ t c, exec (.operand src) s = .next t ∧ t.gather = s.gather ∧ (t.counter ctrDiscard).count = (s.counter ctrDiscard).count + 1 ∧
          t.flt.capture = some c ∧ c.cls = .contained ∧ c.report.cause = 0x17 ∧ t.flt.contained = true ∧ t.front = s.front)) ∧
    (m.msg.kind = kCredit →
      let k := 2 * opdStep h + b2n (opdTxi h)
      (∀ q, s.gslot i = some q → q.pav = m.key → q.run = none →
        ∃ t, exec (.credit src) s = .next t ∧
          t.gslot i = some { q with spent := Table.put 0 q.spent k (Table.get 0 q.spent k - crdCount h) } ∧
          (∀ j, j ≠ i → t.gslot j = s.gslot j) ∧ t.front = s.front ∧ t.fab = s.fab) ∧
      ((s.gslot i = none ∨ ∃ q, s.gslot i = some q ∧ q.pav ≠ m.key) →
        ∃ t, exec (.credit src) s = .next t ∧ t.gather = s.gather ∧ t.front = s.front ∧ t.fab = s.fab)))

/-- Triggers (R290): a notification, or a microsecond where the watch is refused, reads the trigger again; the first value read is the base, takes the
watch and reads again, later ones are the value seen, and a failed read disarms the program and is reported. Model choices: log entry 71. -/
def Obligations.TriggersAreRead : Prop :=
  ∀ (s : State) (i : Nat) (q : GSlot), s.live = true → s.gslot i = some q →
    let asksTrigger (t : State) : Prop := t.asks { op := .read, addr := q.prog.trigger, len := 8, pav := q.pav, use := .trigger i q.tag } ∧
      t.gslot i = some { q with lastPoll := s.now } ∧ t.front = s.front
    (q.prog.persistent = true → q.base.isSome = true → q.faulted = false →
      (s.watching (triggerWid i) = true → ∃ t, exec (.triggerWatchNotify i) s = .next t ∧ asksTrigger t) ∧
      (s.watching (triggerWid i) = false → s.usPassed q.lastPoll 1 = true → ∃ t, exec (.triggerPoll i) s = .next t ∧ asksTrigger t)) ∧
    (s.hasUse (isTrigger i) = true → s.triggerTag i = q.tag → q.faulted = false →
      (∀ l, q.base = none → ∃ t, exec (.triggerObserved i (.data l)) s = .next t ∧ 6160 + i ∈ t.watch.armed ∧
        t.gslot i = some { q with base := some (leAt l 0 8), seen := leAt l 0 8, lastPoll := s.now } ∧ t.front.chans = s.front.chans ∧
        t.asks { op := .read, addr := q.prog.trigger, len := 8, pav := q.pav, use := .trigger i q.tag }) ∧
      (∀ l, q.base.isSome = true → ∃ t, exec (.triggerObserved i (.data l)) s = .next t ∧ t.gslot i = some { q with seen := leAt l 0 8 } ∧
        t.front = s.front) ∧
      (s.flt.capture = none → ∃ t c, exec (.triggerObserved i .fault) s = .next t ∧ t.gslot i = some { q with faulted := true } ∧
        6160 + i ∉ t.watch.armed ∧ t.flt.capture = some c ∧ c.cls = .contained ∧ c.report.cause = 0x15 ∧ t.front.chans = s.front.chans))

/-! ### Pavilions, SPDM and the root of trust (12, 16) -/

/-- PAVILION_CREATE (R448): a tenant ring is DENIED; a bad argument or block is BAD_COMMAND; a tenant that exists, or a range in use, BAD_STATE; all
clusters or all fabric ports NO_RESOURCE; and with none of these the Pavilion exists as the arguments give it and its admin ring runs.
Model choices: log entry 34. -/
def Obligations.PavilionsAreCreated : Prop :=
  ∀ (s : State) (r : AdminRef), s.cmdIs r 0x30 = true → s.lodgeTurn r = true →
    let c := s.cmdD r
    let q := c.tenant
    let formOk : Bool := createPavOk c && s.topo.install.any (fun i => q.block.ok i && q.block.has i s.topo.node)
    let taken : Bool := s.gate.tenant.isSome || s.rangesUsed q
    let all : Bool := decide (q.clusters = 0xF) || decide (q.fabPorts = 0xFFFF)
    let refused (st : Nat) : Prop := ∃ t, exec (.pavilionCreate r) s = .next t ∧ t.gate = s.gate ∧ t.front.rings = s.front.rings ∧ t.ports = s.ports ∧
      t.phaseOf r = some (.finished st 0 0 0 0)
    (c.pav ≠ 0 → refused 6) ∧ (c.pav = 0 → formOk = false → refused 2) ∧ (c.pav = 0 → formOk = true → taken = true → refused 5) ∧
    (c.pav = 0 → formOk = true → taken = false → all = true → refused 3) ∧
    (c.pav = 0 → formOk = true → taken = false → all = false →
      ∃ t, exec (.pavilionCreate r) s = .next t ∧ t.gate.tenant = some q ∧ (t.ring q.num).enabled = true ∧ (t.ring q.num).base = bits (c.arg 5) 55 0 ∧
        (t.ring q.num).log2 = bits (c.arg 5) 59 56 ∧ (t.ring q.num).head = 0 ∧ (t.ring q.num).phase = true ∧
        t.phaseOf r = some (.finished 0 0 0 0 0) ∧ t.front.chans = s.front.chans)

/-- PAVILION_TEARDOWN (R452, R453): refused as R452 says; begun, the Pavilion is in teardown under the next TEARDOWN_ID and every port holds its index
retired, abandons its rotation (R457) and sends the twelve RETIRE fences; and once nothing of it is left it is gone, its ring with it, and the completion gives the TEARDOWN_ID.
PAV_RESET (R506): refused as R452 refuses a teardown; begun, every channel of the tenant retires as in Abort; and it completes OK once the channels
are FREE and the programs and windows gone. Model choices: log entries 118, 119. -/
def Obligations.PavilionsEnd : Prop :=
  (∀ (s : State) (r : AdminRef) (q : Tenant), s.gate.tenant = some q →
    let c := s.cmdD r
    let refused (st : Nat) : Prop := ∃ t, exec (.pavilionTeardown r) s = .next t ∧ t.gate = s.gate ∧ t.ports = s.ports ∧ t.phaseOf r = some (.finished st 0 0 0 0)
    (s.cmdIs r 0x31 = true → s.lodgeTurn r = true →
      (c.pav ≠ 0 → refused 6) ∧
      (c.pav = 0 → (bits (c.arg 1) 3 0 = 0 ∨ bits (c.arg 1) 63 4 ≠ 0 ∨ c.zeroArgs [2, 3, 4, 5, 6, 7] = false) → refused 2) ∧
      (c.pav = 0 → bits (c.arg 1) 3 0 ≠ 0 → bits (c.arg 1) 63 4 = 0 → c.zeroArgs [2, 3, 4, 5, 6, 7] = true →
        (bits (c.arg 1) 3 0 ≠ q.num ∨ q.teardown.isSome = true → refused 5) ∧
        (bits (c.arg 1) 3 0 = q.num → q.teardown = none → s.chansOf q.num = [] → s.programsOf q.num = [] → s.annealOf q.num = none →
          (∀ a ∈ s.xfer.tags.used, a.pav ≠ q.num) → (∀ w ∈ s.xfer.tags.waiting, w.1 ≠ q.num) → (∀ j ∈ s.xfer.jobs, j.pav ≠ q.num) →
          ∃ t, exec (.pavilionTeardown r) s = .next t ∧ t.gate = { s.gate with teardownId := s.gate.teardownId + 1, tenant := some { q with teardown := some r } } ∧
            t.phaseOf r = some .working ∧
            ∀ p, (t.port p).pane.retired = (s.port p).pane.retired ||| 1#16 <<< q.num ∧ (∀ x ∈ (t.port p).keys.rotations, x.key ≠ q.num) ∧
              (∀ f ∈ (s.port p).pane.fences, f ∈ (t.port p).pane.fences) ∧
              ∀ v, v < 12 → ({ vc := v, key := q.num, teardownId := (s.gate.teardownId + 1).toNat } : FenceDue) ∈ (t.port p).pane.fences))) ∧
    (s.live = true → s.cmdIs r 0x31 = false → s.teardownDue r = true → s.winsOf q.num = [] → r.pav ≠ q.num → (s.cmd r).any AdminCmd.unfinished = true →
      ∃ t, exec (.pavilionTeardown r) s = .next t ∧ t.gate.tenant = none ∧ (t.ring q.num).enabled = false ∧
        t.phaseOf r = some (.finished 0 0 s.gate.teardownId.toNat 0 0))) ∧
  (∀ (s : State) (r : AdminRef) (q : Tenant), s.gate.tenant = some q →
    let c := s.cmdD r
    let refused (st : Nat) : Prop := ∃ t, exec (.pavReset r) s = .next t ∧ t.gate = s.gate ∧ t.front.chans = s.front.chans ∧ t.phaseOf r = some (.finished st 0 0 0 0)
    (s.mgmtIs r 0x0501 = true → s.lodgeTurn r = true →
      (c.pav ≠ 0 → refused 6) ∧
      (c.pav = 0 → (bits (c.arg 2) 3 0 = 0 ∨ bits (c.arg 2) 63 4 ≠ 0 ∨ c.zeroArgs [3, 4, 5, 6, 7] = false) → refused 2) ∧
      (c.pav = 0 → bits (c.arg 2) 3 0 ≠ 0 → bits (c.arg 2) 63 4 = 0 → c.zeroArgs [3, 4, 5, 6, 7] = true →
        (bits (c.arg 2) 3 0 ≠ q.num ∨ q.teardown.isSome = true → refused 5) ∧
        (bits (c.arg 2) 3 0 = q.num → q.teardown = none → s.programsOf q.num = [] → s.winsOf q.num = [] → s.annealOf q.num = none →
          ∃ t, exec (.pavReset r) s = .next t ∧ t.gate.killing = s.gate.killing ++ [(r, q.num)] ∧ t.phaseOf r = some .working ∧
            (∀ i ∈ s.chansOf q.num, (t.chan i).state = .retiring) ∧
            ((∀ k, (s.meas k).state ≠ .opened) → ∀ i, i ∉ s.chansOf q.num → t.chan i = s.chan i)))) ∧
    (s.live = true → s.mgmtIs r 0x0501 = false → s.resetPavDone r = true → (s.cmd r).any AdminCmd.unfinished = true →
      ∃ t, exec (.pavReset r) s = .next t ∧ (∀ k ∈ t.gate.killing, k.1 ≠ r) ∧ t.phaseOf r = some (.finished 0 0 0 0 0) ∧
        t.front.chans = s.front.chans))

/-- SPDM_MSG (R429, R430): with its arguments in range the request is read whole at REQ_ADDR, and once it has been read the responder's answer to what
its bytes spell is written at RSP_ADDR; with one out of range it is BAD_COMMAND. GET_VERSION
is answered with version 1.3, and a message of another version with VersionMismatch. SVN_COMMIT and EPOCH_COMMIT (R406, R460) ask the root of trust to
raise its counter; with a reserved argument set they are BAD_COMMAND, and EPOCH_COMMIT without a table BAD_STATE. A reply answers the oldest request
(R561, R562): a counter that rose completes OK, one that did not DENIED; one read is the node's. One without a reply for 100 ms is sent again.
Model choices: log entries 19, 114, 123. -/
def Obligations.AttestationRequests : Prop :=
  (∀ (s : State) (r : AdminRef) (q : SpdmRequest), s.mgmtIs r 0x0401 = true → s.lodgeTurn r = true →
    let c := s.cmdD r
    let fits : Bool := bits (c.arg 2) 63 56 == 0 && bits (c.arg 4) 63 56 == 0 && c.zeroArgs [6, 7] && decide (1 ≤ bits (c.arg 3) 63 0) &&
      decide (bits (c.arg 3) 63 0 ≤ 4096) && decide (4096 ≤ bits (c.arg 5) 63 0) && decide (bits (c.arg 5) 63 0 < 8192)
    let x := s.spdmRespond c.pav q
    (s.contentRead (.admin r) = none →
      (fits = false → ∃ t, exec (.spdmMsg r q) s = .next t ∧ t.gate = s.gate ∧ t.fab = s.fab ∧ t.phaseOf r = some (.finished 2 0 0 0 0)) ∧
      (fits = true → ∃ t, exec (.spdmMsg r q) s = .next t ∧ t.gate = s.gate ∧ t.front = s.front ∧ (t.contentRead (.admin r)).isSome = true ∧
        ∀ w ∈ readPieces (bits (c.arg 2) 55 0) (bits (c.arg 3) 63 0) 0 (fun o => .content (.admin r) o), t.asks w)) ∧
    (∀ l, fits = true → s.content (.admin r) = some (.data l) → spelt q l = true →
      ∃ t, exec (.spdmMsg r q) s = .next t ∧ t.gate = x.2 ∧ t.phaseOf r = some .working ∧ t.contentRead (.admin r) = none ∧
      (∀ w ∈ writePieces (bits (c.arg 4) 55 0) x.1.1 0 (fun _ => .spdm r x.1.1.length), t.asks w) ∧ t.front.chans = s.front.chans ∧
      (q = .getVersion → x.1.1 = [0x10, 0x04, 0, 0, 0, 1, 0x00, 0x13] ∧ t.gate.spdmNegotiated = false) ∧
      (q = .wrongVersion → x.1.1 = [0x13, 0x7F, 0x41, 0] ∧ t.gate = s.gate))) ∧
  (∀ (s : State) (r : AdminRef),
    let z := (s.cmdD r).zeroArgs [2, 3, 4, 5, 6, 7]
    let asked (t : State) (q : RotRequest) : Prop := t.pins = { s.pins with rotTx := s.pins.rotTx ++ [q] } ∧
      t.lodge.rot = s.lodge.rot ++ [{ req := q, sent := s.now, cmd := some r, slot := none }] ∧ t.phaseOf r = some .working
    let refused (t : State) (st : Nat) : Prop := t.pins = s.pins ∧ t.phaseOf r = some (.finished st 0 0 0 0)
    (s.mgmtIs r 0x0403 = true → s.lodgeTurn r = true →
      ∃ t, exec (.svnCommit r) s = .next t ∧ if z then asked t (.counterRaise 0 s.ident.securityVersion) else refused t 2) ∧
    (s.mgmtIs r 0x0404 = true → s.lodgeTurn r = true →
      ∃ t, exec (.epochCommit r) s = .next t ∧ if z then (match s.topo.install with
        | some i => asked t (.counterRaise 1 i.epoch)
        | none => refused t 5) else refused t 2) ∧
    (∀ w rest, s.live = true → s.lodge.rot = w :: rest →
      (∀ k v done x, w.req = .counterRaise k v → w.cmd = some r → (s.cmd r).any AdminCmd.unfinished = true →
        ∃ t, exec (.rotReply done x) s = .next t ∧ t.lodge.rot = rest ∧ t.phaseOf r = some (.finished (if done then 0 else 6) 0 0 0 0)) ∧
      (∀ k x, w.req = .counterRead k → ∃ t, exec (.rotReply true x) s = .next t ∧ t.lodge.rot = rest ∧ t.topo.tableCounter = some x) ∧
      (s.usPassed w.sent 100000 = true →
        ∃ t, exec .rotReplyTimeout s = .next t ∧ t.pins = { s.pins with rotTx := s.pins.rotTx ++ [w.req] } ∧
          t.lodge.rot = rest ++ [{ w with sent := s.now }] ∧ t.front = s.front) ∧
      (s.usPassed w.sent 100000 = false → exec .rotReplyTimeout s = .next s)))

/-- ROT_IDENTITY (R426) installs the identity key pair. ROT_RELEASE (R404, R427, R428, R521): once, it gives the node its serial, its tables' addresses,
its roots and its chain, and the Lodge runs exactly when the image has the digest the boot ROM computed. Model choices: log entry 124. -/
def Obligations.RootOfTrustReleasesTheLodge : Prop :=
  ∀ s : State,
    (∀ priv pub, s.clocked = true → ∃ t, exec (.rotIdentity priv pub) s = .next t ∧ t.ident.priv = priv ∧ t.ident.pub = pub ∧
      t.ident.ready = (decide (pub ≠ 0) && !s.ident.chain.isEmpty) ∧ { t with ident := s.ident } = s) ∧
    (∀ m, s.live = true → s.lodge.released = false →
      ∃ t, exec (.rotRelease m) s = .next t ∧ t.global = { s.global with serial := m.serial } ∧ t.topo = { s.topo with installAddr := m.installAddr, boardAddr := m.boardAddr } ∧
        t.ident.imageDigest = m.imageDigest ∧ t.ident.securityVersion = m.securityVersion ∧ t.ident.podKey = m.podKey ∧ t.lodge.released = true ∧
        t.lodge.running = decide (m.imageDigest = m.romDigest) ∧
        t.pins.rotTx = (if m.imageDigest = m.romDigest then s.pins.rotTx ++ [.extend 1 Config.bootRomDigest, .extend 2 (beBytes 48 m.imageDigest.toNat), .counterRead 1]
          else s.pins.rotTx) ∧ t.ports = s.ports ∧ t.front = s.front) ∧
    (∀ m, s.lodge.released = true → exec (.rotRelease m) s = .next s)

/-! ### Pod time and the Timetable (08) -/

/-- TIME panes (R303, R305): one is sent in the next codeword slot under the next SEQ; a received one whose tag fails is counted in BAD_DROP and changes
no time, and one of the parent that echoes a pane sent in the last 20 µs is an exchange of R305 and R306. HOLDOVER and the choice of a new parent
(R306): a node that is ACQUIRING or SYNCED and hears no valid exchange for 50 µs goes to HOLDOVER; after 100 µs of it, the port in service of the
smallest depth whose far end is SYNCED becomes its parent. Nothing else changes. Model choices: log entries 79, 80, 81. -/
def Obligations.PodTimeIsKept : Prop :=
  (∀ (s : State) (p : PortIx),
    (s.timeDue p = true → ∃ t, exec (.timePaneSend p) s = .next t ∧ (t.port p).time.seq = (s.port p).time.seq + 1 ∧ (t.port p).time.lastSent = some s.now ∧
      (t.port p).keys.slot = (s.port p).keys.slot + 1 ∧ (∀ q, q ≠ p → t.port q = s.port q) ∧ t.time = s.time ∧ t.counters = s.counters) ∧
    (∀ x, s.linkLive = true → s.rxHead p ptTime = some x → s.serving p = true →
      ((s.port p).keys.segOf x.hdr x.slot x.body = none → (s.counter (ctrBadDrop p)).count < 0xFFFFFFFE →
        ∃ t, exec (.timePane p) s = .next t ∧ (t.counter (ctrBadDrop p)).count = (s.counter (ctrBadDrop p)).count + 1 ∧ t.time = s.time ∧
          (t.port p).pane.rxq = (s.port p).pane.rxq.drop 1) ∧
      (((s.port p).keys.segOf x.hdr x.slot x.body).isSome = true → x.body.headD 0 = 1 →
        let b := x.body
        ∃ t, exec (.timePane p) s = .next t ∧ (t.port p).time.farSeq = beAt b 6 2 ∧ (t.port p).time.farTx = beAt b 8 9 ∧
          (t.port p).time.arrival = 256 * x.tick ∧ (t.port p).time.farState = (b.getD 1 0).toNat ∧ (t.port p).pane.rxq = (s.port p).pane.rxq.drop 1 ∧
          t.counters = s.counters ∧
          (if s.time.isMaster = true ∨ s.time.parent ≠ p.val ∨ (b.getD 1 0).toNat = 0 ∨
              (s.port p).time.sentAt.any (fun e => e.1 == beAt b 17 2 && decide (s.now ≤ e.2 + usTicks 20)) = false then t.time = s.time
            else ∃ rate, t.time = s.time.exchange (thetaOf (beAt b 28 9) (beAt b 19 9) (256 * x.tick) (beAt b 8 9) (s.asym p)) rate ((b.getD 4 0).toNat + 1) (beAt b 2 2 % 8192) s.now)))) ∧
  (∀ s : State, s.clocked = true →
    (s.time.isMaster = false → (s.time.state = .synced ∨ s.time.state = .acquiring) → s.usPassed s.time.lastValid 50 = true →
      exec .timeHoldover s = .next { s with time := { s.time with state := .holdover, holdSince := some s.now, good := 0 } }) ∧
    (s.usPassed s.time.lastValid 50 = false → exec .timeHoldover s = .next s) ∧
    (∀ h p, s.time.state = .holdover → s.time.holdSince = some h → s.usPassed h 100 = true → s.newParent = some p →
      exec .timeReparent s = .next { s with time := { s.time with parent := p.val, depth := (s.port p).time.farDepth + 1, holdSince := some s.now } } ∧
      s.serving p = true ∧ (s.port p).time.farState = 2 ∧
      ∀ q, s.serving q = true → (s.port q).time.heard = true → (s.port q).time.farState = 2 → (s.port p).time.farDepth ≤ (s.port q).time.farDepth))

/-- TT_LOAD (R309, R312): the entries are read on the fabric ports first; once they have come a table in order, with an EPOCH at least 100 µs ahead, waits on every port named and the completion gives pod time; one that is
not, or cannot be read, is BAD_COMMAND; an earlier EPOCH is BAD_STATE. The table of a port (R311, R312): at its EPOCH the waiting table is in force; a
window that opens is noted until it closes, and a window that closes with a send of its slot unfinished is counted. Model choices: log entry 83. -/
def Obligations.TimetablesRun : Prop :=
  (∀ (s : State) (r : AdminRef), s.mgmtIs r 0x0201 = true → s.lodgeTurn r = true →
    let c := s.cmdD r
    let n := bits (c.arg 4) 63 0
    let period := bits (c.arg 5) 63 0
    c.pav = 0 → bits (c.arg 2) 63 6 = 0 → bits (c.arg 3) 63 56 = 0 → bits (c.arg 3) 2 0 = 0 → n ≤ 4096 → 1024 ≤ period → period ≤ 2 ^ 32 → c.zeroArgs [7] = true →
    let refused (st r1 : Nat) : Prop := ∃ t, exec (.ttLoad r) s = .next t ∧ t.ports = s.ports ∧ t.phaseOf r = some (.finished st 0 r1 0 0)
    (s.contentRead (.admin r) = none → ∃ t, exec (.ttLoad r) s = .next t ∧ t.ports = s.ports ∧ t.front = s.front ∧
      (t.contentRead (.admin r)).isSome = true ∧ ∀ w ∈ readPieces (bits (c.arg 3) 55 0) (8 * n) 0 (fun o => .content (.admin r) o), t.asks w) ∧
    (∀ l, s.content (.admin r) = some (.data l) → 8 * n ≤ l.length →
      let es := (List.range n).map (ttEntry l)
      (ttEntriesOk period es = false → refused 2 0) ∧
      (ttEntriesOk period es = true → (c.arg 6).toNat < s.podTime + usTicks 100 → refused 5 s.podTime) ∧
      (ttEntriesOk period es = true → s.podTime + usTicks 100 ≤ (c.arg 6).toNat →
        ∃ t, exec (.ttLoad r) s = .next t ∧ t.phaseOf r = some (.finished 0 0 s.podTime 0 0) ∧
          ∀ p, t.port p = if bit (c.arg 2) p.val then
              { s.port p with time := { (s.port p).time with waiting := some { entries := es, period := period, epoch := (c.arg 6).toNat } } }
            else s.port p)) ∧
    (∀ x, s.content (.admin r) = some x → (∀ l, x ≠ .data l) → refused 2 0)) ∧
  (∀ (s : State) (p : PortIx), s.live = true →
    (∀ w, (s.port p).time.waiting = some w → w.epoch ≤ s.podTime →
      ∃ t, exec (.ttEpoch p) s = .next t ∧ (t.port p).time.active = some w ∧ (t.port p).time.waiting = none ∧ t.front = s.front ∧ ∀ q, q ≠ p → t.port q = s.port q) ∧
    (∀ w, s.opening p = some w → ∃ t, exec (.ttWindowOpen p) s = .next t ∧
      (t.port p).time = { (s.port p).time with opened := (s.port p).time.opened ++ [w] } ∧ t.front = s.front) ∧
    (∀ w, s.closing p = some w → (s.counter (ctrTtOverrun p)).count < 0xFFFFFFFE →
      ∃ t, exec (.ttWindowClose p) s = .next t ∧ (t.port p).time = { (s.port p).time with opened := (s.port p).time.opened.erase w } ∧ t.front = s.front ∧
        t.gather = s.gather ∧ (t.counter (ctrTtOverrun p)).count = (s.counter (ctrTtOverrun p)).count + (if s.slotUnfinished p w.1 then 1 else 0)))

/-! ### The pane layer (09) -/

/-- PANE_TRANSMIT (R334, R342), once no TIME pane is due: a port in service with a unit ready under a credit and nothing above it sends it in the next
sequenced pane, which enters the Cullet (R343); one with nothing to send, no pane to send again and nothing due but perhaps an acknowledgement fills the
two slots with control panes and owes no acknowledgement after them; the Cullet and TX_NEXT stay. In P1 no codeword goes out (R392). A port in training
sends its message (R376), and one in test with PRBS on the bits of its generator (R399). Model choices: log entry 84. -/
def Obligations.PanesAreSent : Prop :=
  ∀ (s : State) (p : PortIx), s.paneReady p = true → s.timeDue p = false →
    let q := (s.port p).pane
    let l := (s.port p).lane
    let quiet : Prop := (∀ c ∈ q.cullet, c.resend = 0) ∧ q.ctrlDue = [] ∧ q.nakDue = [] ∧ q.fences = []
    let follows : Prop := s.leads p = false ∨ (l.train.phase ≠ .lock ∧ l.train.phase ≠ .ident ∧ l.train.phase ≠ .done)
    let sends (t : State) (n : Nat) : Prop := (t.port p).keys.slot = (s.port p).keys.slot + n ∧ (t.port p).pane.cullet = q.cullet ∧ (t.port p).pane.txNext = q.txNext ∧
      (∀ o, o ≠ p → t.port o = s.port o) ∧ t.counters = s.counters ∧ t.front = s.front
    (l.testing = false →
      (s.serving p = true → l.lpsState ≠ 1 → quiet → s.nextPair p = none →
        ∃ t, exec (.paneTransmit p) s = .next t ∧ sends t 2 ∧ (t.port p).pane.ackDue = false ∧ (t.port p).pane.rxNext = q.rxNext) ∧
      (∀ v, s.serving p = true → l.lpsState ≠ 1 → quiet → q.ackDue = false → q.sinceVector < 61 → s.mayStart p = true → s.flt.injArmed = false →
        s.nextPair p = some v →
        ∃ t, exec (.paneTransmit p) s = .next t ∧ q.txNext < (t.port p).pane.txNext ∧
          ∃ c ∈ (t.port p).pane.cullet, c.seq = q.txNext ∧ c.fence = false ∧ c.vc = v.1 ∧ c.sub = v.2 ∧ c.retx = 0) ∧
      (s.serving p = true → l.lpsState = 1 →
        ∃ t, exec (.paneTransmit p) s = .next t ∧ sends t 2 ∧ ∀ w, .codeword w ∈ (t.port p).pane.sent → .codeword w ∈ q.sent) ∧
      (∀ m, s.serving p = false → follows → l.train.ans = none → l.train.msg = some m →
        ∃ t, exec (.paneTransmit p) s = .next t ∧ sends t 2) ∧
      (s.serving p = false → follows → l.train.ans = none → l.train.msg = none →
        ∃ t, exec (.paneTransmit p) s = .next t ∧ sends t 0)) ∧
    (l.testing = true → l.prbsCode ≠ 0 → l.nearLoop = false → l.train.phase ≠ .tune →
      let a := prbsBits l.prbsCode 2176 l.prbs 0
      let b := prbsBits l.prbsCode 2176 a.1 0
      ∃ t, exec (.paneTransmit p) s = .next t ∧ sends t 0 ∧ (t.port p).lane.prbs = b.1 ∧
        (t.port p).pane.sent = q.sent ++ [(s.port p).symbols l.testLanes (beBytes 272 a.2), (s.port p).symbols l.testLanes (beBytes 272 b.2)])

/-- CODEWORD_RECEIVE (R316, R319, R366 to R369): the bytes are descrambled; a codeword that cannot be corrected is counted and, in service, the sixteenth
in a row is the model's retraining of R374; a pane that fails its CRC-64 is counted and dropped; one that passes waits for the step of its type, in
service. In training a codeword counts on the lane that brings it (R376). Model choices: log entries 15, 97. -/
def Obligations.CodewordsAreReceived : Prop :=
  (∀ (s : State) (p : PortIx) (lane : Nat) (bytes : List Byte), s.linkLive = true → s.inTraining p = true → (s.port p).lane.testing = false →
    lane < 13 → bytes.length = 272 → fecDecode ((s.port p).descramble lane bytes).1 = none → (s.counter (ctrFecUncorr p)).count < 0xFFFFFFFE →
    ∃ t, exec (.codewordReceive p lane bytes) s = .next t ∧ (t.counter (ctrFecUncorr p)).count = (s.counter (ctrFecUncorr p)).count + 1 ∧
      ((t.port p).lane.lane lane).slot = ((s.port p).lane.lane lane).slot + 1 ∧ (t.port p).pane = (s.port p).pane ∧ ∀ o, o ≠ p → t.port o = s.port o) ∧
  (∀ (s : State) (p : PortIx) (lane : Nat) (bytes : List Byte), s.linkLive = true → (s.port p).pane.link.inService = true →
    (s.port p).lane.testing = false → lane < 13 → bytes.length = 272 →
    let w := ((s.port p).descramble lane bytes).1
    let here (t : State) : Prop := (t.port p).keys.rxSlot = (s.port p).keys.rxSlot + 1 ∧ ∀ o, o ≠ p → t.port o = s.port o
    (fecDecode w = none → (s.counter (ctrFecUncorr p)).count < 0xFFFFFFFE → (s.port p).lane.consecUncorr ≠ 15 →
      ∃ t, exec (.codewordReceive p lane bytes) s = .next t ∧ here t ∧ (t.port p).lane.consecUncorr = (s.port p).lane.consecUncorr + 1 ∧
        (t.counter (ctrFecUncorr p)).count = (s.counter (ctrFecUncorr p)).count + 1 ∧ (t.port p).pane = (s.port p).pane) ∧
    (fecDecode w = none → (s.port p).lane.consecUncorr = 15 →
      ∃ t, exec (.codewordReceive p lane bytes) s = .next t ∧ (t.port p).pane.link = .retraining ∧ (t.port p).lane.causeOwn = lcFecRate) ∧
    (∀ d f, fecDecode w = some (d, f) → paneCrcOk d = false → (s.counter (ctrCrcDrop p)).count < 0xFFFFFFFE →
      ∃ t, exec (.codewordReceive p lane bytes) s = .next t ∧ here t ∧ (t.port p).pane = (s.port p).pane ∧ (t.port p).lane.consecUncorr = 0 ∧
        (t.counter (ctrCrcDrop p)).count = (s.counter (ctrCrcDrop p)).count + 1) ∧
    (∀ d f, fecDecode w = some (d, f) → paneCrcOk d = true →
      let h := BitVec.ofNat 64 (beAt d 0 8)
      (paneType h < 6 ∨ paneType h = 7) → (paneType h = ptCtrl → ctrlKnown ((slice d 8 240).headD 0).toNat = true) →
      ∃ t, exec (.codewordReceive p lane bytes) s = .next t ∧ here t ∧ (t.port p).lane.consecUncorr = 0 ∧
        (t.port p).pane = { (s.port p).pane with
          rxq := (s.port p).pane.rxq ++ [{ hdr := h, body := slice d 8 240, slot := (s.port p).keys.rxSlot, tick := s.podTime }] }))

/-- DATA_PANE (R345): a duplicate is acknowledged and counted; a new pane that opens under no key slot is counted in BAD_DROP and not held; one that opens
is held while an earlier one is missing, and released when it is the next. Model choices: log entry 17. -/
def Obligations.DataPanesAreTaken : Prop :=
  ∀ (s : State) (p : PortIx) (x : RxPane), s.linkLive = true → s.rxHead p ptData = some x → s.serving p = true → s.early p = false → paneVc x.hdr < 12 →
    let q := (s.port p).pane
    let popped (t : State) : Prop := (t.port p).pane.rxq = q.rxq.drop 1
    (∀ n, q.seqClass (paneSeq x.hdr) = .new n → q.retired.getLsbD (paneKey x.hdr) = false → (s.port p).keys.rx (paneKey x.hdr) ≠ [] →
      ((s.port p).keys.openData (paneKey x.hdr) n x.hdr (paneEnc x.hdr) x.body = none → (s.counter (ctrBadDrop p)).count < 0xFFFFFFFE →
        ∃ t, exec (.dataPane p) s = .next t ∧ popped t ∧ (t.counter (ctrBadDrop p)).count = (s.counter (ctrBadDrop p)).count + 1 ∧
          (t.port p).pane.held = q.held ∧ (t.port p).pane.rxNext = q.rxNext ∧ t.xfer = s.xfer ∧ t.front = s.front) ∧
      (∀ units, (s.port p).keys.openData (paneKey x.hdr) n x.hdr (paneEnc x.hdr) x.body = some units → q.slots.length < 4096 →
        (q.takeFields x.hdr s.now).isSome = true →
        (n ≠ q.rxNext → (∀ h ∈ q.held, h.seq ≠ q.rxNext) →
          ∃ t, exec (.dataPane p) s = .next t ∧ popped t ∧ (t.port p).pane.rxNext = q.rxNext ∧
            (t.port p).pane.held = q.held ++ [{ seq := n, fence := false, vc := paneVc x.hdr, key := paneKey x.hdr, sub := paneSub x.hdr, body := some units }] ∧
            t.xfer = s.xfer ∧ t.front = s.front) ∧
        (n = q.rxNext → q.held = [] → ∃ t, exec (.dataPane p) s = .next t ∧ (t.port p).pane.rxNext = q.rxNext + 1 ∧ (t.port p).pane.held = []))) ∧
    (q.seqClass (paneSeq x.hdr) = .dup → (s.counter (ctrDup p)).count < 0xFFFFFFFE →
      ∃ t, exec (.dataPane p) s = .next t ∧ popped t ∧ (t.port p).pane.ackDue = true ∧ (t.counter (ctrDup p)).count = (s.counter (ctrDup p)).count + 1 ∧
        (t.port p).pane.held = q.held ∧ (t.port p).pane.rxNext = q.rxNext ∧ t.xfer = s.xfer)

/-- ACK and IDLE panes, NAK panes and OUT_OF_SERVICE whose tag passes (R337, R341, R347, R360): a credit vector gives every channel its RET value and
DEMAND and restarts the credit timeout; a NAK has every Cullet pane it lists sent again; OUT_OF_SERVICE is shown and reported to the Lodge firmware. `q` is the pane state after
CUMACK and the RET value of the header. ACK, IDLE, NAK and CTRL panes whose tag passes under no key are counted in BAD_DROP and act on nothing (R321,
R436). Model choices: log entries 16, 17. -/
def Obligations.ControlPanesAct : Prop :=
  (∀ (s : State) (p : PortIx) (x : RxPane) (q : Pane), s.linkLive = true → s.serving p = true → ((s.port p).keys.segOf x.hdr x.slot x.body).isSome = true →
    s.early p = false → ({ (s.port p).pane with rxq := (s.port p).pane.rxq.drop 1 } : Pane).takeFields x.hdr s.now = some q →
    let vector (c : Instr) : Prop := (q.takeRets (vcIds.map (fun v => (v, vectorRet x.body v)))).isSome = true →
      ∃ t, exec c s = .next t ∧ (t.port p).pane.creditStart = s.now ∧ (t.port p).pane.rxq = (s.port p).pane.rxq.drop 1 ∧
        (∀ v, v < 12 → ((t.port p).pane.vc v).last = vectorRet x.body v ∧ ((t.port p).pane.vc v).demand = (vectorDemand x.body).testBit v) ∧
        (∀ o, o ≠ p → t.port o = s.port o) ∧ t.counters = s.counters ∧ t.front = s.front
    (s.rxHead p ptAck = some x → vector (.ackPane p)) ∧ (s.rxHead p ptIdle = some x → vector (.idlePane p)) ∧
    (s.rxHead p ptNak = some x → (∀ c ∈ q.cullet, c.retx < 16) →
      ∃ t, exec (.nakPane p) s = .next t ∧ (t.port p).pane.cullet.map CulletPane.seq = q.cullet.map CulletPane.seq ∧
        (∀ c ∈ (t.port p).pane.cullet, c.seq ∈ q.naked x.body → c.resend ≠ 0) ∧ (∀ o, o ≠ p → t.port o = s.port o) ∧ t.counters = s.counters) ∧
    (s.rxHead p ptCtrl = some x → (x.body.headD 0).toNat = 0x04 →
      ∃ t, exec (.outOfServiceCtrl p) s = .next t ∧ (t.port p).pane.farOos = true ∧ t.lodge.oosPorts.getLsbD p.val = true ∧ (t.port p).pane.rxq = (s.port p).pane.rxq.drop 1 ∧
        (∀ o, o ≠ p → t.port o = s.port o) ∧ t.counters = s.counters)) ∧
  (∀ (s : State) (p : PortIx) (x : RxPane), s.linkLive = true → s.serving p = true → (s.port p).keys.segOf x.hdr x.slot x.body = none →
    (s.counter (ctrBadDrop p)).count < 0xFFFFFFFE →
    let dropped (c : Instr) : Prop := ∃ t, exec c s = .next t ∧ (t.counter (ctrBadDrop p)).count = (s.counter (ctrBadDrop p)).count + 1 ∧
      (t.port p).pane = { (s.port p).pane with rxq := (s.port p).pane.rxq.drop 1 } ∧ (∀ o, o ≠ p → t.port o = s.port o) ∧ t.xfer = s.xfer ∧ t.front = s.front
    (s.rxHead p ptAck = some x → dropped (.ackPane p)) ∧ (s.rxHead p ptIdle = some x → dropped (.idlePane p)) ∧ (s.rxHead p ptNak = some x → dropped (.nakPane p)) ∧
    (s.rxHead p ptCtrl = some x → ((x.body.headD 0).toNat = 0x01 → dropped (.resume p)) ∧ ((x.body.headD 0).toNat = 0x04 → dropped (.outOfServiceCtrl p))))

/-- FENCE panes (R321, R345, R352, R353, R362): a RETIRE or VOID fence whose tag fails is counted in BAD_DROP; one that passes is held while an earlier
pane is missing. A RETIRE fence every earlier unit of whose channel has left is recorded on its channel and leaves its slot; once all twelve are recorded
the Gatehouse has the port's report (R352); and a slot that every unit has left comes free (R339, R340). Model choices: log entry 16. -/
def Obligations.FencesAndSlots : Prop :=
  ∀ (s : State) (p : PortIx), s.linkLive = true →
    let q := (s.port p).pane
    (∀ x n, s.rxHead p ptFence = some x → s.serving p = true → s.early p = false → paneVc x.hdr < 12 → q.seqClass (paneSeq x.hdr) = .new n →
      q.leavingFence = none → (∀ h ∈ q.held, h.seq ≠ q.rxNext) → n ≠ q.rxNext →
      let void := x.body.headD 0 == 0x02
      let c : Instr := if void then .voidFence p else .retireFence p
      ((s.port p).keys.fenceOk void n x.hdr x.body = false → (s.counter (ctrBadDrop p)).count < 0xFFFFFFFE →
        ∃ t, exec c s = .next t ∧ (t.counter (ctrBadDrop p)).count = (s.counter (ctrBadDrop p)).count + 1 ∧ (t.port p).pane.held = q.held ∧
          (t.port p).pane.rxq = q.rxq.drop 1) ∧
      ((s.port p).keys.fenceOk void n x.hdr x.body = true → q.slots.length < 4096 → (q.takeFields x.hdr s.now).isSome = true →
        ((x.body.headD 0 = 0x01 ∧ 1 ≤ (x.body.getD 1 0).toNat ∧ (x.body.getD 1 0).toNat ≤ 15) ∨ (x.body.headD 0 = 0x02 ∧ x.body.getD 1 0 = 0)) →
        ∃ t, exec c s = .next t ∧ (t.port p).pane.rxq = q.rxq.drop 1 ∧ (t.port p).pane.held = q.held ++
          [{ seq := n, fence := true, vc := paneVc x.hdr, key := paneKey x.hdr, sub := paneSub x.hdr, body := some (x.body.take 224) }])) ∧
    (∀ f k, s.fenceHead p false = false → q.leavingFence = some f → f.fenceKey = some k →
      let recorded := Table.get 0 q.fenced k ||| 1 <<< f.vc
      ∃ t, exec (.retireFence p) s = .next t ∧ (∀ o, o ≠ p → t.port o = s.port o) ∧ t.counters = s.counters ∧ t.front = s.front ∧
        (t.port p).pane.slots = q.slots.map (fun t => if t.seq = f.seq then { t with fenceKey := none } else t) ∧
        (k ≠ 0 → k < 16 → if recorded = 4095 then Table.get 0 (t.port p).pane.fenced k = 0 ∧ (Table.get 0 t.gate.drained p.val).testBit k = true
          else Table.get 0 (t.port p).pane.fenced k = recorded)) ∧
    (∀ n f, q.emptied n = some f →
      ∃ t, exec (.slotFreed p n) s = .next t ∧ (t.port p).pane.slots = q.slots.filter (fun x => x.seq != n) ∧ (∀ o, o ≠ p → t.port o = s.port o) ∧
        t.counters = s.counters ∧ t.front = s.front)

/-- The timers of a port (R342, R347, R348): gaps still open after half an ack timeout are reported again; an ack timer that runs out has the oldest
Cullet pane sent again with ACK_NOW, and the eighth time in a row retrains; no credit vector for the credit timeout retrains. Resumption (R358): a
RESUME that names this end's PL_ID and whose own PL_ID is the one known ends it, and every Cullet pane the far end does not hold is sent again; until
it ends RESUME is sent every 2 µs. Model choices: log entry 87. -/
def Obligations.PortTimersAndResumption : Prop :=
  (∀ (s : State) (p : PortIx),
    let q := (s.port p).pane
    let others (t : State) : Prop := (∀ o, o ≠ p → t.port o = s.port o) ∧ t.front = s.front ∧ t.xfer = s.xfer
    (s.linkLive = true → s.serving p = true → s.staleGaps p ≠ [] →
      ∃ t, exec (.nakRereport p) s = .next t ∧ (t.port p).pane = { q with
        gaps := q.gaps.map (fun g => if g.1 ∈ (s.staleGaps p).take 8 then (g.1, s.now) else g), nakDue := q.nakDue ++ (s.staleGaps p).take 8 } ∧ others t ∧
        t.counters = s.counters) ∧
    (∀ c r, s.ackExpired p = true → q.cullet = c :: r → q.ackExpiries < 7 → c.retx < 16 →
      ∃ t, exec (.ackTimerExpiry p) s = .next t ∧ (t.port p).pane.ackExpiries = q.ackExpiries + 1 ∧ (t.port p).pane.ackStart = some s.now ∧
        (t.port p).pane.cullet.head? = some { c with resend := c.resend + 1, ackNow := true } ∧ others t ∧ t.counters = s.counters) ∧
    (s.ackExpired p = true → q.ackExpiries = 7 →
      ∃ t, exec (.ackTimerExpiry p) s = .next t ∧ (t.port p).pane.link = .retraining ∧ (t.port p).lane.causeOwn = lcReplay ∧ others t) ∧
    (s.timersRun p = true → s.usPassed q.creditStart (bits q.ctl 47 32) = true →
      ∃ t, exec (.creditTimeout p) s = .next t ∧ (t.port p).pane.link = .retraining ∧ (t.port p).lane.causeOwn = lcCredit ∧ others t)) ∧
  (∀ (s : State) (p : PortIx), s.linkLive = true → s.serving p = true → (s.port p).pane.resuming = true →
    let q := (s.port p).pane
    (∀ x, s.rxHead p ptCtrl = some x → (x.body.headD 0).toNat = 0x01 → ((s.port p).keys.segOf x.hdr x.slot x.body).isSome = true →
      BitVec.ofNat 32 (beAt x.body 4 4) = q.farPlId → beAt x.body 8 4 = q.plId.toNat →
      ∃ t, exec (.resume p) s = .next t ∧ (t.port p).pane.resuming = false ∧ (t.port p).pane.heardResume = true ∧ (t.port p).pane.anew = false ∧
        (t.port p).pane.blockReset = false ∧ (∀ c ∈ (t.port p).pane.cullet, c.resend = 1 ∧ c.retx = 0 ∧ c.seq ∈ q.cullet.map CulletPane.seq) ∧
        t.front = s.front) ∧
    (s.usPassed q.lastResume 2 = true →
      ∃ t, exec (.resumeTimer p) s = .next t ∧ (t.port p).pane = { q with ctrlDue := q.ctrlDue ++ [ctrlResume], lastResume := s.now } ∧
        (∀ o, o ≠ p → t.port o = s.port o) ∧ t.counters = s.counters ∧ t.front = s.front))

/-- PURGE (R361, R362): queued units of the keys named leave the ports named, Cullet panes of those keys become VOID fences, and the completion counts
both; a Pavilion other than 0 may name only its own key on links inside its block. Model choices: log entry 90. -/
def Obligations.PurgeClears : Prop :=
  ∀ (s : State) (r : AdminRef), s.mgmtIs r 0x0301 = true → s.lodgeTurn r = true →
    let c := s.cmdD r
    let ports := bits (c.arg 2) 5 0
    let keys := bits (c.arg 3) 15 0
    let refused (st : Nat) : Prop := ∃ t, exec (.purge r) s = .next t ∧ t.ports = s.ports ∧ t.phaseOf r = some (.finished st 0 0 0 0)
    (ports = 0 ∨ keys = 0 ∨ bits (c.arg 2) 63 6 ≠ 0 ∨ bits (c.arg 3) 63 16 ≠ 0 ∨ c.zeroArgs [4, 5, 6, 7] = false → refused 2) ∧
    (ports ≠ 0 → keys ≠ 0 → bits (c.arg 2) 63 6 = 0 → bits (c.arg 3) 63 16 = 0 → c.zeroArgs [4, 5, 6, 7] = true →
      (c.pav ≠ 0 → (keys ≠ 1 <<< c.pav ∨ ∃ p : PortIx, ports.testBit p.val = true ∧ s.linkInBlock c.pav p = false) → refused 6) ∧
      ((c.pav = 0 ∨ (keys = 1 <<< c.pav ∧ ∀ p : PortIx, ports.testBit p.val = true → s.linkInBlock c.pav p = true)) →
        ∃ t, exec (.purge r) s = .next t ∧
        t.phaseOf r = some (.finished 0 0 (s.purgePorts ports keys).2.1 (s.purgePorts ports keys).2.2 0) ∧ t.front.chans = s.front.chans ∧
        ∀ p, ports.testBit p.val = true → (∀ m ∈ (t.port p).pane.txq, keys.testBit m.key = false) ∧
          ∀ e ∈ (t.port p).pane.cullet, e.void = true ∨ keys.testBit e.key = false))

/-! ### Lanes and training (10) -/

/-- TRAIN messages that agree on a configuration (R376, R377, R380 to R384, R410, R411), in a training at the far end's round, none repeated. HELLO and
RETRAIN are noted with the far end's cause, its lanes and who leads; in service they take the link to RETRAINING. The follower copies a CONFIG it
would choose itself and rejects any other; the leader takes a copy and begins a new round on REJECT. An IDENT is answered with its result, and once both
results are known anything but two times MATCH takes the port out of use. TRAIN messages that tune and start (R382, R385, R386, R399), in a training at
the far end's round, none repeated. A TUNE_REQ moves each lane's taps as R385 says and is answered; after a TUNE_RSP the receiver's algorithm goes on or
judges; TUNE_DONE gives the far end's judgement; GO enters the step of the configuration; READY enters service with it; LOOP_REQ in test sets far-end
loopback. Model choices: log entries 21, 98, 99, 100. -/
def Obligations.TrainingMessages : Prop :=
  (∀ (s : State) (p : PortIx) (x : RxPane), s.linkLive = true → s.rxHead p ptTrain = some x →
    let b := x.body
    let h := (s.rxPop p).heardTrain p b
    let fresh : Prop := s.inTraining p = true ∧ (s.port p).lane.train.repeats (b.headD 0).toNat (beAt b 2 2) = false ∧
      ((s.port p).lane.train.initial = true ∨ (s.port p).lane.train.step ≠ 0)
    let noted (t : State) : Prop := (t.port p).lane.causeFar = reasonOf (b.getD 16 0) ∧ (t.port p).lane.farUsable = beAt b 12 2 % 8192 ∧
      (t.port p).lane.leader = decide (s.global.serial.toNat < (BitVec.ofNat 64 (beAt b 4 8)).toNat) ∧ (t.port p).pane.rxq = (s.port p).pane.rxq.drop 1 ∧
      t.front = s.front ∧ t.xfer = s.xfer ∧ t.counters = s.counters
    let begins (c : Instr) : Prop := (s.serving p = true → ∃ t, exec c s = .next t ∧ (t.port p).pane.link = .retraining ∧ (t.port p).lane.causeOwn = 0 ∧
        (t.port p).lane.causeFar = reasonOf (b.getD 16 0) ∧ t.front = s.front) ∧
      (fresh → ∃ t, exec c s = .next t ∧ (t.port p).pane.link = (s.port p).pane.link ∧ noted t)
    let disabled (t : State) : Prop := (t.port p).pane.link = .down ∧ (t.port p).lane.enabled = false ∧ (t.topo.port p).disabled = true
    let told (t : State) (v : Nat) : Prop := (t.port p).lane.train.identOwn = some v ∧ (t.port p).pane.link = (s.port p).pane.link ∧
      (t.port p).lane.train.ans.map (fun m => (m.code, m.args)) = some (tmIdentAck, BitVec.ofNat 8 v :: slice b 24 3)
    (s.trainHead p tmHello = true → begins (.hello p)) ∧ (s.trainHead p tmRetrain = true → begins (.retrain p)) ∧
    (s.trainHead p tmConfig = true → fresh → h.leads p = false →
      ∃ t, exec (.config p) s = .next t ∧ (t.port p).pane.link = (s.port p).pane.link ∧ noted t ∧
        (t.port p).lane.train.msg.map (fun m => (m.code, m.reject, m.args)) = some (tmConfigAck, decide (h.nextCfg p ≠ some (TrainCfg.ofBody b)), slice b 24 5)) ∧
    (∀ m, s.trainHead p tmConfigAck = true → fresh → h.leads p = true → (s.port p).lane.train.msg = some m → m.code = tmConfig →
      (bit (b.getD 1 0) 1 = true → ∃ t, exec (.configAck p) s = .next t ∧ (t.port p).pane.link = (s.port p).pane.link ∧ noted t ∧
        (t.port p).lane.train.round = (s.port p).lane.train.round + 1 ∧ (t.port p).lane.train.phase = .lock ∧
        (t.port p).lane.train.msg.map TrainMsg.code = some (if (s.port p).lane.train.initial then tmHello else tmRetrain)) ∧
      (bit (b.getD 1 0) 1 = false → slice b 24 5 = m.args → ∃ t, exec (.configAck p) s = .next t ∧ (t.port p).pane.link = (s.port p).pane.link ∧ noted t ∧
        ((TrainCfg.ofBody b).action = 1 → (t.port p).lane.train.phase = .service ∧ (t.port p).lane.train.msg.map TrainMsg.code = some tmReady) ∧
        ((TrainCfg.ofBody b).action ≠ 1 → (t.port p).lane.train.waiting = some s.now ∧ (t.port p).lane.train.msg.map TrainMsg.code =
          some (if (t.port p).lane.train.phase = .ident then tmIdent else tmGo)) ∧
        (t.port p).lane.train.cfg = TrainCfg.ofBody b)) ∧
    (s.trainHead p tmIdent = true → fresh → (s.port p).lane.train.phase = .ident → (s.port p).lane.train.round = b.getD 17 0 →
      ∃ t, exec (.ident p) s = .next t ∧ (t.topo.port p).ownResult = s.identResult p b ∧ (t.topo.port p).seenNode = beAt b 24 2 % 8192 ∧
        (t.topo.port p).seenPort = beAt b 26 1 % 8 ∧ (t.port p).pane.rxq = (s.port p).pane.rxq.drop 1 ∧
        match (s.port p).lane.train.identFar with
        | none => told t (s.identResult p b)
        | some f => if s.identResult p b = 1 ∧ f = 1 then told t 1 else disabled t) ∧
    (s.trainHead p tmIdentAck = true → fresh → (s.port p).lane.train.phase = .ident → (s.port p).lane.train.round = b.getD 17 0 →
      ∃ t, exec (.identAck p) s = .next t ∧ (t.topo.port p).farResult = beAt b 24 1 % 8 ∧
        if (s.port p).lane.train.identOwn.all (fun v => v == 1 && beAt b 24 1 % 8 == 1) = true then
          (t.port p).lane.train.identFar = some (beAt b 24 1 % 8) ∧ (t.port p).pane.link = (s.port p).pane.link
        else disabled t)) ∧
  (∀ (s : State) (p : PortIx) (x : RxPane), s.linkLive = true → s.rxHead p ptTrain = some x →
    let b := x.body
    let l := (s.port p).lane
    let ours : Prop := s.inTraining p = true ∧ l.train.repeats (b.headD 0).toNat (beAt b 2 2) = false ∧ l.train.round = b.getD 17 0
    let stays (t : State) : Prop := (t.port p).pane.link = (s.port p).pane.link ∧ (t.port p).pane.rxq = (s.port p).pane.rxq.drop 1 ∧ t.front = s.front ∧ t.counters = s.counters
    (s.trainHead p tmTuneReq = true → ours → l.train.phase ≠ .done → l.train.phase ≠ .lock →
      ∃ t, exec (.tuneReq p) s = .next t ∧ stays t ∧ (t.port p).lane.train.ans.map TrainMsg.code = some tmTuneRsp ∧
        ∀ k, k < 13 → ((t.port p).lane.lane k).taps = ((l.lane k).taps.apply (s.boardTaps p k l.step) (beAt b (24 + 2 * k) 2)).1) ∧
    (s.trainHead p tmTuneRsp = true → ours → l.testing = false → l.train.phase = .tune → l.train.waiting.isSome = true →
      ∃ t, exec (.tuneRsp p) s = .next t ∧ stays t ∧
        (l.train.second = true → (t.port p).lane.train.phase = .measure) ∧
        (((t.port p).lane.train.phase = .measure ∧ (t.port p).lane.train.waiting = none) ∨
          ((t.port p).lane.train.phase = .tune ∧ (t.port p).lane.train.waiting = some s.now ∧ (t.port p).lane.train.msg.map TrainMsg.code = some tmTuneReq))) ∧
    (s.trainHead p tmTuneDone = true → ours → (l.train.phase = .tune ∨ l.train.phase = .measure) →
      ∃ t, exec (.tuneDone p) s = .next t ∧ stays t ∧ (t.port p).lane.train.farPass = some (beAt b 24 2 % 8192) ∧ (t.port p).lane.train.phase = l.train.phase) ∧
    (s.trainHead p tmGo = true → ours → l.train.phase = .going →
      ∃ t, exec (.go p) s = .next t ∧ (t.port p).pane.link = (s.port p).pane.link ∧ (t.port p).lane.step = l.train.cfg.step ∧
        (t.port p).lane.train.phase = .relock ∧ (t.port p).lane.train.cfg = l.train.cfg ∧ t.front = s.front) ∧
    (s.trainHead p tmReady = true → ours → l.train.phase = .service → l.retrainDue = false →
      ∃ t, exec (.ready p) s = .next t ∧ (t.port p).lane.active = l.train.cfg.active ∧ (t.port p).lane.width = l.train.cfg.width ∧
        (t.port p).lane.rxActive = l.train.cfg.active ∧ (t.port p).lane.rxWidth = l.train.cfg.width ∧ (t.port p).lane.step = l.train.cfg.step ∧
        (t.port p).pane.link = (if l.train.cfg.width = 12 ∧ l.train.cfg.step = (t.port p).lane.target then .up else .degraded) ∧
        (t.port p).pane.resuming = true ∧ (t.port p).pane.creditStart = s.now) ∧
    (s.trainHead p tmLoopReq = true → s.serving p = false → s.inTraining p = false → l.testing = true →
      l.train.repeats tmLoopReq (beAt b 2 2) = false →
      ∃ t, exec (.loopReq p) s = .next t ∧ (b.getD 24 0 = 1 → (t.port p).lane.farLoop = some (beAt b 25 2 % 8192)) ∧
        (b.getD 24 0 = 0 → (t.port p).lane.farLoop = none) ∧ (t.port p).lane = { l with farLoop := (t.port p).lane.farLoop, train := (t.port p).lane.train } ∧
        ∀ q, q ≠ p → t.port q = s.port q))

/-- Alignment markers and lost lanes (R371, R374). A marker not taken begins a lane's lock anew in training; in service the second in a row on an active
lane retrains with cause DESKEW, and so does a COUNT that for its place differs from another active lane's. In training the second marker of the
expected spacing makes a lane usable when it lags none by more than 64 ns. A lane lost on an active link retrains with cause LANE_FAIL. The timers of
training and the judging of a step (R375, R383, R384, R386): a message unanswered for 1 ms begins a new round, one higher for the leader; an attempt
over its time is taken again one step lower, and at S0 the link goes DOWN; tuning over its time passes no lane; a first judgement asks for PRESET 0,
and a second passes the lanes that passed both; a DOWN port trains again after RETRY. Model choices: log entries 96, 98, 101. -/
def Obligations.LanesAndTrainingTimers : Prop :=
  (∀ (s : State) (p : PortIx) (k : Nat), s.linkLive = true → k < 13 →
    let l := (s.port p).lane
    (∀ b : List Byte, b.length = 272 → (s.port p).pane.link ≠ .down →
      let count := beAt b 21 7
      let inTime : Prop := ∀ i, i < 13 → (l.lane i).cdr = true → (l.lane i).lastCount = some count → s.now ≤ (l.lane i).markerTick + 76
      (markerTaken b = false →
        (s.serving p = false → ∃ t, exec (.alignmentMarker p k b) s = .next t ∧ (t.port p).lane.lane k = { l.lane k with markers := 0, lastCount := none } ∧
          (t.port p).pane = (s.port p).pane ∧ ∀ i, i ≠ k → (t.port p).lane.lane i = l.lane i) ∧
        (s.serving p = true → l.rxActive.testBit k = true →
          ∃ t, exec (.alignmentMarker p k b) s = .next t ∧
            if (l.lane k).missed = 0 then (t.port p).pane = (s.port p).pane ∧ ((t.port p).lane.lane k).missed = 1
            else (t.port p).pane.link = .retraining ∧ (t.port p).lane.causeOwn = lcDeskew)) ∧
      (markerTaken b = true →
        (s.serving p = true → l.rxActive.testBit k = true →
          let n := (l.lane k).place + 1
          let differs : Prop := ∃ i c, i < 13 ∧ l.rxActive.testBit i = true ∧ i ≠ k ∧ (l.lane i).lastCount = some c ∧
            (c + n) % 2 ^ 56 ≠ (count + (l.lane i).place) % 2 ^ 56
          (differs → ∃ t, exec (.alignmentMarker p k b) s = .next t ∧ (t.port p).pane.link = .retraining ∧ (t.port p).lane.causeOwn = lcDeskew) ∧
          (¬ differs → ∃ t, exec (.alignmentMarker p k b) s = .next t ∧ (t.port p).pane = (s.port p).pane ∧
            ((t.port p).lane.lane k).cdr = true ∧ ((t.port p).lane.lane k).markers = (l.lane k).markers + 1 ∧ ((t.port p).lane.lane k).missed = 0 ∧
            ((t.port p).lane.lane k).place = n ∧ ((t.port p).lane.lane k).lastCount = some count ∧ ((t.port p).lane.lane k).markerTick = s.now ∧
            (inTime → ((t.port p).lane.lane k).usable = (l.lane k).usable ∧ ((t.port p).lane.lane k).fail = (l.lane k).fail))) ∧
        (s.inTraining p = true → l.train.phase = .lock → (l.lane k).lastCount = some ((count + 2 ^ 56 - 1) % 2 ^ 56) → 1 ≤ (l.lane k).markers → (l.lane k).fail ≤ 1 →
          inTime → (s.leads p = true → l.train.farUsable.testBit k = true) →
          ∃ t, exec (.alignmentMarker p k b) s = .next t ∧ ((t.port p).lane.lane k).usable = true ∧ (t.port p).pane.link = (s.port p).pane.link))) ∧
    (∀ why : LaneFault, ∃ t, exec (.laneFail p k why) s = .next t ∧ ((t.port p).lane.lane k).usable = false ∧
      ((t.port p).lane.lane k).fail = (if why = .optics then 4 else 1) ∧
      if s.serving p = true ∧ (l.active ||| l.rxActive).testBit k = true then (t.port p).pane.link = .retraining ∧ (t.port p).lane.causeOwn = lcLaneFail
      else (t.port p).pane = (s.port p).pane)) ∧
  (∀ (s : State) (p : PortIx), s.linkLive = true →
    let l := (s.port p).lane
    let linkStays (t : State) : Prop := (t.port p).pane.link = (s.port p).pane.link ∧ t.front = s.front
    (s.inTraining p = true →
      (s.attemptLate p = false → s.msgLate p = true → ∃ t, exec (.trainingMsgTimeout p) s = .next t ∧ linkStays t ∧ (t.port p).lane.train.phase = .lock ∧
        (t.port p).lane.train.round = l.train.round + (if s.leads p then 1 else 0) ∧
        (t.port p).lane.train.msg.map TrainMsg.code = some (if l.train.initial then tmHello else tmRetrain)) ∧
      (s.attemptLate p = true → ∃ t, exec (.trainingMsgTimeout p) s = .next t ∧
        if l.train.step = 0 then (t.port p).pane.link = .down else
          linkStays t ∧ (t.port p).lane.step = l.train.step - 1 ∧ (t.port p).lane.train.step = l.train.step - 1 ∧ (t.port p).lane.train.phase = .lock) ∧
      (l.train.phase = .tune → s.usPassed l.train.tuneStart 60000 = true → l.train.farPass = none →
        ∃ t, exec (.tuningTimeout p) s = .next t ∧ linkStays t ∧ (t.port p).lane.train.phase = .done ∧ (t.port p).lane.train.ownPass = some 0 ∧
          (t.port p).lane.train.msg.map TrainMsg.code = some tmTuneDone ∧ ∀ k, k < 13 → ((t.port p).lane.lane k).usable = false) ∧
      (∀ r : List (Nat × Nat), l.train.phase = .measure → r.length = 13 → (∀ e ∈ r, e.2 = l.train.window) → l.adopt = false →
        (l.train.firstPass = none → ∃ t, exec (.marginMeasured p r) s = .next t ∧ linkStays t ∧ (t.port p).lane.train.phase = .tune ∧
          (t.port p).lane.train.second = true ∧ (t.port p).lane.train.msg.map (fun m => (m.code, m.args)) = some (tmTuneReq, presetWords) ∧
          ∃ m, (t.port p).lane.train.firstPass = some m ∧ ∀ k, k < 13 → m.testBit k = decide ((r.getD k (0, 0)).1 * 2 ^ 20 ≤ (r.getD k (0, 0)).2)) ∧
        (∀ a, l.train.firstPass = some a → l.train.second = true → l.train.farPass = none →
          ∃ t, exec (.marginMeasured p r) s = .next t ∧ linkStays t ∧ (t.port p).lane.train.phase = .done ∧
            (t.port p).lane.train.msg.map TrainMsg.code = some tmTuneDone ∧
            ∀ k, k < 13 → ((t.port p).lane.lane k).usable =
              ((l.lane k).usable && a.testBit k && decide ((r.getD k (0, 0)).1 * 2 ^ 20 ≤ (r.getD k (0, 0)).2))))) ∧
    ((s.port p).pane.link = .down → l.enabled = true → l.testing = false → l.lpsState ≠ 4 → s.usPassed l.downSince (10000 * l.retry10ms) = true →
      ∃ t, exec (.downRetry p) s = .next t ∧ (t.port p).pane.link = .training ∧ (t.port p).lane.causeOwn = lcInit ∧ ∀ q, q ≠ p → t.port q = s.port q))

/-- Width changes (R388 to R391): a lane over its error limit is left out and a change asked for; a WIDTH_REQ is answered with the width R388 gives; a
WIDTH_ACK that agrees is followed by WIDTH_GO and one that does not retrains; WIDTH_GO moves the direction received. A request without an answer for
20 µs retrains with cause TIMEOUT, and a spare lane that is due with cause SPARE. Model choices: log entry 18. -/
def Obligations.WidthsChange : Prop :=
  ∀ (s : State) (p : PortIx), s.linkLive = true → s.serving p = true →
    let l := (s.port p).lane
    let retrains (c : Instr) (why : Nat) : Prop := ∃ t, exec c s = .next t ∧ (t.port p).pane.link = .retraining ∧ (t.port p).lane.causeOwn = why ∧ t.front = s.front
    (∀ k, k < 13 → l.rxActive.testBit k = true → (l.lane k).berOver = true → l.change = none →
      ∃ t, exec (.laneBer p k) s = .next t ∧ ((t.port p).lane.lane k).usable = false ∧ ((t.port p).lane.lane k).fail = 7 ∧
        (t.port p).pane = { (s.port p).pane with ctrlDue := (s.port p).pane.ctrlDue ++ [ctrlWidthReq lcLaneBer (t.port p).lane.usable 12 s.global.serial] } ∧
        ((t.port p).lane.change.map (fun c => (c.own, c.leading, c.acked, c.reason))) = some (true, true, false, lcLaneBer) ∧ t.counters = s.counters) ∧
    (∀ (x : RxPane) (q : Pane), s.rxHead p ptCtrl = some x → ((s.port p).keys.segOf x.hdr x.slot x.body).isSome = true → s.early p = false →
      ({ (s.port p).pane with rxq := (s.port p).pane.rxq.drop 1 } : Pane).takeFields x.hdr s.now = some q →
      let b := x.body
      ((b.headD 0).toNat = 0x10 → l.change = none →
        let why := reasonOf (b.getD 1 0)
        let r := l.widthCfg (beAt b 2 2 % 8192) (b.getD 4 0).toNat (why == lcPower)
        (r.2 = 0 → retrains (.widthReq p) why) ∧
        (r.2 ≠ 0 → ∃ t, exec (.widthReq p) s = .next t ∧ (t.port p).pane.ctrlDue = q.ctrlDue ++ [ctrlWidth 0x11 why r.1 r.2] ∧
          (t.port p).lane.change.map (fun c => (c.leading, c.acked, c.active, c.width)) = some (false, true, r.1, r.2) ∧
          (t.port p).lane.width = l.width ∧ (t.port p).pane.link = (s.port p).pane.link)) ∧
      (∀ c, (b.headD 0).toNat = 0x11 → l.change = some c → c.leading = true → c.acked = false →
        let r := l.widthCfg (if c.farReason = 0 then l.farUsable else c.farUsable) (min c.max c.farMax)
          (c.reason == lcPower && (c.farReason == 0 || c.farReason == lcPower))
        (r.2 ≠ 0 → beAt b 16 2 = r.1 → (b.getD 18 0).toNat = r.2 → ∃ t, exec (.widthAck p) s = .next t ∧
          (t.port p).pane.ctrlDue = q.ctrlDue ++ [ctrlWidth 0x12 0 r.1 r.2] ∧ (t.port p).lane.change = some { c with acked := true, active := r.1, width := r.2 }) ∧
        ((r.2 = 0 ∨ beAt b 16 2 ≠ r.1 ∨ (b.getD 18 0).toNat ≠ r.2) → retrains (.widthAck p) lcTimeout)) ∧
      (∀ c, (b.headD 0).toNat = 0x12 → l.change = some c →
        ∃ t, exec (.widthGo p) s = .next t ∧ (t.port p).lane.rxActive = beAt b 16 2 % 8192 ∧ (t.port p).lane.rxWidth = (b.getD 18 0).toNat ∧
          (t.port p).lane.active = l.active ∧ (t.port p).lane.width = l.width ∧
          (c.leading = true → c.width ≤ droopWidth s.power.level → (t.port p).lane.change = none) ∧
          (c.leading = false → (t.port p).lane.change = some c ∧ (t.port p).pane.ctrlDue = q.ctrlDue ++ [ctrlWidth 0x12 0 c.active c.width]))) ∧
    (∀ c, l.change = some c → c.own = true → c.leading = true → c.acked = false → s.usPassed c.since 20 = true → retrains (.widthReqTimeout p) lcTimeout) ∧
    (∀ d, (s.port p).pane.link = .degraded → l.spareAt = some d → d ≤ s.now → retrains (.spareIn p) lcSpare)

/-! ### Lane power, optical engines, droop and engines (10, 13) -/

/-- Lane power states (R392 to R395, R474). An LPS_REQ is answered with the shallower of both states and the larger P2 width; the state of an LPS_ACK is
entered, P1, P3 and P4 only with nothing to send, and P4 takes the link DOWN and its domains off; LPS_EXIT, a received signal and a pane to send lead
back to P0; the state chosen is stated when it differs from the last statement. Optical engines (R398): a reading gives the module state; the third
failure in a row marks the engine MGMT_LOST; a lane it reports faulty is not usable, and one on an active lane retrains the link with cause LANE_FAIL.
An engine without an address is given one by SETDASA first (R396). A lost engine is tried again every second. Power domains and engine states (R470 to R475, R563): an acknowledged domain is on, and an engine in it
wakes; a request unanswered for 1 ms is reported once; an engine without work for ENG_IDLE is in E1, the deepest state the tolerance allows switches
its domain off, and work wakes it from E1 at once and else asks for its domain. Model choices: log entries 104, 106, 126, 127. -/
def Obligations.LanesOpticsAndDomains : Prop :=
  (∀ (s : State) (p : PortIx), s.linkLive = true →
    let l := (s.port p).lane
    let outputsOff (t : State) : Prop := ∀ k, k < 13 → ((t.port p).lane.lane k).txOff = true
    let texts (t : State) (c : List (List Byte)) : Prop := (t.port p).pane.ctrlDue = (s.port p).pane.ctrlDue ++ c
    let awake (t : State) : Prop := (t.port p).lane.lpsState = 0 ∧ (t.port p).lane.lpsFar = 0 ∧ (t.port p).pane.creditStart = s.now
    (∀ (x : RxPane) (q : Pane), s.serving p = true → s.rxHead p ptCtrl = some x → ((s.port p).keys.segOf x.hdr x.slot x.body).isSome = true → s.early p = false →
      ({ (s.port p).pane with rxq := (s.port p).pane.rxq.drop 1 } : Pane).takeFields x.hdr s.now = some q →
      let st := (x.body.getD 1 0).toNat
      let w := (x.body.getD 2 0).toNat
      ((x.body.headD 0).toNat = 0x13 →
        ∃ t, exec (.lpsReq p) s = .next t ∧ (t.port p).pane.ctrlDue.getLast? = some (ctrlLps 0x14 (min l.lpsOwn st) (max (s.p2Width p) w)) ∧
          (l.lpsState ≤ min l.lpsOwn st → (t.port p).lane = { l with lpsFar := st, lpsFarWidth := w, lpsOwnWidth := s.p2Width p })) ∧
      ((x.body.headD 0).toNat = 0x14 →
        ∃ t, exec (.lpsAck p) s = .next t ∧ (t.port p).lane.lpsSent = false ∧
          (st = 2 → l.width ≤ w → (t.port p).lane.lpsState = 2 ∧ (t.port p).pane.link = q.link) ∧
          ((st = 1 ∨ st = 3 ∨ st = 4) → q.idle = false → (t.port p).lane.lpsState = l.lpsState ∧ (t.port p).pane.link = q.link) ∧
          ((st = 1 ∨ st = 3) → q.idle = true → (t.port p).lane.lpsState = st ∧ (t.port p).pane.link = q.link ∧ (st = 3 → outputsOff t)) ∧
          (st = 4 → q.idle = true → (t.port p).lane.lpsState = 4 ∧ outputsOff t ∧ (t.port p).pane.link = .down ∧
            ∀ d ∈ portDomains p, t.power.domOn d = false)) ∧
      ((x.body.headD 0).toNat = 0x15 → ∃ t, exec (.lpsExit p) s = .next t ∧ awake t ∧ (t.port p).pane.ctrlDue = q.ctrlDue ∧ t.front = s.front)) ∧
    (s.serving p = true → s.lpsChoice p ≠ l.lpsOwn →
      let req := ctrlLps 0x13 (s.lpsChoice p) (s.p2Width p)
      (l.lpsState ≤ s.lpsChoice p → l.lpsState ≠ 1 → l.lpsState ≠ 3 → ∃ t, exec (.lpsChoose p) s = .next t ∧ texts t [req] ∧
        (t.port p).lane = { l with lpsOwn := s.lpsChoice p, lpsOwnWidth := s.p2Width p, lpsSent := true } ∧ t.front = s.front) ∧
      ((l.lpsState = 1 ∨ l.lpsState = 3) → ∃ t, exec (.lpsChoose p) s = .next t ∧ texts t [ctrlLps 0x15 l.lpsState 0, req] ∧
        (t.port p).lane.lpsState = 0 ∧ (t.port p).lane.lpsOwn = s.lpsChoice p)) ∧
    (s.hasPane p = true →
      ((l.lpsState = 1 ∨ l.lpsState = 3) → ∃ t, exec (.lpsWake p) s = .next t ∧ awake t ∧ texts t [ctrlLps 0x15 l.lpsState 0] ∧ t.front = s.front) ∧
      (l.lpsState = 2 → l.change = none → l.width < droopWidth s.power.level → ∃ t, exec (.lpsWake p) s = .next t ∧ (t.port p).lane.lpsOwn = 0 ∧
        texts t [ctrlWidthReq lcPower l.usable (droopWidth s.power.level) s.global.serial] ∧ (t.port p).lane.lpsState = 2) ∧
      (l.lpsState = 4 → l.enabled = true → s.power.level < 2 → (s.port p).pane.link = .down → (portDomains p).all s.power.domOn = true →
        ∃ t, exec (.lpsWake p) s = .next t ∧ (t.port p).pane.link = .training ∧ (t.port p).lane.causeOwn = lcPower) ∧
      (l.lpsState = 4 → l.enabled = true → s.power.level < 2 → (portDomains p).all s.power.domOn = false → ∃ t, exec (.lpsWake p) s = .next t ∧ t.ports = s.ports ∧
        ∀ d ∈ portDomains p, s.power.domOn d = true ∨ t.power.domReqs.any (fun r => r.domain == d) = true)) ∧
    (l.lpsState = 3 → ∃ t, exec (.p3SignalReturn p) s = .next t ∧ awake t ∧ texts t [] ∧ ∀ q, q ≠ p → t.port q = s.port q)) ∧
  (∀ (s : State) (p : PortIx),
    let l := (s.port p).lane
    let pages : List I3cOp := [.read .lower, .read (.status 0), .read (.status 1)]
    let reads (t : State) : Prop := (l.dynAddr.isSome = true → (t.port p).lane.i3c = l.i3c ++ pages) ∧
      (l.dynAddr = none → ∃ a, a < 128 ∧ (t.port p).lane.i3c = l.i3c ++ .setdasa (s.staticAddr p) a :: pages)
    let read (c : OpticsReading → Instr) : Prop :=
      (∃ t, exec (c .failed) s = .next t ∧
        (t.port p).lane = { l with lastPoll := s.now, i3cFails := (if l.i3cFails + 1 < 3 then l.i3cFails + 1 else 0), mgmtLost := l.mgmtLost || decide (3 ≤ l.i3cFails + 1),
                                   i3c := (t.port p).lane.i3c } ∧ reads t ∧
        (t.port p).pane = (s.port p).pane ∧ (∀ q, q ≠ p → t.port q = s.port q) ∧ t.lodge = s.lodge) ∧
      (∀ st faulty mons, ∃ t, exec (c (.status st faulty mons)) s = .next t ∧ (t.port p).lane.moduleState = st ∧ (t.port p).lane.present = true ∧
        (t.port p).lane.i3cFails = 0 ∧ (t.port p).lane.lastPoll = s.now ∧ (t.port p).lane.dynAddr.isSome = true ∧
        (∀ k ∈ faulty, k < 13 → ((t.port p).lane.lane k).usable = false ∧ ((t.port p).lane.lane k).fail = 4) ∧
        (if s.serving p = true ∧ faulty.any (fun k => decide (k < 13) && l.active.testBit k) = true then (t.port p).pane.link = .retraining ∧ (t.port p).lane.causeOwn = lcLaneFail
          else (t.port p).pane = (s.port p).pane))
    (s.readsOptics p = true → read (.opticsIbi p)) ∧
    (s.readsOptics p = true → s.usPassed l.lastPoll 10000 = true → read (.opticsPoll p)) ∧
    (∀ a, s.linkLive = true → s.lodge.running = true → l.mgmtLost = true → s.usPassed l.lastPoll 1000000 = true →
      ∃ t, exec (.opticsMgmtRetry p a) s = .next t ∧ (t.port p).lane = { l with lastPoll := s.now, mgmtLost := !a, i3cFails := 0, dynAddr := (t.port p).lane.dynAddr, i3c := (t.port p).lane.i3c } ∧
        (∀ q, q ≠ p → t.port q = s.port q) ∧ t.counters = s.counters)) ∧
  (∀ s : State,
    let others (t : State) : Prop := t.ports = s.ports ∧ t.front = s.front ∧ t.counters = s.counters
    (∀ d, d < 96 → s.power.domReqs.any (fun r => r.domain == d) = true →
      ∃ t, exec (.pwrmDomAck d) s = .next t ∧ t.power.domReqs = s.power.domReqs.filter (fun r => r.domain != d) ∧ t.power.domOn d = true ∧
        (∀ e, e ≠ d → t.power.domOn e = s.power.domOn e) ∧ (84 ≤ d → (t.power.engine (d - 84)).state = 0) ∧ others t) ∧
    (∀ d, s.clocked = true → s.power.domReqs.any (fun r => r.domain == d && !r.reported && s.usPassed r.since 1000) = true →
      ∃ t, exec (.pwrmNoAck d) s = .next t ∧ t.power.domReqs = s.power.domReqs.map (fun r => if r.domain = d then { r with reported := true } else r) ∧
        t.flt.contained = true ∧ (s.flt.capture = none → t.flt.capture.map (fun c => (c.cls, c.report.cause)) = some (.contained, 0x19#8)) ∧ t.ports = s.ports) ∧
    (∀ h, s.power.clocksLost = false → s.power.frozen = false → exec (.pwrmLtrHint h) s = .next { s with power := { s.power with hint := h } }) ∧
    (∀ e i, s.clocked = true → e < 12 →
      ((s.power.engine e).state = 0 → (s.power.engine e).idleSince = some i → i + bits s.power.engLtr 31 16 ≤ s.now → s.engineWork e = false →
        ∃ t, exec (.engineIdleE1 e) s = .next t ∧ t.power.engine e = { s.power.engine e with state := 1 } ∧ (∀ d, d ≠ e → t.power.engine d = s.power.engine d) ∧ others t)) ∧
    (∀ e, s.clocked = true → e < 12 →
      (1 ≤ (s.power.engine e).state → 2 ≤ s.engineChoice e → (s.power.engine e).state < s.engineChoice e →
        ∃ t, exec (.engineDeepSleep e) s = .next t ∧ (t.power.engine e).state = s.engineChoice e ∧ t.power.domOn (84 + e) = false ∧ others t ∧
          t.pins.domReq = s.pins.domReq ++ (if s.power.domOn (84 + e) then [{ on := false, domain := 84 + e }] else [])) ∧
      (s.engineWork e = true → (s.power.engine e).state = 1 → ∃ t, exec (.engineWake e) s = .next t ∧ (t.power.engine e).state = 0 ∧ t.pins = s.pins ∧ others t) ∧
      (s.engineWork e = true → 2 ≤ (s.power.engine e).state → s.workPermitted e = true →
        ∃ t, exec (.engineWake e) s = .next t ∧ t.power.domReqs.any (fun r => r.domain == 84 + e) = true ∧ t.power.engine e = { s.power.engine e with waking := some s.now } ∧
          others t)))

/-- R477: a rise of the sources takes the droop level at once to theirs; it falls one level at a time, and each step waits until both sources have stayed
at or below the target for HOLD_US, whose default is 50 µs and which a write holds to 1 to 10,000 µs, taking a rise through a detector it enables at once. A rise counts every level entered, and asks a
wider port that is idle for the width of the level (R478, R480); nothing else moves the level. -/
def Obligations.DroopLevel : Prop :=
  (∀ (s : State) (r : DroopReading), s.power.clocksLost = false → s.power.frozen = false →
    let w := { s.power with pwrm := r.pwrm.toNat, dets := [r.det0.toNat, r.det1.toNat, r.det2.toNat, r.det3.toNat] }
    let old := s.power.level
    (old < w.rawLevel → (∀ i, 1 ≤ i → i ≤ 3 → (s.counter (ctrDroop i)).count < 0xFFFFFFFE) →
      ∃ t, exec (.droopRise r) s = .next t ∧ t.power.level = w.rawLevel ∧ t.power.fallStart = s.now ∧
        (∀ i, 1 ≤ i → i ≤ 3 → (t.counter (ctrDroop i)).count = (s.counter (ctrDroop i)).count + (if old < i ∧ i ≤ w.rawLevel then 1 else 0)) ∧
        (∀ p, (t.port p).pane.link = (s.port p).pane.link ∧ (t.port p).lane.width = (s.port p).lane.width ∧
          (s.serving p = true → (s.port p).lane.change = none → (s.port p).lane.lpsState ≠ 2 → droopWidth w.rawLevel < (s.port p).lane.width →
            (t.port p).lane.change.map (fun c => (c.reason, c.max)) = some (lcPower, droopWidth w.rawLevel))) ∧ t.front = s.front) ∧
    (w.rawLevel ≤ old → ∃ t, exec (.droopRise r) s = .next t ∧ t.power.level = old ∧ t.power.pwrm = w.pwrm ∧ t.power.dets = w.dets ∧ t.ports = s.ports ∧
      t.counters = s.counters ∧ (0 < old → old ≤ w.rawLevel → t.power.fallStart = s.now)) ∧
    (s.power.rawLevel < old → w.rawLevel < old → s.usPassed s.power.fallStart (bits s.power.droopCtl 13 0) = true →
      ∃ t, exec (.droopFallStep r) s = .next t ∧ t.power.level = old - 1 ∧ t.power.fallStart = s.now ∧ t.counters = s.counters ∧ t.front = s.front ∧
        ∀ p, (t.port p).pane.link = (s.port p).pane.link) ∧
    (s.power.rawLevel < old → w.rawLevel < old → s.usPassed s.power.fallStart (bits s.power.droopCtl 13 0) = false →
      ∃ t, exec (.droopFallStep r) s = .next t ∧ t.power.level = old ∧ t.power.fallStart = s.power.fallStart ∧ t.ports = s.ports ∧ t.counters = s.counters) ∧
    (old ≤ w.rawLevel → ∃ t, exec (.droopFallStep r) s = .next t ∧ t.power.level = old ∧ (0 < old → t.power.fallStart = s.now) ∧ t.ports = s.ports ∧ t.counters = s.counters)) ∧
  bits State.reset.power.droopCtl 13 0 = 50 ∧
  (∀ (s : State) (v : Word), s.regsOpen = true → ∃ t, exec (.registerWrite 0xC0010 v) s = .next t ∧ bits t.power.droopCtl 13 0 = max 1 (min 10000 (bits v 13 0)) ∧
    t.power.level = max s.power.level (Power.rawLevel { s.power with droopCtl := t.power.droopCtl }))

/-! ### Link sessions and keys (12) -/

/-- The handshake (R439 to R443). A link-security message whose fields are out of range or whose session is not this one's is discarded and counted in
AUTH_FAIL. The follower answers L_HELLO with L_REPLY and its proof; the leader takes the L_REPLY and both the parts of the far chain in order; a proof
that fails, a CONFIRM that does not agree and 20 ms without an end fail the attempt with their cause, a wrong neighbour or the third failure disables
the port, and a proof that passes derives key 0 for both directions; a CONFIRM that agrees begins the session. A failed attempt is made again when its
wait is over. Model choices: log entry 8. -/
def Obligations.HandshakesRun : Prop :=
  ∀ (s : State) (p : PortIx),
    let k := (s.port p).keys
    let said (t : State) (ty : Nat) (sn : BitVec 32) (f : List Byte) : Prop := ∀ tbl, s.topo.install = some tbl →
      t.queues p.val (mkMgmt (neighbour tbl s.topo.node p) s.topo.node 1 0 (secUnit ty p.val f.length sn :: dataUnits f))
    let lead := decide (s.global.serial.toNat < (s.port p).lane.farSerial.toNat)
    let counted (c : Instr) : Prop := (s.counter ctrAuthFail).count < 0xFFFFFFFE →
      ∃ t, exec c s = .next t ∧ (t.counter ctrAuthFail).count = (s.counter ctrAuthFail).count + 1 ∧ t.ports = s.ports ∧ t.front = s.front ∧ t.gate = s.gate
    let failed (t : State) (why : Nat) : Prop := (t.port p).keys.session = .failed ∧ (t.port p).keys.fail = why ∧ (t.port p).keys.hs = none ∧
      (t.port p).keys.attempts = k.attempts + 1 ∧
      (t.port p).keys.index 0 = { txCur := some KeySlot.null, rxCur := some KeySlot.null } ∧ (t.port p).keys.retryAt = some (s.now + usTicks 100000) ∧
      ((why = 3 ∨ 3 ≤ k.attempts + 1) → (t.port p).pane.link = .down ∧ (t.port p).keys.disabled = true ∧ (t.port p).lane.enabled = false)
    (∀ c ty m, (c, ty) ∈ [(Instr.lHello p, 1), (.lReply p, 2), (.lCert p, 3), (.lProof p, 4), (.lDone p, 5), (.keyOffer p, 16), (.keyAccept p, 17), (.keySwitch p, 18),
      (.keyReject p, 19), (.keyLost p, 20)] → s.inboundIs p (isSec ty) = some m → (secOk m = false ∨ (2 < ty ∧ secSession m ≠ k.sessionNo)) → counted c) ∧
    (∀ m, s.inboundIs p (isSec 1) = some m → secOk m = true →
      (lead = true ∨ k.session = .up ∨ k.disabled = true ∨ s.serving p = false → counted (.lHello p)) ∧
      (lead = false → k.session ≠ .up → k.disabled = false → s.serving p = true →
        ∃ t h, exec (.lHello p) s = .next t ∧ (t.port p).keys.session = .handshake ∧ (t.port p).keys.leader = false ∧ (t.port p).keys.hs = some h ∧
          h.session = secSession m ∧ h.hello = secFields m ∧ h.start = s.now ∧ h.ownChain = s.ident.chain ∧ said t 0x02 h.session h.reply ∧ said t 0x04 h.session h.sigF)) ∧
    (∀ m h, s.inboundIs p (isSec 2) = some m → secOk m = true → k.hs = some h →
      (k.leader = true → secSession m = h.session → h.reply = [] →
        ∃ t, exec (.lReply p) s = .next t ∧ (t.port p).keys = { k with hs := some { h with reply := secFields m } } ∧ (∀ q, q ≠ p → t.port q = s.port q) ∧ t.counters = s.counters) ∧
      (k.leader = false ∨ secSession m ≠ h.session ∨ h.reply ≠ [] → counted (.lReply p))) ∧
    (∀ m h, s.inboundIs p (isSec 3) = some m → secOk m = true → k.hs = some h → secSession m = h.session →
      let f := secFields m
      (beAt f 0 2 = h.farChain.length →
        ∃ t, exec (.lCert p) s = .next t ∧ (t.port p).keys = { k with hs := some { h with farChain := h.farChain ++ f.drop 4, farTotal := beAt f 2 2 } } ∧
          (∀ q, q ≠ p → t.port q = s.port q) ∧ t.counters = s.counters) ∧
      (beAt f 0 2 ≠ h.farChain.length → counted (.lCert p))) ∧
    (∀ m h, s.inboundIs p (isSec 4) = some m → secOk m = true → k.hs = some h → secSession m = h.session →
      let t1 := t1Of h.hello h.reply (if k.leader then h.farChain else h.ownChain)
      let text := if k.leader then t1 else sha384 (t1 ++ h.farChain)
      let cause := s.proofCause p h.farChain (if k.leader then 0x46 else 0x4C) text (secFields m)
      (h.proved = true ∨ h.reply = [] ∨ h.farChain.length ≠ h.farTotal → counted (.lProof p)) ∧
      (h.proved = false → h.reply ≠ [] → h.farChain.length = h.farTotal →
        (∀ why, cause = some why → ∃ t, exec (.lProof p) s = .next t ∧ failed t why) ∧
        (cause = none → ecdh h.ephPriv (beAt (if k.leader then h.reply else h.hello) 32 96) = none → ∃ t, exec (.lProof p) s = .next t ∧ failed t 2) ∧
        (cause = none → (ecdh h.ephPriv (beAt (if k.leader then h.reply else h.hello) 32 96)).isSome = true →
          ∃ t, exec (.lProof p) s = .next t ∧ (t.port p).keys.hs.map Handshake.proved = some true ∧ (t.port p).keys.master.isSome = true ∧
            ((t.port p).keys.index 0).txNext.map (fun q => (q.enc, q.gen)) = some (true, 0) ∧ ((t.port p).keys.index 0).rxNext.map (fun q => (q.enc, q.gen)) = some (true, 0) ∧
            (t.port p).keys.session = k.session))) ∧
    (∀ m h x, s.inboundIs p (isSec 5) = some m → secOk m = true → k.hs = some h → k.master = some x → secSession m = h.session →
      (h.proved = false → counted (.lDone p)) ∧
      (h.proved = true → secFields m ≠ confirmOf x k.rxDir → ∃ t, exec (.lDone p) s = .next t ∧ failed t 4) ∧
      (h.proved = true → secFields m = confirmOf x k.rxDir →
        ∃ t, exec (.lDone p) s = .next t ∧ (t.port p).keys.session = .up ∧ (t.port p).keys.number = h.session ∧ (t.port p).keys.hs = none ∧
          (t.port p).keys.sessions = k.sessions + 1 ∧ ((t.port p).keys.index 0).rxCur = (k.index 0).rxNext ∧
          (k.leader = true → said t 0x05 h.session (confirmOf x k.txDir)))) ∧
    (∀ h, s.clocked = true → k.session = .handshake → k.hs = some h → s.usPassed h.start 20000 = true → ∃ t, exec (.handshakeTimeout p) s = .next t ∧ failed t 5) ∧
    (∀ d, s.clocked = true → k.session = .failed → k.disabled = false → k.retryAt = some d → d ≤ s.now → s.serving p = true →
      ∃ t, exec (.handshakeRetry p) s = .next t ∧ (t.port p).keys.session = .handshake ∧ (t.port p).keys.leader = lead ∧ (t.port p).keys.fail = k.fail ∧
        (∀ h, (t.port p).keys.hs = some h → h.start = s.now ∧ (lead = true → said t 0x01 h.session h.hello)) ∧ (t.port p).keys.hs.isSome = true)

/-- Keys (R444, R445, R450, R458). A KEY_OFFER that may be taken installs its key as next for reception, takes the index out of the retired set and is
accepted; one that may not is rejected with the reason of R450, and a mode that does not agree is recorded. A KEY_ACCEPT installs the key for
transmission and KEY_SWITCH names the next sequence number; a KEY_SWITCH promotes the next key once that number has passed; a KEY_REJECT ends the
offer, or for reason 3 has it made again after 1 ms; KEY_LOST retires the indices it names; a key that reached a limit is offered anew, and one 2^36
panes past it stalls. Model choices: log entry 121. -/
def Obligations.KeysAreExchanged : Prop :=
  ∀ (s : State) (p : PortIx),
    let k := (s.port p).keys
    let said (t : State) (ty : Nat) (f : List Byte) : Prop := ∀ tbl, s.topo.install = some tbl →
      t.queues p.val (mkMgmt (neighbour tbl s.topo.node p) s.topo.node 1 0 (secUnit ty p.val f.length k.sessionNo :: dataUnits f))
    let heard (ty : Nat) (m : Msg) : Prop := s.inboundIs p (isSec ty) = some m ∧ secOk m = true ∧ secSession m = k.sessionNo
    let offered (t : State) (i : Nat) : Prop :=
      let gen := match k.tx i with
        | none => 1#32
        | some x => x.gen + 1
      (t.port p).keys = { k with rotations := k.rotations.filter (fun r => r.key != i) ++ [{ key := i, gen := gen, nt := beBytes 32 (s.freeVal .nonce), since := s.now }] } ∧
        said t 0x10 ([BitVec.ofNat 8 i, BitVec.ofNat 8 (b2n (s.modeOf i))] ++ beBytes 4 gen.toNat ++ beBytes 32 (s.freeVal .nonce))
    (∀ m x, heard 0x10 m → k.master = some x → k.session = .up →
      let f := secFields m
      let i := beAt f 0 1
      let enc := beAt f 1 1 == 1
      let gen := beAt f 2 4
      let rejected (why : Nat) : Prop := ∃ t, exec (.keyOffer p) s = .next t ∧ (t.port p).keys = k ∧ said t 0x13 ([BitVec.ofNat 8 i] ++ beBytes 4 gen ++ [BitVec.ofNat 8 why]) ∧
        (why = 2 → i ≠ 0 → t.gate.tenant = s.gate.tenant.map (fun q => { q with mismatch := q.mismatch ||| (1#6 <<< p.val) }) ∧ t.flt.contained = true)
      (∀ why, s.offerRefusal i enc = some why → rejected why) ∧
      (s.offerRefusal i enc = none → (k.index i).rxNext.isSome = true → rejected 3) ∧
      (s.offerRefusal i enc = none → (k.index i).rxNext = none →
        ∃ t, exec (.keyOffer p) s = .next t ∧ ((t.port p).keys.index i).rxNext.map (fun q => (q.enc, q.gen)) = some (enc, BitVec.ofNat 32 gen) ∧
          ((t.port p).keys.index i).rxCur = (k.index i).rxCur ∧ ((t.port p).keys.index i).txCur = (k.index i).txCur ∧ (t.port p).pane.retired.getLsbD i = false ∧
          said t 0x11 (f.take 6 ++ beBytes 32 (s.freeVal .nonce)))) ∧
    (∀ m x r, heard 0x11 m → k.master = some x → k.rotations.find? (fun r => r.key == beAt (secFields m) 0 1 && r.gen.toNat == beAt (secFields m) 2 4) = some r →
      (s.counter ctrRekey).count < 0xFFFFFFFE →
      let i := beAt (secFields m) 0 1
      ∃ t, exec (.keyAccept p) s = .next t ∧ ((t.port p).keys.tx i).map KeySlot.gen = some r.gen ∧ (t.port p).keys.rotations = k.rotations.filter (fun q => q.key != i) ∧
        (t.port p).pane.stalled.getLsbD i = false ∧ (t.counter ctrRekey).count = (s.counter ctrRekey).count + (if (k.tx i).isSome then 1 else 0) ∧
        said t 0x12 ((secFields m).take 1 ++ slice (secFields m) 2 4 ++ beBytes 8 (s.port p).pane.txNext)) ∧
    (∀ m q, heard 0x12 m →
      let i := beAt (secFields m) 0 1
      let from_ := beAt (secFields m) 5 8
      (k.index i).rxNext = some q → q.gen.toNat = beAt (secFields m) 1 4 →
      ∃ t, exec (.keySwitch p) s = .next t ∧ (t.port p).keys.index i = (if from_ < (s.port p).pane.rxNext then
          { k.index i with rxCur := some q, rxNext := none, switchAt := none }
        else { k.index i with switchAt := some from_ }) ∧ (t.port p).pane = (s.port p).pane ∧ t.counters = s.counters) ∧
    (∀ m, heard 0x13 m →
      let i := beAt (secFields m) 0 1
      let hit (r : Rotation) : Bool := r.key == i && r.gen.toNat == beAt (secFields m) 1 4
      k.rotations.any hit = true →
      ∃ t, exec (.keyReject p) s = .next t ∧ (t.port p).keys = { k with rotations := (if beAt (secFields m) 5 1 = 3
          then k.rotations.map (fun r => if hit r then { r with retryAt := some (s.now + usTicks 1000) } else r) else k.rotations.filter (fun r => !hit r)) } ∧
        (beAt (secFields m) 5 1 = 2 → t.gate.tenant = s.gate.tenant.map (fun q => { q with mismatch := q.mismatch ||| (1#6 <<< p.val) }) ∧ t.flt.contained = true) ∧
        (beAt (secFields m) 5 1 ≠ 2 → t.gate = s.gate)) ∧
    (∀ m, heard 0x14 m → ∃ t, exec (.keyLost p) s = .next t ∧ (∀ q, q ≠ p → (t.port q).keys = (s.port q).keys) ∧
      ∀ i, i < 16 → (i ≠ 0 ∧ (beAt (secFields m) 0 2).testBit i = true → (t.port p).keys.index i = {} ∧ (t.port p).pane.retired.getLsbD i = true) ∧
        (i = 0 ∨ (beAt (secFields m) 0 2).testBit i = false → (t.port p).keys.index i = k.index i ∧ (t.port p).pane.retired.getLsbD i = (s.port p).pane.retired.getLsbD i)) ∧
    (∀ i r d, s.levelTurn 3 = true → r ∈ k.rotations → r.key = i → r.retryAt = some d → d ≤ s.now →
      ∃ t, exec (.keyRejectRetry p i) s = .next t ∧ offered t i) ∧
    (∀ i, i < 16 → k.session = .up →
      (s.levelTurn 3 = true → s.serving p = true → (∀ r ∈ k.rotations, r.key ≠ i) → s.rotationDue p i = true →
        s.gate.tenant.any (fun t => t.num == i && t.teardown.isSome) = false → ∃ t, exec (.keyRotationDue p i) s = .next t ∧ offered t i) ∧
      (∀ q, s.clocked = true → k.tx i = some q → s.gate.rotPanes + 2 ^ 36 ≤ q.panes → (s.port p).pane.stalled.getLsbD i = false →
        exec (.keyRotationStall p i) s = .next (s.setPort p { s.port p with pane := { (s.port p).pane with stalled := (s.port p).pane.stalled ||| (1#16 <<< i) } })))

/-! ### The torus (11) -/

/-- The readiness wave and the events (R421 to R424, R532): a WAVE is merged by OR; a record that changed is sent on a port and noted as sent; a
LINK_EVENT later than the last of its link moves the bit of that link alone, an earlier one nothing, and a NODE_EVENT likewise; a ready node sets its
own bit and names its disabled links missing; at the bound every port still in TRAINING goes DOWN and the node becomes ready without them; the pod
state is reported once the bound has passed, and when READY first holds every node. Model choices: log entries 108, 109. -/
def Obligations.TheWaveGoesRound : Prop :=
  ∀ (s : State) (p : PortIx),
    let w (m : Msg) : LinkUnit := m.body.getD 0 0
    (∀ m, s.inboundIs p isWave = some m →
      ∃ t, exec (.wave p) s = .next t ∧ t.topo.ready = (if mgmtSub m.hdr = 0 then s.topo.ready ||| bitmapOf (m.body.take 64) else s.topo.ready) ∧
        t.topo.missing = (if mgmtSub m.hdr = 1 then s.topo.missing ||| bitmapOf (m.body.take 192) else s.topo.missing) ∧
        t.lodge = s.dropInbound.lodge ∧ t.ports = s.ports ∧ t.front = s.front ∧ t.counters = s.counters) ∧
    (∀ i, s.levelTurn 2 = true → s.waveToSend p = true → s.topo.install = some i →
      let last := Table.get (0, 0) s.topo.waveDue p.val
      let sends (t : State) (sub n v : Nat) : Prop := t.queues p.val (mkMgmt (neighbour i s.topo.node p) s.topo.node 2 sub (bitmapUnits n v))
      ∃ t, exec (.waveSend p) s = .next t ∧ (last.1 ≠ s.topo.ready → sends t 0 64 s.topo.ready) ∧ (last.2 ≠ s.topo.missing → sends t 1 192 s.topo.missing) ∧
        Table.get (0, 0) t.topo.waveDue p.val = (s.topo.ready, s.topo.missing) ∧ Table.get none t.topo.waveSentAt p.val = some s.now ∧
        t.topo.ready = s.topo.ready ∧ t.topo.missing = s.topo.missing ∧ ∀ q, q ≠ p → t.port q = s.port q) ∧
    (∀ m, s.inboundIs p (fun m => mgmtType m.hdr == 3) = some m →
      let link := bits (w m) 127 113
      let up := bit (w m) 112
      let tick := (BitVec.ofNat 64 (bits (w m) 63 0)).toNat
      (s.topo.newer link up tick = false → ∃ t, exec (.linkEvent p) s = .next t ∧ t.topo = s.topo ∧ t.ports = s.ports ∧ t.front = s.front) ∧
      (s.topo.newer link up tick = true → ∃ t, exec (.linkEvent p) s = .next t ∧ Table.get (0, 0) t.topo.linkEvents link = (tick + 1, b2n up) ∧
        t.topo.missing.testBit link = !up ∧ (∀ i, i ≠ link → t.topo.missing.testBit i = s.topo.missing.testBit i) ∧ t.topo.ready = s.topo.ready ∧ t.front = s.front)) ∧
    (∀ m, s.inboundIs p (fun m => mgmtType m.hdr == 4) = some m →
      let node := bits (w m) 127 115
      let event := bits (w m) 114 112
      let tick := (BitVec.ofNat 64 (bits (w m) 63 0)).toNat
      ((2 ≤ event ∨ tick + 1 ≤ Table.get 0 s.topo.nodeEvents node) → ∃ t, exec (.nodeEvent p) s = .next t ∧ t.topo = s.topo ∧ t.ports = s.ports ∧ t.front = s.front) ∧
      (event < 2 → Table.get 0 s.topo.nodeEvents node < tick + 1 → ∃ t, exec (.nodeEvent p) s = .next t ∧ Table.get 0 t.topo.nodeEvents node = tick + 1 ∧
        t.topo.nodeDown.testBit node = (event == 0) ∧ (∀ n, n ≠ node → t.topo.nodeDown.testBit n = s.topo.nodeDown.testBit n) ∧ t.front = s.front)) ∧
    (s.levelTurn 2 = true →
      (s.retained.oos = false → s.topo.nodeReady = false → s.topo.install.isSome = true → s.topo.state ≠ .tableBad → s.portsReady = true → s.timeReady = true →
        ∃ t, exec .nodeReady s = .next t ∧ t.topo.nodeReady = true ∧ t.topo.ready.testBit s.topo.node = true ∧
          t.topo.missing = s.topo.missing ||| s.linksOf (fun q => (s.topo.port q).disabled) ∧ t.ports = s.ports ∧ t.front = s.front) ∧
      (s.pastBound = true → (s.topo.bound = false ∨ s.overdue ≠ []) →
        ∃ t, exec .startupBound s = .next t ∧ t.topo.bound = true ∧ (∀ q, q ∈ s.overdue → (t.port q).pane.link = .down ∧ (t.port q).lane.causeOwn = lcTimeout) ∧
          (∀ q, q ∉ s.overdue → (t.port q).pane.link = (s.port q).pane.link) ∧
          (s.retained.oos = false → s.topo.install.isSome = true → s.topo.state ≠ .tableBad → t.topo.nodeReady = true) ∧ t.front = s.front) ∧
      (∀ i, s.topo.nodeReady = true → s.topo.install = some i →
        ((s.topo.allReady = true ∧ s.topo.allReported = false) ∨ (s.topo.reported = false ∧ s.pastBound = true ∧ s.usPassed s.topo.changedAt 1000 = true)) →
        s.lodge.notices.length < 256 →
        ∃ t, exec .podStateReport s = .next t ∧ t.topo.reported = true ∧ t.topo.allReported = (s.topo.allReported || s.topo.allReady) ∧
          t.topo.state = (if i.ids.all (fun n => s.topo.ready.testBit n) && s.topo.missing = 0 then .ready else .readyPartial) ∧
          t.lodge = { s.lodge with notices := s.lodge.notices ++ [{ code := (if t.topo.state = .ready then 0x01 else 0x02), tick := s.time.now, data := padTo 16 [] }] } ∧
          t.ports = s.ports ∧ t.front = s.front))

/-- TABLE_LOAD (R404 to R408, R420): the tables are read at the addresses the root of trust gave, the installation table first for its length; two
accepted tables give the node its place and its time role, extend the measurement log with both digests and begin the training of its PRESENT ports; any
table that is not accepted leaves the node in TABLE_BAD. ROUTE_TABLE_BUILT (R416, R575) lets waiting operations
be checked. Model choices: log entries 110, 111. -/
def Obligations.TablesPlaceTheNode : Prop :=
  ∀ s : State, s.live = true → s.lodge.running = true →
    (s.topo.tableCounter.isSome = true → (s.topo.state = .noTable ∨ ∃ p, (s.topo.port p).disabled = true) →
      let reads (t : State) (k : ContentKey) (addr n : Nat) : Prop :=
        (t.contentRead k).isSome = true ∧ ∀ w ∈ readPieces addr n 0 (fun o => .content k o), t.asks w
      (s.contentRead .installation = none → s.contentRead .board = none →
        ∃ t, exec .tableLoad s = .next t ∧ reads t .installation s.topo.installAddr 64 ∧ reads t .board s.topo.boardAddr 896 ∧ t.topo = s.topo ∧
          t.ports = s.ports ∧ t.front = s.front) ∧
      (∀ l x, s.content .installation = some (.data l) → s.content .board = some x → installBegins l = true →
        ∃ t, exec .tableLoad s = .next t ∧ reads t .installation s.topo.installAddr (installLength l) ∧ t.content .board = some x ∧ t.topo = s.topo ∧
          t.ports = s.ports ∧ t.front = s.front) ∧
      (∀ a b i c n, s.content .installation = some (.data a) → s.content .board = some (.data b) → s.acceptInstall a = some i → s.acceptBoard b = some c → i.places.find? (fun n => (i.record n).serial == s.global.serial) = some n →
        ∃ t, exec .tableLoad s = .next t ∧ t.topo.install = some i ∧ t.topo.board = some c ∧ t.topo.node = n ∧ t.topo.x = n % 16 ∧
          t.topo.y = n / 16 % 16 ∧ t.topo.z = n / 256 % 32 ∧ (s.topo.reported = false → t.topo.state = .starting) ∧ t.time.master = i.master ∧
          t.time.isMaster = decide (n = i.master) ∧ t.time.parent = (if n = i.master then 7 else (routeOf i n i.master).1) ∧
          t.pins.rotTx = s.pins.rotTx ++ [.extend 4 i.digest, .extend 5 c.digest] ∧ t.front = s.front ∧
          ∀ p, (t.present p = true → (t.port p).lane.enabled = true ∧
              ((s.port p).pane.link = .down → (s.port p).lane.testing = false → (t.port p).pane.link = .training ∧ (t.port p).lane.causeOwn = lcInit)) ∧
            (t.present p = false → t.port p = s.port p)) ∧
      (∀ x y, s.content .installation = some x → s.content .board = some y → (∀ l, x = .data l → installBegins l = false) →
        ((bytesOf (some x)).bind s.acceptInstall = none ∨ (bytesOf (some y)).bind s.acceptBoard = none) →
        (∃ t, exec .tableLoad s = .next t ∧ t.topo = { s.topo with state := .tableBad }) ∧
        (s.waitingOps = [] → exec .tableLoad s = .next { (s.dropContent .installation).dropContent .board with topo := { s.topo with state := .tableBad } }))) ∧
    (s.topo.install.isSome = true → s.topo.state ≠ .tableBad → s.topo.routeBuilt = false →
      (∃ t, exec .routeTableBuilt s = .next t ∧ t.topo = { s.topo with routeBuilt := true }) ∧
      (s.waitingOps = [] → exec .routeTableBuilt s = .next { s with topo := { s.topo with routeBuilt := true } }))

/-! ### Anneal (R72 to R76, R533 to R538) -/

/-- The commands of an Anneal: ANNEAL refused as R534 says, else a new Anneal waits for its T_A; ANNEAL_RELEASE takes an annealed one to RELEASING at its
T_R; an ANNEAL_REQ not seen before is kept unless an earlier one holds the Pavilion; at T_A it is applied and its channels are PAUSED; each port's
DONE is counted; the bound completes it INCOMPLETE; and at T_R it ends. Model choices: log entries 115, 116, 117. -/
def Obligations.AnnealsBeginAndEnd : Prop :=
  (∀ (s : State) (r : AdminRef), s.lodgeTurn r = true →
    let c := s.cmdD r
    let v := bits (c.arg 2) 3 0
    let refused (k : Instr) (st : Nat) : Prop := ∃ t, exec k s = .next t ∧ t.lodge.anneals = s.lodge.anneals ∧ t.ports = s.ports ∧ t.phaseOf r = some (.finished st 0 0 0 0)
    let ta := if c.arg 3 = 0 then s.podTime + annealLead (s.blockDiameter v) else (c.arg 3).toNat
    (s.mgmtIs r 0x0601 = true →
      (∀ st, annealRefused c = some st → refused (.anneal r) st) ∧
      (annealRefused c = none → (s.inBlock v s.topo.node = false ∨ ta < s.podTime + annealFloor (s.blockDiameter v) ∨ (s.annealOf v).isSome = true) → refused (.anneal r) 5) ∧
      (annealRefused c = none → s.inBlock v s.topo.node = true → s.podTime + annealFloor (s.blockDiameter v) ≤ ta → s.annealOf v = none →
        ∃ t a, exec (.anneal r) s = .next t ∧ t.lodge.anneals = s.lodge.anneals ++ [a] ∧ a.pav = v ∧ a.initiator = s.topo.node ∧ a.ta = ta ∧ a.state = .pending ∧
          a.cmd = some r ∧ a.id ∈ t.lodge.flooded ∧ t.phaseOf r = some .working ∧ t.front.chans = s.front.chans)) ∧
    (s.mgmtIs r 0x0602 = true →
      (∀ st, annealRefused c = some st → refused (.annealRelease r) st) ∧
      (annealRefused c = none → (∀ a, s.annealOf v = some a → a.state ≠ .annealed) → refused (.annealRelease r) 5) ∧
      (∀ a, annealRefused c = none → s.annealOf v = some a → a.state = .annealed →
        ∃ t, exec (.annealRelease r) s = .next t ∧ t.lodge.anneals = s.lodge.anneals.map (fun b => if b.id = a.id then { b with tr := ta, state := .releasing } else b) ∧
          t.phaseOf r = some (.finished 0 0 0 0 0) ∧ t.front.chans = s.front.chans))) ∧
  (∀ (s : State) (p : PortIx) (m : Msg),
    let w := m.body.getD 0 0
    let id := BitVec.ofNat 32 (bits w 110 79)
    let v := bits w 127 124
    (s.inboundIs p (isAnneal 0) = some m →
      (id ∈ s.lodge.flooded ∨ s.inBlock v s.topo.node = false → exec (.annealReq p) s = .next s.dropInbound) ∧
      (id ∉ s.lodge.flooded → s.inBlock v s.topo.node = true →
        ∃ t, exec (.annealReq p) s = .next t ∧ t.lodge.flooded = s.lodge.flooded ++ [id] ∧
          (s.annealOf v = none → ∃ a ∈ t.lodge.anneals, a.id = id ∧ a.pav = v ∧ a.initiator = bits w 123 111 ∧ a.ta = bits w 63 0 ∧ a.applied = decide (bits w 63 0 ≤ s.podTime) ∧
            a.state = (if bits w 63 0 ≤ s.podTime then .annealed else .pending) ∧ (bits w 63 0 ≤ s.podTime → ∀ i ∈ s.pausing v, (t.chan i).state = .paused)) ∧
          (∀ b, s.annealOf v = some b → b.state ≠ .releasing → (b.ta < bits w 63 0 ∨ (b.ta = bits w 63 0 ∧ b.initiator ≤ bits w 123 111)) →
            t.lodge.anneals = s.lodge.anneals ∧ t.front = s.front) ∧
          (∀ b r, s.annealOf v = some b → (bits w 63 0 < b.ta ∨ (bits w 63 0 = b.ta ∧ bits w 123 111 < b.initiator)) → b.cmd = some r → (s.cmd r).any AdminCmd.unfinished = true →
            (∃ a ∈ t.lodge.anneals, a.id = id ∧ a.ta = bits w 63 0) ∧ t.phaseOf r = some (.finished 5 0 (bits w 63 0) 0 0)))) ∧
    (s.inboundIs p (isAnneal 1) = some m →
      ∃ t, exec (.annealDoneMsg p) s = .next t ∧ t.lodge.anneals.map (fun a => (a.id, a.counts)) = s.lodge.anneals.map (fun a =>
        (a.id, if a.id = id then a.counts.filter (fun c => c.1 != p.val) ++ [(p.val, bits w 78 64, bits w 63 49)] else a.counts))) ∧
    (s.inboundIs p (isAnneal 2) = some m →
      (∀ a, s.annealOf v = some a → a.id.toNat = bits w 110 79 → a.state ≠ .releasing →
        ∃ t, exec (.annealReleaseMsg p) s = .next t ∧
          t.lodge.anneals = s.lodge.anneals.map (fun b => if b.id = a.id then { b with tr := bits w 63 0, state := .releasing } else b) ∧ t.front = s.front) ∧
      ((∀ a, s.annealOf v = some a → a.id.toNat ≠ bits w 110 79 ∨ a.state = .releasing) → exec (.annealReleaseMsg p) s = .next s.dropInbound))) ∧
  (∀ (s : State) (a : Anneal), s.live = true →
    (s.lodge.anneals.find? s.annealStep = some a →
      ∃ t, exec .annealTa s = .next t ∧ (∀ i ∈ s.pausing a.pav, (t.chan i).state = .paused) ∧
        (a.applied = false → t.lodge.anneals = s.lodge.anneals.map (fun b => if b.id = a.id then
          { b with applied := true, state := if b.state = .pending then .annealed else b.state } else b) ∧ t.ports = s.ports) ∧
        (a.applied = true → s.pausing a.pav = [] → ∀ b ∈ t.lodge.anneals, b.id = a.id → b.doneSent = true)) ∧
    (s.lodge.anneals.find? s.boundDue = some a →
      ∃ t, exec .annealBound s = .next t ∧ (∀ b ∈ t.lodge.anneals, b.id = a.id → b.doneSent = true) ∧
        (∀ r, a.initiator = s.topo.node → a.cmd = some r → (s.cmd r).any AdminCmd.unfinished = true →
          ∃ r2 r3, t.phaseOf r = some (.finished 0 0 a.ta r2 r3) ∧ r2 % 2 = 1) ∧ t.front.chans = s.front.chans) ∧
    (s.lodge.anneals.find? (fun a => a.state == .releasing && decide (a.tr ≤ s.podTime)) = some a →
      ∃ t, exec .annealTr s = .next t ∧ t.lodge.anneals = s.lodge.anneals.filter (fun b => b.id != a.id)))

/-! ### The Lodge and Belvedere (15) -/

/-- The Lodge's inbound buffer and its notices (R440, R529 to R531): a message of a known type is copied and leaves the pool, one of an unknown type is
discarded and counted; the oldest notice is written at its place of the ring under the next sequence number. Belvedere (R539, R542 to R544). BELV_SET
with a reserved bit set is BAD_COMMAND; one that disables frees its owner's set; one that enables has its list read first, and a free set with a list it may sample begins. A
sample that is due is skipped under droop, counted in LATE while the last is unfinished, and else taken: its record is made and the ring's CONSUMED is
read. Model choices: log entries 113, 140, 141. -/
def Obligations.LodgeAndBelvedere : Prop :=
  (∀ (s : State), s.live = true → s.lodge.running = true →
    (∀ (p : PortIx) (m : RxMsg), s.mgmtHead p = some m → s.lodge.inboundBytes + m.msg.bytes ≤ 65536 →
      let left (t : State) : Prop := (t.port p).pane.rxMsgs.length + 1 = (s.port p).pane.rxMsgs.length ∧ (∀ q, q ≠ p → t.port q = s.port q) ∧ t.front = s.front
      let known : Bool := m.msg.mgmtKnown
      let lost : Bool := mgmtType m.msg.hdr == 1 && !ltypeKnown (secType m.msg)
      (known = false → (s.counter ctrOverflow).count < 0xFFFFFFFE →
        ∃ t, exec (.mgmtMessage p) s = .next t ∧ left t ∧ t.lodge = s.lodge ∧ (t.counter ctrOverflow).count = (s.counter ctrOverflow).count + 1) ∧
      (known = true → lost = true → (s.counter ctrAuthFail).count < 0xFFFFFFFE →
        ∃ t, exec (.mgmtMessage p) s = .next t ∧ left t ∧ t.lodge = s.lodge ∧ (t.counter ctrAuthFail).count = (s.counter ctrAuthFail).count + 1) ∧
      (known = true → lost = false →
        ∃ t, exec (.mgmtMessage p) s = .next t ∧ left t ∧ t.lodge = { s.lodge with inbound := s.lodge.inbound ++ [{ port := p, msg := m.msg }] } ∧ t.counters = s.counters)) ∧
    (∀ n rest, s.lodge.notices = n :: rest → bit s.lodge.noticeRing 63 = true → s.lodge.ringRoom = true → s.lodgeIdle = true → s.lodge.overflowDue = false →
      let l := s.lodge
      ∃ t, exec .noticeWrite s = .next t ∧ t.lodge.notices = rest ∧ t.lodge.produced = l.produced + 1 ∧ t.front = s.front ∧ t.ports = s.ports ∧
        ∀ w ∈ writePieces (bits l.noticeRing 55 12 * 4096 + 32 * (l.produced.toNat % 2 ^ bits l.noticeRing 3 0)) (n.bytes (l.produced + 1).toNat) 0 (fun _ => .notice), t.asks w)) ∧
  ((∀ (s : State) (r : AdminRef), s.mgmtIs r 0x0701 = true → s.lodgeTurn r = true →
    let c := s.cmdD r
    let i := bits (c.arg 2) 2 0
    let b := s.belvSet i
    let n := bits (c.arg 5) 9 0
    let per := bits (c.arg 5) 51 32
    let clean : Prop := bits (c.arg 2) 7 3 = 0 ∧ bits (c.arg 2) 63 9 = 0 ∧ bits (c.arg 3) 63 60 = 0 ∧ bits (c.arg 4) 63 56 = 0 ∧ bits (c.arg 5) 31 10 = 0 ∧ bits (c.arg 5) 63 52 = 0 ∧
      bits (c.arg 6) 63 32 = 0 ∧ c.zeroArgs [7] = true
    let done (st : Nat) (x : BelvSet) : Prop := ∃ t, exec (.belvSet r) s = .next t ∧ t.belvSet i = x ∧ (∀ j, j ≠ i → t.belvSet j = s.belvSet j) ∧
      t.phaseOf r = some (.finished st 0 0 0 0) ∧ t.ports = s.ports ∧ t.front.chans = s.front.chans
    (s.readingContent (.admin r) = false → ¬ clean → done 2 b) ∧
    (s.readingContent (.admin r) = false → clean → bit (c.arg 2) 8 = false →
      (b.enabled = true → b.owner ≠ c.pav → done 6 b) ∧ (b.enabled = false → done 5 b) ∧ (b.enabled = true → b.owner = c.pav → done 0 {})) ∧
    (s.contentRead (.admin r) = none → clean → bit (c.arg 2) 8 = true →
      ∃ t, exec (.belvSet r) s = .next t ∧ t.belv.sets = s.belv.sets ∧ t.front = s.front ∧ t.ports = s.ports ∧ (t.contentRead (.admin r)).isSome = true ∧
        ∀ w ∈ readPieces (bits (c.arg 4) 55 0) (2 * n) 0 (fun o => .content (.admin r) o), t.asks w) ∧
    (∀ l : List Byte, s.content (.admin r) = some (.data l) → 2 * n ≤ l.length → clean → bit (c.arg 2) 8 = true → bits (c.arg 3) 11 0 = 0 → 4 ≤ bits (c.arg 3) 59 56 → bits (c.arg 4) 1 0 = 0 → 1 ≤ n → n ≤ 512 → 1 ≤ per → per ≤ 1000000 →
      let ids := (List.range n).map (fun k => leAt l (2 * k) 2)
      let reserved : Prop := ∃ x ∈ ids, belvSource x = .reserved
      let denied : Prop := (c.pav ≠ 0 ∧ ∃ x ∈ ids, (belvSource x).p0 = true) ∨ (bits (c.arg 6) 31 0 ≠ 0 ∧ bits (c.arg 6) 15 12 ≠ c.pav) ∨ (b.enabled = true ∧ b.owner ≠ c.pav)
      (reserved → done 2 b) ∧ (¬ reserved → denied → done 6 b) ∧ (¬ reserved → ¬ denied → b.enabled = true → done 5 b) ∧
      (¬ reserved → ¬ denied → b.enabled = false → done 0
        { enabled := true, owner := c.pav, ring := bits (c.arg 3) 55 0, log2 := bits (c.arg 3) 59 56, list := ids, periodUs := per,
          trace := BitVec.ofNat 32 (bits (c.arg 6) 31 0), lastTick := s.podTime })) ∧
    (∀ x, s.content (.admin r) = some x → (∀ l, x ≠ .data l) → clean → bit (c.arg 2) 8 = true → done 2 b)) ∧
  (∀ (s : State) (i : Nat), s.live = true → i < 8 → s.sampleDue i = true →
    let b := s.belvSet i
    ∃ t, exec (.belvSample i) s = .next t ∧ (∀ j, j ≠ i → t.belvSet j = s.belvSet j) ∧ t.front = s.front ∧ t.ports = s.ports ∧
      (1 ≤ s.power.level → t.belvSet i = { b with suspended := true, lastTick := s.podTime }) ∧
      (s.power.level = 0 → b.pending = true → t.belvSet i = { b with late := b.late + 1, lastTick := s.podTime, suspended := false }) ∧
      (s.power.level = 0 → b.pending = false → t.belvSet i = { b with suspended := false, pending := true, readOut := true, record := s.belvRecord i, lastTick := s.podTime } ∧
        ∀ w ∈ readPieces (b.ring + 64) 8 b.owner (fun _ => .belv i), t.asks w)))

/-! ### Faults (14) -/

/-- Errors (R490 to R492, R494 to R497): each class counts its errors and enters the first-error capture, which keeps the first of its class and gives way
to a higher one; a contained error sets CONTAINED, a fatal one stops the engines, drives FATAL_OUT and asks for the reset of its scope.
Model choices: log entry 134. -/
def Obligations.ErrorsAreRecorded : Prop :=
  ∀ (s : State) (e : ErrorReport),
    let captured (t : State) (k : ErrClass) : Prop :=
      let own : Capture := { cls := k, report := e, tick := s.time.now }
      ((s.flt.capture = none ∨ ∃ c, s.flt.capture = some c ∧ c.cls.code < k.code) → t.flt.capture = some own ∧ t.flt.multi = s.flt.multi) ∧
      (∀ c, s.flt.capture = some c → k.code ≤ c.cls.code → t.flt.capture = some c ∧ t.flt.multi = true)
    let counted (t : State) (o : Nat) : Prop := (s.counter o).count < 0xFFFFFFFF → (t.counter o).count = (s.counter o).count + 1
    let stays (t : State) : Prop := t.front = s.front ∧ t.xfer = s.xfer ∧ t.ports = s.ports ∧ t.global = s.global ∧ t.retained = s.retained
    (s.linkLive = true → causeClass e.cause.toNat = some .corrected → s.lodge.notices.length < 256 →
      ∃ t, exec (.correctedError e) s = .next t ∧ captured t .corrected ∧ counted t ctrCe ∧ t.flt.corrected = true ∧ stays t) ∧
    (s.linkLive = true → causeClass e.cause.toNat = some .contained → e.cause ≠ 0x10 →
      ∃ t, exec (.containedError e) s = .next t ∧ captured t .contained ∧ counted t ctrContained ∧ t.flt.contained = true ∧ t.flt.fatal = s.flt.fatal ∧ stays t) ∧
    (e.cause = 0x10 → s.containable e = true → ∃ t, exec (.containedError e) s = .next t ∧ t.flt.fatal = none) ∧
    (s.power.clocksLost = false → s.power.frozen = false → causeClass e.cause.toNat = some .fatal →
      let cold := decide (0x33 ≤ e.cause.toNat)
      ∃ t, exec (.fatalError e) s = .next t ∧ counted t ctrFatal ∧ stays t ∧
        (s.flt.fatal = none → captured t .fatal ∧ t.flt.fatal = some { cold := cold, cause := e.cause, since := s.now } ∧ t.pins.fatalOut = true ∧
          (cold = true → t.pins.rstReq = .cold) ∧ (cold = false → s.pins.rstReq ≠ .cold → t.pins.rstReq = .warm)) ∧
        (∀ f, s.flt.fatal = some f → (cold = false ∨ f.cold = true) → t.flt.fatal = some f ∧ t.flt.multi = true ∧ t.pins.rstReq = s.pins.rstReq) ∧
        (∀ f, s.flt.fatal = some f → cold = true → f.cold = false → t.flt.fatal = some { cold := true, cause := e.cause, since := s.now } ∧ t.pins.rstReq = .cold))

/-- The timers of the fault controller and the Lodge's watchdog (R494, R495, R501 to R503, R522): an acknowledge window that ends and a watchdog that runs
out are fatal; a pulse of FAULT_OUT ends; a Pavilion quiet for the hang window is killed, its channels retire, and the kill is reported when it is
over; a quiet Pavilion 0 is reported once. Injection and scrubbing (R486, R499): an armed injection takes place once, at once on a bus, and in a store
it waits until the entry is read; the scrubber reads every entry and counts what it corrects. Model choices: log entries 131, 133, 136. -/
def Obligations.HangsAndInjection : Prop :=
  (∀ s : State,
    let fatal (t : State) (cause : BitVec 8) : Prop := (s.flt.fatal = none → t.flt.fatal = some { cold := false, cause := cause, since := s.now } ∧ t.pins.fatalOut = true) ∧ t.front = s.front
    (s.linkLive = true → s.flt.contained = true → s.flt.ackExpired = false → s.usPassed s.flt.ackStart (bits s.flt.ctl 43 24) = true →
      ∃ t, exec .ackTimeout s = .next t ∧ t.flt.ackExpired = true ∧ fatal t 0x31) ∧
    (s.linkLive = true → s.pins.faultOut = true → (∀ d, s.flt.pulseStart = some d → s.usPassed d 1 = true) → (bit s.flt.ctl 1 = true → s.flt.contained = false) →
      exec .faultPulseEnd s = .next { s with pins := { s.pins with faultOut := false }, flt := { s.flt with pulseStart := none, pulseEnd := some s.now } }) ∧
    (s.live = true → s.lodge.running = true → s.usPassed s.lodge.wdogStart (1000 * bits s.lodge.wdog 13 0) = true →
      ∃ t, exec .lodgeWatchdog s = .next t ∧ fatal t 0x32) ∧
    (∀ v, s.live = true → 1 ≤ v → v ≤ 15 →
      (v ∉ s.flt.hanging → s.hung v = true → s.programsOf v = [] → s.winsOf v = [] → s.annealOf v = none →
        ∃ t, exec (.hangDeclared v) s = .next t ∧ t.flt.hanging = s.flt.hanging ++ [v] ∧ t.flt.killed = s.flt.killed ∧
          (∀ i ∈ s.chansOf v, (t.chan i).state = .retiring) ∧ ((∀ k, (s.meas k).state ≠ .opened) → ∀ i, i ∉ s.chansOf v → t.chan i = s.chan i)) ∧
      (s.hangKilled v = true → (s.counter ctrHang).count < 0xFFFFFFFE →
        ∃ t, exec (.hangDeclared v) s = .next t ∧ t.flt.killed = s.flt.killed ||| 1#16 <<< v ∧ t.flt.hang = true ∧ t.flt.lastHang = s.time.now.setWidth 32 ∧
          t.flt.hanging = s.flt.hanging.filter (fun p => p != v) ∧ (t.counter ctrHang).count = (s.counter ctrHang).count + 1 ∧ t.flt.contained = true ∧ t.front = s.front)) ∧
    (s.live = true → s.flt.p0Reported = false → s.hung 0 = true →
      ∃ t, exec .pav0Hang s = .next t ∧ t.flt.p0Hang = true ∧ t.flt.p0Reported = true ∧ t.flt.contained = true ∧ t.front = s.front)) ∧
  (∀ s : State, s.live = true →
    (s.flt.injArmed = true → checkerExists s.flt.injChecker.toNat = true → checkerTransmit s.flt.injChecker.toNat = false →
      ∃ t, exec .faultInjectionTakesPlace s = .next t ∧ t.flt.injArmed = false ∧ t.flt.injDone = true ∧
        (checkerSram s.flt.injChecker.toNat = true →
          t.flt = { s.flt with injArmed := false, injDone := true, flaws := s.flt.flaws ++ [(s.flt.injChecker.toNat, s.flt.injMode.toNat, s.freeVal .codeword)] } ∧ t.front = s.front) ∧
        (checkerSram s.flt.injChecker.toNat = false → s.flt.injMode.toNat < 2 → (s.counter ctrCe).count < 0xFFFFFFFF →
          (t.counter ctrCe).count = (s.counter ctrCe).count + 1 ∧ t.flt.corrected = true ∧ t.front = s.front)) ∧
    (∀ o, ∃ t, exec (.scrub o) s = .next t ∧ t.flt.flaws = []) ∧
    (s.flt.flaws = [] → exec (.scrub .clean) s = .next s ∧
      ∀ c n, checkerSram c.toNat = true → (s.counter ctrCe).count < 0xFFFFFFFF → s.lodge.notices.length < 256 → ∃ t, exec (.scrub (.corrected c n)) s = .next t ∧
        (t.counter ctrCe).count = (s.counter ctrCe).count + 1 ∧ (s.flt.capture = none → t.flt.capture.map (fun k => (k.cls, k.report.cause, k.report.checker)) = some (.corrected, 0x01, c)) ∧
        t.front = s.front))

/-! ### Resets (14) -/

/-- A warm block reset (R506 to R509, R565) begins on the input, at the end of the fatal hold, and once the completion of BLOCK_RESET or SERVICE_RESTORE
is written: every channel index is FREE under its next generation, windows, tags, programs, the tenant and Pavilion keys are gone, and the retained
state stays. A second input within the slow cycle of a self-reset is its source; any other during a reset is ignored. BLOCK_RESET (R506) and
SERVICE_RESTORE (R516, R517): arguments with a reserved bit are BAD_COMMAND; the cold scope asks the carrier; SERVICE_RESTORE outside OUT_OF_SERVICE
is BAD_STATE, else its record is read; without a signed record that names this node and this entry it is DENIED, and with one OUT_OF_SERVICE and its
history end.
Model choices: log entries 40, 125, 137, 138. -/
def Obligations.WarmResetsAndTheirCommands : Prop :=
  (∀ s : State,
    let begun (c : Instr) (source : Nat) (rec_ : Bool) : Prop := ∃ t, exec c s = .next t ∧
      t.resetRun = some { scope := .warm, source := source, fatalCause := (s.flt.fatal.map FatalState.cause).getD 0, recorded := rec_, began := s.now } ∧
      (∀ i, i < 4096 → t.chan i = { gen := (s.chan i).gen + 1 }) ∧ t.front.rings = [] ∧ t.front.cmds = [] ∧ t.xfer = {} ∧ t.gather = { progTag := s.gather.progTag } ∧
      t.belv = {} ∧ t.power = s.power ∧ t.gate.tenant = none ∧ t.gate.records = [] ∧ t.flt.fatal = none ∧ t.lodge.running = false ∧ t.lodge.anneals = [] ∧
      t.global = { s.global with ctl := 0, selftestDone := false } ∧ t.retained = { s.retained with srcGen := s.retained.srcGen + 1 } ∧ t.pending = s.pending ∧
      ∀ p, (t.port p).pane.retired = 0 ∧ (∀ i, 0 < i → i < 16 → (t.port p).keys.index i = {}) ∧ (t.port p).pane.link = (s.port p).pane.link
    (s.clocked = true → begun .warmResetInput 2 true) ∧
    (s.resetRun = none → s.clocked = false → exec .warmResetInput s = .next s) ∧
    (∀ r, s.resetRun = some r → exec .warmResetInput s = .next (if r.source = 3 ∧ r.began / 4 = s.now / 4 then { s with resetRun := some { r with source := 2 } } else s)) ∧
    (∀ f, s.clocked = true → bit s.flt.ctl 3 = true → s.flt.fatal = some f → f.cold = false → s.usPassed f.since (bits s.flt.ctl 23 4) = true → begun .fatalHoldExpiry 3 true) ∧
    (∀ r, s.resetAsked r 4 = true → begun (.blockReset r) 4 true) ∧
    (∀ r, s.resetAsked r 5 = true → begun (.serviceRestore r) 5 false)) ∧
  (∀ (s : State) (r : AdminRef), s.lodgeTurn r = true →
    let c := s.cmdD r
    let answered (k : Instr) (st : Nat) : Prop := ∃ t, exec k s = .next t ∧ t.phaseOf r = some (.finished st 0 0 0 0) ∧ t.ports = s.ports ∧ t.resetRun = s.resetRun ∧ t.flt = s.flt ∧
      t.pins = s.pins ∧ t.retained = s.retained
    (s.mgmtIs r 0x0502 = true → s.resetAsked r 4 = false →
      let clean : Bool := bits (c.arg 2) 63 1 == 0 && c.zeroArgs [3, 4, 5, 6, 7]
      (clean = false → answered (.blockReset r) 2) ∧
      (clean = true → ∃ t, exec (.blockReset r) s = .next t ∧ t.phaseOf r = some (.finished 0 0 0 0 0) ∧ t.ports = s.ports ∧
        if bit (c.arg 2) 0 then t.pins = { s.pins with rstReq := .cold } ∧ t.flt = s.flt else t.pins = s.pins ∧ t.flt = { s.flt with resetDue := some (r, 4) })) ∧
    (s.mgmtIs r 0x0503 = true → s.resetAsked r 5 = false →
      let clean : Bool := bits (c.arg 2) 63 56 == 0 && c.zeroArgs [3, 4, 5, 6, 7]
      (s.readingContent (.admin r) = false → (clean = false → answered (.serviceRestore r) 2) ∧
        (clean = true → s.retained.oos = false → answered (.serviceRestore r) 5)) ∧
      (clean = true → s.retained.oos = true →
        (s.contentRead (.admin r) = none → ∃ t, exec (.serviceRestore r) s = .next t ∧ t.front = s.front ∧ t.retained = s.retained ∧
          (t.contentRead (.admin r)).isSome = true ∧ ∀ w ∈ readPieces (bits (c.arg 2) 55 0) 112 0 (fun o => .content (.admin r) o), t.asks w) ∧
        (∀ x, s.content (.admin r) = some x → (∀ l, x ≠ .data l) → answered (.serviceRestore r) 6) ∧
        ∀ l, s.content (.admin r) = some (.data l) →
        (leAt l 12 4 ≠ 0 → answered (.serviceRestore r) 2) ∧
        (leAt l 12 4 = 0 → s.authorised l = false → answered (.serviceRestore r) 6) ∧
        (leAt l 12 4 = 0 → s.authorised l = true → ∃ t, exec (.serviceRestore r) s = .next t ∧ t.phaseOf r = some (.finished 0 0 0 0 0) ∧
          t.retained = { s.retained with oos := false, nonce := 0, history := [] } ∧ t.flt = { s.flt with resetDue := some (r, 5) } ∧ t.ports = s.ports))))

/-- The cold block reset (R510, R511): everything is at its reset value but what R511 retains; with the supply removed nothing is retained. The completion
of a block reset (R509, R515, R572, R573) ends it, records it with its tick, writes RESET_CAUSE, and the third recorded reset within 600 s enters
OUT_OF_SERVICE under a fresh nonce. The loss of the reference (R466) stops the block clocks and is fatal with cold scope; Freeze (R546), with the grant
of the root of trust, stops them at once, or from a pod time on, and the engines take no work any more; without it nothing stops (R545). The test port
(R545, R547, R569): without the grant its TAP holds none but the four public instructions; IDCODE and the boundary-scan register scan out, and a frozen
block with the grant shows a domain's capture. Model choices: log entries 3, 4, 129, 168. -/
def Obligations.ResetsCompleteAndClocksStop : Prop :=
  (∀ s : State,
    (∃ t, exec (.coldResetInput false) s = .next t ∧ t.front = {} ∧ t.xfer = {} ∧ t.gather = {} ∧ t.time = {} ∧ t.topo = {} ∧ t.gate = {} ∧ t.ident = {} ∧ t.power = {} ∧ t.lodge = {} ∧
      t.belv = {} ∧ t.global = {} ∧ t.retained = { s.retained with srcGen := s.retained.srcGen + 1 } ∧ t.pending = s.pending ∧
      t.resetRun = some { scope := .cold, source := 1, fatalCause := (s.flt.fatal.map FatalState.cause).getD 0, recorded := true } ∧
      (∀ o, t.counter o = if o = ctrFatal ∨ o = ctrBlockReset then s.counter o else {}) ∧ t.flt.fatal = none ∧
      (∀ c, s.flt.capture = some c → t.flt.capture = if c.cls = .fatal then some c else none) ∧
      (∀ p, (t.port p).pane.link = .down ∧ (t.port p).keys = {} ∧ (t.port p).pane.txNext = (s.port p).pane.txNext ∧ (t.port p).pane.rxNext = (s.port p).pane.rxNext ∧
        (t.port p).pane.plId = nextPlId (s.port p).pane.plId)) ∧
    exec (.coldResetInput true) s = .next { State.reset with pending := s.pending, freeCount := s.freeCount } ∧
    (s.resetRun = none → exec .blockResetComplete s = .next s) ∧
    (∀ r, s.resetRun = some r → (s.power.clocksLost = true ∨ s.power.frozen = true ∨ s.flt.fatal.isSome = true) → exec .blockResetComplete s = .next s) ∧
    (∀ r, s.resetRun = some r → s.power.clocksLost = false → s.power.frozen = false → s.flt.fatal = none → s.pins.regHeld = [] → (s.counter ctrBlockReset).count < 0xFFFFFFFE →
      let h := if r.recorded then s.retained.recent ++ [s.retained.clock] else s.retained.history
      let recent := h.filter (fun d => decide (s.retained.clock ≤ d + usTicks 600000000))
      let enters : Prop := 3 ≤ recent.length ∧ s.retained.oos = false
      ∃ t, exec .blockResetComplete s = .next t ∧ t.resetRun = none ∧ t.retained.history = h ∧ t.retained.clock = s.retained.clock ∧
        (t.counter ctrBlockReset).count = (s.counter ctrBlockReset).count + (if r.recorded then 1 else 0) ∧ t.global.selftestDone = true ∧ t.pins.fatalOut = false ∧
        t.global.resetCause = r.word s.time.now recent.length ∧
        (enters → t.retained.oos = true ∧ t.retained.nonce = BitVec.ofNat 32 (s.freeVal .oosNonce) ∧ t.topo.nodeReady = false) ∧
        (¬ enters → t.retained.oos = s.retained.oos ∧ t.retained.nonce = s.retained.nonce) ∧
        (r.scope = .warm → t.lodge.running = (s.lodge.released && s.lodge.trusted)) ∧
        (r.scope ≠ .warm → t.power.refOk = true ∧ t.power.rootLock = true ∧ t.power.domainsOn = BitVec.allOnes 96))) ∧
  (∀ s : State,
    (s.power.clocksLost = false → ∃ t, exec .refclkLoss s = .next t ∧ t.power = { s.power with clocksLost := true, fallback := true, rootLock := false, refOk := false } ∧
      t.clocked = false ∧ t.linkLive = false ∧ (s.flt.fatal = none → t.flt.fatal = some { cold := true, cause := 0x33, since := s.now } ∧ t.pins.rstReq = .cold) ∧
      t.front = s.front ∧ t.ports = s.ports) ∧
    (s.power.clocksLost = false → s.power.frozen = false →
      (∀ d, (d = none ∨ ∃ x : Word, d = some x ∧ x.toNat ≤ s.podTime) → ∃ t, exec (.freeze true (.freeze d)) s = .next t ∧ t.power.frozen = true ∧ t.power.freezeAt = none ∧ t.clocked = false ∧
        t.linkLive = false ∧ t.power.stopTimes.map Prod.fst = List.range 97 ∧ (∀ e ∈ t.power.stopTimes, s.podTime ≤ e.2 ∧ e.2 ≤ s.podTime + 256) ∧ t.front = s.front ∧ t.ports = s.ports) ∧
      (∀ x : Word, s.podTime < x.toNat → exec (.freeze true (.freeze (some x))) s =
        .next { s with power := { s.power with freezeAt := some x.toNat }, pins := { s.pins with rotDbg := true } })) ∧
    (∀ d, exec (.freeze false (.freeze d)) s = .next { s with pins := { s.pins with rotDbg := false } }) ∧
    (∀ dbg i, exec (.freeze dbg (.instruct i)) s = .next { s with pins := { s.pins with rotDbg := dbg, tapIr := tapGranted i dbg } }) ∧
    (∀ dbg, exec (.freeze dbg .reset) s = .next { s with pins := { s.pins with rotDbg := dbg, tapIr := .idcode } }) ∧
    (∀ dbg b, s.pins.tapIr = .idcode → exec (.freeze dbg (.scan b)) s = .next { s with pins := { s.pins with rotDbg := dbg, tdo := .idcode s.idcode } }) ∧
    (∀ dbg b, (s.pins.tapIr = .sample ∨ s.pins.tapIr = .extest) → exec (.freeze dbg (.scan b)) s =
      .next { s with pins := { s.pins with rotDbg := dbg, tdo := .boundary { s.boundary with rotDbg := dbg }, preload := b } }) ∧
    (∀ dbg d,
      let out := if dbg = true ∧ s.power.frozen = true ∧ d ≤ 96 then s.captureOf d else s.pins.tdo
      exec (.freeze dbg (.capture d)) s = .next { s with pins := { s.pins with rotDbg := dbg, tdo := out } }))

/-! ### The whole machine -/

/-- The retained and protected state right after power-up meets its invariant (R510, R515, R572). Model choices: log entry 3. -/
def Obligations.ResetMeetsTheInvariant : Prop := State.reset.Inv

/-- Every step of every command and every tick keeps the invariant of the retained and protected state (R511, R515, R572): the reset history in order and
in the past, no nonce outside OUT_OF_SERVICE, RESET_CAUSE in its layout, and a reset in progress of a known scope and source.
Model choices: log entries 1, 4. -/
def Obligations.StepsKeepTheInvariant : Prop := ∀ s t : State, s.Inv → step s = .next t → t.Inv

/-- A node leaves OUT_OF_SERVICE only by an authorised SERVICE_RESTORE, which names its nonce, or when its supply is removed (R516, R517).
Model choices: log entry 125. -/
def Obligations.OutOfServiceEndsOnlySo : Prop :=
  ∀ s t : State, s.retained.oos = true → step s = .next t → t.retained.oos = false →
    (∃ rest, s.pending = .coldResetInput true :: rest) ∨
    (∃ r l rest, s.pending = .serviceRestore r :: rest ∧ s.content (.admin r) = some (.data l) ∧ s.mgmtIs r 0x0503 = true ∧ leAt l 0 8 = s.global.serial.toNat ∧ leAt l 8 4 = s.retained.nonce.toNat ∧
      signedBy s.ident.podKey l = true)

/-- A counter advanced n times holds its count, or sticks at 0xFFFF_FFFF with SATURATED set (R518). -/
def Obligations.CountersStick : Prop :=
  ∀ (c : Counter) (n : Nat), c.count.toNat < 0xFFFFFFFF → c.saturated = false →
    let d := Nat.repeat (fun x : Counter => x.bump.1) n c
    d.count.toNat = min (c.count.toNat + n) 0xFFFFFFFF ∧ d.saturated = decide (0xFFFFFFFF ≤ c.count.toNat + n)

/-- Every field of a request header, of the response that echoes it, and of a configuration in a TRAIN message reads back as it was written (R327, R330,
R379). -/
def Obligations.HeadersReadBack : Prop :=
  (∀ (kind dest src tag use sgen cgen window offset lc : Nat) (ord : Bool), kind < 16 → dest < 2 ^ 13 → src < 2 ^ 13 → tag < 2 ^ 14 → use < 2 ^ 6 → sgen < 256 → cgen < 256 →
    window < 2 ^ 16 → offset < 2 ^ 40 → lc < 32 →
    let h := mkReqHdr kind ord dest src tag use sgen cgen window offset lc
    bits h 127 124 = kind ∧ hdrOrd h = ord ∧ hdrDest h = dest ∧ hdrSrc h = src ∧ hdrTag h = tag ∧ hdrUse h = use ∧ hdrSgen h = sgen ∧ hdrCgen h = cgen ∧ hdrWindow h = window ∧
      hdrOffset h = offset ∧ hdrLc h = lc ∧
      ∀ own st fl len, own < 2 ^ 13 → st < 256 → fl < 128 → len < 2 ^ 13 →
        let a := mkRspHdr h own st fl len
        bits a 127 124 = kResponse ∧ hdrDest a = src ∧ hdrSrc a = own ∧ hdrTag a = tag ∧ hdrUse a = use ∧ hdrSgen a = sgen ∧ hdrCgen a = cgen ∧ rspStatus a = st ∧ rspFlags a = fl ∧
          rspLen a = len) ∧
  (∀ (c : TrainCfg) (lead tail : List Byte), lead.length = 24 → c.active < 2 ^ 13 → c.width < 256 → c.step < 256 → c.action < 256 → TrainCfg.ofBody (lead ++ c.args ++ tail) = c)

/-- R123: while ADMIN0_EN is 1, a write to ADMIN0_RING, ADMIN0_CMPL or ADMIN0_DB changes nothing. -/
def Obligations.AdminRingRegistersHold : Prop :=
  ∀ (s : State) (v : Word), s.front.admin0En = true →
    exec (.registerWrite 0x10008 v) s = .next s ∧ exec (.registerWrite 0x10010 v) s = .next s ∧ exec (.registerWrite 0x10018 v) s = .next s

/-- R419: the diameter of a block is the sum, over its axes, of floor(b/2) on an axis that it wraps and b − 1 on any other; that of a whole 16 × 16 × 32
pod is 32; and Anneal's lead and bound are taken from it. -/
def Obligations.BlockDiameters : Prop :=
  (∀ (t : InstallTable) (b : Block), b.diameter t = (if b.bx = t.ex then b.bx / 2 else b.bx - 1) + (if b.by_ = t.ey then b.by_ / 2 else b.by_ - 1) +
    (if b.bz = t.ez then b.bz / 2 else b.bz - 1)) ∧
  (∀ t : InstallTable, t.ex = 16 → t.ey = 16 → t.ez = 32 → (podBlock t).diameter t = 32) ∧
  (∀ (s : State) (t : InstallTable) (b : Block) (pav : Nat), s.topo.install = some t → s.blockOf pav = some b →
    annealFloor (s.blockDiameter pav) = 1200 * (30 * b.diameter t) ∧ annealLead (s.blockDiameter pav) = 1200 * (30 * b.diameter t + 100) ∧
      annealSpan (s.blockDiameter pav) = 1200 * (40 * b.diameter t))

/-- Every hop of a route comes closer (R402, R412, R416): from a node of the pod to another, the route table names one of the six ports, and from the
neighbour across it the hops left are one fewer. -/
def Obligations.EveryHopComesCloser : Prop :=
  ∀ (t : InstallTable) (own dest : Nat), t.ex ≤ 16 → t.ey ≤ 16 → t.ez ≤ 32 → t.names own = true → t.names dest = true → own ≠ dest →
    (routeOf t own dest).1 < 6 ∧ (routeOf t (neighbour t own (routeOf t own dest).1) dest).2 + 1 = (routeOf t own dest).2

end
end

