-- ==== Sys2Proof/Laws/State.lean ====
section
/-!
SUPPORT. What each update of one part of the state leaves in each field: one lemma per field per update, so that no proof unfolds a
record update.
-/
namespace Sys2Proof.Machine

/-! ### keep -/

@[simp] theorem State.keep_pending (s t : State) : (s.keep t).pending = s.pending := rfl
@[simp] theorem State.keep_pins (s t : State) : (s.keep t).pins = t.pins := rfl
@[simp] theorem State.keep_global (s t : State) : (s.keep t).global = s.global := rfl
@[simp] theorem State.keep_counters (s t : State) : (s.keep t).counters = t.counters := rfl
@[simp] theorem State.keep_fab (s t : State) : (s.keep t).fab = t.fab := rfl
@[simp] theorem State.keep_watch (s t : State) : (s.keep t).watch = t.watch := rfl
@[simp] theorem State.keep_front (s t : State) : (s.keep t).front = t.front := rfl
@[simp] theorem State.keep_xfer (s t : State) : (s.keep t).xfer = t.xfer := rfl
@[simp] theorem State.keep_gather (s t : State) : (s.keep t).gather = t.gather := rfl
@[simp] theorem State.keep_time (s t : State) : (s.keep t).time = t.time := rfl
@[simp] theorem State.keep_ports (s t : State) : (s.keep t).ports = t.ports := rfl
@[simp] theorem State.keep_topo (s t : State) : (s.keep t).topo = t.topo := rfl
@[simp] theorem State.keep_gate (s t : State) : (s.keep t).gate = t.gate := rfl
@[simp] theorem State.keep_ident (s t : State) : (s.keep t).ident = s.ident := rfl
@[simp] theorem State.keep_power (s t : State) : (s.keep t).power = t.power := rfl
@[simp] theorem State.keep_flt (s t : State) : (s.keep t).flt = t.flt := rfl
@[simp] theorem State.keep_lodge (s t : State) : (s.keep t).lodge = t.lodge := rfl
@[simp] theorem State.keep_belv (s t : State) : (s.keep t).belv = t.belv := rfl
@[simp] theorem State.keep_resetRun (s t : State) : (s.keep t).resetRun = s.resetRun := rfl
@[simp] theorem State.keep_retained (s t : State) : (s.keep t).retained = s.retained := rfl
@[simp] theorem State.keep_freeCount (s t : State) : (s.keep t).freeCount = t.freeCount := rfl

/-! ### modPins -/

@[simp] theorem State.modPins_pending (s : State) (g : Pins → Pins) : (s.modPins g).pending = s.pending := rfl
@[simp] theorem State.modPins_pins (s : State) (g : Pins → Pins) : (s.modPins g).pins = g s.pins := rfl
@[simp] theorem State.modPins_global (s : State) (g : Pins → Pins) : (s.modPins g).global = s.global := rfl
@[simp] theorem State.modPins_counters (s : State) (g : Pins → Pins) : (s.modPins g).counters = s.counters := rfl
@[simp] theorem State.modPins_fab (s : State) (g : Pins → Pins) : (s.modPins g).fab = s.fab := rfl
@[simp] theorem State.modPins_watch (s : State) (g : Pins → Pins) : (s.modPins g).watch = s.watch := rfl
@[simp] theorem State.modPins_front (s : State) (g : Pins → Pins) : (s.modPins g).front = s.front := rfl
@[simp] theorem State.modPins_xfer (s : State) (g : Pins → Pins) : (s.modPins g).xfer = s.xfer := rfl
@[simp] theorem State.modPins_gather (s : State) (g : Pins → Pins) : (s.modPins g).gather = s.gather := rfl
@[simp] theorem State.modPins_time (s : State) (g : Pins → Pins) : (s.modPins g).time = s.time := rfl
@[simp] theorem State.modPins_ports (s : State) (g : Pins → Pins) : (s.modPins g).ports = s.ports := rfl
@[simp] theorem State.modPins_topo (s : State) (g : Pins → Pins) : (s.modPins g).topo = s.topo := rfl
@[simp] theorem State.modPins_gate (s : State) (g : Pins → Pins) : (s.modPins g).gate = s.gate := rfl
@[simp] theorem State.modPins_ident (s : State) (g : Pins → Pins) : (s.modPins g).ident = s.ident := rfl
@[simp] theorem State.modPins_power (s : State) (g : Pins → Pins) : (s.modPins g).power = s.power := rfl
@[simp] theorem State.modPins_flt (s : State) (g : Pins → Pins) : (s.modPins g).flt = s.flt := rfl
@[simp] theorem State.modPins_lodge (s : State) (g : Pins → Pins) : (s.modPins g).lodge = s.lodge := rfl
@[simp] theorem State.modPins_belv (s : State) (g : Pins → Pins) : (s.modPins g).belv = s.belv := rfl
@[simp] theorem State.modPins_resetRun (s : State) (g : Pins → Pins) : (s.modPins g).resetRun = s.resetRun := rfl
@[simp] theorem State.modPins_retained (s : State) (g : Pins → Pins) : (s.modPins g).retained = s.retained := rfl
@[simp] theorem State.modPins_freeCount (s : State) (g : Pins → Pins) : (s.modPins g).freeCount = s.freeCount := rfl

/-! ### modGlobal -/

@[simp] theorem State.modGlobal_pending (s : State) (g : Global → Global) : (s.modGlobal g).pending = s.pending := rfl
@[simp] theorem State.modGlobal_pins (s : State) (g : Global → Global) : (s.modGlobal g).pins = s.pins := rfl
@[simp] theorem State.modGlobal_global (s : State) (g : Global → Global) : (s.modGlobal g).global = g s.global := rfl
@[simp] theorem State.modGlobal_counters (s : State) (g : Global → Global) : (s.modGlobal g).counters = s.counters := rfl
@[simp] theorem State.modGlobal_fab (s : State) (g : Global → Global) : (s.modGlobal g).fab = s.fab := rfl
@[simp] theorem State.modGlobal_watch (s : State) (g : Global → Global) : (s.modGlobal g).watch = s.watch := rfl
@[simp] theorem State.modGlobal_front (s : State) (g : Global → Global) : (s.modGlobal g).front = s.front := rfl
@[simp] theorem State.modGlobal_xfer (s : State) (g : Global → Global) : (s.modGlobal g).xfer = s.xfer := rfl
@[simp] theorem State.modGlobal_gather (s : State) (g : Global → Global) : (s.modGlobal g).gather = s.gather := rfl
@[simp] theorem State.modGlobal_time (s : State) (g : Global → Global) : (s.modGlobal g).time = s.time := rfl
@[simp] theorem State.modGlobal_ports (s : State) (g : Global → Global) : (s.modGlobal g).ports = s.ports := rfl
@[simp] theorem State.modGlobal_topo (s : State) (g : Global → Global) : (s.modGlobal g).topo = s.topo := rfl
@[simp] theorem State.modGlobal_gate (s : State) (g : Global → Global) : (s.modGlobal g).gate = s.gate := rfl
@[simp] theorem State.modGlobal_ident (s : State) (g : Global → Global) : (s.modGlobal g).ident = s.ident := rfl
@[simp] theorem State.modGlobal_power (s : State) (g : Global → Global) : (s.modGlobal g).power = s.power := rfl
@[simp] theorem State.modGlobal_flt (s : State) (g : Global → Global) : (s.modGlobal g).flt = s.flt := rfl
@[simp] theorem State.modGlobal_lodge (s : State) (g : Global → Global) : (s.modGlobal g).lodge = s.lodge := rfl
@[simp] theorem State.modGlobal_belv (s : State) (g : Global → Global) : (s.modGlobal g).belv = s.belv := rfl
@[simp] theorem State.modGlobal_resetRun (s : State) (g : Global → Global) : (s.modGlobal g).resetRun = s.resetRun := rfl
@[simp] theorem State.modGlobal_retained (s : State) (g : Global → Global) : (s.modGlobal g).retained = s.retained := rfl
@[simp] theorem State.modGlobal_freeCount (s : State) (g : Global → Global) : (s.modGlobal g).freeCount = s.freeCount := rfl

/-! ### modFab -/

@[simp] theorem State.modFab_pending (s : State) (g : Fabric → Fabric) : (s.modFab g).pending = s.pending := rfl
@[simp] theorem State.modFab_pins (s : State) (g : Fabric → Fabric) : (s.modFab g).pins = s.pins := rfl
@[simp] theorem State.modFab_global (s : State) (g : Fabric → Fabric) : (s.modFab g).global = s.global := rfl
@[simp] theorem State.modFab_counters (s : State) (g : Fabric → Fabric) : (s.modFab g).counters = s.counters := rfl
@[simp] theorem State.modFab_fab (s : State) (g : Fabric → Fabric) : (s.modFab g).fab = g s.fab := rfl
@[simp] theorem State.modFab_watch (s : State) (g : Fabric → Fabric) : (s.modFab g).watch = s.watch := rfl
@[simp] theorem State.modFab_front (s : State) (g : Fabric → Fabric) : (s.modFab g).front = s.front := rfl
@[simp] theorem State.modFab_xfer (s : State) (g : Fabric → Fabric) : (s.modFab g).xfer = s.xfer := rfl
@[simp] theorem State.modFab_gather (s : State) (g : Fabric → Fabric) : (s.modFab g).gather = s.gather := rfl
@[simp] theorem State.modFab_time (s : State) (g : Fabric → Fabric) : (s.modFab g).time = s.time := rfl
@[simp] theorem State.modFab_ports (s : State) (g : Fabric → Fabric) : (s.modFab g).ports = s.ports := rfl
@[simp] theorem State.modFab_topo (s : State) (g : Fabric → Fabric) : (s.modFab g).topo = s.topo := rfl
@[simp] theorem State.modFab_gate (s : State) (g : Fabric → Fabric) : (s.modFab g).gate = s.gate := rfl
@[simp] theorem State.modFab_ident (s : State) (g : Fabric → Fabric) : (s.modFab g).ident = s.ident := rfl
@[simp] theorem State.modFab_power (s : State) (g : Fabric → Fabric) : (s.modFab g).power = s.power := rfl
@[simp] theorem State.modFab_flt (s : State) (g : Fabric → Fabric) : (s.modFab g).flt = s.flt := rfl
@[simp] theorem State.modFab_lodge (s : State) (g : Fabric → Fabric) : (s.modFab g).lodge = s.lodge := rfl
@[simp] theorem State.modFab_belv (s : State) (g : Fabric → Fabric) : (s.modFab g).belv = s.belv := rfl
@[simp] theorem State.modFab_resetRun (s : State) (g : Fabric → Fabric) : (s.modFab g).resetRun = s.resetRun := rfl
@[simp] theorem State.modFab_retained (s : State) (g : Fabric → Fabric) : (s.modFab g).retained = s.retained := rfl
@[simp] theorem State.modFab_freeCount (s : State) (g : Fabric → Fabric) : (s.modFab g).freeCount = s.freeCount := rfl

/-! ### modWatch -/

@[simp] theorem State.modWatch_pending (s : State) (g : Watches → Watches) : (s.modWatch g).pending = s.pending := rfl
@[simp] theorem State.modWatch_pins (s : State) (g : Watches → Watches) : (s.modWatch g).pins = s.pins := rfl
@[simp] theorem State.modWatch_global (s : State) (g : Watches → Watches) : (s.modWatch g).global = s.global := rfl
@[simp] theorem State.modWatch_counters (s : State) (g : Watches → Watches) : (s.modWatch g).counters = s.counters := rfl
@[simp] theorem State.modWatch_fab (s : State) (g : Watches → Watches) : (s.modWatch g).fab = s.fab := rfl
@[simp] theorem State.modWatch_watch (s : State) (g : Watches → Watches) : (s.modWatch g).watch = g s.watch := rfl
@[simp] theorem State.modWatch_front (s : State) (g : Watches → Watches) : (s.modWatch g).front = s.front := rfl
@[simp] theorem State.modWatch_xfer (s : State) (g : Watches → Watches) : (s.modWatch g).xfer = s.xfer := rfl
@[simp] theorem State.modWatch_gather (s : State) (g : Watches → Watches) : (s.modWatch g).gather = s.gather := rfl
@[simp] theorem State.modWatch_time (s : State) (g : Watches → Watches) : (s.modWatch g).time = s.time := rfl
@[simp] theorem State.modWatch_ports (s : State) (g : Watches → Watches) : (s.modWatch g).ports = s.ports := rfl
@[simp] theorem State.modWatch_topo (s : State) (g : Watches → Watches) : (s.modWatch g).topo = s.topo := rfl
@[simp] theorem State.modWatch_gate (s : State) (g : Watches → Watches) : (s.modWatch g).gate = s.gate := rfl
@[simp] theorem State.modWatch_ident (s : State) (g : Watches → Watches) : (s.modWatch g).ident = s.ident := rfl
@[simp] theorem State.modWatch_power (s : State) (g : Watches → Watches) : (s.modWatch g).power = s.power := rfl
@[simp] theorem State.modWatch_flt (s : State) (g : Watches → Watches) : (s.modWatch g).flt = s.flt := rfl
@[simp] theorem State.modWatch_lodge (s : State) (g : Watches → Watches) : (s.modWatch g).lodge = s.lodge := rfl
@[simp] theorem State.modWatch_belv (s : State) (g : Watches → Watches) : (s.modWatch g).belv = s.belv := rfl
@[simp] theorem State.modWatch_resetRun (s : State) (g : Watches → Watches) : (s.modWatch g).resetRun = s.resetRun := rfl
@[simp] theorem State.modWatch_retained (s : State) (g : Watches → Watches) : (s.modWatch g).retained = s.retained := rfl
@[simp] theorem State.modWatch_freeCount (s : State) (g : Watches → Watches) : (s.modWatch g).freeCount = s.freeCount := rfl

/-! ### modFront -/

@[simp] theorem State.modFront_pending (s : State) (g : FrontEnd → FrontEnd) : (s.modFront g).pending = s.pending := rfl
@[simp] theorem State.modFront_pins (s : State) (g : FrontEnd → FrontEnd) : (s.modFront g).pins = s.pins := rfl
@[simp] theorem State.modFront_global (s : State) (g : FrontEnd → FrontEnd) : (s.modFront g).global = s.global := rfl
@[simp] theorem State.modFront_counters (s : State) (g : FrontEnd → FrontEnd) : (s.modFront g).counters = s.counters := rfl
@[simp] theorem State.modFront_fab (s : State) (g : FrontEnd → FrontEnd) : (s.modFront g).fab = s.fab := rfl
@[simp] theorem State.modFront_watch (s : State) (g : FrontEnd → FrontEnd) : (s.modFront g).watch = s.watch := rfl
@[simp] theorem State.modFront_front (s : State) (g : FrontEnd → FrontEnd) : (s.modFront g).front = g s.front := rfl
@[simp] theorem State.modFront_xfer (s : State) (g : FrontEnd → FrontEnd) : (s.modFront g).xfer = s.xfer := rfl
@[simp] theorem State.modFront_gather (s : State) (g : FrontEnd → FrontEnd) : (s.modFront g).gather = s.gather := rfl
@[simp] theorem State.modFront_time (s : State) (g : FrontEnd → FrontEnd) : (s.modFront g).time = s.time := rfl
@[simp] theorem State.modFront_ports (s : State) (g : FrontEnd → FrontEnd) : (s.modFront g).ports = s.ports := rfl
@[simp] theorem State.modFront_topo (s : State) (g : FrontEnd → FrontEnd) : (s.modFront g).topo = s.topo := rfl
@[simp] theorem State.modFront_gate (s : State) (g : FrontEnd → FrontEnd) : (s.modFront g).gate = s.gate := rfl
@[simp] theorem State.modFront_ident (s : State) (g : FrontEnd → FrontEnd) : (s.modFront g).ident = s.ident := rfl
@[simp] theorem State.modFront_power (s : State) (g : FrontEnd → FrontEnd) : (s.modFront g).power = s.power := rfl
@[simp] theorem State.modFront_flt (s : State) (g : FrontEnd → FrontEnd) : (s.modFront g).flt = s.flt := rfl
@[simp] theorem State.modFront_lodge (s : State) (g : FrontEnd → FrontEnd) : (s.modFront g).lodge = s.lodge := rfl
@[simp] theorem State.modFront_belv (s : State) (g : FrontEnd → FrontEnd) : (s.modFront g).belv = s.belv := rfl
@[simp] theorem State.modFront_resetRun (s : State) (g : FrontEnd → FrontEnd) : (s.modFront g).resetRun = s.resetRun := rfl
@[simp] theorem State.modFront_retained (s : State) (g : FrontEnd → FrontEnd) : (s.modFront g).retained = s.retained := rfl
@[simp] theorem State.modFront_freeCount (s : State) (g : FrontEnd → FrontEnd) : (s.modFront g).freeCount = s.freeCount := rfl

/-! ### modXfer -/

@[simp] theorem State.modXfer_pending (s : State) (g : Xfer → Xfer) : (s.modXfer g).pending = s.pending := rfl
@[simp] theorem State.modXfer_pins (s : State) (g : Xfer → Xfer) : (s.modXfer g).pins = s.pins := rfl
@[simp] theorem State.modXfer_global (s : State) (g : Xfer → Xfer) : (s.modXfer g).global = s.global := rfl
@[simp] theorem State.modXfer_counters (s : State) (g : Xfer → Xfer) : (s.modXfer g).counters = s.counters := rfl
@[simp] theorem State.modXfer_fab (s : State) (g : Xfer → Xfer) : (s.modXfer g).fab = s.fab := rfl
@[simp] theorem State.modXfer_watch (s : State) (g : Xfer → Xfer) : (s.modXfer g).watch = s.watch := rfl
@[simp] theorem State.modXfer_front (s : State) (g : Xfer → Xfer) : (s.modXfer g).front = s.front := rfl
@[simp] theorem State.modXfer_xfer (s : State) (g : Xfer → Xfer) : (s.modXfer g).xfer = g s.xfer := rfl
@[simp] theorem State.modXfer_gather (s : State) (g : Xfer → Xfer) : (s.modXfer g).gather = s.gather := rfl
@[simp] theorem State.modXfer_time (s : State) (g : Xfer → Xfer) : (s.modXfer g).time = s.time := rfl
@[simp] theorem State.modXfer_ports (s : State) (g : Xfer → Xfer) : (s.modXfer g).ports = s.ports := rfl
@[simp] theorem State.modXfer_topo (s : State) (g : Xfer → Xfer) : (s.modXfer g).topo = s.topo := rfl
@[simp] theorem State.modXfer_gate (s : State) (g : Xfer → Xfer) : (s.modXfer g).gate = s.gate := rfl
@[simp] theorem State.modXfer_ident (s : State) (g : Xfer → Xfer) : (s.modXfer g).ident = s.ident := rfl
@[simp] theorem State.modXfer_power (s : State) (g : Xfer → Xfer) : (s.modXfer g).power = s.power := rfl
@[simp] theorem State.modXfer_flt (s : State) (g : Xfer → Xfer) : (s.modXfer g).flt = s.flt := rfl
@[simp] theorem State.modXfer_lodge (s : State) (g : Xfer → Xfer) : (s.modXfer g).lodge = s.lodge := rfl
@[simp] theorem State.modXfer_belv (s : State) (g : Xfer → Xfer) : (s.modXfer g).belv = s.belv := rfl
@[simp] theorem State.modXfer_resetRun (s : State) (g : Xfer → Xfer) : (s.modXfer g).resetRun = s.resetRun := rfl
@[simp] theorem State.modXfer_retained (s : State) (g : Xfer → Xfer) : (s.modXfer g).retained = s.retained := rfl
@[simp] theorem State.modXfer_freeCount (s : State) (g : Xfer → Xfer) : (s.modXfer g).freeCount = s.freeCount := rfl

/-! ### modGather -/

@[simp] theorem State.modGather_pending (s : State) (g : Gather → Gather) : (s.modGather g).pending = s.pending := rfl
@[simp] theorem State.modGather_pins (s : State) (g : Gather → Gather) : (s.modGather g).pins = s.pins := rfl
@[simp] theorem State.modGather_global (s : State) (g : Gather → Gather) : (s.modGather g).global = s.global := rfl
@[simp] theorem State.modGather_counters (s : State) (g : Gather → Gather) : (s.modGather g).counters = s.counters := rfl
@[simp] theorem State.modGather_fab (s : State) (g : Gather → Gather) : (s.modGather g).fab = s.fab := rfl
@[simp] theorem State.modGather_watch (s : State) (g : Gather → Gather) : (s.modGather g).watch = s.watch := rfl
@[simp] theorem State.modGather_front (s : State) (g : Gather → Gather) : (s.modGather g).front = s.front := rfl
@[simp] theorem State.modGather_xfer (s : State) (g : Gather → Gather) : (s.modGather g).xfer = s.xfer := rfl
@[simp] theorem State.modGather_gather (s : State) (g : Gather → Gather) : (s.modGather g).gather = g s.gather := rfl
@[simp] theorem State.modGather_time (s : State) (g : Gather → Gather) : (s.modGather g).time = s.time := rfl
@[simp] theorem State.modGather_ports (s : State) (g : Gather → Gather) : (s.modGather g).ports = s.ports := rfl
@[simp] theorem State.modGather_topo (s : State) (g : Gather → Gather) : (s.modGather g).topo = s.topo := rfl
@[simp] theorem State.modGather_gate (s : State) (g : Gather → Gather) : (s.modGather g).gate = s.gate := rfl
@[simp] theorem State.modGather_ident (s : State) (g : Gather → Gather) : (s.modGather g).ident = s.ident := rfl
@[simp] theorem State.modGather_power (s : State) (g : Gather → Gather) : (s.modGather g).power = s.power := rfl
@[simp] theorem State.modGather_flt (s : State) (g : Gather → Gather) : (s.modGather g).flt = s.flt := rfl
@[simp] theorem State.modGather_lodge (s : State) (g : Gather → Gather) : (s.modGather g).lodge = s.lodge := rfl
@[simp] theorem State.modGather_belv (s : State) (g : Gather → Gather) : (s.modGather g).belv = s.belv := rfl
@[simp] theorem State.modGather_resetRun (s : State) (g : Gather → Gather) : (s.modGather g).resetRun = s.resetRun := rfl
@[simp] theorem State.modGather_retained (s : State) (g : Gather → Gather) : (s.modGather g).retained = s.retained := rfl
@[simp] theorem State.modGather_freeCount (s : State) (g : Gather → Gather) : (s.modGather g).freeCount = s.freeCount := rfl

/-! ### modTime -/

@[simp] theorem State.modTime_pending (s : State) (g : PodTime → PodTime) : (s.modTime g).pending = s.pending := rfl
@[simp] theorem State.modTime_pins (s : State) (g : PodTime → PodTime) : (s.modTime g).pins = s.pins := rfl
@[simp] theorem State.modTime_global (s : State) (g : PodTime → PodTime) : (s.modTime g).global = s.global := rfl
@[simp] theorem State.modTime_counters (s : State) (g : PodTime → PodTime) : (s.modTime g).counters = s.counters := rfl
@[simp] theorem State.modTime_fab (s : State) (g : PodTime → PodTime) : (s.modTime g).fab = s.fab := rfl
@[simp] theorem State.modTime_watch (s : State) (g : PodTime → PodTime) : (s.modTime g).watch = s.watch := rfl
@[simp] theorem State.modTime_front (s : State) (g : PodTime → PodTime) : (s.modTime g).front = s.front := rfl
@[simp] theorem State.modTime_xfer (s : State) (g : PodTime → PodTime) : (s.modTime g).xfer = s.xfer := rfl
@[simp] theorem State.modTime_gather (s : State) (g : PodTime → PodTime) : (s.modTime g).gather = s.gather := rfl
@[simp] theorem State.modTime_time (s : State) (g : PodTime → PodTime) : (s.modTime g).time = g s.time := rfl
@[simp] theorem State.modTime_ports (s : State) (g : PodTime → PodTime) : (s.modTime g).ports = s.ports := rfl
@[simp] theorem State.modTime_topo (s : State) (g : PodTime → PodTime) : (s.modTime g).topo = s.topo := rfl
@[simp] theorem State.modTime_gate (s : State) (g : PodTime → PodTime) : (s.modTime g).gate = s.gate := rfl
@[simp] theorem State.modTime_ident (s : State) (g : PodTime → PodTime) : (s.modTime g).ident = s.ident := rfl
@[simp] theorem State.modTime_power (s : State) (g : PodTime → PodTime) : (s.modTime g).power = s.power := rfl
@[simp] theorem State.modTime_flt (s : State) (g : PodTime → PodTime) : (s.modTime g).flt = s.flt := rfl
@[simp] theorem State.modTime_lodge (s : State) (g : PodTime → PodTime) : (s.modTime g).lodge = s.lodge := rfl
@[simp] theorem State.modTime_belv (s : State) (g : PodTime → PodTime) : (s.modTime g).belv = s.belv := rfl
@[simp] theorem State.modTime_resetRun (s : State) (g : PodTime → PodTime) : (s.modTime g).resetRun = s.resetRun := rfl
@[simp] theorem State.modTime_retained (s : State) (g : PodTime → PodTime) : (s.modTime g).retained = s.retained := rfl
@[simp] theorem State.modTime_freeCount (s : State) (g : PodTime → PodTime) : (s.modTime g).freeCount = s.freeCount := rfl

/-! ### modTopo -/

@[simp] theorem State.modTopo_pending (s : State) (g : Topo → Topo) : (s.modTopo g).pending = s.pending := rfl
@[simp] theorem State.modTopo_pins (s : State) (g : Topo → Topo) : (s.modTopo g).pins = s.pins := rfl
@[simp] theorem State.modTopo_global (s : State) (g : Topo → Topo) : (s.modTopo g).global = s.global := rfl
@[simp] theorem State.modTopo_counters (s : State) (g : Topo → Topo) : (s.modTopo g).counters = s.counters := rfl
@[simp] theorem State.modTopo_fab (s : State) (g : Topo → Topo) : (s.modTopo g).fab = s.fab := rfl
@[simp] theorem State.modTopo_watch (s : State) (g : Topo → Topo) : (s.modTopo g).watch = s.watch := rfl
@[simp] theorem State.modTopo_front (s : State) (g : Topo → Topo) : (s.modTopo g).front = s.front := rfl
@[simp] theorem State.modTopo_xfer (s : State) (g : Topo → Topo) : (s.modTopo g).xfer = s.xfer := rfl
@[simp] theorem State.modTopo_gather (s : State) (g : Topo → Topo) : (s.modTopo g).gather = s.gather := rfl
@[simp] theorem State.modTopo_time (s : State) (g : Topo → Topo) : (s.modTopo g).time = s.time := rfl
@[simp] theorem State.modTopo_ports (s : State) (g : Topo → Topo) : (s.modTopo g).ports = s.ports := rfl
@[simp] theorem State.modTopo_topo (s : State) (g : Topo → Topo) : (s.modTopo g).topo = g s.topo := rfl
@[simp] theorem State.modTopo_gate (s : State) (g : Topo → Topo) : (s.modTopo g).gate = s.gate := rfl
@[simp] theorem State.modTopo_ident (s : State) (g : Topo → Topo) : (s.modTopo g).ident = s.ident := rfl
@[simp] theorem State.modTopo_power (s : State) (g : Topo → Topo) : (s.modTopo g).power = s.power := rfl
@[simp] theorem State.modTopo_flt (s : State) (g : Topo → Topo) : (s.modTopo g).flt = s.flt := rfl
@[simp] theorem State.modTopo_lodge (s : State) (g : Topo → Topo) : (s.modTopo g).lodge = s.lodge := rfl
@[simp] theorem State.modTopo_belv (s : State) (g : Topo → Topo) : (s.modTopo g).belv = s.belv := rfl
@[simp] theorem State.modTopo_resetRun (s : State) (g : Topo → Topo) : (s.modTopo g).resetRun = s.resetRun := rfl
@[simp] theorem State.modTopo_retained (s : State) (g : Topo → Topo) : (s.modTopo g).retained = s.retained := rfl
@[simp] theorem State.modTopo_freeCount (s : State) (g : Topo → Topo) : (s.modTopo g).freeCount = s.freeCount := rfl

/-! ### modGate -/

@[simp] theorem State.modGate_pending (s : State) (g : Gate → Gate) : (s.modGate g).pending = s.pending := rfl
@[simp] theorem State.modGate_pins (s : State) (g : Gate → Gate) : (s.modGate g).pins = s.pins := rfl
@[simp] theorem State.modGate_global (s : State) (g : Gate → Gate) : (s.modGate g).global = s.global := rfl
@[simp] theorem State.modGate_counters (s : State) (g : Gate → Gate) : (s.modGate g).counters = s.counters := rfl
@[simp] theorem State.modGate_fab (s : State) (g : Gate → Gate) : (s.modGate g).fab = s.fab := rfl
@[simp] theorem State.modGate_watch (s : State) (g : Gate → Gate) : (s.modGate g).watch = s.watch := rfl
@[simp] theorem State.modGate_front (s : State) (g : Gate → Gate) : (s.modGate g).front = s.front := rfl
@[simp] theorem State.modGate_xfer (s : State) (g : Gate → Gate) : (s.modGate g).xfer = s.xfer := rfl
@[simp] theorem State.modGate_gather (s : State) (g : Gate → Gate) : (s.modGate g).gather = s.gather := rfl
@[simp] theorem State.modGate_time (s : State) (g : Gate → Gate) : (s.modGate g).time = s.time := rfl
@[simp] theorem State.modGate_ports (s : State) (g : Gate → Gate) : (s.modGate g).ports = s.ports := rfl
@[simp] theorem State.modGate_topo (s : State) (g : Gate → Gate) : (s.modGate g).topo = s.topo := rfl
@[simp] theorem State.modGate_gate (s : State) (g : Gate → Gate) : (s.modGate g).gate = g s.gate := rfl
@[simp] theorem State.modGate_ident (s : State) (g : Gate → Gate) : (s.modGate g).ident = s.ident := rfl
@[simp] theorem State.modGate_power (s : State) (g : Gate → Gate) : (s.modGate g).power = s.power := rfl
@[simp] theorem State.modGate_flt (s : State) (g : Gate → Gate) : (s.modGate g).flt = s.flt := rfl
@[simp] theorem State.modGate_lodge (s : State) (g : Gate → Gate) : (s.modGate g).lodge = s.lodge := rfl
@[simp] theorem State.modGate_belv (s : State) (g : Gate → Gate) : (s.modGate g).belv = s.belv := rfl
@[simp] theorem State.modGate_resetRun (s : State) (g : Gate → Gate) : (s.modGate g).resetRun = s.resetRun := rfl
@[simp] theorem State.modGate_retained (s : State) (g : Gate → Gate) : (s.modGate g).retained = s.retained := rfl
@[simp] theorem State.modGate_freeCount (s : State) (g : Gate → Gate) : (s.modGate g).freeCount = s.freeCount := rfl

/-! ### modPower -/

@[simp] theorem State.modPower_pending (s : State) (g : Power → Power) : (s.modPower g).pending = s.pending := rfl
@[simp] theorem State.modPower_pins (s : State) (g : Power → Power) : (s.modPower g).pins = s.pins := rfl
@[simp] theorem State.modPower_global (s : State) (g : Power → Power) : (s.modPower g).global = s.global := rfl
@[simp] theorem State.modPower_counters (s : State) (g : Power → Power) : (s.modPower g).counters = s.counters := rfl
@[simp] theorem State.modPower_fab (s : State) (g : Power → Power) : (s.modPower g).fab = s.fab := rfl
@[simp] theorem State.modPower_watch (s : State) (g : Power → Power) : (s.modPower g).watch = s.watch := rfl
@[simp] theorem State.modPower_front (s : State) (g : Power → Power) : (s.modPower g).front = s.front := rfl
@[simp] theorem State.modPower_xfer (s : State) (g : Power → Power) : (s.modPower g).xfer = s.xfer := rfl
@[simp] theorem State.modPower_gather (s : State) (g : Power → Power) : (s.modPower g).gather = s.gather := rfl
@[simp] theorem State.modPower_time (s : State) (g : Power → Power) : (s.modPower g).time = s.time := rfl
@[simp] theorem State.modPower_ports (s : State) (g : Power → Power) : (s.modPower g).ports = s.ports := rfl
@[simp] theorem State.modPower_topo (s : State) (g : Power → Power) : (s.modPower g).topo = s.topo := rfl
@[simp] theorem State.modPower_gate (s : State) (g : Power → Power) : (s.modPower g).gate = s.gate := rfl
@[simp] theorem State.modPower_ident (s : State) (g : Power → Power) : (s.modPower g).ident = s.ident := rfl
@[simp] theorem State.modPower_power (s : State) (g : Power → Power) : (s.modPower g).power = g s.power := rfl
@[simp] theorem State.modPower_flt (s : State) (g : Power → Power) : (s.modPower g).flt = s.flt := rfl
@[simp] theorem State.modPower_lodge (s : State) (g : Power → Power) : (s.modPower g).lodge = s.lodge := rfl
@[simp] theorem State.modPower_belv (s : State) (g : Power → Power) : (s.modPower g).belv = s.belv := rfl
@[simp] theorem State.modPower_resetRun (s : State) (g : Power → Power) : (s.modPower g).resetRun = s.resetRun := rfl
@[simp] theorem State.modPower_retained (s : State) (g : Power → Power) : (s.modPower g).retained = s.retained := rfl
@[simp] theorem State.modPower_freeCount (s : State) (g : Power → Power) : (s.modPower g).freeCount = s.freeCount := rfl

/-! ### modFlt -/

@[simp] theorem State.modFlt_pending (s : State) (g : Flt → Flt) : (s.modFlt g).pending = s.pending := rfl
@[simp] theorem State.modFlt_pins (s : State) (g : Flt → Flt) : (s.modFlt g).pins = s.pins := rfl
@[simp] theorem State.modFlt_global (s : State) (g : Flt → Flt) : (s.modFlt g).global = s.global := rfl
@[simp] theorem State.modFlt_counters (s : State) (g : Flt → Flt) : (s.modFlt g).counters = s.counters := rfl
@[simp] theorem State.modFlt_fab (s : State) (g : Flt → Flt) : (s.modFlt g).fab = s.fab := rfl
@[simp] theorem State.modFlt_watch (s : State) (g : Flt → Flt) : (s.modFlt g).watch = s.watch := rfl
@[simp] theorem State.modFlt_front (s : State) (g : Flt → Flt) : (s.modFlt g).front = s.front := rfl
@[simp] theorem State.modFlt_xfer (s : State) (g : Flt → Flt) : (s.modFlt g).xfer = s.xfer := rfl
@[simp] theorem State.modFlt_gather (s : State) (g : Flt → Flt) : (s.modFlt g).gather = s.gather := rfl
@[simp] theorem State.modFlt_time (s : State) (g : Flt → Flt) : (s.modFlt g).time = s.time := rfl
@[simp] theorem State.modFlt_ports (s : State) (g : Flt → Flt) : (s.modFlt g).ports = s.ports := rfl
@[simp] theorem State.modFlt_topo (s : State) (g : Flt → Flt) : (s.modFlt g).topo = s.topo := rfl
@[simp] theorem State.modFlt_gate (s : State) (g : Flt → Flt) : (s.modFlt g).gate = s.gate := rfl
@[simp] theorem State.modFlt_ident (s : State) (g : Flt → Flt) : (s.modFlt g).ident = s.ident := rfl
@[simp] theorem State.modFlt_power (s : State) (g : Flt → Flt) : (s.modFlt g).power = s.power := rfl
@[simp] theorem State.modFlt_flt (s : State) (g : Flt → Flt) : (s.modFlt g).flt = g s.flt := rfl
@[simp] theorem State.modFlt_lodge (s : State) (g : Flt → Flt) : (s.modFlt g).lodge = s.lodge := rfl
@[simp] theorem State.modFlt_belv (s : State) (g : Flt → Flt) : (s.modFlt g).belv = s.belv := rfl
@[simp] theorem State.modFlt_resetRun (s : State) (g : Flt → Flt) : (s.modFlt g).resetRun = s.resetRun := rfl
@[simp] theorem State.modFlt_retained (s : State) (g : Flt → Flt) : (s.modFlt g).retained = s.retained := rfl
@[simp] theorem State.modFlt_freeCount (s : State) (g : Flt → Flt) : (s.modFlt g).freeCount = s.freeCount := rfl

/-! ### modLodge -/

@[simp] theorem State.modLodge_pending (s : State) (g : Lodge → Lodge) : (s.modLodge g).pending = s.pending := rfl
@[simp] theorem State.modLodge_pins (s : State) (g : Lodge → Lodge) : (s.modLodge g).pins = s.pins := rfl
@[simp] theorem State.modLodge_global (s : State) (g : Lodge → Lodge) : (s.modLodge g).global = s.global := rfl
@[simp] theorem State.modLodge_counters (s : State) (g : Lodge → Lodge) : (s.modLodge g).counters = s.counters := rfl
@[simp] theorem State.modLodge_fab (s : State) (g : Lodge → Lodge) : (s.modLodge g).fab = s.fab := rfl
@[simp] theorem State.modLodge_watch (s : State) (g : Lodge → Lodge) : (s.modLodge g).watch = s.watch := rfl
@[simp] theorem State.modLodge_front (s : State) (g : Lodge → Lodge) : (s.modLodge g).front = s.front := rfl
@[simp] theorem State.modLodge_xfer (s : State) (g : Lodge → Lodge) : (s.modLodge g).xfer = s.xfer := rfl
@[simp] theorem State.modLodge_gather (s : State) (g : Lodge → Lodge) : (s.modLodge g).gather = s.gather := rfl
@[simp] theorem State.modLodge_time (s : State) (g : Lodge → Lodge) : (s.modLodge g).time = s.time := rfl
@[simp] theorem State.modLodge_ports (s : State) (g : Lodge → Lodge) : (s.modLodge g).ports = s.ports := rfl
@[simp] theorem State.modLodge_topo (s : State) (g : Lodge → Lodge) : (s.modLodge g).topo = s.topo := rfl
@[simp] theorem State.modLodge_gate (s : State) (g : Lodge → Lodge) : (s.modLodge g).gate = s.gate := rfl
@[simp] theorem State.modLodge_ident (s : State) (g : Lodge → Lodge) : (s.modLodge g).ident = s.ident := rfl
@[simp] theorem State.modLodge_power (s : State) (g : Lodge → Lodge) : (s.modLodge g).power = s.power := rfl
@[simp] theorem State.modLodge_flt (s : State) (g : Lodge → Lodge) : (s.modLodge g).flt = s.flt := rfl
@[simp] theorem State.modLodge_lodge (s : State) (g : Lodge → Lodge) : (s.modLodge g).lodge = g s.lodge := rfl
@[simp] theorem State.modLodge_belv (s : State) (g : Lodge → Lodge) : (s.modLodge g).belv = s.belv := rfl
@[simp] theorem State.modLodge_resetRun (s : State) (g : Lodge → Lodge) : (s.modLodge g).resetRun = s.resetRun := rfl
@[simp] theorem State.modLodge_retained (s : State) (g : Lodge → Lodge) : (s.modLodge g).retained = s.retained := rfl
@[simp] theorem State.modLodge_freeCount (s : State) (g : Lodge → Lodge) : (s.modLodge g).freeCount = s.freeCount := rfl

/-! ### modBelv -/

@[simp] theorem State.modBelv_pending (s : State) (g : Belvedere → Belvedere) : (s.modBelv g).pending = s.pending := rfl
@[simp] theorem State.modBelv_pins (s : State) (g : Belvedere → Belvedere) : (s.modBelv g).pins = s.pins := rfl
@[simp] theorem State.modBelv_global (s : State) (g : Belvedere → Belvedere) : (s.modBelv g).global = s.global := rfl
@[simp] theorem State.modBelv_counters (s : State) (g : Belvedere → Belvedere) : (s.modBelv g).counters = s.counters := rfl
@[simp] theorem State.modBelv_fab (s : State) (g : Belvedere → Belvedere) : (s.modBelv g).fab = s.fab := rfl
@[simp] theorem State.modBelv_watch (s : State) (g : Belvedere → Belvedere) : (s.modBelv g).watch = s.watch := rfl
@[simp] theorem State.modBelv_front (s : State) (g : Belvedere → Belvedere) : (s.modBelv g).front = s.front := rfl
@[simp] theorem State.modBelv_xfer (s : State) (g : Belvedere → Belvedere) : (s.modBelv g).xfer = s.xfer := rfl
@[simp] theorem State.modBelv_gather (s : State) (g : Belvedere → Belvedere) : (s.modBelv g).gather = s.gather := rfl
@[simp] theorem State.modBelv_time (s : State) (g : Belvedere → Belvedere) : (s.modBelv g).time = s.time := rfl
@[simp] theorem State.modBelv_ports (s : State) (g : Belvedere → Belvedere) : (s.modBelv g).ports = s.ports := rfl
@[simp] theorem State.modBelv_topo (s : State) (g : Belvedere → Belvedere) : (s.modBelv g).topo = s.topo := rfl
@[simp] theorem State.modBelv_gate (s : State) (g : Belvedere → Belvedere) : (s.modBelv g).gate = s.gate := rfl
@[simp] theorem State.modBelv_ident (s : State) (g : Belvedere → Belvedere) : (s.modBelv g).ident = s.ident := rfl
@[simp] theorem State.modBelv_power (s : State) (g : Belvedere → Belvedere) : (s.modBelv g).power = s.power := rfl
@[simp] theorem State.modBelv_flt (s : State) (g : Belvedere → Belvedere) : (s.modBelv g).flt = s.flt := rfl
@[simp] theorem State.modBelv_lodge (s : State) (g : Belvedere → Belvedere) : (s.modBelv g).lodge = s.lodge := rfl
@[simp] theorem State.modBelv_belv (s : State) (g : Belvedere → Belvedere) : (s.modBelv g).belv = g s.belv := rfl
@[simp] theorem State.modBelv_resetRun (s : State) (g : Belvedere → Belvedere) : (s.modBelv g).resetRun = s.resetRun := rfl
@[simp] theorem State.modBelv_retained (s : State) (g : Belvedere → Belvedere) : (s.modBelv g).retained = s.retained := rfl
@[simp] theorem State.modBelv_freeCount (s : State) (g : Belvedere → Belvedere) : (s.modBelv g).freeCount = s.freeCount := rfl

/-! ### setPort -/

@[simp] theorem State.setPort_pending (s : State) (p : PortIx) (v : Port) : (s.setPort p v).pending = s.pending := rfl
@[simp] theorem State.setPort_pins (s : State) (p : PortIx) (v : Port) : (s.setPort p v).pins = s.pins := rfl
@[simp] theorem State.setPort_global (s : State) (p : PortIx) (v : Port) : (s.setPort p v).global = s.global := rfl
@[simp] theorem State.setPort_counters (s : State) (p : PortIx) (v : Port) : (s.setPort p v).counters = s.counters := rfl
@[simp] theorem State.setPort_fab (s : State) (p : PortIx) (v : Port) : (s.setPort p v).fab = s.fab := rfl
@[simp] theorem State.setPort_watch (s : State) (p : PortIx) (v : Port) : (s.setPort p v).watch = s.watch := rfl
@[simp] theorem State.setPort_front (s : State) (p : PortIx) (v : Port) : (s.setPort p v).front = s.front := rfl
@[simp] theorem State.setPort_xfer (s : State) (p : PortIx) (v : Port) : (s.setPort p v).xfer = s.xfer := rfl
@[simp] theorem State.setPort_gather (s : State) (p : PortIx) (v : Port) : (s.setPort p v).gather = s.gather := rfl
@[simp] theorem State.setPort_time (s : State) (p : PortIx) (v : Port) : (s.setPort p v).time = s.time := rfl
theorem State.setPort_ports (s : State) (p : PortIx) (v : Port) : (s.setPort p v).ports = s.ports.set p v := rfl
@[simp] theorem State.setPort_topo (s : State) (p : PortIx) (v : Port) : (s.setPort p v).topo = s.topo := rfl
@[simp] theorem State.setPort_gate (s : State) (p : PortIx) (v : Port) : (s.setPort p v).gate = s.gate := rfl
@[simp] theorem State.setPort_ident (s : State) (p : PortIx) (v : Port) : (s.setPort p v).ident = s.ident := rfl
@[simp] theorem State.setPort_power (s : State) (p : PortIx) (v : Port) : (s.setPort p v).power = s.power := rfl
@[simp] theorem State.setPort_flt (s : State) (p : PortIx) (v : Port) : (s.setPort p v).flt = s.flt := rfl
@[simp] theorem State.setPort_lodge (s : State) (p : PortIx) (v : Port) : (s.setPort p v).lodge = s.lodge := rfl
@[simp] theorem State.setPort_belv (s : State) (p : PortIx) (v : Port) : (s.setPort p v).belv = s.belv := rfl
@[simp] theorem State.setPort_resetRun (s : State) (p : PortIx) (v : Port) : (s.setPort p v).resetRun = s.resetRun := rfl
@[simp] theorem State.setPort_retained (s : State) (p : PortIx) (v : Port) : (s.setPort p v).retained = s.retained := rfl
@[simp] theorem State.setPort_freeCount (s : State) (p : PortIx) (v : Port) : (s.setPort p v).freeCount = s.freeCount := rfl

/-! ### modPort -/

@[simp] theorem State.modPort_pending (s : State) (p : PortIx) (g : Port → Port) : (s.modPort p g).pending = s.pending := rfl
@[simp] theorem State.modPort_pins (s : State) (p : PortIx) (g : Port → Port) : (s.modPort p g).pins = s.pins := rfl
@[simp] theorem State.modPort_global (s : State) (p : PortIx) (g : Port → Port) : (s.modPort p g).global = s.global := rfl
@[simp] theorem State.modPort_counters (s : State) (p : PortIx) (g : Port → Port) : (s.modPort p g).counters = s.counters := rfl
@[simp] theorem State.modPort_fab (s : State) (p : PortIx) (g : Port → Port) : (s.modPort p g).fab = s.fab := rfl
@[simp] theorem State.modPort_watch (s : State) (p : PortIx) (g : Port → Port) : (s.modPort p g).watch = s.watch := rfl
@[simp] theorem State.modPort_front (s : State) (p : PortIx) (g : Port → Port) : (s.modPort p g).front = s.front := rfl
@[simp] theorem State.modPort_xfer (s : State) (p : PortIx) (g : Port → Port) : (s.modPort p g).xfer = s.xfer := rfl
@[simp] theorem State.modPort_gather (s : State) (p : PortIx) (g : Port → Port) : (s.modPort p g).gather = s.gather := rfl
@[simp] theorem State.modPort_time (s : State) (p : PortIx) (g : Port → Port) : (s.modPort p g).time = s.time := rfl
@[simp] theorem State.modPort_topo (s : State) (p : PortIx) (g : Port → Port) : (s.modPort p g).topo = s.topo := rfl
@[simp] theorem State.modPort_gate (s : State) (p : PortIx) (g : Port → Port) : (s.modPort p g).gate = s.gate := rfl
@[simp] theorem State.modPort_ident (s : State) (p : PortIx) (g : Port → Port) : (s.modPort p g).ident = s.ident := rfl
@[simp] theorem State.modPort_power (s : State) (p : PortIx) (g : Port → Port) : (s.modPort p g).power = s.power := rfl
@[simp] theorem State.modPort_flt (s : State) (p : PortIx) (g : Port → Port) : (s.modPort p g).flt = s.flt := rfl
@[simp] theorem State.modPort_lodge (s : State) (p : PortIx) (g : Port → Port) : (s.modPort p g).lodge = s.lodge := rfl
@[simp] theorem State.modPort_belv (s : State) (p : PortIx) (g : Port → Port) : (s.modPort p g).belv = s.belv := rfl
@[simp] theorem State.modPort_resetRun (s : State) (p : PortIx) (g : Port → Port) : (s.modPort p g).resetRun = s.resetRun := rfl
@[simp] theorem State.modPort_retained (s : State) (p : PortIx) (g : Port → Port) : (s.modPort p g).retained = s.retained := rfl
@[simp] theorem State.modPort_freeCount (s : State) (p : PortIx) (g : Port → Port) : (s.modPort p g).freeCount = s.freeCount := rfl

/-! ### modPane -/

@[simp] theorem State.modPane_pending (s : State) (p : PortIx) (g : Pane → Pane) : (s.modPane p g).pending = s.pending := rfl
@[simp] theorem State.modPane_pins (s : State) (p : PortIx) (g : Pane → Pane) : (s.modPane p g).pins = s.pins := rfl
@[simp] theorem State.modPane_global (s : State) (p : PortIx) (g : Pane → Pane) : (s.modPane p g).global = s.global := rfl
@[simp] theorem State.modPane_counters (s : State) (p : PortIx) (g : Pane → Pane) : (s.modPane p g).counters = s.counters := rfl
@[simp] theorem State.modPane_fab (s : State) (p : PortIx) (g : Pane → Pane) : (s.modPane p g).fab = s.fab := rfl
@[simp] theorem State.modPane_watch (s : State) (p : PortIx) (g : Pane → Pane) : (s.modPane p g).watch = s.watch := rfl
@[simp] theorem State.modPane_front (s : State) (p : PortIx) (g : Pane → Pane) : (s.modPane p g).front = s.front := rfl
@[simp] theorem State.modPane_xfer (s : State) (p : PortIx) (g : Pane → Pane) : (s.modPane p g).xfer = s.xfer := rfl
@[simp] theorem State.modPane_gather (s : State) (p : PortIx) (g : Pane → Pane) : (s.modPane p g).gather = s.gather := rfl
@[simp] theorem State.modPane_time (s : State) (p : PortIx) (g : Pane → Pane) : (s.modPane p g).time = s.time := rfl
@[simp] theorem State.modPane_topo (s : State) (p : PortIx) (g : Pane → Pane) : (s.modPane p g).topo = s.topo := rfl
@[simp] theorem State.modPane_gate (s : State) (p : PortIx) (g : Pane → Pane) : (s.modPane p g).gate = s.gate := rfl
@[simp] theorem State.modPane_ident (s : State) (p : PortIx) (g : Pane → Pane) : (s.modPane p g).ident = s.ident := rfl
@[simp] theorem State.modPane_power (s : State) (p : PortIx) (g : Pane → Pane) : (s.modPane p g).power = s.power := rfl
@[simp] theorem State.modPane_flt (s : State) (p : PortIx) (g : Pane → Pane) : (s.modPane p g).flt = s.flt := rfl
@[simp] theorem State.modPane_lodge (s : State) (p : PortIx) (g : Pane → Pane) : (s.modPane p g).lodge = s.lodge := rfl
@[simp] theorem State.modPane_belv (s : State) (p : PortIx) (g : Pane → Pane) : (s.modPane p g).belv = s.belv := rfl
@[simp] theorem State.modPane_resetRun (s : State) (p : PortIx) (g : Pane → Pane) : (s.modPane p g).resetRun = s.resetRun := rfl
@[simp] theorem State.modPane_retained (s : State) (p : PortIx) (g : Pane → Pane) : (s.modPane p g).retained = s.retained := rfl
@[simp] theorem State.modPane_freeCount (s : State) (p : PortIx) (g : Pane → Pane) : (s.modPane p g).freeCount = s.freeCount := rfl

/-! ### modLane -/

@[simp] theorem State.modLane_pending (s : State) (p : PortIx) (g : LaneUnit → LaneUnit) : (s.modLane p g).pending = s.pending := rfl
@[simp] theorem State.modLane_pins (s : State) (p : PortIx) (g : LaneUnit → LaneUnit) : (s.modLane p g).pins = s.pins := rfl
@[simp] theorem State.modLane_global (s : State) (p : PortIx) (g : LaneUnit → LaneUnit) : (s.modLane p g).global = s.global := rfl
@[simp] theorem State.modLane_counters (s : State) (p : PortIx) (g : LaneUnit → LaneUnit) : (s.modLane p g).counters = s.counters := rfl
@[simp] theorem State.modLane_fab (s : State) (p : PortIx) (g : LaneUnit → LaneUnit) : (s.modLane p g).fab = s.fab := rfl
@[simp] theorem State.modLane_watch (s : State) (p : PortIx) (g : LaneUnit → LaneUnit) : (s.modLane p g).watch = s.watch := rfl
@[simp] theorem State.modLane_front (s : State) (p : PortIx) (g : LaneUnit → LaneUnit) : (s.modLane p g).front = s.front := rfl
@[simp] theorem State.modLane_xfer (s : State) (p : PortIx) (g : LaneUnit → LaneUnit) : (s.modLane p g).xfer = s.xfer := rfl
@[simp] theorem State.modLane_gather (s : State) (p : PortIx) (g : LaneUnit → LaneUnit) : (s.modLane p g).gather = s.gather := rfl
@[simp] theorem State.modLane_time (s : State) (p : PortIx) (g : LaneUnit → LaneUnit) : (s.modLane p g).time = s.time := rfl
@[simp] theorem State.modLane_topo (s : State) (p : PortIx) (g : LaneUnit → LaneUnit) : (s.modLane p g).topo = s.topo := rfl
@[simp] theorem State.modLane_gate (s : State) (p : PortIx) (g : LaneUnit → LaneUnit) : (s.modLane p g).gate = s.gate := rfl
@[simp] theorem State.modLane_ident (s : State) (p : PortIx) (g : LaneUnit → LaneUnit) : (s.modLane p g).ident = s.ident := rfl
@[simp] theorem State.modLane_power (s : State) (p : PortIx) (g : LaneUnit → LaneUnit) : (s.modLane p g).power = s.power := rfl
@[simp] theorem State.modLane_flt (s : State) (p : PortIx) (g : LaneUnit → LaneUnit) : (s.modLane p g).flt = s.flt := rfl
@[simp] theorem State.modLane_lodge (s : State) (p : PortIx) (g : LaneUnit → LaneUnit) : (s.modLane p g).lodge = s.lodge := rfl
@[simp] theorem State.modLane_belv (s : State) (p : PortIx) (g : LaneUnit → LaneUnit) : (s.modLane p g).belv = s.belv := rfl
@[simp] theorem State.modLane_resetRun (s : State) (p : PortIx) (g : LaneUnit → LaneUnit) : (s.modLane p g).resetRun = s.resetRun := rfl
@[simp] theorem State.modLane_retained (s : State) (p : PortIx) (g : LaneUnit → LaneUnit) : (s.modLane p g).retained = s.retained := rfl
@[simp] theorem State.modLane_freeCount (s : State) (p : PortIx) (g : LaneUnit → LaneUnit) : (s.modLane p g).freeCount = s.freeCount := rfl

/-! ### modKeys -/

@[simp] theorem State.modKeys_pending (s : State) (p : PortIx) (g : PortKeys → PortKeys) : (s.modKeys p g).pending = s.pending := rfl
@[simp] theorem State.modKeys_pins (s : State) (p : PortIx) (g : PortKeys → PortKeys) : (s.modKeys p g).pins = s.pins := rfl
@[simp] theorem State.modKeys_global (s : State) (p : PortIx) (g : PortKeys → PortKeys) : (s.modKeys p g).global = s.global := rfl
@[simp] theorem State.modKeys_counters (s : State) (p : PortIx) (g : PortKeys → PortKeys) : (s.modKeys p g).counters = s.counters := rfl
@[simp] theorem State.modKeys_fab (s : State) (p : PortIx) (g : PortKeys → PortKeys) : (s.modKeys p g).fab = s.fab := rfl
@[simp] theorem State.modKeys_watch (s : State) (p : PortIx) (g : PortKeys → PortKeys) : (s.modKeys p g).watch = s.watch := rfl
@[simp] theorem State.modKeys_front (s : State) (p : PortIx) (g : PortKeys → PortKeys) : (s.modKeys p g).front = s.front := rfl
@[simp] theorem State.modKeys_xfer (s : State) (p : PortIx) (g : PortKeys → PortKeys) : (s.modKeys p g).xfer = s.xfer := rfl
@[simp] theorem State.modKeys_gather (s : State) (p : PortIx) (g : PortKeys → PortKeys) : (s.modKeys p g).gather = s.gather := rfl
@[simp] theorem State.modKeys_time (s : State) (p : PortIx) (g : PortKeys → PortKeys) : (s.modKeys p g).time = s.time := rfl
@[simp] theorem State.modKeys_topo (s : State) (p : PortIx) (g : PortKeys → PortKeys) : (s.modKeys p g).topo = s.topo := rfl
@[simp] theorem State.modKeys_gate (s : State) (p : PortIx) (g : PortKeys → PortKeys) : (s.modKeys p g).gate = s.gate := rfl
@[simp] theorem State.modKeys_ident (s : State) (p : PortIx) (g : PortKeys → PortKeys) : (s.modKeys p g).ident = s.ident := rfl
@[simp] theorem State.modKeys_power (s : State) (p : PortIx) (g : PortKeys → PortKeys) : (s.modKeys p g).power = s.power := rfl
@[simp] theorem State.modKeys_flt (s : State) (p : PortIx) (g : PortKeys → PortKeys) : (s.modKeys p g).flt = s.flt := rfl
@[simp] theorem State.modKeys_lodge (s : State) (p : PortIx) (g : PortKeys → PortKeys) : (s.modKeys p g).lodge = s.lodge := rfl
@[simp] theorem State.modKeys_belv (s : State) (p : PortIx) (g : PortKeys → PortKeys) : (s.modKeys p g).belv = s.belv := rfl
@[simp] theorem State.modKeys_resetRun (s : State) (p : PortIx) (g : PortKeys → PortKeys) : (s.modKeys p g).resetRun = s.resetRun := rfl
@[simp] theorem State.modKeys_retained (s : State) (p : PortIx) (g : PortKeys → PortKeys) : (s.modKeys p g).retained = s.retained := rfl
@[simp] theorem State.modKeys_freeCount (s : State) (p : PortIx) (g : PortKeys → PortKeys) : (s.modKeys p g).freeCount = s.freeCount := rfl

/-! ### modPTime -/

@[simp] theorem State.modPTime_pending (s : State) (p : PortIx) (g : PortTime → PortTime) : (s.modPTime p g).pending = s.pending := rfl
@[simp] theorem State.modPTime_pins (s : State) (p : PortIx) (g : PortTime → PortTime) : (s.modPTime p g).pins = s.pins := rfl
@[simp] theorem State.modPTime_global (s : State) (p : PortIx) (g : PortTime → PortTime) : (s.modPTime p g).global = s.global := rfl
@[simp] theorem State.modPTime_counters (s : State) (p : PortIx) (g : PortTime → PortTime) : (s.modPTime p g).counters = s.counters := rfl
@[simp] theorem State.modPTime_fab (s : State) (p : PortIx) (g : PortTime → PortTime) : (s.modPTime p g).fab = s.fab := rfl
@[simp] theorem State.modPTime_watch (s : State) (p : PortIx) (g : PortTime → PortTime) : (s.modPTime p g).watch = s.watch := rfl
@[simp] theorem State.modPTime_front (s : State) (p : PortIx) (g : PortTime → PortTime) : (s.modPTime p g).front = s.front := rfl
@[simp] theorem State.modPTime_xfer (s : State) (p : PortIx) (g : PortTime → PortTime) : (s.modPTime p g).xfer = s.xfer := rfl
@[simp] theorem State.modPTime_gather (s : State) (p : PortIx) (g : PortTime → PortTime) : (s.modPTime p g).gather = s.gather := rfl
@[simp] theorem State.modPTime_time (s : State) (p : PortIx) (g : PortTime → PortTime) : (s.modPTime p g).time = s.time := rfl
@[simp] theorem State.modPTime_topo (s : State) (p : PortIx) (g : PortTime → PortTime) : (s.modPTime p g).topo = s.topo := rfl
@[simp] theorem State.modPTime_gate (s : State) (p : PortIx) (g : PortTime → PortTime) : (s.modPTime p g).gate = s.gate := rfl
@[simp] theorem State.modPTime_ident (s : State) (p : PortIx) (g : PortTime → PortTime) : (s.modPTime p g).ident = s.ident := rfl
@[simp] theorem State.modPTime_power (s : State) (p : PortIx) (g : PortTime → PortTime) : (s.modPTime p g).power = s.power := rfl
@[simp] theorem State.modPTime_flt (s : State) (p : PortIx) (g : PortTime → PortTime) : (s.modPTime p g).flt = s.flt := rfl
@[simp] theorem State.modPTime_lodge (s : State) (p : PortIx) (g : PortTime → PortTime) : (s.modPTime p g).lodge = s.lodge := rfl
@[simp] theorem State.modPTime_belv (s : State) (p : PortIx) (g : PortTime → PortTime) : (s.modPTime p g).belv = s.belv := rfl
@[simp] theorem State.modPTime_resetRun (s : State) (p : PortIx) (g : PortTime → PortTime) : (s.modPTime p g).resetRun = s.resetRun := rfl
@[simp] theorem State.modPTime_retained (s : State) (p : PortIx) (g : PortTime → PortTime) : (s.modPTime p g).retained = s.retained := rfl
@[simp] theorem State.modPTime_freeCount (s : State) (p : PortIx) (g : PortTime → PortTime) : (s.modPTime p g).freeCount = s.freeCount := rfl

/-! ### modTrain -/

@[simp] theorem State.modTrain_pending (s : State) (p : PortIx) (g : Train → Train) : (s.modTrain p g).pending = s.pending := rfl
@[simp] theorem State.modTrain_pins (s : State) (p : PortIx) (g : Train → Train) : (s.modTrain p g).pins = s.pins := rfl
@[simp] theorem State.modTrain_global (s : State) (p : PortIx) (g : Train → Train) : (s.modTrain p g).global = s.global := rfl
@[simp] theorem State.modTrain_counters (s : State) (p : PortIx) (g : Train → Train) : (s.modTrain p g).counters = s.counters := rfl
@[simp] theorem State.modTrain_fab (s : State) (p : PortIx) (g : Train → Train) : (s.modTrain p g).fab = s.fab := rfl
@[simp] theorem State.modTrain_watch (s : State) (p : PortIx) (g : Train → Train) : (s.modTrain p g).watch = s.watch := rfl
@[simp] theorem State.modTrain_front (s : State) (p : PortIx) (g : Train → Train) : (s.modTrain p g).front = s.front := rfl
@[simp] theorem State.modTrain_xfer (s : State) (p : PortIx) (g : Train → Train) : (s.modTrain p g).xfer = s.xfer := rfl
@[simp] theorem State.modTrain_gather (s : State) (p : PortIx) (g : Train → Train) : (s.modTrain p g).gather = s.gather := rfl
@[simp] theorem State.modTrain_time (s : State) (p : PortIx) (g : Train → Train) : (s.modTrain p g).time = s.time := rfl
@[simp] theorem State.modTrain_topo (s : State) (p : PortIx) (g : Train → Train) : (s.modTrain p g).topo = s.topo := rfl
@[simp] theorem State.modTrain_gate (s : State) (p : PortIx) (g : Train → Train) : (s.modTrain p g).gate = s.gate := rfl
@[simp] theorem State.modTrain_ident (s : State) (p : PortIx) (g : Train → Train) : (s.modTrain p g).ident = s.ident := rfl
@[simp] theorem State.modTrain_power (s : State) (p : PortIx) (g : Train → Train) : (s.modTrain p g).power = s.power := rfl
@[simp] theorem State.modTrain_flt (s : State) (p : PortIx) (g : Train → Train) : (s.modTrain p g).flt = s.flt := rfl
@[simp] theorem State.modTrain_lodge (s : State) (p : PortIx) (g : Train → Train) : (s.modTrain p g).lodge = s.lodge := rfl
@[simp] theorem State.modTrain_belv (s : State) (p : PortIx) (g : Train → Train) : (s.modTrain p g).belv = s.belv := rfl
@[simp] theorem State.modTrain_resetRun (s : State) (p : PortIx) (g : Train → Train) : (s.modTrain p g).resetRun = s.resetRun := rfl
@[simp] theorem State.modTrain_retained (s : State) (p : PortIx) (g : Train → Train) : (s.modTrain p g).retained = s.retained := rfl
@[simp] theorem State.modTrain_freeCount (s : State) (p : PortIx) (g : Train → Train) : (s.modTrain p g).freeCount = s.freeCount := rfl

/-! ### drawn -/

@[simp] theorem State.drawn_pending (s : State) : s.drawn.pending = s.pending := rfl
@[simp] theorem State.drawn_pins (s : State) : s.drawn.pins = s.pins := rfl
@[simp] theorem State.drawn_global (s : State) : s.drawn.global = s.global := rfl
@[simp] theorem State.drawn_counters (s : State) : s.drawn.counters = s.counters := rfl
@[simp] theorem State.drawn_fab (s : State) : s.drawn.fab = s.fab := rfl
@[simp] theorem State.drawn_watch (s : State) : s.drawn.watch = s.watch := rfl
@[simp] theorem State.drawn_front (s : State) : s.drawn.front = s.front := rfl
@[simp] theorem State.drawn_xfer (s : State) : s.drawn.xfer = s.xfer := rfl
@[simp] theorem State.drawn_gather (s : State) : s.drawn.gather = s.gather := rfl
@[simp] theorem State.drawn_time (s : State) : s.drawn.time = s.time := rfl
@[simp] theorem State.drawn_ports (s : State) : s.drawn.ports = s.ports := rfl
@[simp] theorem State.drawn_topo (s : State) : s.drawn.topo = s.topo := rfl
@[simp] theorem State.drawn_gate (s : State) : s.drawn.gate = s.gate := rfl
@[simp] theorem State.drawn_ident (s : State) : s.drawn.ident = s.ident := rfl
@[simp] theorem State.drawn_power (s : State) : s.drawn.power = s.power := rfl
@[simp] theorem State.drawn_flt (s : State) : s.drawn.flt = s.flt := rfl
@[simp] theorem State.drawn_lodge (s : State) : s.drawn.lodge = s.lodge := rfl
@[simp] theorem State.drawn_belv (s : State) : s.drawn.belv = s.belv := rfl
@[simp] theorem State.drawn_resetRun (s : State) : s.drawn.resetRun = s.resetRun := rfl
@[simp] theorem State.drawn_retained (s : State) : s.drawn.retained = s.retained := rfl
@[simp] theorem State.drawn_freeCount (s : State) : s.drawn.freeCount = s.freeCount + 1 := rfl

/-! ### Ports read back -/

@[simp] theorem State.setPort_port_same (s : State) (p : PortIx) (v : Port) : (s.setPort p v).port p = v := by
  simp [State.port, State.setPort]

theorem State.setPort_port_other (s : State) (p q : PortIx) (v : Port) (h : q ≠ p) : (s.setPort p v).port q = s.port q := by
  have h' : p.val ≠ q.val := fun e => h (Fin.ext e.symm)
  simp [State.port, State.setPort, Vector.getElem_set, h']

theorem State.setPort_port (s : State) (p q : PortIx) (v : Port) : (s.setPort p v).port q = if q = p then v else s.port q := by
  by_cases h : q = p
  · subst h; simp
  · simp [h, State.setPort_port_other s p q v h]

@[simp] theorem State.modPort_port_same (s : State) (p : PortIx) (g : Port → Port) : (s.modPort p g).port p = g (s.port p) := by
  simp [State.modPort]

theorem State.modPort_port_other (s : State) (p q : PortIx) (g : Port → Port) (h : q ≠ p) : (s.modPort p g).port q = s.port q := by
  simp [State.modPort, State.setPort_port_other s p q _ h]

@[simp] theorem State.modPane_port_same (s : State) (p : PortIx) (g : Pane → Pane) :
    (s.modPane p g).port p = { s.port p with pane := g (s.port p).pane } := by
  simp [State.modPane]

theorem State.modPane_port_other (s : State) (p q : PortIx) (g : Pane → Pane) (h : q ≠ p) : (s.modPane p g).port q = s.port q := by
  simp [State.modPane, State.modPort_port_other s p q _ h]

@[simp] theorem State.modLane_port_same (s : State) (p : PortIx) (g : LaneUnit → LaneUnit) :
    (s.modLane p g).port p = { s.port p with lane := g (s.port p).lane } := by
  simp [State.modLane]

theorem State.modLane_port_other (s : State) (p q : PortIx) (g : LaneUnit → LaneUnit) (h : q ≠ p) : (s.modLane p g).port q = s.port q := by
  simp [State.modLane, State.modPort_port_other s p q _ h]

@[simp] theorem State.modKeys_port_same (s : State) (p : PortIx) (g : PortKeys → PortKeys) :
    (s.modKeys p g).port p = { s.port p with keys := g (s.port p).keys } := by
  simp [State.modKeys]

theorem State.modKeys_port_other (s : State) (p q : PortIx) (g : PortKeys → PortKeys) (h : q ≠ p) : (s.modKeys p g).port q = s.port q := by
  simp [State.modKeys, State.modPort_port_other s p q _ h]

@[simp] theorem State.modPTime_port_same (s : State) (p : PortIx) (g : PortTime → PortTime) :
    (s.modPTime p g).port p = { s.port p with time := g (s.port p).time } := by
  simp [State.modPTime]

theorem State.modPTime_port_other (s : State) (p q : PortIx) (g : PortTime → PortTime) (h : q ≠ p) : (s.modPTime p g).port q = s.port q := by
  simp [State.modPTime, State.modPort_port_other s p q _ h]

theorem State.modTrain_port_other (s : State) (p q : PortIx) (g : Train → Train) (h : q ≠ p) : (s.modTrain p g).port q = s.port q := by
  simp [State.modTrain, State.modLane_port_other s p q _ h]

@[simp] theorem State.keep_port (s t : State) (p : PortIx) : (s.keep t).port p = t.port p := rfl

end Sys2Proof.Machine
end

