-- ==== Sys2Proof/Laws/Ops.lean ====
section
/-!
SUPPORT. What each shared operation leaves alone, and what the outcome of a command is.
-/
namespace Sys2Proof.Machine

/-! ### Outcomes -/

/-- A command that is due answers its effect, the protected part kept. -/
@[simp] theorem act_due (s t : State) : act true s t = .next (s.keep t) := rfl

/-- A command that is not due changes nothing. -/
@[simp] theorem act_idle (s t : State) : act false s t = .next s := rfl

@[simp] theorem actAll_due (s t : State) : actAll true s t = .next t := rfl

@[simp] theorem actAll_idle (s t : State) : actAll false s t = .next s := rfl

/-- Everything an ordinary command can do: nothing, or its effect with the protected part kept. -/
theorem act_cases {d : Bool} {s t u : State} (h : act d s t = .next u) : (d = true ∧ u = s.keep t) ∨ (d = false ∧ u = s) := by
  cases d with
  | true => exact .inl ⟨rfl, by cases h; rfl⟩
  | false => exact .inr ⟨rfl, by cases h; rfl⟩

/-- An ordinary command keeps the queue, GLOBAL, the identity, the block reset in progress and the retained state. -/
theorem act_kept {d : Bool} {s t u : State} (h : act d s t = .next u) :
    u.pending = s.pending ∧ u.global = s.global ∧ u.ident = s.ident ∧ u.resetRun = s.resetRun ∧ u.retained = s.retained := by
  obtain ⟨-, rfl⟩ | ⟨-, rfl⟩ := act_cases h
  · exact ⟨rfl, rfl, rfl, rfl, rfl⟩
  · exact ⟨rfl, rfl, rfl, rfl, rfl⟩


/-! ### bumpRaw -/

@[simp] theorem State.bumpRaw_pending (s : State) (off : Nat) : (s.bumpRaw off).pending = s.pending := rfl
@[simp] theorem State.bumpRaw_pins (s : State) (off : Nat) : (s.bumpRaw off).pins = s.pins := rfl
@[simp] theorem State.bumpRaw_global (s : State) (off : Nat) : (s.bumpRaw off).global = s.global := rfl
@[simp] theorem State.bumpRaw_fab (s : State) (off : Nat) : (s.bumpRaw off).fab = s.fab := rfl
@[simp] theorem State.bumpRaw_watch (s : State) (off : Nat) : (s.bumpRaw off).watch = s.watch := rfl
@[simp] theorem State.bumpRaw_front (s : State) (off : Nat) : (s.bumpRaw off).front = s.front := rfl
@[simp] theorem State.bumpRaw_xfer (s : State) (off : Nat) : (s.bumpRaw off).xfer = s.xfer := rfl
@[simp] theorem State.bumpRaw_gather (s : State) (off : Nat) : (s.bumpRaw off).gather = s.gather := rfl
@[simp] theorem State.bumpRaw_time (s : State) (off : Nat) : (s.bumpRaw off).time = s.time := rfl
@[simp] theorem State.bumpRaw_ports (s : State) (off : Nat) : (s.bumpRaw off).ports = s.ports := rfl
@[simp] theorem State.bumpRaw_topo (s : State) (off : Nat) : (s.bumpRaw off).topo = s.topo := rfl
@[simp] theorem State.bumpRaw_gate (s : State) (off : Nat) : (s.bumpRaw off).gate = s.gate := rfl
@[simp] theorem State.bumpRaw_ident (s : State) (off : Nat) : (s.bumpRaw off).ident = s.ident := rfl
@[simp] theorem State.bumpRaw_power (s : State) (off : Nat) : (s.bumpRaw off).power = s.power := rfl
@[simp] theorem State.bumpRaw_flt (s : State) (off : Nat) : (s.bumpRaw off).flt = s.flt := rfl
@[simp] theorem State.bumpRaw_lodge (s : State) (off : Nat) : (s.bumpRaw off).lodge = s.lodge := rfl
@[simp] theorem State.bumpRaw_belv (s : State) (off : Nat) : (s.bumpRaw off).belv = s.belv := rfl
@[simp] theorem State.bumpRaw_resetRun (s : State) (off : Nat) : (s.bumpRaw off).resetRun = s.resetRun := rfl
@[simp] theorem State.bumpRaw_retained (s : State) (off : Nat) : (s.bumpRaw off).retained = s.retained := rfl
@[simp] theorem State.bumpRaw_freeCount (s : State) (off : Nat) : (s.bumpRaw off).freeCount = s.freeCount := rfl
@[simp] theorem State.bumpRaw_port (s : State) (off : Nat) (p : PortIx) : (s.bumpRaw off).port p = s.port p := by simp [State.port]

/-! ### msi -/

@[simp] theorem State.msi_pending (s : State) (v : Nat) : (s.msi v).pending = s.pending := by unfold State.msi; split <;> rfl
@[simp] theorem State.msi_global (s : State) (v : Nat) : (s.msi v).global = s.global := by unfold State.msi; split <;> rfl
@[simp] theorem State.msi_counters (s : State) (v : Nat) : (s.msi v).counters = s.counters := by unfold State.msi; split <;> rfl
@[simp] theorem State.msi_fab (s : State) (v : Nat) : (s.msi v).fab = s.fab := by unfold State.msi; split <;> rfl
@[simp] theorem State.msi_watch (s : State) (v : Nat) : (s.msi v).watch = s.watch := by unfold State.msi; split <;> rfl
@[simp] theorem State.msi_front (s : State) (v : Nat) : (s.msi v).front = s.front := by unfold State.msi; split <;> rfl
@[simp] theorem State.msi_xfer (s : State) (v : Nat) : (s.msi v).xfer = s.xfer := by unfold State.msi; split <;> rfl
@[simp] theorem State.msi_gather (s : State) (v : Nat) : (s.msi v).gather = s.gather := by unfold State.msi; split <;> rfl
@[simp] theorem State.msi_time (s : State) (v : Nat) : (s.msi v).time = s.time := by unfold State.msi; split <;> rfl
@[simp] theorem State.msi_ports (s : State) (v : Nat) : (s.msi v).ports = s.ports := by unfold State.msi; split <;> rfl
@[simp] theorem State.msi_topo (s : State) (v : Nat) : (s.msi v).topo = s.topo := by unfold State.msi; split <;> rfl
@[simp] theorem State.msi_gate (s : State) (v : Nat) : (s.msi v).gate = s.gate := by unfold State.msi; split <;> rfl
@[simp] theorem State.msi_ident (s : State) (v : Nat) : (s.msi v).ident = s.ident := by unfold State.msi; split <;> rfl
@[simp] theorem State.msi_power (s : State) (v : Nat) : (s.msi v).power = s.power := by unfold State.msi; split <;> rfl
@[simp] theorem State.msi_flt (s : State) (v : Nat) : (s.msi v).flt = s.flt := by unfold State.msi; split <;> rfl
@[simp] theorem State.msi_lodge (s : State) (v : Nat) : (s.msi v).lodge = s.lodge := by unfold State.msi; split <;> rfl
@[simp] theorem State.msi_belv (s : State) (v : Nat) : (s.msi v).belv = s.belv := by unfold State.msi; split <;> rfl
@[simp] theorem State.msi_resetRun (s : State) (v : Nat) : (s.msi v).resetRun = s.resetRun := by unfold State.msi; split <;> rfl
@[simp] theorem State.msi_retained (s : State) (v : Nat) : (s.msi v).retained = s.retained := by unfold State.msi; split <;> rfl
@[simp] theorem State.msi_freeCount (s : State) (v : Nat) : (s.msi v).freeCount = s.freeCount := by unfold State.msi; split <;> rfl
@[simp] theorem State.msi_port (s : State) (v : Nat) (p : PortIx) : (s.msi v).port p = s.port p := by simp [State.port]

/-! ### driveFaultOut -/

@[simp] theorem State.driveFaultOut_pending (s : State) : (s.driveFaultOut).pending = s.pending := by
  unfold State.driveFaultOut; dsimp only; repeat' split
  all_goals rfl
@[simp] theorem State.driveFaultOut_global (s : State) : (s.driveFaultOut).global = s.global := by
  unfold State.driveFaultOut; dsimp only; repeat' split
  all_goals rfl
@[simp] theorem State.driveFaultOut_counters (s : State) : (s.driveFaultOut).counters = s.counters := by
  unfold State.driveFaultOut; dsimp only; repeat' split
  all_goals rfl
@[simp] theorem State.driveFaultOut_fab (s : State) : (s.driveFaultOut).fab = s.fab := by
  unfold State.driveFaultOut; dsimp only; repeat' split
  all_goals rfl
@[simp] theorem State.driveFaultOut_watch (s : State) : (s.driveFaultOut).watch = s.watch := by
  unfold State.driveFaultOut; dsimp only; repeat' split
  all_goals rfl
@[simp] theorem State.driveFaultOut_front (s : State) : (s.driveFaultOut).front = s.front := by
  unfold State.driveFaultOut; dsimp only; repeat' split
  all_goals rfl
@[simp] theorem State.driveFaultOut_xfer (s : State) : (s.driveFaultOut).xfer = s.xfer := by
  unfold State.driveFaultOut; dsimp only; repeat' split
  all_goals rfl
@[simp] theorem State.driveFaultOut_gather (s : State) : (s.driveFaultOut).gather = s.gather := by
  unfold State.driveFaultOut; dsimp only; repeat' split
  all_goals rfl
@[simp] theorem State.driveFaultOut_time (s : State) : (s.driveFaultOut).time = s.time := by
  unfold State.driveFaultOut; dsimp only; repeat' split
  all_goals rfl
@[simp] theorem State.driveFaultOut_ports (s : State) : (s.driveFaultOut).ports = s.ports := by
  unfold State.driveFaultOut; dsimp only; repeat' split
  all_goals rfl
@[simp] theorem State.driveFaultOut_topo (s : State) : (s.driveFaultOut).topo = s.topo := by
  unfold State.driveFaultOut; dsimp only; repeat' split
  all_goals rfl
@[simp] theorem State.driveFaultOut_gate (s : State) : (s.driveFaultOut).gate = s.gate := by
  unfold State.driveFaultOut; dsimp only; repeat' split
  all_goals rfl
@[simp] theorem State.driveFaultOut_ident (s : State) : (s.driveFaultOut).ident = s.ident := by
  unfold State.driveFaultOut; dsimp only; repeat' split
  all_goals rfl
@[simp] theorem State.driveFaultOut_power (s : State) : (s.driveFaultOut).power = s.power := by
  unfold State.driveFaultOut; dsimp only; repeat' split
  all_goals rfl
@[simp] theorem State.driveFaultOut_lodge (s : State) : (s.driveFaultOut).lodge = s.lodge := by
  unfold State.driveFaultOut; dsimp only; repeat' split
  all_goals rfl
@[simp] theorem State.driveFaultOut_belv (s : State) : (s.driveFaultOut).belv = s.belv := by
  unfold State.driveFaultOut; dsimp only; repeat' split
  all_goals rfl
@[simp] theorem State.driveFaultOut_resetRun (s : State) : (s.driveFaultOut).resetRun = s.resetRun := by
  unfold State.driveFaultOut; dsimp only; repeat' split
  all_goals rfl
@[simp] theorem State.driveFaultOut_retained (s : State) : (s.driveFaultOut).retained = s.retained := by
  unfold State.driveFaultOut; dsimp only; repeat' split
  all_goals rfl
@[simp] theorem State.driveFaultOut_freeCount (s : State) : (s.driveFaultOut).freeCount = s.freeCount := by
  unfold State.driveFaultOut; dsimp only; repeat' split
  all_goals rfl
@[simp] theorem State.driveFaultOut_port (s : State) (p : PortIx) : (s.driveFaultOut).port p = s.port p := by simp [State.port]

/-! ### raiseContained -/

@[simp] theorem State.raiseContained_pending (s : State) (e : ErrorReport) : (s.raiseContained e).pending = s.pending := by unfold State.raiseContained; dsimp only; split <;> simp
@[simp] theorem State.raiseContained_global (s : State) (e : ErrorReport) : (s.raiseContained e).global = s.global := by unfold State.raiseContained; dsimp only; split <;> simp
@[simp] theorem State.raiseContained_fab (s : State) (e : ErrorReport) : (s.raiseContained e).fab = s.fab := by unfold State.raiseContained; dsimp only; split <;> simp
@[simp] theorem State.raiseContained_watch (s : State) (e : ErrorReport) : (s.raiseContained e).watch = s.watch := by unfold State.raiseContained; dsimp only; split <;> simp
@[simp] theorem State.raiseContained_front (s : State) (e : ErrorReport) : (s.raiseContained e).front = s.front := by unfold State.raiseContained; dsimp only; split <;> simp
@[simp] theorem State.raiseContained_xfer (s : State) (e : ErrorReport) : (s.raiseContained e).xfer = s.xfer := by unfold State.raiseContained; dsimp only; split <;> simp
@[simp] theorem State.raiseContained_gather (s : State) (e : ErrorReport) : (s.raiseContained e).gather = s.gather := by unfold State.raiseContained; dsimp only; split <;> simp
@[simp] theorem State.raiseContained_time (s : State) (e : ErrorReport) : (s.raiseContained e).time = s.time := by unfold State.raiseContained; dsimp only; split <;> simp
@[simp] theorem State.raiseContained_ports (s : State) (e : ErrorReport) : (s.raiseContained e).ports = s.ports := by unfold State.raiseContained; dsimp only; split <;> simp
@[simp] theorem State.raiseContained_topo (s : State) (e : ErrorReport) : (s.raiseContained e).topo = s.topo := by unfold State.raiseContained; dsimp only; split <;> simp
@[simp] theorem State.raiseContained_gate (s : State) (e : ErrorReport) : (s.raiseContained e).gate = s.gate := by unfold State.raiseContained; dsimp only; split <;> simp
@[simp] theorem State.raiseContained_ident (s : State) (e : ErrorReport) : (s.raiseContained e).ident = s.ident := by unfold State.raiseContained; dsimp only; split <;> simp
@[simp] theorem State.raiseContained_power (s : State) (e : ErrorReport) : (s.raiseContained e).power = s.power := by unfold State.raiseContained; dsimp only; split <;> simp
@[simp] theorem State.raiseContained_lodge (s : State) (e : ErrorReport) : (s.raiseContained e).lodge = s.lodge := by unfold State.raiseContained; dsimp only; split <;> simp
@[simp] theorem State.raiseContained_belv (s : State) (e : ErrorReport) : (s.raiseContained e).belv = s.belv := by unfold State.raiseContained; dsimp only; split <;> simp
@[simp] theorem State.raiseContained_resetRun (s : State) (e : ErrorReport) : (s.raiseContained e).resetRun = s.resetRun := by unfold State.raiseContained; dsimp only; split <;> simp
@[simp] theorem State.raiseContained_retained (s : State) (e : ErrorReport) : (s.raiseContained e).retained = s.retained := by unfold State.raiseContained; dsimp only; split <;> simp
@[simp] theorem State.raiseContained_freeCount (s : State) (e : ErrorReport) : (s.raiseContained e).freeCount = s.freeCount := by unfold State.raiseContained; dsimp only; split <;> simp
@[simp] theorem State.raiseContained_port (s : State) (e : ErrorReport) (p : PortIx) : (s.raiseContained e).port p = s.port p := by simp [State.port]

/-! ### notice -/

@[simp] theorem State.notice_pending (s : State) (c : Nat) (d : List Byte) : (s.notice c d).pending = s.pending := by unfold State.notice; split <;> first | rfl | (dsimp only; split <;> simp)
@[simp] theorem State.notice_global (s : State) (c : Nat) (d : List Byte) : (s.notice c d).global = s.global := by unfold State.notice; split <;> first | rfl | (dsimp only; split <;> simp)
@[simp] theorem State.notice_fab (s : State) (c : Nat) (d : List Byte) : (s.notice c d).fab = s.fab := by unfold State.notice; split <;> first | rfl | (dsimp only; split <;> simp)
@[simp] theorem State.notice_watch (s : State) (c : Nat) (d : List Byte) : (s.notice c d).watch = s.watch := by unfold State.notice; split <;> first | rfl | (dsimp only; split <;> simp)
@[simp] theorem State.notice_front (s : State) (c : Nat) (d : List Byte) : (s.notice c d).front = s.front := by unfold State.notice; split <;> first | rfl | (dsimp only; split <;> simp)
@[simp] theorem State.notice_xfer (s : State) (c : Nat) (d : List Byte) : (s.notice c d).xfer = s.xfer := by unfold State.notice; split <;> first | rfl | (dsimp only; split <;> simp)
@[simp] theorem State.notice_gather (s : State) (c : Nat) (d : List Byte) : (s.notice c d).gather = s.gather := by unfold State.notice; split <;> first | rfl | (dsimp only; split <;> simp)
@[simp] theorem State.notice_time (s : State) (c : Nat) (d : List Byte) : (s.notice c d).time = s.time := by unfold State.notice; split <;> first | rfl | (dsimp only; split <;> simp)
@[simp] theorem State.notice_ports (s : State) (c : Nat) (d : List Byte) : (s.notice c d).ports = s.ports := by unfold State.notice; split <;> first | rfl | (dsimp only; split <;> simp)
@[simp] theorem State.notice_topo (s : State) (c : Nat) (d : List Byte) : (s.notice c d).topo = s.topo := by unfold State.notice; split <;> first | rfl | (dsimp only; split <;> simp)
@[simp] theorem State.notice_gate (s : State) (c : Nat) (d : List Byte) : (s.notice c d).gate = s.gate := by unfold State.notice; split <;> first | rfl | (dsimp only; split <;> simp)
@[simp] theorem State.notice_ident (s : State) (c : Nat) (d : List Byte) : (s.notice c d).ident = s.ident := by unfold State.notice; split <;> first | rfl | (dsimp only; split <;> simp)
@[simp] theorem State.notice_power (s : State) (c : Nat) (d : List Byte) : (s.notice c d).power = s.power := by unfold State.notice; split <;> first | rfl | (dsimp only; split <;> simp)
@[simp] theorem State.notice_belv (s : State) (c : Nat) (d : List Byte) : (s.notice c d).belv = s.belv := by unfold State.notice; split <;> first | rfl | (dsimp only; split <;> simp)
@[simp] theorem State.notice_resetRun (s : State) (c : Nat) (d : List Byte) : (s.notice c d).resetRun = s.resetRun := by unfold State.notice; split <;> first | rfl | (dsimp only; split <;> simp)
@[simp] theorem State.notice_retained (s : State) (c : Nat) (d : List Byte) : (s.notice c d).retained = s.retained := by unfold State.notice; split <;> first | rfl | (dsimp only; split <;> simp)
@[simp] theorem State.notice_freeCount (s : State) (c : Nat) (d : List Byte) : (s.notice c d).freeCount = s.freeCount := by unfold State.notice; split <;> first | rfl | (dsimp only; split <;> simp)
@[simp] theorem State.notice_port (s : State) (c : Nat) (d : List Byte) (p : PortIx) : (s.notice c d).port p = s.port p := by simp [State.port]

/-! ### raiseCorrected -/

@[simp] theorem State.raiseCorrected_pending (s : State) (e : ErrorReport) : (s.raiseCorrected e).pending = s.pending := by
  unfold State.raiseCorrected; dsimp only; repeat' split
  all_goals simp
@[simp] theorem State.raiseCorrected_global (s : State) (e : ErrorReport) : (s.raiseCorrected e).global = s.global := by
  unfold State.raiseCorrected; dsimp only; repeat' split
  all_goals simp
@[simp] theorem State.raiseCorrected_fab (s : State) (e : ErrorReport) : (s.raiseCorrected e).fab = s.fab := by
  unfold State.raiseCorrected; dsimp only; repeat' split
  all_goals simp
@[simp] theorem State.raiseCorrected_watch (s : State) (e : ErrorReport) : (s.raiseCorrected e).watch = s.watch := by
  unfold State.raiseCorrected; dsimp only; repeat' split
  all_goals simp
@[simp] theorem State.raiseCorrected_front (s : State) (e : ErrorReport) : (s.raiseCorrected e).front = s.front := by
  unfold State.raiseCorrected; dsimp only; repeat' split
  all_goals simp
@[simp] theorem State.raiseCorrected_xfer (s : State) (e : ErrorReport) : (s.raiseCorrected e).xfer = s.xfer := by
  unfold State.raiseCorrected; dsimp only; repeat' split
  all_goals simp
@[simp] theorem State.raiseCorrected_gather (s : State) (e : ErrorReport) : (s.raiseCorrected e).gather = s.gather := by
  unfold State.raiseCorrected; dsimp only; repeat' split
  all_goals simp
@[simp] theorem State.raiseCorrected_time (s : State) (e : ErrorReport) : (s.raiseCorrected e).time = s.time := by
  unfold State.raiseCorrected; dsimp only; repeat' split
  all_goals simp
@[simp] theorem State.raiseCorrected_ports (s : State) (e : ErrorReport) : (s.raiseCorrected e).ports = s.ports := by
  unfold State.raiseCorrected; dsimp only; repeat' split
  all_goals simp
@[simp] theorem State.raiseCorrected_topo (s : State) (e : ErrorReport) : (s.raiseCorrected e).topo = s.topo := by
  unfold State.raiseCorrected; dsimp only; repeat' split
  all_goals simp
@[simp] theorem State.raiseCorrected_gate (s : State) (e : ErrorReport) : (s.raiseCorrected e).gate = s.gate := by
  unfold State.raiseCorrected; dsimp only; repeat' split
  all_goals simp
@[simp] theorem State.raiseCorrected_ident (s : State) (e : ErrorReport) : (s.raiseCorrected e).ident = s.ident := by
  unfold State.raiseCorrected; dsimp only; repeat' split
  all_goals simp
@[simp] theorem State.raiseCorrected_power (s : State) (e : ErrorReport) : (s.raiseCorrected e).power = s.power := by
  unfold State.raiseCorrected; dsimp only; repeat' split
  all_goals simp
@[simp] theorem State.raiseCorrected_belv (s : State) (e : ErrorReport) : (s.raiseCorrected e).belv = s.belv := by
  unfold State.raiseCorrected; dsimp only; repeat' split
  all_goals simp
@[simp] theorem State.raiseCorrected_resetRun (s : State) (e : ErrorReport) : (s.raiseCorrected e).resetRun = s.resetRun := by
  unfold State.raiseCorrected; dsimp only; repeat' split
  all_goals simp
@[simp] theorem State.raiseCorrected_retained (s : State) (e : ErrorReport) : (s.raiseCorrected e).retained = s.retained := by
  unfold State.raiseCorrected; dsimp only; repeat' split
  all_goals simp
@[simp] theorem State.raiseCorrected_freeCount (s : State) (e : ErrorReport) : (s.raiseCorrected e).freeCount = s.freeCount := by
  unfold State.raiseCorrected; dsimp only; repeat' split
  all_goals simp
@[simp] theorem State.raiseCorrected_port (s : State) (e : ErrorReport) (p : PortIx) : (s.raiseCorrected e).port p = s.port p := by simp [State.port]

/-! ### bump -/

@[simp] theorem State.bump_pending (s : State) (off : Nat) : (s.bump off).pending = s.pending := by unfold State.bump; split <;> simp
@[simp] theorem State.bump_global (s : State) (off : Nat) : (s.bump off).global = s.global := by unfold State.bump; split <;> simp
@[simp] theorem State.bump_fab (s : State) (off : Nat) : (s.bump off).fab = s.fab := by unfold State.bump; split <;> simp
@[simp] theorem State.bump_watch (s : State) (off : Nat) : (s.bump off).watch = s.watch := by unfold State.bump; split <;> simp
@[simp] theorem State.bump_front (s : State) (off : Nat) : (s.bump off).front = s.front := by unfold State.bump; split <;> simp
@[simp] theorem State.bump_xfer (s : State) (off : Nat) : (s.bump off).xfer = s.xfer := by unfold State.bump; split <;> simp
@[simp] theorem State.bump_gather (s : State) (off : Nat) : (s.bump off).gather = s.gather := by unfold State.bump; split <;> simp
@[simp] theorem State.bump_time (s : State) (off : Nat) : (s.bump off).time = s.time := by unfold State.bump; split <;> simp
@[simp] theorem State.bump_ports (s : State) (off : Nat) : (s.bump off).ports = s.ports := by unfold State.bump; split <;> simp
@[simp] theorem State.bump_topo (s : State) (off : Nat) : (s.bump off).topo = s.topo := by unfold State.bump; split <;> simp
@[simp] theorem State.bump_gate (s : State) (off : Nat) : (s.bump off).gate = s.gate := by unfold State.bump; split <;> simp
@[simp] theorem State.bump_ident (s : State) (off : Nat) : (s.bump off).ident = s.ident := by unfold State.bump; split <;> simp
@[simp] theorem State.bump_power (s : State) (off : Nat) : (s.bump off).power = s.power := by unfold State.bump; split <;> simp
@[simp] theorem State.bump_belv (s : State) (off : Nat) : (s.bump off).belv = s.belv := by unfold State.bump; split <;> simp
@[simp] theorem State.bump_resetRun (s : State) (off : Nat) : (s.bump off).resetRun = s.resetRun := by unfold State.bump; split <;> simp
@[simp] theorem State.bump_retained (s : State) (off : Nat) : (s.bump off).retained = s.retained := by unfold State.bump; split <;> simp
@[simp] theorem State.bump_freeCount (s : State) (off : Nat) : (s.bump off).freeCount = s.freeCount := by unfold State.bump; split <;> simp
@[simp] theorem State.bump_port (s : State) (off : Nat) (p : PortIx) : (s.bump off).port p = s.port p := by simp [State.port]

/-! ### raiseFatal -/

@[simp] theorem State.raiseFatal_pending (s : State) (c : Bool) (e : ErrorReport) : (s.raiseFatal c e).pending = s.pending := by
  unfold State.raiseFatal; dsimp only; repeat' split
  all_goals simp
@[simp] theorem State.raiseFatal_global (s : State) (c : Bool) (e : ErrorReport) : (s.raiseFatal c e).global = s.global := by
  unfold State.raiseFatal; dsimp only; repeat' split
  all_goals simp
@[simp] theorem State.raiseFatal_fab (s : State) (c : Bool) (e : ErrorReport) : (s.raiseFatal c e).fab = s.fab := by
  unfold State.raiseFatal; dsimp only; repeat' split
  all_goals simp
@[simp] theorem State.raiseFatal_watch (s : State) (c : Bool) (e : ErrorReport) : (s.raiseFatal c e).watch = s.watch := by
  unfold State.raiseFatal; dsimp only; repeat' split
  all_goals simp
@[simp] theorem State.raiseFatal_front (s : State) (c : Bool) (e : ErrorReport) : (s.raiseFatal c e).front = s.front := by
  unfold State.raiseFatal; dsimp only; repeat' split
  all_goals simp
@[simp] theorem State.raiseFatal_xfer (s : State) (c : Bool) (e : ErrorReport) : (s.raiseFatal c e).xfer = s.xfer := by
  unfold State.raiseFatal; dsimp only; repeat' split
  all_goals simp
@[simp] theorem State.raiseFatal_gather (s : State) (c : Bool) (e : ErrorReport) : (s.raiseFatal c e).gather = s.gather := by
  unfold State.raiseFatal; dsimp only; repeat' split
  all_goals simp
@[simp] theorem State.raiseFatal_time (s : State) (c : Bool) (e : ErrorReport) : (s.raiseFatal c e).time = s.time := by
  unfold State.raiseFatal; dsimp only; repeat' split
  all_goals simp
@[simp] theorem State.raiseFatal_ports (s : State) (c : Bool) (e : ErrorReport) : (s.raiseFatal c e).ports = s.ports := by
  unfold State.raiseFatal; dsimp only; repeat' split
  all_goals simp
@[simp] theorem State.raiseFatal_topo (s : State) (c : Bool) (e : ErrorReport) : (s.raiseFatal c e).topo = s.topo := by
  unfold State.raiseFatal; dsimp only; repeat' split
  all_goals simp
@[simp] theorem State.raiseFatal_gate (s : State) (c : Bool) (e : ErrorReport) : (s.raiseFatal c e).gate = s.gate := by
  unfold State.raiseFatal; dsimp only; repeat' split
  all_goals simp
@[simp] theorem State.raiseFatal_ident (s : State) (c : Bool) (e : ErrorReport) : (s.raiseFatal c e).ident = s.ident := by
  unfold State.raiseFatal; dsimp only; repeat' split
  all_goals simp
@[simp] theorem State.raiseFatal_power (s : State) (c : Bool) (e : ErrorReport) : (s.raiseFatal c e).power = s.power := by
  unfold State.raiseFatal; dsimp only; repeat' split
  all_goals simp
@[simp] theorem State.raiseFatal_lodge (s : State) (c : Bool) (e : ErrorReport) : (s.raiseFatal c e).lodge = s.lodge := by
  unfold State.raiseFatal; dsimp only; repeat' split
  all_goals simp
@[simp] theorem State.raiseFatal_belv (s : State) (c : Bool) (e : ErrorReport) : (s.raiseFatal c e).belv = s.belv := by
  unfold State.raiseFatal; dsimp only; repeat' split
  all_goals simp
@[simp] theorem State.raiseFatal_resetRun (s : State) (c : Bool) (e : ErrorReport) : (s.raiseFatal c e).resetRun = s.resetRun := by
  unfold State.raiseFatal; dsimp only; repeat' split
  all_goals simp
@[simp] theorem State.raiseFatal_retained (s : State) (c : Bool) (e : ErrorReport) : (s.raiseFatal c e).retained = s.retained := by
  unfold State.raiseFatal; dsimp only; repeat' split
  all_goals simp
@[simp] theorem State.raiseFatal_freeCount (s : State) (c : Bool) (e : ErrorReport) : (s.raiseFatal c e).freeCount = s.freeCount := by
  unfold State.raiseFatal; dsimp only; repeat' split
  all_goals simp
@[simp] theorem State.raiseFatal_port (s : State) (c : Bool) (e : ErrorReport) (p : PortIx) : (s.raiseFatal c e).port p = s.port p := by simp [State.port]

/-! ### belvAdd -/

@[simp] theorem State.belvAdd_pending (s : State) (a b n : Nat) : (s.belvAdd a b n).pending = s.pending := rfl
@[simp] theorem State.belvAdd_pins (s : State) (a b n : Nat) : (s.belvAdd a b n).pins = s.pins := rfl
@[simp] theorem State.belvAdd_global (s : State) (a b n : Nat) : (s.belvAdd a b n).global = s.global := rfl
@[simp] theorem State.belvAdd_counters (s : State) (a b n : Nat) : (s.belvAdd a b n).counters = s.counters := rfl
@[simp] theorem State.belvAdd_fab (s : State) (a b n : Nat) : (s.belvAdd a b n).fab = s.fab := rfl
@[simp] theorem State.belvAdd_watch (s : State) (a b n : Nat) : (s.belvAdd a b n).watch = s.watch := rfl
@[simp] theorem State.belvAdd_front (s : State) (a b n : Nat) : (s.belvAdd a b n).front = s.front := rfl
@[simp] theorem State.belvAdd_xfer (s : State) (a b n : Nat) : (s.belvAdd a b n).xfer = s.xfer := rfl
@[simp] theorem State.belvAdd_gather (s : State) (a b n : Nat) : (s.belvAdd a b n).gather = s.gather := rfl
@[simp] theorem State.belvAdd_time (s : State) (a b n : Nat) : (s.belvAdd a b n).time = s.time := rfl
@[simp] theorem State.belvAdd_ports (s : State) (a b n : Nat) : (s.belvAdd a b n).ports = s.ports := rfl
@[simp] theorem State.belvAdd_topo (s : State) (a b n : Nat) : (s.belvAdd a b n).topo = s.topo := rfl
@[simp] theorem State.belvAdd_gate (s : State) (a b n : Nat) : (s.belvAdd a b n).gate = s.gate := rfl
@[simp] theorem State.belvAdd_ident (s : State) (a b n : Nat) : (s.belvAdd a b n).ident = s.ident := rfl
@[simp] theorem State.belvAdd_power (s : State) (a b n : Nat) : (s.belvAdd a b n).power = s.power := rfl
@[simp] theorem State.belvAdd_flt (s : State) (a b n : Nat) : (s.belvAdd a b n).flt = s.flt := rfl
@[simp] theorem State.belvAdd_lodge (s : State) (a b n : Nat) : (s.belvAdd a b n).lodge = s.lodge := rfl
@[simp] theorem State.belvAdd_resetRun (s : State) (a b n : Nat) : (s.belvAdd a b n).resetRun = s.resetRun := rfl
@[simp] theorem State.belvAdd_retained (s : State) (a b n : Nat) : (s.belvAdd a b n).retained = s.retained := rfl
@[simp] theorem State.belvAdd_freeCount (s : State) (a b n : Nat) : (s.belvAdd a b n).freeCount = s.freeCount := rfl
@[simp] theorem State.belvAdd_port (s : State) (a b n : Nat) (p : PortIx) : (s.belvAdd a b n).port p = s.port p := by simp [State.port]

/-! ### arm -/

@[simp] theorem State.arm_pending (s : State) (w a n : Nat) : (s.arm w a n).pending = s.pending := rfl
@[simp] theorem State.arm_pins (s : State) (w a n : Nat) : (s.arm w a n).pins = s.pins := rfl
@[simp] theorem State.arm_global (s : State) (w a n : Nat) : (s.arm w a n).global = s.global := rfl
@[simp] theorem State.arm_counters (s : State) (w a n : Nat) : (s.arm w a n).counters = s.counters := rfl
@[simp] theorem State.arm_fab (s : State) (w a n : Nat) : (s.arm w a n).fab = s.fab := rfl
@[simp] theorem State.arm_front (s : State) (w a n : Nat) : (s.arm w a n).front = s.front := rfl
@[simp] theorem State.arm_xfer (s : State) (w a n : Nat) : (s.arm w a n).xfer = s.xfer := rfl
@[simp] theorem State.arm_gather (s : State) (w a n : Nat) : (s.arm w a n).gather = s.gather := rfl
@[simp] theorem State.arm_time (s : State) (w a n : Nat) : (s.arm w a n).time = s.time := rfl
@[simp] theorem State.arm_ports (s : State) (w a n : Nat) : (s.arm w a n).ports = s.ports := rfl
@[simp] theorem State.arm_topo (s : State) (w a n : Nat) : (s.arm w a n).topo = s.topo := rfl
@[simp] theorem State.arm_gate (s : State) (w a n : Nat) : (s.arm w a n).gate = s.gate := rfl
@[simp] theorem State.arm_ident (s : State) (w a n : Nat) : (s.arm w a n).ident = s.ident := rfl
@[simp] theorem State.arm_power (s : State) (w a n : Nat) : (s.arm w a n).power = s.power := rfl
@[simp] theorem State.arm_flt (s : State) (w a n : Nat) : (s.arm w a n).flt = s.flt := rfl
@[simp] theorem State.arm_lodge (s : State) (w a n : Nat) : (s.arm w a n).lodge = s.lodge := rfl
@[simp] theorem State.arm_belv (s : State) (w a n : Nat) : (s.arm w a n).belv = s.belv := rfl
@[simp] theorem State.arm_resetRun (s : State) (w a n : Nat) : (s.arm w a n).resetRun = s.resetRun := rfl
@[simp] theorem State.arm_retained (s : State) (w a n : Nat) : (s.arm w a n).retained = s.retained := rfl
@[simp] theorem State.arm_freeCount (s : State) (w a n : Nat) : (s.arm w a n).freeCount = s.freeCount := rfl
@[simp] theorem State.arm_port (s : State) (w a n : Nat) (p : PortIx) : (s.arm w a n).port p = s.port p := by simp [State.port]

/-! ### disarm -/

@[simp] theorem State.disarm_pending (s : State) (w : Nat) : (s.disarm w).pending = s.pending := by unfold State.disarm; split <;> rfl
@[simp] theorem State.disarm_pins (s : State) (w : Nat) : (s.disarm w).pins = s.pins := by unfold State.disarm; split <;> rfl
@[simp] theorem State.disarm_global (s : State) (w : Nat) : (s.disarm w).global = s.global := by unfold State.disarm; split <;> rfl
@[simp] theorem State.disarm_counters (s : State) (w : Nat) : (s.disarm w).counters = s.counters := by unfold State.disarm; split <;> rfl
@[simp] theorem State.disarm_fab (s : State) (w : Nat) : (s.disarm w).fab = s.fab := by unfold State.disarm; split <;> rfl
@[simp] theorem State.disarm_front (s : State) (w : Nat) : (s.disarm w).front = s.front := by unfold State.disarm; split <;> rfl
@[simp] theorem State.disarm_xfer (s : State) (w : Nat) : (s.disarm w).xfer = s.xfer := by unfold State.disarm; split <;> rfl
@[simp] theorem State.disarm_gather (s : State) (w : Nat) : (s.disarm w).gather = s.gather := by unfold State.disarm; split <;> rfl
@[simp] theorem State.disarm_time (s : State) (w : Nat) : (s.disarm w).time = s.time := by unfold State.disarm; split <;> rfl
@[simp] theorem State.disarm_ports (s : State) (w : Nat) : (s.disarm w).ports = s.ports := by unfold State.disarm; split <;> rfl
@[simp] theorem State.disarm_topo (s : State) (w : Nat) : (s.disarm w).topo = s.topo := by unfold State.disarm; split <;> rfl
@[simp] theorem State.disarm_gate (s : State) (w : Nat) : (s.disarm w).gate = s.gate := by unfold State.disarm; split <;> rfl
@[simp] theorem State.disarm_ident (s : State) (w : Nat) : (s.disarm w).ident = s.ident := by unfold State.disarm; split <;> rfl
@[simp] theorem State.disarm_power (s : State) (w : Nat) : (s.disarm w).power = s.power := by unfold State.disarm; split <;> rfl
@[simp] theorem State.disarm_flt (s : State) (w : Nat) : (s.disarm w).flt = s.flt := by unfold State.disarm; split <;> rfl
@[simp] theorem State.disarm_lodge (s : State) (w : Nat) : (s.disarm w).lodge = s.lodge := by unfold State.disarm; split <;> rfl
@[simp] theorem State.disarm_belv (s : State) (w : Nat) : (s.disarm w).belv = s.belv := by unfold State.disarm; split <;> rfl
@[simp] theorem State.disarm_resetRun (s : State) (w : Nat) : (s.disarm w).resetRun = s.resetRun := by unfold State.disarm; split <;> rfl
@[simp] theorem State.disarm_retained (s : State) (w : Nat) : (s.disarm w).retained = s.retained := by unfold State.disarm; split <;> rfl
@[simp] theorem State.disarm_freeCount (s : State) (w : Nat) : (s.disarm w).freeCount = s.freeCount := by unfold State.disarm; split <;> rfl
@[simp] theorem State.disarm_port (s : State) (w : Nat) (p : PortIx) : (s.disarm w).port p = s.port p := by simp [State.port]

/-! ### issue -/

@[simp] theorem State.issue_pending (s : State) (q : FabRequest) : (s.issue q).pending = s.pending := by unfold State.issue; split <;> first | rfl | simp
@[simp] theorem State.issue_pins (s : State) (q : FabRequest) : (s.issue q).pins = s.pins := by unfold State.issue; split <;> first | rfl | simp
@[simp] theorem State.issue_global (s : State) (q : FabRequest) : (s.issue q).global = s.global := by unfold State.issue; split <;> first | rfl | simp
@[simp] theorem State.issue_counters (s : State) (q : FabRequest) : (s.issue q).counters = s.counters := by unfold State.issue; split <;> first | rfl | simp
@[simp] theorem State.issue_watch (s : State) (q : FabRequest) : (s.issue q).watch = s.watch := by unfold State.issue; split <;> first | rfl | simp
@[simp] theorem State.issue_front (s : State) (q : FabRequest) : (s.issue q).front = s.front := by unfold State.issue; split <;> first | rfl | simp
@[simp] theorem State.issue_xfer (s : State) (q : FabRequest) : (s.issue q).xfer = s.xfer := by unfold State.issue; split <;> first | rfl | simp
@[simp] theorem State.issue_gather (s : State) (q : FabRequest) : (s.issue q).gather = s.gather := by unfold State.issue; split <;> first | rfl | simp
@[simp] theorem State.issue_time (s : State) (q : FabRequest) : (s.issue q).time = s.time := by unfold State.issue; split <;> first | rfl | simp
@[simp] theorem State.issue_ports (s : State) (q : FabRequest) : (s.issue q).ports = s.ports := by unfold State.issue; split <;> first | rfl | simp
@[simp] theorem State.issue_topo (s : State) (q : FabRequest) : (s.issue q).topo = s.topo := by unfold State.issue; split <;> first | rfl | simp
@[simp] theorem State.issue_gate (s : State) (q : FabRequest) : (s.issue q).gate = s.gate := by unfold State.issue; split <;> first | rfl | simp
@[simp] theorem State.issue_ident (s : State) (q : FabRequest) : (s.issue q).ident = s.ident := by unfold State.issue; split <;> first | rfl | simp
@[simp] theorem State.issue_power (s : State) (q : FabRequest) : (s.issue q).power = s.power := by unfold State.issue; split <;> first | rfl | simp
@[simp] theorem State.issue_flt (s : State) (q : FabRequest) : (s.issue q).flt = s.flt := by unfold State.issue; split <;> first | rfl | simp
@[simp] theorem State.issue_lodge (s : State) (q : FabRequest) : (s.issue q).lodge = s.lodge := by unfold State.issue; split <;> first | rfl | simp
@[simp] theorem State.issue_resetRun (s : State) (q : FabRequest) : (s.issue q).resetRun = s.resetRun := by unfold State.issue; split <;> first | rfl | simp
@[simp] theorem State.issue_retained (s : State) (q : FabRequest) : (s.issue q).retained = s.retained := by unfold State.issue; split <;> first | rfl | simp
@[simp] theorem State.issue_freeCount (s : State) (q : FabRequest) : (s.issue q).freeCount = s.freeCount := by unfold State.issue; split <;> first | rfl | simp
@[simp] theorem State.issue_port (s : State) (q : FabRequest) (p : PortIx) : (s.issue q).port p = s.port p := by simp [State.port]

/-! ### forget -/

@[simp] theorem State.forget_pending (s : State) (f : FabUse → Bool) : (s.forget f).pending = s.pending := rfl
@[simp] theorem State.forget_pins (s : State) (f : FabUse → Bool) : (s.forget f).pins = s.pins := rfl
@[simp] theorem State.forget_global (s : State) (f : FabUse → Bool) : (s.forget f).global = s.global := rfl
@[simp] theorem State.forget_counters (s : State) (f : FabUse → Bool) : (s.forget f).counters = s.counters := rfl
@[simp] theorem State.forget_watch (s : State) (f : FabUse → Bool) : (s.forget f).watch = s.watch := rfl
@[simp] theorem State.forget_front (s : State) (f : FabUse → Bool) : (s.forget f).front = s.front := rfl
@[simp] theorem State.forget_xfer (s : State) (f : FabUse → Bool) : (s.forget f).xfer = s.xfer := rfl
@[simp] theorem State.forget_gather (s : State) (f : FabUse → Bool) : (s.forget f).gather = s.gather := rfl
@[simp] theorem State.forget_time (s : State) (f : FabUse → Bool) : (s.forget f).time = s.time := rfl
@[simp] theorem State.forget_ports (s : State) (f : FabUse → Bool) : (s.forget f).ports = s.ports := rfl
@[simp] theorem State.forget_topo (s : State) (f : FabUse → Bool) : (s.forget f).topo = s.topo := rfl
@[simp] theorem State.forget_gate (s : State) (f : FabUse → Bool) : (s.forget f).gate = s.gate := rfl
@[simp] theorem State.forget_ident (s : State) (f : FabUse → Bool) : (s.forget f).ident = s.ident := rfl
@[simp] theorem State.forget_power (s : State) (f : FabUse → Bool) : (s.forget f).power = s.power := rfl
@[simp] theorem State.forget_flt (s : State) (f : FabUse → Bool) : (s.forget f).flt = s.flt := rfl
@[simp] theorem State.forget_lodge (s : State) (f : FabUse → Bool) : (s.forget f).lodge = s.lodge := rfl
@[simp] theorem State.forget_belv (s : State) (f : FabUse → Bool) : (s.forget f).belv = s.belv := rfl
@[simp] theorem State.forget_resetRun (s : State) (f : FabUse → Bool) : (s.forget f).resetRun = s.resetRun := rfl
@[simp] theorem State.forget_retained (s : State) (f : FabUse → Bool) : (s.forget f).retained = s.retained := rfl
@[simp] theorem State.forget_freeCount (s : State) (f : FabUse → Bool) : (s.forget f).freeCount = s.freeCount := rfl
@[simp] theorem State.forget_port (s : State) (f : FabUse → Bool) (p : PortIx) : (s.forget f).port p = s.port p := by simp [State.port]

/-! ### issueAll -/

@[simp] theorem State.issueAll_pending (s : State) (l : List FabRequest) : (s.issueAll l).pending = s.pending := by
  induction l generalizing s with
  | nil => rfl
  | cons q r ih => simpa [State.issueAll] using ih (s.issue q)
@[simp] theorem State.issueAll_pins (s : State) (l : List FabRequest) : (s.issueAll l).pins = s.pins := by
  induction l generalizing s with
  | nil => rfl
  | cons q r ih => simpa [State.issueAll] using ih (s.issue q)
@[simp] theorem State.issueAll_global (s : State) (l : List FabRequest) : (s.issueAll l).global = s.global := by
  induction l generalizing s with
  | nil => rfl
  | cons q r ih => simpa [State.issueAll] using ih (s.issue q)
@[simp] theorem State.issueAll_counters (s : State) (l : List FabRequest) : (s.issueAll l).counters = s.counters := by
  induction l generalizing s with
  | nil => rfl
  | cons q r ih => simpa [State.issueAll] using ih (s.issue q)
@[simp] theorem State.issueAll_watch (s : State) (l : List FabRequest) : (s.issueAll l).watch = s.watch := by
  induction l generalizing s with
  | nil => rfl
  | cons q r ih => simpa [State.issueAll] using ih (s.issue q)
@[simp] theorem State.issueAll_front (s : State) (l : List FabRequest) : (s.issueAll l).front = s.front := by
  induction l generalizing s with
  | nil => rfl
  | cons q r ih => simpa [State.issueAll] using ih (s.issue q)
@[simp] theorem State.issueAll_xfer (s : State) (l : List FabRequest) : (s.issueAll l).xfer = s.xfer := by
  induction l generalizing s with
  | nil => rfl
  | cons q r ih => simpa [State.issueAll] using ih (s.issue q)
@[simp] theorem State.issueAll_gather (s : State) (l : List FabRequest) : (s.issueAll l).gather = s.gather := by
  induction l generalizing s with
  | nil => rfl
  | cons q r ih => simpa [State.issueAll] using ih (s.issue q)
@[simp] theorem State.issueAll_time (s : State) (l : List FabRequest) : (s.issueAll l).time = s.time := by
  induction l generalizing s with
  | nil => rfl
  | cons q r ih => simpa [State.issueAll] using ih (s.issue q)
@[simp] theorem State.issueAll_ports (s : State) (l : List FabRequest) : (s.issueAll l).ports = s.ports := by
  induction l generalizing s with
  | nil => rfl
  | cons q r ih => simpa [State.issueAll] using ih (s.issue q)
@[simp] theorem State.issueAll_topo (s : State) (l : List FabRequest) : (s.issueAll l).topo = s.topo := by
  induction l generalizing s with
  | nil => rfl
  | cons q r ih => simpa [State.issueAll] using ih (s.issue q)
@[simp] theorem State.issueAll_gate (s : State) (l : List FabRequest) : (s.issueAll l).gate = s.gate := by
  induction l generalizing s with
  | nil => rfl
  | cons q r ih => simpa [State.issueAll] using ih (s.issue q)
@[simp] theorem State.issueAll_ident (s : State) (l : List FabRequest) : (s.issueAll l).ident = s.ident := by
  induction l generalizing s with
  | nil => rfl
  | cons q r ih => simpa [State.issueAll] using ih (s.issue q)
@[simp] theorem State.issueAll_power (s : State) (l : List FabRequest) : (s.issueAll l).power = s.power := by
  induction l generalizing s with
  | nil => rfl
  | cons q r ih => simpa [State.issueAll] using ih (s.issue q)
@[simp] theorem State.issueAll_flt (s : State) (l : List FabRequest) : (s.issueAll l).flt = s.flt := by
  induction l generalizing s with
  | nil => rfl
  | cons q r ih => simpa [State.issueAll] using ih (s.issue q)
@[simp] theorem State.issueAll_lodge (s : State) (l : List FabRequest) : (s.issueAll l).lodge = s.lodge := by
  induction l generalizing s with
  | nil => rfl
  | cons q r ih => simpa [State.issueAll] using ih (s.issue q)
@[simp] theorem State.issueAll_resetRun (s : State) (l : List FabRequest) : (s.issueAll l).resetRun = s.resetRun := by
  induction l generalizing s with
  | nil => rfl
  | cons q r ih => simpa [State.issueAll] using ih (s.issue q)
@[simp] theorem State.issueAll_retained (s : State) (l : List FabRequest) : (s.issueAll l).retained = s.retained := by
  induction l generalizing s with
  | nil => rfl
  | cons q r ih => simpa [State.issueAll] using ih (s.issue q)
@[simp] theorem State.issueAll_freeCount (s : State) (l : List FabRequest) : (s.issueAll l).freeCount = s.freeCount := by
  induction l generalizing s with
  | nil => rfl
  | cons q r ih => simpa [State.issueAll] using ih (s.issue q)

/-! ### issueWaiting -/

@[simp] theorem State.issueWaiting_pending (s : State) : (s.issueWaiting).pending = s.pending := by simp [State.issueWaiting]
@[simp] theorem State.issueWaiting_pins (s : State) : (s.issueWaiting).pins = s.pins := by simp [State.issueWaiting]
@[simp] theorem State.issueWaiting_global (s : State) : (s.issueWaiting).global = s.global := by simp [State.issueWaiting]
@[simp] theorem State.issueWaiting_counters (s : State) : (s.issueWaiting).counters = s.counters := by simp [State.issueWaiting]
@[simp] theorem State.issueWaiting_watch (s : State) : (s.issueWaiting).watch = s.watch := by simp [State.issueWaiting]
@[simp] theorem State.issueWaiting_front (s : State) : (s.issueWaiting).front = s.front := by simp [State.issueWaiting]
@[simp] theorem State.issueWaiting_xfer (s : State) : (s.issueWaiting).xfer = s.xfer := by simp [State.issueWaiting]
@[simp] theorem State.issueWaiting_gather (s : State) : (s.issueWaiting).gather = s.gather := by simp [State.issueWaiting]
@[simp] theorem State.issueWaiting_time (s : State) : (s.issueWaiting).time = s.time := by simp [State.issueWaiting]
@[simp] theorem State.issueWaiting_ports (s : State) : (s.issueWaiting).ports = s.ports := by simp [State.issueWaiting]
@[simp] theorem State.issueWaiting_topo (s : State) : (s.issueWaiting).topo = s.topo := by simp [State.issueWaiting]
@[simp] theorem State.issueWaiting_gate (s : State) : (s.issueWaiting).gate = s.gate := by simp [State.issueWaiting]
@[simp] theorem State.issueWaiting_ident (s : State) : (s.issueWaiting).ident = s.ident := by simp [State.issueWaiting]
@[simp] theorem State.issueWaiting_power (s : State) : (s.issueWaiting).power = s.power := by simp [State.issueWaiting]
@[simp] theorem State.issueWaiting_flt (s : State) : (s.issueWaiting).flt = s.flt := by simp [State.issueWaiting]
@[simp] theorem State.issueWaiting_lodge (s : State) : (s.issueWaiting).lodge = s.lodge := by simp [State.issueWaiting]
@[simp] theorem State.issueWaiting_resetRun (s : State) : (s.issueWaiting).resetRun = s.resetRun := by simp [State.issueWaiting]
@[simp] theorem State.issueWaiting_retained (s : State) : (s.issueWaiting).retained = s.retained := by simp [State.issueWaiting]
@[simp] theorem State.issueWaiting_freeCount (s : State) : (s.issueWaiting).freeCount = s.freeCount := by simp [State.issueWaiting]
@[simp] theorem State.issueWaiting_port (s : State) (p : PortIx) : (s.issueWaiting).port p = s.port p := by simp [State.port]

/-! ### setChan -/

@[simp] theorem State.setChan_pending (s : State) (i : Nat) (c : Channel) : (s.setChan i c).pending = s.pending := rfl
@[simp] theorem State.setChan_pins (s : State) (i : Nat) (c : Channel) : (s.setChan i c).pins = s.pins := rfl
@[simp] theorem State.setChan_global (s : State) (i : Nat) (c : Channel) : (s.setChan i c).global = s.global := rfl
@[simp] theorem State.setChan_counters (s : State) (i : Nat) (c : Channel) : (s.setChan i c).counters = s.counters := rfl
@[simp] theorem State.setChan_fab (s : State) (i : Nat) (c : Channel) : (s.setChan i c).fab = s.fab := rfl
@[simp] theorem State.setChan_watch (s : State) (i : Nat) (c : Channel) : (s.setChan i c).watch = s.watch := rfl
@[simp] theorem State.setChan_xfer (s : State) (i : Nat) (c : Channel) : (s.setChan i c).xfer = s.xfer := rfl
@[simp] theorem State.setChan_gather (s : State) (i : Nat) (c : Channel) : (s.setChan i c).gather = s.gather := rfl
@[simp] theorem State.setChan_time (s : State) (i : Nat) (c : Channel) : (s.setChan i c).time = s.time := rfl
@[simp] theorem State.setChan_ports (s : State) (i : Nat) (c : Channel) : (s.setChan i c).ports = s.ports := rfl
@[simp] theorem State.setChan_topo (s : State) (i : Nat) (c : Channel) : (s.setChan i c).topo = s.topo := rfl
@[simp] theorem State.setChan_gate (s : State) (i : Nat) (c : Channel) : (s.setChan i c).gate = s.gate := rfl
@[simp] theorem State.setChan_ident (s : State) (i : Nat) (c : Channel) : (s.setChan i c).ident = s.ident := rfl
@[simp] theorem State.setChan_power (s : State) (i : Nat) (c : Channel) : (s.setChan i c).power = s.power := rfl
@[simp] theorem State.setChan_flt (s : State) (i : Nat) (c : Channel) : (s.setChan i c).flt = s.flt := rfl
@[simp] theorem State.setChan_lodge (s : State) (i : Nat) (c : Channel) : (s.setChan i c).lodge = s.lodge := rfl
@[simp] theorem State.setChan_belv (s : State) (i : Nat) (c : Channel) : (s.setChan i c).belv = s.belv := rfl
@[simp] theorem State.setChan_resetRun (s : State) (i : Nat) (c : Channel) : (s.setChan i c).resetRun = s.resetRun := rfl
@[simp] theorem State.setChan_retained (s : State) (i : Nat) (c : Channel) : (s.setChan i c).retained = s.retained := rfl
@[simp] theorem State.setChan_freeCount (s : State) (i : Nat) (c : Channel) : (s.setChan i c).freeCount = s.freeCount := rfl
@[simp] theorem State.setChan_port (s : State) (i : Nat) (c : Channel) (p : PortIx) : (s.setChan i c).port p = s.port p := by simp [State.port]

/-! ### modChan -/

@[simp] theorem State.modChan_pending (s : State) (i : Nat) (f : Channel → Channel) : (s.modChan i f).pending = s.pending := rfl
@[simp] theorem State.modChan_pins (s : State) (i : Nat) (f : Channel → Channel) : (s.modChan i f).pins = s.pins := rfl
@[simp] theorem State.modChan_global (s : State) (i : Nat) (f : Channel → Channel) : (s.modChan i f).global = s.global := rfl
@[simp] theorem State.modChan_counters (s : State) (i : Nat) (f : Channel → Channel) : (s.modChan i f).counters = s.counters := rfl
@[simp] theorem State.modChan_fab (s : State) (i : Nat) (f : Channel → Channel) : (s.modChan i f).fab = s.fab := rfl
@[simp] theorem State.modChan_watch (s : State) (i : Nat) (f : Channel → Channel) : (s.modChan i f).watch = s.watch := rfl
@[simp] theorem State.modChan_xfer (s : State) (i : Nat) (f : Channel → Channel) : (s.modChan i f).xfer = s.xfer := rfl
@[simp] theorem State.modChan_gather (s : State) (i : Nat) (f : Channel → Channel) : (s.modChan i f).gather = s.gather := rfl
@[simp] theorem State.modChan_time (s : State) (i : Nat) (f : Channel → Channel) : (s.modChan i f).time = s.time := rfl
@[simp] theorem State.modChan_ports (s : State) (i : Nat) (f : Channel → Channel) : (s.modChan i f).ports = s.ports := rfl
@[simp] theorem State.modChan_topo (s : State) (i : Nat) (f : Channel → Channel) : (s.modChan i f).topo = s.topo := rfl
@[simp] theorem State.modChan_gate (s : State) (i : Nat) (f : Channel → Channel) : (s.modChan i f).gate = s.gate := rfl
@[simp] theorem State.modChan_ident (s : State) (i : Nat) (f : Channel → Channel) : (s.modChan i f).ident = s.ident := rfl
@[simp] theorem State.modChan_power (s : State) (i : Nat) (f : Channel → Channel) : (s.modChan i f).power = s.power := rfl
@[simp] theorem State.modChan_flt (s : State) (i : Nat) (f : Channel → Channel) : (s.modChan i f).flt = s.flt := rfl
@[simp] theorem State.modChan_lodge (s : State) (i : Nat) (f : Channel → Channel) : (s.modChan i f).lodge = s.lodge := rfl
@[simp] theorem State.modChan_belv (s : State) (i : Nat) (f : Channel → Channel) : (s.modChan i f).belv = s.belv := rfl
@[simp] theorem State.modChan_resetRun (s : State) (i : Nat) (f : Channel → Channel) : (s.modChan i f).resetRun = s.resetRun := rfl
@[simp] theorem State.modChan_retained (s : State) (i : Nat) (f : Channel → Channel) : (s.modChan i f).retained = s.retained := rfl
@[simp] theorem State.modChan_freeCount (s : State) (i : Nat) (f : Channel → Channel) : (s.modChan i f).freeCount = s.freeCount := rfl
@[simp] theorem State.modChan_port (s : State) (i : Nat) (f : Channel → Channel) (p : PortIx) : (s.modChan i f).port p = s.port p := by simp [State.port]

/-! ### modRing -/

@[simp] theorem State.modRing_pending (s : State) (i : Nat) (f : AdminRing → AdminRing) : (s.modRing i f).pending = s.pending := rfl
@[simp] theorem State.modRing_pins (s : State) (i : Nat) (f : AdminRing → AdminRing) : (s.modRing i f).pins = s.pins := rfl
@[simp] theorem State.modRing_global (s : State) (i : Nat) (f : AdminRing → AdminRing) : (s.modRing i f).global = s.global := rfl
@[simp] theorem State.modRing_counters (s : State) (i : Nat) (f : AdminRing → AdminRing) : (s.modRing i f).counters = s.counters := rfl
@[simp] theorem State.modRing_fab (s : State) (i : Nat) (f : AdminRing → AdminRing) : (s.modRing i f).fab = s.fab := rfl
@[simp] theorem State.modRing_watch (s : State) (i : Nat) (f : AdminRing → AdminRing) : (s.modRing i f).watch = s.watch := rfl
@[simp] theorem State.modRing_xfer (s : State) (i : Nat) (f : AdminRing → AdminRing) : (s.modRing i f).xfer = s.xfer := rfl
@[simp] theorem State.modRing_gather (s : State) (i : Nat) (f : AdminRing → AdminRing) : (s.modRing i f).gather = s.gather := rfl
@[simp] theorem State.modRing_time (s : State) (i : Nat) (f : AdminRing → AdminRing) : (s.modRing i f).time = s.time := rfl
@[simp] theorem State.modRing_ports (s : State) (i : Nat) (f : AdminRing → AdminRing) : (s.modRing i f).ports = s.ports := rfl
@[simp] theorem State.modRing_topo (s : State) (i : Nat) (f : AdminRing → AdminRing) : (s.modRing i f).topo = s.topo := rfl
@[simp] theorem State.modRing_gate (s : State) (i : Nat) (f : AdminRing → AdminRing) : (s.modRing i f).gate = s.gate := rfl
@[simp] theorem State.modRing_ident (s : State) (i : Nat) (f : AdminRing → AdminRing) : (s.modRing i f).ident = s.ident := rfl
@[simp] theorem State.modRing_power (s : State) (i : Nat) (f : AdminRing → AdminRing) : (s.modRing i f).power = s.power := rfl
@[simp] theorem State.modRing_flt (s : State) (i : Nat) (f : AdminRing → AdminRing) : (s.modRing i f).flt = s.flt := rfl
@[simp] theorem State.modRing_lodge (s : State) (i : Nat) (f : AdminRing → AdminRing) : (s.modRing i f).lodge = s.lodge := rfl
@[simp] theorem State.modRing_belv (s : State) (i : Nat) (f : AdminRing → AdminRing) : (s.modRing i f).belv = s.belv := rfl
@[simp] theorem State.modRing_resetRun (s : State) (i : Nat) (f : AdminRing → AdminRing) : (s.modRing i f).resetRun = s.resetRun := rfl
@[simp] theorem State.modRing_retained (s : State) (i : Nat) (f : AdminRing → AdminRing) : (s.modRing i f).retained = s.retained := rfl
@[simp] theorem State.modRing_freeCount (s : State) (i : Nat) (f : AdminRing → AdminRing) : (s.modRing i f).freeCount = s.freeCount := rfl
@[simp] theorem State.modRing_port (s : State) (i : Nat) (f : AdminRing → AdminRing) (p : PortIx) : (s.modRing i f).port p = s.port p := by simp [State.port]

/-! ### modOp -/

@[simp] theorem State.modOp_pending (s : State) (r : OpRef) (f : OpSlot → OpSlot) : (s.modOp r f).pending = s.pending := rfl
@[simp] theorem State.modOp_pins (s : State) (r : OpRef) (f : OpSlot → OpSlot) : (s.modOp r f).pins = s.pins := rfl
@[simp] theorem State.modOp_global (s : State) (r : OpRef) (f : OpSlot → OpSlot) : (s.modOp r f).global = s.global := rfl
@[simp] theorem State.modOp_counters (s : State) (r : OpRef) (f : OpSlot → OpSlot) : (s.modOp r f).counters = s.counters := rfl
@[simp] theorem State.modOp_fab (s : State) (r : OpRef) (f : OpSlot → OpSlot) : (s.modOp r f).fab = s.fab := rfl
@[simp] theorem State.modOp_watch (s : State) (r : OpRef) (f : OpSlot → OpSlot) : (s.modOp r f).watch = s.watch := rfl
@[simp] theorem State.modOp_xfer (s : State) (r : OpRef) (f : OpSlot → OpSlot) : (s.modOp r f).xfer = s.xfer := rfl
@[simp] theorem State.modOp_gather (s : State) (r : OpRef) (f : OpSlot → OpSlot) : (s.modOp r f).gather = s.gather := rfl
@[simp] theorem State.modOp_time (s : State) (r : OpRef) (f : OpSlot → OpSlot) : (s.modOp r f).time = s.time := rfl
@[simp] theorem State.modOp_ports (s : State) (r : OpRef) (f : OpSlot → OpSlot) : (s.modOp r f).ports = s.ports := rfl
@[simp] theorem State.modOp_topo (s : State) (r : OpRef) (f : OpSlot → OpSlot) : (s.modOp r f).topo = s.topo := rfl
@[simp] theorem State.modOp_gate (s : State) (r : OpRef) (f : OpSlot → OpSlot) : (s.modOp r f).gate = s.gate := rfl
@[simp] theorem State.modOp_ident (s : State) (r : OpRef) (f : OpSlot → OpSlot) : (s.modOp r f).ident = s.ident := rfl
@[simp] theorem State.modOp_power (s : State) (r : OpRef) (f : OpSlot → OpSlot) : (s.modOp r f).power = s.power := rfl
@[simp] theorem State.modOp_flt (s : State) (r : OpRef) (f : OpSlot → OpSlot) : (s.modOp r f).flt = s.flt := rfl
@[simp] theorem State.modOp_lodge (s : State) (r : OpRef) (f : OpSlot → OpSlot) : (s.modOp r f).lodge = s.lodge := rfl
@[simp] theorem State.modOp_belv (s : State) (r : OpRef) (f : OpSlot → OpSlot) : (s.modOp r f).belv = s.belv := rfl
@[simp] theorem State.modOp_resetRun (s : State) (r : OpRef) (f : OpSlot → OpSlot) : (s.modOp r f).resetRun = s.resetRun := rfl
@[simp] theorem State.modOp_retained (s : State) (r : OpRef) (f : OpSlot → OpSlot) : (s.modOp r f).retained = s.retained := rfl
@[simp] theorem State.modOp_freeCount (s : State) (r : OpRef) (f : OpSlot → OpSlot) : (s.modOp r f).freeCount = s.freeCount := rfl
@[simp] theorem State.modOp_port (s : State) (r : OpRef) (f : OpSlot → OpSlot) (p : PortIx) : (s.modOp r f).port p = s.port p := by simp [State.port]

/-! ### setCmdPhase -/

@[simp] theorem State.setCmdPhase_pending (s : State) (r : AdminRef) (ph : CmdPhase) : (s.setCmdPhase r ph).pending = s.pending := rfl
@[simp] theorem State.setCmdPhase_pins (s : State) (r : AdminRef) (ph : CmdPhase) : (s.setCmdPhase r ph).pins = s.pins := rfl
@[simp] theorem State.setCmdPhase_global (s : State) (r : AdminRef) (ph : CmdPhase) : (s.setCmdPhase r ph).global = s.global := rfl
@[simp] theorem State.setCmdPhase_counters (s : State) (r : AdminRef) (ph : CmdPhase) : (s.setCmdPhase r ph).counters = s.counters := rfl
@[simp] theorem State.setCmdPhase_fab (s : State) (r : AdminRef) (ph : CmdPhase) : (s.setCmdPhase r ph).fab = s.fab := rfl
@[simp] theorem State.setCmdPhase_watch (s : State) (r : AdminRef) (ph : CmdPhase) : (s.setCmdPhase r ph).watch = s.watch := rfl
@[simp] theorem State.setCmdPhase_xfer (s : State) (r : AdminRef) (ph : CmdPhase) : (s.setCmdPhase r ph).xfer = s.xfer := rfl
@[simp] theorem State.setCmdPhase_gather (s : State) (r : AdminRef) (ph : CmdPhase) : (s.setCmdPhase r ph).gather = s.gather := rfl
@[simp] theorem State.setCmdPhase_time (s : State) (r : AdminRef) (ph : CmdPhase) : (s.setCmdPhase r ph).time = s.time := rfl
@[simp] theorem State.setCmdPhase_ports (s : State) (r : AdminRef) (ph : CmdPhase) : (s.setCmdPhase r ph).ports = s.ports := rfl
@[simp] theorem State.setCmdPhase_topo (s : State) (r : AdminRef) (ph : CmdPhase) : (s.setCmdPhase r ph).topo = s.topo := rfl
@[simp] theorem State.setCmdPhase_gate (s : State) (r : AdminRef) (ph : CmdPhase) : (s.setCmdPhase r ph).gate = s.gate := rfl
@[simp] theorem State.setCmdPhase_ident (s : State) (r : AdminRef) (ph : CmdPhase) : (s.setCmdPhase r ph).ident = s.ident := rfl
@[simp] theorem State.setCmdPhase_power (s : State) (r : AdminRef) (ph : CmdPhase) : (s.setCmdPhase r ph).power = s.power := rfl
@[simp] theorem State.setCmdPhase_flt (s : State) (r : AdminRef) (ph : CmdPhase) : (s.setCmdPhase r ph).flt = s.flt := rfl
@[simp] theorem State.setCmdPhase_belv (s : State) (r : AdminRef) (ph : CmdPhase) : (s.setCmdPhase r ph).belv = s.belv := rfl
@[simp] theorem State.setCmdPhase_resetRun (s : State) (r : AdminRef) (ph : CmdPhase) : (s.setCmdPhase r ph).resetRun = s.resetRun := rfl
@[simp] theorem State.setCmdPhase_retained (s : State) (r : AdminRef) (ph : CmdPhase) : (s.setCmdPhase r ph).retained = s.retained := rfl
@[simp] theorem State.setCmdPhase_freeCount (s : State) (r : AdminRef) (ph : CmdPhase) : (s.setCmdPhase r ph).freeCount = s.freeCount := rfl
@[simp] theorem State.setCmdPhase_port (s : State) (r : AdminRef) (ph : CmdPhase) (p : PortIx) : (s.setCmdPhase r ph).port p = s.port p := by simp [State.port]

/-! ### working -/

@[simp] theorem State.working_pending (s : State) (r : AdminRef) : (s.working r).pending = s.pending := rfl
@[simp] theorem State.working_pins (s : State) (r : AdminRef) : (s.working r).pins = s.pins := rfl
@[simp] theorem State.working_global (s : State) (r : AdminRef) : (s.working r).global = s.global := rfl
@[simp] theorem State.working_counters (s : State) (r : AdminRef) : (s.working r).counters = s.counters := rfl
@[simp] theorem State.working_fab (s : State) (r : AdminRef) : (s.working r).fab = s.fab := rfl
@[simp] theorem State.working_watch (s : State) (r : AdminRef) : (s.working r).watch = s.watch := rfl
@[simp] theorem State.working_xfer (s : State) (r : AdminRef) : (s.working r).xfer = s.xfer := rfl
@[simp] theorem State.working_gather (s : State) (r : AdminRef) : (s.working r).gather = s.gather := rfl
@[simp] theorem State.working_time (s : State) (r : AdminRef) : (s.working r).time = s.time := rfl
@[simp] theorem State.working_ports (s : State) (r : AdminRef) : (s.working r).ports = s.ports := rfl
@[simp] theorem State.working_topo (s : State) (r : AdminRef) : (s.working r).topo = s.topo := rfl
@[simp] theorem State.working_gate (s : State) (r : AdminRef) : (s.working r).gate = s.gate := rfl
@[simp] theorem State.working_ident (s : State) (r : AdminRef) : (s.working r).ident = s.ident := rfl
@[simp] theorem State.working_power (s : State) (r : AdminRef) : (s.working r).power = s.power := rfl
@[simp] theorem State.working_flt (s : State) (r : AdminRef) : (s.working r).flt = s.flt := rfl
@[simp] theorem State.working_belv (s : State) (r : AdminRef) : (s.working r).belv = s.belv := rfl
@[simp] theorem State.working_resetRun (s : State) (r : AdminRef) : (s.working r).resetRun = s.resetRun := rfl
@[simp] theorem State.working_retained (s : State) (r : AdminRef) : (s.working r).retained = s.retained := rfl
@[simp] theorem State.working_freeCount (s : State) (r : AdminRef) : (s.working r).freeCount = s.freeCount := rfl
@[simp] theorem State.working_port (s : State) (r : AdminRef) (p : PortIx) : (s.working r).port p = s.port p := by simp [State.port]

/-! ### activity -/

@[simp] theorem State.activity_pending (s : State) (n : Nat) : (s.activity n).pending = s.pending := rfl
@[simp] theorem State.activity_pins (s : State) (n : Nat) : (s.activity n).pins = s.pins := rfl
@[simp] theorem State.activity_global (s : State) (n : Nat) : (s.activity n).global = s.global := rfl
@[simp] theorem State.activity_counters (s : State) (n : Nat) : (s.activity n).counters = s.counters := rfl
@[simp] theorem State.activity_fab (s : State) (n : Nat) : (s.activity n).fab = s.fab := rfl
@[simp] theorem State.activity_watch (s : State) (n : Nat) : (s.activity n).watch = s.watch := rfl
@[simp] theorem State.activity_front (s : State) (n : Nat) : (s.activity n).front = s.front := rfl
@[simp] theorem State.activity_xfer (s : State) (n : Nat) : (s.activity n).xfer = s.xfer := rfl
@[simp] theorem State.activity_gather (s : State) (n : Nat) : (s.activity n).gather = s.gather := rfl
@[simp] theorem State.activity_time (s : State) (n : Nat) : (s.activity n).time = s.time := rfl
@[simp] theorem State.activity_ports (s : State) (n : Nat) : (s.activity n).ports = s.ports := rfl
@[simp] theorem State.activity_topo (s : State) (n : Nat) : (s.activity n).topo = s.topo := rfl
@[simp] theorem State.activity_gate (s : State) (n : Nat) : (s.activity n).gate = s.gate := rfl
@[simp] theorem State.activity_ident (s : State) (n : Nat) : (s.activity n).ident = s.ident := rfl
@[simp] theorem State.activity_power (s : State) (n : Nat) : (s.activity n).power = s.power := rfl
@[simp] theorem State.activity_lodge (s : State) (n : Nat) : (s.activity n).lodge = s.lodge := rfl
@[simp] theorem State.activity_belv (s : State) (n : Nat) : (s.activity n).belv = s.belv := rfl
@[simp] theorem State.activity_resetRun (s : State) (n : Nat) : (s.activity n).resetRun = s.resetRun := rfl
@[simp] theorem State.activity_retained (s : State) (n : Nat) : (s.activity n).retained = s.retained := rfl
@[simp] theorem State.activity_freeCount (s : State) (n : Nat) : (s.activity n).freeCount = s.freeCount := rfl
@[simp] theorem State.activity_port (s : State) (n : Nat) (p : PortIx) : (s.activity n).port p = s.port p := by simp [State.port]

/-! ### finish -/

@[simp] theorem State.finish_pending (s : State) (r : AdminRef) (st a b c d : Nat) : (s.finish r st a b c d).pending = s.pending := by
  unfold State.finish; split <;> rfl
@[simp] theorem State.finish_pins (s : State) (r : AdminRef) (st a b c d : Nat) : (s.finish r st a b c d).pins = s.pins := by
  unfold State.finish; split <;> rfl
@[simp] theorem State.finish_global (s : State) (r : AdminRef) (st a b c d : Nat) : (s.finish r st a b c d).global = s.global := by
  unfold State.finish; split <;> rfl
@[simp] theorem State.finish_counters (s : State) (r : AdminRef) (st a b c d : Nat) : (s.finish r st a b c d).counters = s.counters := by
  unfold State.finish; split <;> rfl
@[simp] theorem State.finish_fab (s : State) (r : AdminRef) (st a b c d : Nat) : (s.finish r st a b c d).fab = s.fab := by
  unfold State.finish; split <;> rfl
@[simp] theorem State.finish_watch (s : State) (r : AdminRef) (st a b c d : Nat) : (s.finish r st a b c d).watch = s.watch := by
  unfold State.finish; split <;> rfl
@[simp] theorem State.finish_xfer (s : State) (r : AdminRef) (st a b c d : Nat) : (s.finish r st a b c d).xfer = s.xfer := by
  unfold State.finish; split <;> rfl
@[simp] theorem State.finish_gather (s : State) (r : AdminRef) (st a b c d : Nat) : (s.finish r st a b c d).gather = s.gather := by
  unfold State.finish; split <;> rfl
@[simp] theorem State.finish_time (s : State) (r : AdminRef) (st a b c d : Nat) : (s.finish r st a b c d).time = s.time := by
  unfold State.finish; split <;> rfl
@[simp] theorem State.finish_ports (s : State) (r : AdminRef) (st a b c d : Nat) : (s.finish r st a b c d).ports = s.ports := by
  unfold State.finish; split <;> rfl
@[simp] theorem State.finish_topo (s : State) (r : AdminRef) (st a b c d : Nat) : (s.finish r st a b c d).topo = s.topo := by
  unfold State.finish; split <;> rfl
@[simp] theorem State.finish_gate (s : State) (r : AdminRef) (st a b c d : Nat) : (s.finish r st a b c d).gate = s.gate := by
  unfold State.finish; split <;> rfl
@[simp] theorem State.finish_ident (s : State) (r : AdminRef) (st a b c d : Nat) : (s.finish r st a b c d).ident = s.ident := by
  unfold State.finish; split <;> rfl
@[simp] theorem State.finish_power (s : State) (r : AdminRef) (st a b c d : Nat) : (s.finish r st a b c d).power = s.power := by
  unfold State.finish; split <;> rfl
@[simp] theorem State.finish_flt (s : State) (r : AdminRef) (st a b c d : Nat) : (s.finish r st a b c d).flt = s.flt := by
  unfold State.finish; split <;> rfl
@[simp] theorem State.finish_belv (s : State) (r : AdminRef) (st a b c d : Nat) : (s.finish r st a b c d).belv = s.belv := by
  unfold State.finish; split <;> rfl
@[simp] theorem State.finish_resetRun (s : State) (r : AdminRef) (st a b c d : Nat) : (s.finish r st a b c d).resetRun = s.resetRun := by
  unfold State.finish; split <;> rfl
@[simp] theorem State.finish_retained (s : State) (r : AdminRef) (st a b c d : Nat) : (s.finish r st a b c d).retained = s.retained := by
  unfold State.finish; split <;> rfl
@[simp] theorem State.finish_freeCount (s : State) (r : AdminRef) (st a b c d : Nat) : (s.finish r st a b c d).freeCount = s.freeCount := by
  unfold State.finish; split <;> rfl
@[simp] theorem State.finish_port (s : State) (r : AdminRef) (st a b c d : Nat) (p : PortIx) : (s.finish r st a b c d).port p = s.port p := by
  simp [State.port]

end Sys2Proof.Machine
end

