-- ==== Sys2Proof/Laws/Content.lean ====
section
/-!
SUPPORT. The ranges that are read whole (R12) and the internal code (R484, R485), each said once.
-/
namespace Sys2Proof.Machine

/-! ### Ranges read whole -/

/-- A range that has not been read is read first, and nothing else happens. -/
theorem readThen_reads {s : State} {k : ContentKey} (h : s.content k = none) (addr len pav : Nat) (f : ReadResult → State → State) :
    s.readThen k addr len pav f = s.readContent k addr len pav := by
  simp only [State.readThen, h]

/-- A range that has been read is used up by what needs it. -/
theorem readThen_performs {s : State} {k : ContentKey} {x : ReadResult} (h : s.content k = some x) (addr len pav : Nat)
    (f : ReadResult → State → State) : s.readThen k addr len pav f = f x (s.dropContent k) := by
  simp only [State.readThen, h]

/-- Of a range that is needed no more nothing is left. -/
@[simp] theorem dropContent_contentRead (s : State) (k : ContentKey) : (s.dropContent k).contentRead k = none := by
  simp [State.dropContent, State.contentRead, State.modFab]

/-- The other ranges stay. -/
theorem dropContent_other (s : State) {k j : ContentKey} (h : j ≠ k) : (s.dropContent k).contentRead j = s.contentRead j := by
  simp only [State.dropContent, State.contentRead, State.modFab, List.find?_filter]
  congr 1
  funext c
  by_cases hc : c.key = j
  · simp [hc, h]
  · simp [hc]

/-- A range being read is not yet there, so that a command that waits for it is not due. -/
theorem readingContent_content {s : State} {k : ContentKey} (h : s.readingContent k = true) : s.content k = none := by
  unfold State.readingContent at h
  unfold State.content
  cases hr : s.contentRead k with
  | none => rfl
  | some c => simpa [hr] using h

/-! ### What an injection leaves for the checker (R499) -/

set_option maxRecDepth 20000 in
/-- One check byte inverted is corrected. -/
theorem icFlaw_zero : icFlaw 0 = some [64] := by decide +kernel

set_option maxRecDepth 20000 in
/-- Two check bytes inverted are corrected. -/
theorem icFlaw_one : icFlaw 1 = some [65, 64] := by decide +kernel

set_option maxRecDepth 20000 in
/-- Three check bytes inverted are uncorrectable. -/
theorem icFlaw_two : icFlaw 2 = none := by decide +kernel

end Sys2Proof.Machine
end

