-- ==== Sys2Proof/Laws/Table.lean ====
section
/-!
SUPPORT. What sparse tables and byte memories do: a read after a write, other keys left alone, and the canonical form kept by every
operation.
-/
namespace Sys2Proof.Machine

variable {α : Type}

@[simp] theorem Table.get_nil (d : α) (i : Nat) : Table.get d [] i = d := rfl

theorem Table.get_erase_same (d : α) (t : Table α) (i : Nat) : Table.get d (t.erase i) i = d := by
  induction t with
  | nil => rfl
  | cons p r ih =>
    obtain ⟨k, v⟩ := p
    by_cases h : k = i
    · simpa [Table.erase, h] using ih
    · simpa [Table.erase, Table.get, h] using ih

theorem Table.get_erase_other (d : α) (t : Table α) {i j : Nat} (h : j ≠ i) : Table.get d (t.erase i) j = Table.get d t j := by
  induction t with
  | nil => rfl
  | cons p r ih =>
    obtain ⟨k, v⟩ := p
    by_cases hk : k = i
    · have : k ≠ j := fun e => h (e ▸ hk)
      simpa [Table.erase, hk, Table.get, this, Ne.symm h] using ih
    · simp only [Table.erase, List.filter_cons, bne_iff_ne, ne_eq, hk, not_false_eq_true, if_true, Table.get]
      split
      · rfl
      · simpa [Table.erase] using ih

/-- No pair of the table has the key. -/
theorem Table.erase_no_key (t : Table α) (i : Nat) : ∀ p ∈ t.erase i, p.1 ≠ i := by
  intro p hp
  simpa using (List.mem_filter.mp hp).2

theorem Table.get_insert_same (d : α) (t : Table α) (i : Nat) (v : α) (h : ∀ p ∈ t, p.1 ≠ i) : Table.get d (t.insert i v) i = v := by
  induction t with
  | nil => simp [Table.insert, Table.get]
  | cons p r ih =>
    obtain ⟨k, w⟩ := p
    have hk : k ≠ i := h (k, w) (by simp)
    by_cases c : i < k
    · simp [Table.insert, c, Table.get]
    · simpa [Table.insert, c, Table.get, hk] using ih (fun q hq => h q (by simp [hq]))

theorem Table.get_insert_other (d : α) (t : Table α) {i j : Nat} (v : α) (h : j ≠ i) : Table.get d (t.insert i v) j = Table.get d t j := by
  induction t with
  | nil => simp [Table.insert, Table.get, Ne.symm h]
  | cons p r ih =>
    obtain ⟨k, w⟩ := p
    by_cases c : i < k
    · simp [Table.insert, c, Table.get, Ne.symm h]
    · simp [Table.insert, c, Table.get, ih]

/-- A read after a write to the same key gives the value written. -/
@[simp] theorem Table.get_put_same [DecidableEq α] (d : α) (t : Table α) (i : Nat) (v : α) : Table.get d (Table.put d t i v) i = v := by
  by_cases h : v = d
  · simp [Table.put, h, Table.get_erase_same]
  · simpa [Table.put, h] using Table.get_insert_same d _ i v (Table.erase_no_key t i)

/-- A write leaves every other key alone. -/
theorem Table.get_put_other [DecidableEq α] (d : α) (t : Table α) {i j : Nat} (v : α) (h : j ≠ i) :
    Table.get d (Table.put d t i v) j = Table.get d t j := by
  by_cases c : v = d
  · simpa [Table.put, c] using Table.get_erase_other d t h
  · simp only [Table.put, c, if_false]
    rw [Table.get_insert_other d _ v h, Table.get_erase_other d t h]

/-! ### The canonical form -/

theorem Table.wf_iff [DecidableEq α] (d : α) (t : Table α) :
    Table.wf d t = true ↔ t.Pairwise (fun a b => a.1 < b.1) ∧ ∀ p ∈ t, p.2 ≠ d := by
  simp [Table.wf]

@[simp] theorem Table.wf_nil [DecidableEq α] (d : α) : Table.wf d ([] : Table α) = true := by simp [Table.wf]

/-- Dropping pairs keeps the form. -/
theorem Table.wf_filter [DecidableEq α] (d : α) (t : Table α) (f : Nat × α → Bool) (h : Table.wf d t = true) :
    Table.wf d (t.filter f : List (Nat × α)) = true := by
  rw [Table.wf_iff] at h ⊢
  exact ⟨h.1.filter f, fun p hp => h.2 p (List.mem_filter.mp hp).1⟩

theorem Table.wf_erase [DecidableEq α] (d : α) (t : Table α) (i : Nat) (h : Table.wf d t = true) : Table.wf d (t.erase i) = true :=
  Table.wf_filter d t _ h

theorem Table.mem_insert (t : Table α) (i : Nat) (v : α) (p : Nat × α) (h : p ∈ t.insert i v) : p = (i, v) ∨ p ∈ t := by
  induction t with
  | nil => simpa [Table.insert] using h
  | cons q r ih =>
    obtain ⟨k, w⟩ := q
    by_cases c : i < k
    · simpa [Table.insert, c] using h
    · rw [Table.insert, if_neg c, List.mem_cons] at h
      rcases h with h | h
      · exact .inr (by simp [h])
      · rcases ih h with e | e
        · exact .inl e
        · exact .inr (by simp [e])

theorem Table.wf_insert [DecidableEq α] (d : α) (t : Table α) (i : Nat) (v : α) (hv : v ≠ d) (hk : ∀ p ∈ t, p.1 ≠ i)
    (h : Table.wf d t = true) : Table.wf d (t.insert i v) = true := by
  induction t with
  | nil => simp [Table.insert, Table.wf, hv]
  | cons p r ih =>
    obtain ⟨k, w⟩ := p
    rw [Table.wf_iff, List.pairwise_cons] at h
    have hne : k ≠ i := hk (k, w) (by simp)
    by_cases c : i < k
    · rw [Table.insert, if_pos c, Table.wf_iff]
      refine ⟨List.pairwise_cons.mpr ⟨?_, List.pairwise_cons.mpr h.1⟩, ?_⟩
      · intro q hq
        rcases List.mem_cons.mp hq with e | e
        · simpa [e] using c
        · exact Nat.lt_trans c (h.1.1 q e)
      · intro q hq
        rcases List.mem_cons.mp hq with e | e
        · simpa [e] using hv
        · exact h.2 q e
    · have hr : Table.wf d r = true := (Table.wf_iff d r).mpr ⟨h.1.2, fun q hq => h.2 q (by simp [hq])⟩
      have hi := (Table.wf_iff d _).mp (ih (fun q hq => hk q (by simp [hq])) hr)
      rw [Table.insert, if_neg c, Table.wf_iff]
      refine ⟨List.pairwise_cons.mpr ⟨?_, hi.1⟩, ?_⟩
      · intro q hq
        rcases Table.mem_insert r i v q hq with e | e
        · simp only [e]; omega
        · exact h.1.1 q e
      · intro q hq
        rcases List.mem_cons.mp hq with e | e
        · exact h.2 q (by simp [e])
        · exact hi.2 q e

/-- Every write keeps the form. -/
theorem Table.wf_put [DecidableEq α] (d : α) (t : Table α) (i : Nat) (v : α) (h : Table.wf d t = true) : Table.wf d (Table.put d t i v) = true := by
  by_cases c : v = d
  · simpa [Table.put, c] using Table.wf_erase d t i h
  · simpa [Table.put, c] using Table.wf_insert d _ i v c (Table.erase_no_key t i) (Table.wf_erase d t i h)

/-! ### Byte memories -/

@[simp] theorem Memory.read_write_same (m : Memory) (a : Nat) (b : Byte) : (m.write a b).read a = b := Table.get_put_same 0 m a b

theorem Memory.read_write_other (m : Memory) {a c : Nat} (b : Byte) (h : c ≠ a) : (m.write a b).read c = m.read c := Table.get_put_other 0 m b h

theorem Memory.wf_write (m : Memory) (a : Nat) (b : Byte) (h : m.wf = true) : (m.write a b).wf = true := Table.wf_put 0 m a b h

theorem Memory.wf_writeBytes (m : Memory) (a : Nat) (l : List Byte) (h : m.wf = true) : (m.writeBytes a l).wf = true := by
  induction l generalizing m a with
  | nil => exact h
  | cons b r ih => exact ih _ _ (Memory.wf_write m a b h)

/-- Bytes outside those written read as before. -/
theorem Memory.read_writeBytes_other (m : Memory) (a c : Nat) (l : List Byte) (h : c < a ∨ a + l.length ≤ c) : (m.writeBytes a l).read c = m.read c := by
  induction l generalizing m a with
  | nil => rfl
  | cons b r ih =>
    rw [List.length_cons] at h
    rw [Memory.writeBytes, ih _ _ (by omega), Memory.read_write_other m b (by omega)]

/-- A byte written reads back. -/
theorem Memory.read_writeBytes (m : Memory) (a i : Nat) (l : List Byte) (h : i < l.length) : (m.writeBytes a l).read (a + i) = l[i] := by
  induction l generalizing m a i with
  | nil => simp at h
  | cons b r ih =>
    cases i with
    | zero =>
      rw [Memory.writeBytes, Memory.read_writeBytes_other _ _ _ _ (by omega)]
      simp
    | succ k =>
      have := ih (m.write a b) (a + 1) k (by simpa using h)
      rw [Memory.writeBytes, show a + (k + 1) = a + 1 + k by omega, this]
      simp

end Sys2Proof.Machine
end

