-- ==== Sys2Proof/Tests/Slice0.lean ====
section
/-!
SUPPORT. The model's own tests: well-formedness, the worked examples of the spec, and for every statement of the certificates that has hypotheses
states and operands that meet them, clause by clause (the numbers in a name are the conjunct of the statement).
-/
namespace Sys2Proof.Tests
open Sys2Proof.Machine

-- one declaration at a time: each evaluation in the kernel would else take a thread of its own
set_option Elab.async false

/-! ### Small states -/

/-- A block that runs: no reset in progress, clocks on, no fatal error. -/
def running : State := {}
/-- A full admin ring of 16 entries of Pavilion 0, a slot of its completion ring left before the wrap. -/
def ring0 : AdminRing := { enabled := true, base := 0x1000, log2 := 4, cmpl := 0x2000, db := 0x3000, tail := 0, head := 0xFFFFFFF0, next := 15 }
/-- A front end with the ring of Pavilion 0 armed. -/
def fed : State := { front := { admin0En := true, rings := [(0, ring0)] }, watch := { armed := [4096] }, time := { now := 0x100000000 }, retained := { clock := 0x100000000 } }
/-- An access outstanding on fabric port 3 under TXID 1023. -/
def asked (s : State) (q : FabRequest) : State :=
  { s with fab := { s.fab with out := s.fab.out ++ [{ fport := 3, txid := 1023, op := q.op, addr := q.addr, len := q.len, pav := q.pav, data := q.data,
                                                      subop := q.subop, fmt := q.fmt, use := q.use }] } }
def readAsked (s : State) (n : Nat) (u : FabUse) : State := asked s { op := .read, addr := 0x40, len := n, pav := 0, use := u }
/-- An admin command of the Pavilion 0 ring with its eight words. -/
def withCmd (s : State) (l : List Word) : State := { s with front := { s.front with cmds := s.front.cmds ++ [{ pav := 0, entry := 0, words := l }] } }
def ref0 : AdminRef := ⟨0, 0⟩
/-- The same ring with its entry being read. -/
def taking : State := { fed with front := { fed.front with rings := [(0, { ring0 with entryOut := true })] } }
/-- A finished command at the front of its ring's results. -/
def doneCmd : AdminCmd := { pav := 0, entry := 0, words := [0x12340041], phase := .finished 3 5 6 7 8 }
def finished : State := { fed with front := { fed.front with cmds := [doneCmd], doneQ := [ref0] } }
/-- A channel of a Pavilion with two pending entries. -/
def chan0 : Channel := { state := .active, gen := 7, ringBase := 0x4000, ringLog2 := 4, doorbell := 0x5000, txn := 64, tail := 1, head := 0xFFFFFFFF, watched := true }
def withChan (s : State) (i : Nat) (c : Channel) : State :=
  { s with front := { s.front with chans := Table.put {} s.front.chans i c } }
def live0 : State := { (withChan running 4095 chan0) with watch := { armed := [4095] } }
def lodgeUp (s : State) : State := { s with lodge := { s.lodge with running := true } }
def entryL : List Byte := leBytes 8 0x123440 ++ leBytes 8 2
def begunBuf : Buffer := { ring := 9, lines := 2, read := 2, begun := true, got := true, hdr := some ⟨1, false, false, false, 0, 0, 0, 0, 0, 0, 0, 0, 0⟩, ops := [{ oper := some ⟨false, false, [], .nop⟩ }] }
/-- The same after the ring was stopped and started again. -/
def fedAgain (s : State) : State := { s with front := { s.front with rings := [(0, { s.ring 0 with epoch := 1 })] } }
def atClock (n : Nat) (s : State) : State := { s with retained := { s.retained with clock := n } }
/-- A range read whole (R12): its bytes, or how its read failed. -/
def withContent (s : State) (k : ContentKey) (l : List Byte) : State := { s with fab := { s.fab with contents := [{ key := k, len := l.length, got := [(0, l)] }] } }
def withLostContent (s : State) (k : ContentKey) (res : ReadResult) : State := { s with fab := { s.fab with contents := [{ key := k, len := 64, failed := some res }] } }
/-- Channel 0 of Pavilion 0 with one begun buffer of these operations. -/
def busy (l : List OpSlot) : State :=
  let b : Buffer := { ring := 9, lines := l.length + 1, read := l.length + 1, begun := true, got := true, admitted := l.length,
                      hdr := some ⟨l.length, true, true, false, 0, 0, 0x6000, 0, 0, 0, 0, 0, 0⟩, ops := l }
  { (withChan running 0 { chan0 with head := 10, tail := 10, admSeq := l.length, bufs := [b] }) with topo := { routeBuilt := true, state := .ready } }
def op0 : OpRef := ⟨0, 9, 0⟩
def oper (b : OpBody) : Operation := ⟨false, false, [], b⟩
def slotOf (b : OpBody) (ph : OpPhase) : OpSlot := { oper := some (oper b), phase := ph }
def admittedOp (b : OpBody) : State := busy [slotOf b .admitted]
def far : Remote := ⟨0, 65535, 0xFFFFFFF000⟩
def putB : OpBody := .put 0x1000 far 0x1000 0
def inlB : OpBody := .putInline far 32 (List.replicate 32 7)
def getB : OpBody := .get 0x1000 far 0x1000 0
def copyB : OpBody := .copy (.remote far) far 0x1000 0
def kvB : OpBody := .kvmove ⟨1, 7, 2, 0, 0, 0, 0, 0, 1, 0, 1, 0, 1⟩
def atomB : AtomicOp := ⟨far, 3, 2, true, 0x2000, 1, 0, 0, 0⟩
def waitB : OpBody := .wait 0x3000 5 1000
def waiting : OpSlot := { slotOf waitB .running with wid := some 4112 }
def waitS : State := { busy [waiting] with watch := { armed := [4112] }, front := { (busy [waiting]).front with waits := [(4112, op0)] }, time := { now := 1200 }, retained := { clock := 1200 } }
def ended (st : Nat) : OpSlot := { slotOf putB .running with allFormed := true, status := st }
def closing : OpSlot := { slotOf putB .ended with allFormed := true }
def sigDue : PendRecord := ⟨9, ⟨1, true, true, false, 0, 0, 0x6000, 0, 0, 0, 0, 0, 0⟩, false, true⟩
def sigS : State := withChan running 0 { chan0 with recs := [sigDue] }
def runningOp (b : OpBody) : OpSlot := slotOf b .running
def alloc : TagAlloc := { tag := 16383, use := 63, chan := 0, cgen := 7, pav := 0, owner := .op op0, kind := .write, dest := 5, off := 0, len := 4096 }
def outOne : OpSlot := { runningOp putB with allFormed := true, formed := 4096, out := 1 }
def inLocalQ (s : State) (m : Msg) (vc : Nat) : State := { s with xfer := { s.xfer with localQ := [{ msg := m, vc := vc, key := 0, sub := 0 }] } }
def tagged : State := { busy [outOne] with xfer := { tags := { fresh := 16384, uses := [(16383, 63)], used := [alloc] } } }
def rspM (tag use cgen st : Nat) : Msg := { hdr := mkRspHdr (mkReqHdr 1 false 5 0 tag use 0 cgen 0 0 0) 5 st 0 0 }
def arrivedM (m : Msg) (vc : Nat) : Arrived := { msg := m, key := 0, vc := vc, port := none, slots := [] }
def relayA : TagAlloc := { alloc with owner := .relay 4 }
def relayR : CReq := { id := 4, port := none, slots := [], vc := 2, pav := 0, hdr := 0, ordered := false, hasEntry := false, kind := .copy far 64, win := 1, off := 0, len := 16, data := [], issued := true }
def measArgs (l : List Word) : State := lodgeUp (withCmd (withChan running 0 chan0) l)
def meas (m : MeasSlot) (s : State) : State := { s with xfer := { s.xfer with meas := [(255, m)] } }
def sealed : MeasSlot := { state := .opened, handle := 0x70000, objLen := 1, cursor := 1, leaves := [{ index := 0, digest := some (List.replicate 48 3) }] }
def hashing : MeasSlot := { state := .opened, handle := 0x70000, objLen := 1, cursor := 1, leaves := [{ index := 0, entered := [9] }] }
def measPut : OpSlot := { oper := some ⟨false, true, [], .put 0x1000 far 0x1000 255⟩, phase := .running, base := some 0 }
def staged : State := meas { state := .opened, handle := 0x70000, objLen := 4096 } { busy [measPut] with xfer := { stagingWait := [(255, op0)] } }
/-- A window of the Pavilion 0 at the last index. -/
def linD : WinDesc := { kind := .linear, permR := true, permW := true, permA := true, pav := 0, pageLog2 := 0, size := 0x10000, seqCount := 0, maxTokensLog2 := 0, base := 0x100000, layers := 0, hgTotal := 0, pageTokensLog2 := 0, entryBytes := 0 }
def kvD : WinDesc := { linD with kind := .kvPaged, size := 0, seqCount := 4, maxTokensLog2 := 4, layers := 2, hgTotal := 2, pageTokensLog2 := 4, entryBytes := 16 }
def withWin (s : State) (d : WinDesc) : State := { s with xfer := { s.xfer with wins := [(65535, some { desc := d })] } }
def linS : State := withWin running linD
def kvS : State := withWin running kvD
def reqHdr (kind off lc : Nat) : LinkUnit := mkReqHdr kind false 0 0 16383 63 5 7 65535 off lc
def wB : Msg := { hdr := reqHdr kWriteB 0xFFF0 0, body := [9] }
def wS (off : Nat) : Msg := { hdr := reqHdr kWriteS off 31, body := [9, 8] }
def wX (off : Nat) : Msg := { hdr := reqHdr kWriteX off 0, body := [mkExt 16, 8] }
def rB (off : Nat) : Msg := { hdr := reqHdr kReadB off 0 }
def rX (off : Nat) : Msg := { hdr := reqHdr kReadX off 0, body := [mkExt 16] }
def aM (off : Nat) : Msg := { hdr := reqHdr kAtomic off 0, body := mkAtomicArgs 3 2 1 0 0 0 }
def cM (off : Nat) : Msg := { hdr := reqHdr kCopyReq off 0, body := [mkCopyArg far 16 64] }
def kvwM (seq : Nat) : Msg := { hdr := reqHdr kKvWrite 0 0, body := [mkKvAddr seq 1 1 15 1 1 0 1, 5] }
def kvcM : Msg := { hdr := reqHdr kKvCmd 0 0, body := mkKvArgs ⟨65535, 0, 0, 0, 3, 0, 0, 0, 1, 1, 1, 1, 1⟩ 64 }
def onPort (s : State) (m : Msg) (vc : Nat) : State := s.modPane 5 (fun p => { p with rxMsgs := [(vc, { msg := m, key := 0 })] })
def arrivedP (m : Msg) (vc : Nat) : Arrived := { msg := m, key := 0, vc := vc, port := some 5, slots := [] }
def oosS (s : State) : State := { s with retained := { s.retained with oos := true } }
def pagedD : WinDesc := { linD with kind := .paged, pageLog2 := 12 }
def walkR : CReq := { id := 4, port := none, slots := [], vc := 2, pav := 0, hdr := reqHdr kReadX 0xFFF0 0, ordered := false, hasEntry := false, kind := .read, win := 65535, off := 0xFFF0, len := 16, data := [], pages := [15], walking := true }
def walkS : State := readAsked { withWin running pagedD with xfer := { (withWin running pagedD).xfer with creqs := [walkR], nextId := 5 } } 8 (.walk 4)
/-- The KVMOVE of the requester of those KV_WRITEs, its page list known. -/
def dest9 : KvDest := { id := 9, src := 0, pav := 0, cgen := 7, win := 65535, slot := 3, list := some 0x8000 }
/-- A program of one step that moves one B32 number of INPUT to OUTPUT. -/
def moveStep : GStep := { gop := gMove, fnMode := 0, sat := false, write := true, accWr := false, k := 0, g := 0, wrConv := 0, txConv := 0, rowLen := 0, indexBase := 0, segFirst := 0, segCount := 1, txSegFirst := 0, txSegCount := 0, ops := [.input], tx0 := none, tx1 := none, rx0 := none, rx1 := none, chunk := 0, elem := 4 }
def prog0 (t : GStep) : Program := { elemFmt := fB32, chunkLog2 := 12, persistent := false, nseg := 1, accKib := 0, timeoutUs := 100, count := 1, seed := 0, trigger := 0x100, done := 0x200, input := 0x300, output := 0x400, status := 0x500, convs := [], steps := [t], imageLen := 128 }
def persistent (p : Program) : Program := { p with persistent := true }
def gslot0 (p : Program) : GSlot := { tag := 9, pav := 0, slice := 0, prog := p }
def withSlot (s : State) (q : GSlot) : State := { s with gather := { s.gather with slots := [(63, some q)] } }
def run0 : Run := { num := 256, op := none, gen := 0, input := 0x300, output := 0x400, count := 1, seed := 0, done := 0x200, start := 0 }
def gatherB : GatherRunOp := ⟨63, 9, 0x300, 0x400, 1, 0, false, 0x200⟩
def gatherS (q : Option GSlot) : State := { (admittedOp (.gatherRun gatherB)) with gather := { slots := q.toList.map (fun x => (63, some x)) } }
/-- Its image (R278, R280). -/
def image0 : List Byte := leBytes 8 (0x01 + place 1 8 11 + place fB32 24 4 + place 12 32 4) ++ leBytes 8 1 ++ leBytes 8 1 ++ List.replicate 40 0 ++
  leBytes 8 (gMove + place 1 11 1) ++ leBytes 8 0 ++ leBytes 8 (place 1 16 16) ++ leBytes 8 0x20 ++ List.replicate 32 0
def moved : Program := { prog0 moveStep with timeoutUs := 10000, trigger := 0, done := 0, input := 0, output := 0, status := 0, digest := sha384 image0 }
def loadS : State := withCmd running [0x20, 0x40, 128]
def asking (l : List Byte) (r : Run) : Run := { r with steps := [(0, { main := { asked := 1, pieces := [(0, 0, 0, l)] } })] }
def combining (t : GStep) (r : Run) : GSlot := { gslot0 (prog0 t) with runs := 256, run := some r }
def rxStep : GStep := { moveStep with ops := [.rx0], rx0 := some ⟨5, fB32⟩, chunk := 1024 }
def topStep : GStep := { moveStep with gop := gTopkMerge, k := 2 }
def badHeld : HeldChunk := { run := 0, step := 0, src := 5, txi := false, chunk := 0, cls := 4, parts := [(0, fB32, [])] }
def opdM (run : Nat) : Msg := { hdr := mkOpdHdr false 0 5 63 run 0 0 0 0 fB32 1, body := [7] }
def crdM : Msg := { hdr := mkCrdHdr false 0 5 63 0 0 2 }
def armedQ : GSlot := { gslot0 (persistent (prog0 moveStep)) with base := some 3, seen := 3 }
def tenantCmd (s : State) (l : List Word) : State := { s with front := { s.front with cmds := s.front.cmds ++ [{ pav := 5, entry := 0, words := l }] } }
def dueQ : GSlot := { armedQ with seen := 4 }
def queuedQ : GSlot := { gslot0 (prog0 moveStep) with queue := [op0] }
def late0 : Run := { run0 with steps := [(0, { main := { since := some 0 } })] }
def doneRun : Run := { run0 with steps := [(0, { main := { done := 1, asked := 1 } })] }
def persDone : GSlot := { combining moveStep doneRun with prog := persistent (prog0 moveStep) }
def badRx : GSlot := { combining rxStep (asking [] run0) with held := [badHeld] }
def badList : List Byte := leBytes 4 0x3F800000 ++ leBytes 4 0 ++ leBytes 4 0x40000000 ++ leBytes 4 1
def topQ : GSlot := combining topStep (asking badList run0)
def moveQ : GSlot := combining moveStep (asking [0, 0, 0x80, 0x3F] run0)
def unarmedQ : GSlot := gslot0 (persistent (prog0 moveStep))
def opdPartM (run : Nat) : Msg := { hdr := mkOpdHdr false 0 5 63 run 0 0 0 1 fB32 1, body := [7] }
/-- A pod of two nodes on the x axis. -/
def pod2 : InstallTable := { ex := 2, ey := 1, ez := 1, master := 0, podId := 7, epoch := 3, nodes := List.replicate 2 ⟨1, List.replicate 6 0⟩, digest := [] }
def placed (s : State) : State := { s with topo := { s.topo with install := some pod2, routeBuilt := true, state := .ready, nodeReady := true } }
def createWords : List Word := [0x30, 0x3F00010115, 0x0101020000, 0xFFFF000000100FF0, 0x3FFF, 0x0C00000000001000, 0x2000, 0x3000]
def creating (l : List Word) : State := placed (lodgeUp (withCmd running l))
def tenant5 : Tenant := { num := 5, enc := true, block := ⟨0, 0, 0, 2, 1, 1⟩, clusters := 1, slices := 1, fabPorts := 0x3F, chBase := 4080, chCount := 16, winBase := 0, winCount := 65536, quota := 16383 }
def withTenant (s : State) (t : Tenant) : State := { s with gate := { s.gate with tenant := some t } }
def byTenant (s : State) (l : List Word) : State := { s with front := { s.front with cmds := s.front.cmds ++ [{ pav := 5, entry := 0, words := l }] } }
def ref5 : AdminRef := ⟨5, 0⟩
def workingCmd (s : State) (l : List Word) : State := { s with front := { s.front with cmds := s.front.cmds ++ [{ pav := 0, entry := 0, words := l, phase := .working }] } }
def tearing : State := workingCmd (withTenant running { tenant5 with teardown := some ref0 }) [0x31, 5]
def killing : State := let s := workingCmd (withTenant running tenant5) [0x40, 0x0501, 5]; { s with gate := { s.gate with killing := [(ref0, 5)] } }
def chan5 : Channel := { chan0 with pav := 5 }
def rotS (q : RotRequest) (now : Nat) : State :=
  let s := workingCmd running [0x40, 0x0403]
  { s with lodge := { s.lodge with rot := [{ req := q, sent := 0, cmd := some ref0, slot := none }] }, time := { now := BitVec.ofNat 64 now }, retained := { clock := now } }
def spdmWords (len : Word) : List Word := [0x40, 0x0401, 0x1000, len, 0x2000, 4096]
def up (s : State) (p : PortIx) : State := s.modPane p (fun q => { q with link := .up, anew := false, blockReset := false })
def timing : State := { (up running 5).modKeys 5 (fun k => { k with session := .up }) with time := { syncEn := true, now := 12000 }, retained := { clock := 12000 } }
def held (s : State) (st : TimeState) (last now : Nat) (h : Option Nat) : State := { s with time := { s.time with state := st, lastValid := last, now := BitVec.ofNat 64 now, holdSince := h }, retained := { clock := now } }
def gotPane (s : State) (x : RxPane) : State := s.modPane 5 (fun q => { q with rxq := [x] })
def timeHdr : Word := mkPaneHdr ptTime 0 0 0 0 15 0 0
def timeBad : RxPane := { hdr := timeHdr, body := List.replicate 240 0, slot := 0, tick := 5 }
def timeGood : RxPane := { timeBad with body := KeySlot.null.ctlBody 0 0 timeHdr [1, 2, 0, 0, 1, 0, 0, 3] }
def parents : State := (up (up running 4) 5).modPTime 5 (fun q => { q with heard := true, farState := 2, farDepth := 3 }) |>.modPTime 4 (fun q => { q with heard := true, farState := 2, farDepth := 3 })
def ttWords (epoch : Word) : List Word := [0x40, 0x0201, 0x20, 0x1000, 1, 0x100000000, epoch]
def ttBytes (start len slot : Nat) : List Byte := leBytes 8 (start + place len 32 20 + place slot 52 12)
def ttS (epoch : Word) : State := { lodgeUp (withCmd running (ttWords epoch)) with time := { now := 5 }, retained := { clock := 5 } }
def table0 : TimeTable := { entries := [(0, 100, 1)], period := 1024, epoch := 1024 }
def spdmGot (l : List Byte) : State := withContent (lodgeUp (withCmd running (spdmWords 4))) (.admin ref0) l
def upS : State := up running 5
def rxS (x : RxPane) : State := gotPane upS x
def nullHdr (type : Nat) : Word := mkPaneHdr type 0 0 0 65535 15 0 0
def tagPane (type : Nat) (text : List Byte) : RxPane := { hdr := nullHdr type, body := KeySlot.null.ctlBody 0 0 (nullHdr type) text }
def untagged (type : Nat) (code : Byte) : RxPane := { hdr := nullHdr type, body := code :: List.replicate 239 0 }
def cullet1 : CulletPane := { seq := 0, fence := false, vc := 1, key := 0, sub := 0, enc := false, body := [] }
def withCullet (s : State) (l : List CulletPane) : State := s.modPane 5 (fun q => { q with cullet := l, txNext := l.length })
def nakS (x : RxPane) : State := withCullet (rxS x) [cullet1]
/-- A codeword of an empty pane under its CRC and its check bytes, and one that nothing corrects. -/
def codeword (pane : List Byte) : List Byte := fecEncode pane
def dataHdr (seq : Nat) : Word := mkPaneHdr ptData 2 0 seq 65535 15 0 0
def dataPane (seq : Nat) : RxPane := { hdr := dataHdr seq, body := KeySlot.null.dataBody seq (dataHdr seq) [] }
def fenceHdr (seq : Nat) : Word := mkPaneHdr ptFence 2 0 seq 65535 15 0 0
def fencePane (void : Bool) (seq : Nat) (text : List Byte) : RxPane := { hdr := fenceHdr seq, body := KeySlot.null.fenceBody void seq (fenceHdr seq) text }
def fenceBad (code : Byte) : RxPane := { hdr := fenceHdr 1, body := [code, 1] ++ List.replicate 238 0 }
def fenceSlot : PoolSlot := { seq := 3, vc := 11, waiting := false, fenceKey := some 5 }
def freeSlot : PoolSlot := { seq := 2 ^ 64 - 1, vc := 11, waiting := false }
def slotS (x : PoolSlot) : State := upS.modPane 5 (fun q => { q with slots := [x] })
def gapS : State := { (upS.modPane 5 (fun q => { q with gaps := [(1, 0)], held := [⟨2, false, 1, 0, 0, none⟩], rxNext := 1 })) with time := { now := 900 }, retained := { clock := 900 } }
def ackS (n : Nat) : State := { (withCullet upS [cullet1]).modPane 5 (fun q => { q with ackStart := some 0, ackExpiries := n }) with time := { now := 1800 }, retained := { clock := 1800 } }
def creditS : State := { upS with time := { now := 24000 }, retained := { clock := 24000 } }
def resumeX : RxPane := tagPane ptCtrl ([1, 0, 0, 0, 0, 0, 0, 9, 0, 0, 0, 1] ++ List.replicate 8 0)
def resumingS : State := (nakS resumeX).modPane 5 (fun q => { q with resuming := true, farPlId := 9 })
def purging (l : List Word) : State := lodgeUp (withCmd (withCullet upS [{ cullet1 with key := 15 }]) l)
def junk : List Byte := (List.range 272).map (fun i => BitVec.ofNat 8 (i * i + 7))
def zeros : List Byte := List.replicate 272 0
def badCrc : List Byte := codeword (1 :: List.replicate 255 0)
def dataUnits0 : List Byte := List.replicate 240 0
def nakText : List Byte := [0, 1]
def takenQ (type : Nat) (text : List Byte) : Pane := (({ ((rxS (tagPane type text)).port 5).pane with rxq := [] } : Pane).takeFields (nullHdr type) 0).getD {}
def takenN : Pane := (({ ((nakS (tagPane ptNak nakText)).port 5).pane with rxq := [] } : Pane).takeFields (nullHdr ptNak) 0).getD {}
def dummy (body : List Byte) : List Byte := let b := beBytes 8 (mkPaneHdr ptIdle 0 0 0 65535 15 0 0).toNat ++ body; b ++ beBytes 8 (crc64 b)
def goodWord : List Byte := codeword (dummy (List.replicate 240 0))
/-- The bytes of a codeword as they come in over the lanes of a port in service: scrambled (R366, R368). -/
def scr (w : List Byte) : List Byte := ((upS.port 5).descramble 0 w).1
/-- A response waits for its pane. -/
def sendS : State := upS.modPane 5 (fun q => { q.modVc 1 (fun c => { c with last := 64 }) with txq := [{ msg := { hdr := mkRspHdr 0 0 0 0 0, body := [] }, vc := 1, key := 0, sub := 0 }] })
def prbsS : State := running.modLane 5 (fun l => { l with testCtl := 0x1FFF0100, trainCtl := l.trainCtl ||| 2 })
def trainMsgS : State := running.modPane 5 (fun q => { q with link := .training }) |>.modTrain 5 (fun t => { t with msg := some { code := 1, seq := 3, args := [] } })
def retrainS : State := running.modPane 5 (fun q => { q with link := .retraining })
/-- A TRAIN pane: code, flags, TSEQ 1, the far end's serial 5, its lanes and steps, cause 3, round, arguments. -/
def trainPane (code flags round : Byte) (args : List Byte) : RxPane :=
  { hdr := nullHdr ptTrain, body := padTo 240 ([code, flags, 0, 1, 0, 0, 0, 0, 0, 0, 0, 5, 0x1F, 0xFF, 0xF, 0, 3, round, 0, 0, 0, 0, 0, 0] ++ args) }
def training (x : RxPane) (f : Train → Train) : State :=
  (running.modPane 5 (fun q => { q with link := .training, rxq := [x] })).modTrain 5 f
def lead (s : State) : State := { s with global := { s.global with serial := 1 } }
def follow (s : State) : State := { s with global := { s.global with serial := 9 } }
def cfgArgs : List Byte := [0x0F, 0xFF, 12, 1, 1]
def copied : TrainMsg := { code := tmConfig, seq := 1, args := cfgArgs }
def identArgs : List Byte := [0, 0, 4, 0, 0, 0, 0, 7]
def usableLane : Lane := { usable := true, cdr := true }
def lanes13 : Table Lane := (List.range 13).map (fun k => (k, usableLane))
def tuned (x : RxPane) (ph : TrainPhase) (f : Train → Train) : State := lead (training x (fun t => f { t with phase := ph, farSerial := 5, round := 2 }))
def goodMarker (count : Nat) : List Byte := mkMarker 0 0 12 1 true count
def podP : InstallTable := { pod2 with nodes := List.replicate 2 ⟨5, List.replicate 6 1⟩ }
def identS (x : RxPane) : State := { (tuned x .ident id) with topo := { install := some podP } }
def goAt (x : RxPane) (ph : TrainPhase) : State := tuned x ph (fun t => { t with cfg := ⟨0xFFF, 12, 2, 1⟩ })
def loopX : RxPane := trainPane 0x0A 0 2 [1, 0x1F, 0xFF]
def loopX0 : RxPane := trainPane 0x0A 0 2 [0, 0, 0]
def loopS (x : RxPane) : State := (running.modPane 5 (fun q => { q with rxq := [x] })).modLane 5 (fun l => { l with trainCtl := 2, farLoop := some 1 })
def lane12 (s : State) (f : Lane → Lane) : State := s.modLane 5 (fun l => { l with lanes := [(12, f {})] })
def activeAll : State := upS.modLane 5 (fun l => { l with active := 0x1FFF, width := 12, rxActive := 0x1FFF, rxWidth := 12, lanes := [(0, { lastCount := some 7 })] })
def locking : State := { (lane12 (running.modPane 5 (fun q => { q with link := .training })) (fun l => { l with cdr := true, lastCount := some (2 ^ 56 - 1), markers := 1 })).modTrain 5 (fun t => { t with phase := .lock }) with time := { now := 100 }, retained := { clock := 100 } }
def late (f : Train → Train) (now : Nat) : State := { lead (training (untagged ptIdle 0) f) with time := { now := BitVec.ofNat 64 now }, retained := { clock := now } }
def tuneLate : State := { (training (untagged ptIdle 0) (fun t => { t with phase := .tune })).modLane 5 (fun l => { l with lanes := lanes13 }) with time := { now := 72000000 }, retained := { clock := 72000000 } }
def ratios (m : Nat) : List (Nat × Nat) := (List.range 13).map (fun k => (if k < m then 0 else 2 ^ 30, 2 ^ 30))
def measuring (f : Train → Train) : State := ((training (untagged ptIdle 0) (fun t => f { t with phase := .measure })).modLane 5 (fun l => { l with lanes := lanes13, trainCtl := 0 }))
def downS : State := { (running.modLane 5 (fun l => { l with trainCtl := place 1 32 13 + 1 })) with time := { now := 12000000 }, retained := { clock := 12000000 } }
def cfg0 : TrainMsg := { code := tmConfig, seq := 1, args := [0x0F, 0xFF, 12, 1, 0] }
def ctrlX (text : List Byte) : RxPane := tagPane ptCtrl text
def takenC (text : List Byte) : Pane := (({ ((rxS (ctrlX text)).port 5).pane with rxq := [] } : Pane).takeFields (nullHdr ptCtrl) 0).getD {}
def laneS (f : LaneUnit → LaneUnit) : State := upS.modLane 5 (fun l => f { l with active := 0xFFF, width := 12, rxActive := 0xFFF, rxWidth := 12, wide := 0x1FFF, farUsable := 0x1FFF, lanes := lanes13 })
def ctrlS (text : List Byte) (f : LaneUnit → LaneUnit) : State := gotPane (laneS f) (ctrlX text)
def leadChange : WidthChange := { own := true, reason := 4, max := 6, since := 0 }
def ackedChange : WidthChange := { leadChange with acked := true, active := 0x3F, width := 6 }
def berS : State := laneS (fun l => { l with lanes := lanes13.map (fun e => (e.1, if e.1 = 3 then { e.2 with berOver := true } else e.2)) })
def reqText : List Byte := ctrlWidthReq 4 0x1FFF 6 5
def reqNone : List Byte := ctrlWidthReq 4 0 6 5
def ackText : List Byte := ctrlWidth 0x11 0 0x3F 6
def ackBad : List Byte := ctrlWidth 0x11 0 0x3E 5
def goText : List Byte := ctrlWidth 0x12 0 0x3F 6
def lateChange : State := { (laneS (fun l => { l with change := some leadChange })) with time := { now := 24000 }, retained := { clock := 24000 } }
def spareS : State := (laneS (fun l => { l with spareAt := some 0 })).modPane 5 (fun q => { q with link := .degraded })
def idleLate (f : LaneUnit → LaneUnit) (n : Nat) : State := { (laneS (fun l => f { l with idleSince := some 0 })) with time := { now := BitVec.ofNat 64 n }, retained := { clock := n } }
def wakeS (f : LaneUnit → LaneUnit) : State := (laneS f).modPane 5 (fun q => { q with ackDue := true })
def wakeDown (on : BitVec 96) : State := { ((wakeS (fun l => { l with lpsState := 4, trainCtl := l.trainCtl ||| 1 })).modPane 5 (fun q => { q with link := .down })) with power := { domainsOn := on } }
def opticsS (f : LaneUnit → LaneUnit) (now : Nat) : State := { lodgeUp (laneS f) with topo := { board := some { ports := [], digest := [] } }, time := { now := BitVec.ofNat 64 now }, retained := { clock := now } }
def domS (d : Nat) (e : Engine) : State := { running with power := { running.power with domReqs := [{ domain := d, since := 0 }], domainsOn := 0, engines := [(11, e)] } }
def noAckS : State := { domS 90 {} with time := { now := 1200000 }, retained := { clock := 1200000 } }
def engS (e : Engine) (now : Nat) : State := { running with power := { running.power with engines := [(11, e)], domainsOn := BitVec.allOnes 96 }, time := { now := BitVec.ofNat 64 now }, retained := { clock := now } }
def engWork (e : Engine) : State := { engS e 0 with front := { running.front with chans := [(7, { state := .active, bufs := [{ ring := 0, lines := 2 }] })] } }
def droop0 : DroopReading := ⟨0, 0, 0, 0, 0⟩
def droop3 : DroopReading := ⟨2, 0, 3, 1, 0⟩
def droopS (l held now : Nat) : State := { laneS id with power := { running.power with level := l, fallStart := held }, time := { now := BitVec.ofNat 64 now }, retained := { clock := now } }
def rootPub : BitVec 768 := 0x8b32dce63b7c56165c32ae2624b6ebb53fd6f6ad7600013f75b8db3205a268e118276ef1dbe9bdc9d82be8fe7ce7cb03247cf00ff6249dd023b6b14f7266ad117ffa29c115a812b908fbe4c4d42e35c8ca4caa5420d47748ac7ffc0dda56e2f1
def chainPart0 : List Byte := beBytes 240 0xbb04000097c9eeb6900664b9e40c8cc4f257f083f11c5bf310d2283a72ff8702e3cad4457beed7ee845de29c2f154766ddf2326c308201b230820138a00302010202142cdd338c32325eb418b2f434d48b737a8aca5e45300a06082a8648ce3d040303300f310d300b06035504030c04726f6f743020170d3236313132353138343133355a180f32303534303431313138343133355a300f310d300b06035504030c04726f6f743076301006072a8648ce3d020106052b81040022036200048b32dce63b7c56165c32ae2624b6ebb53fd6f6ad7600013f75b8db3205a268e118276ef1dbe9bdc9d82be8fe7ce7cb0324
def chainPart1 : List Byte := beBytes 240 0x7cf00ff6249dd023b6b14f7266ad117ffa29c115a812b908fbe4c4d42e35c8ca4caa5420d47748ac7ffc0dda56e2f1a3533051301d0603551d0e04160414766092dd9550673b7dbeb8aa8e5463e1295ba841301f0603551d23041830168014766092dd9550673b7dbeb8aa8e5463e1295ba841300f0603551d130101ff040530030101ff300a06082a8648ce3d0403030368003065023100d302cb83970395c839f717b97e64bbafd9928ff2a56350525450d5954a70b859d2e9b616c45e252a7ab48da3b14ce7d102302dd5ced2bcf7bd95edb66d13774c36441b0939c10f801f40e704cd5d65f923a8690061ada8ff
def chainPart2 : List Byte := beBytes 240 0x1fc9dd36a42ab42eb06c308201593081df02147c46f18f6a6bfea35767e4f064c176cf5deeb9f0300a06082a8648ce3d040303300f310d300b06035504030c04726f6f743020170d3236313132353138343133355a180f32303534303431313138343133355a3010310e300c06035504030c05696e7465723076301006072a8648ce3d020106052b810400220362000452b45590c83222232d749396ad49f950a82497ffcc8e054e765a80c4b045a7fb7839900f2492b6c9baad250361713dd8b46eecde562a7fac22ef520f1b1711e0524cf142132dedde7ba593dc7179e6020195bec2101bcb570ad53131e0189559
def chainPart3 : List Byte := beBytes 240 0x300a06082a8648ce3d0403030369003066023100e2c20091cd34e5ad7da081ba8486e6716e6cd53e46712174e72971bbd5287c17f3714b16804ff7cf885c88abc39d12980231009bd60d24f0973a1e89f2dfe96fc4bc9d736f66a40c2709220bbcfc74494f548148e2c64a1c067ec07bc4c2190a586300308201703081f702144fd96ea7299d4deb2acfe9b5afaa773736457103300a06082a8648ce3d0403033010310e300c06035504030c05696e7465723020170d3236313132353138343133355a180f32303534303431313138343133355a3027310a300806035504030c01783119301706035504051310303030
def chainPart4 : List Byte := beBytes 240 0x303030303030303030303030323076301006072a8648ce3d020106052b8104002203620004c84007b99339decaf8ddf0fd730314bc58d6eb3dcea174df757525768770009749388313c8aa11ac642ce5513c76aecb89ca15336b82b2ca60b1cda6af4b0b99139754fb29385efc50cffe2b05cfb5fdf94b33e120304012df20eebc4c47cbea300a06082a8648ce3d0403030368003065023003070b8de801c6c312d3b4914b28c31e0a41e35574b1441fb5f06c2c73d4193a7d79b63e42aff51cd8206ef24ab5fc57023100f44799bb4730cf9f5509788557c1fdf50c7b5752ef75b387679714e7e4b0f7524300a43bbb
def chainPart5 : List Byte := beBytes 11 0x569e6f882df73ae888a630
def farChain : List Byte := chainPart0 ++ chainPart1 ++ chainPart2 ++ chainPart3 ++ chainPart4 ++ chainPart5
def gPub : Nat := ecGx * 2 ^ 384 + ecGy
def hello1 : List Byte := beBytes 32 7 ++ beBytes 96 gPub ++ beBytes 8 1
def reply2 : List Byte := beBytes 32 9 ++ beBytes 96 gPub ++ beBytes 8 2
def replyBad : List Byte := beBytes 32 9 ++ beBytes 96 12345 ++ beBytes 8 2
def secMsg (ty : Nat) (sn : BitVec 32) (f : List Byte) : Msg := mkMgmt 0 1 1 0 (secUnit ty 5 f.length sn :: dataUnits f)
def secS (m : Msg) (f : PortKeys → PortKeys) : State :=
  let s := placed (lodgeUp upS)
  { ((s.modKeys 5 f).modLane 5 (fun l => { l with farSerial := 2 })) with lodge := { s.lodge with inbound := [{ port := 5, msg := m }] }, global := { s.global with serial := 1 }, ident := { s.ident with rootKeys := [rootPub] } }
def asFollower (s : State) : State := { s with global := { s.global with serial := 9 } }
def hs0 : Handshake := { session := 77, start := 0, ephPriv := 5, hello := hello1 }
def shaking (h : Handshake) (k : PortKeys) : PortKeys := { k with session := .handshake, leader := true, hs := some h }
def sigOk : List Byte := beBytes 96 1165104579657601434203290290079941332444141812373492733751944718491610938851753437493927653080915446426297508141185890113193188804378180525798051526267608484869261874046907649823479465778873193115766447258546530184059505522026355941
def sigOff : List Byte := beBytes 96 1165104579657601434203290290079941332444141812373492733751944718491610938851753437493927653080915446426297508141185888168337604724302670001753103521524462259395858617248550345996505954173683645284322394852309459700409055192502176911
def hsProof (r c : List Byte) : Handshake := { hs0 with reply := r, farChain := c, farTotal := c.length }
def m0 : List Byte × List Byte := ([], [])
def hsDone : Handshake := { hs0 with proved := true }
def keyed (k : PortKeys) : PortKeys := { k with master := some m0, leader := true }
def waiting20 : State := { (secS (secMsg 5 0 []) (fun k => shaking hs0 k)) with time := { now := 24000000 }, retained := { clock := 24000000 } }
def failedS : State := { (secS (secMsg 5 0 []) (fun k => { k with session := .failed, attempts := 1, retryAt := some 5, fail := 2 })) with time := { now := 5 }, retained := { clock := 5 } }
def certF (off total : Nat) (l : List Byte) : List Byte := beBytes 2 off ++ beBytes 2 total ++ l
def slotK (gen : BitVec 32) (panes : Nat) : KeySlot := { KeySlot.null with enc := true, gen := gen, panes := panes }
def inSession (k : PortKeys) : PortKeys := { k with session := .up, master := some m0, number := 3, sessions := 1 }
def keyS (ty : Nat) (f : List Byte) (g : PortKeys → PortKeys) : State := withTenant (secS (secMsg ty 3 f) (fun k => g (inSession k))) tenant5
def offerF (i enc gen : Nat) : List Byte := beBytes 1 i ++ beBytes 1 enc ++ beBytes 4 gen ++ List.replicate 32 7
def rot5 : Rotation := { key := 5, gen := 2, nt := [], since := 0 }
def dueS (f : PortKeys → PortKeys) : State := keyS 0x12 (List.replicate 13 0) f
def podPub : BitVec 768 := 0x56ac41969b9bbebdc54d82b8f7bfb383bad6ac79546b1b35eb63bd2fc7c89d41ea3fcf6d722d7637b6e25d672378e10e39939da472606cb792e6fa682e0cae1a97cbcf92881d632e8d6cb708cc42e26f28eaf795670b8a024574874c8899c913
def installBytes : List Byte := beBytes 17 0x4954424e01020101000000007700000001 ++ List.replicate 47 0 ++ beBytes 14 0x0100000000000000010300000103 ++ List.replicate 18 0 ++ beBytes 14 0x0200000000000000010300000103 ++ List.replicate 18 0 ++ beBytes 96 0x3e23cc6ec6696002630e83fbe74abf40484c675dae9047c8f7193a643540e7ada966d7aecbee05006f27abb85995fb00b527e9e0d86ba9010562057c69cf72c3ef6146e071538fed48662b4ff8e0947e7d343b48b65eb2a919bfa91c9c718a4f
def boardBytes : List Byte := beBytes 9 0x5442424e0100000001 ++ List.replicate 23 0 ++ beBytes 11 0x0f100000010060ea60ea01 ++ List.replicate 117 0 ++ beBytes 11 0x0f100000010060ea60ea01 ++ List.replicate 117 0 ++ beBytes 11 0x0f100000010060ea60ea01 ++ List.replicate 117 0 ++ beBytes 11 0x0f100000010060ea60ea01 ++ List.replicate 117 0 ++ beBytes 11 0x0f100000010060ea60ea01 ++ List.replicate 117 0 ++ beBytes 11 0x0f100000010060ea60ea01 ++ List.replicate 117 0 ++ beBytes 96 0x035524eb3c550deae10fa2444848714eb8cfac6662d75122332e2cff410e53c1b516cacd385c6f4f7cc04a0f489619e6c89e26f636d12423f1bbbd4556a6ad521164010594d5e6e7cbaa0648bdf0dc4f0ace1ad396c99e1e8d3e24de9a8ea391
def netS (f : Topo → Topo) : State := let s := placed (lodgeUp upS); { s with topo := f s.topo, global := { s.global with serial := 1 }, ident := { s.ident with podKey := podPub } }
def heardS (m : Msg) (f : Topo → Topo) : State := let s := netS f; { s with lodge := { s.lodge with inbound := [{ port := 5, msg := m }] } }
def waveMsg (sub n v : Nat) : Msg := mkMgmt 0 1 2 sub (bitmapUnits n v)
def linkMsg (link : Nat) (up : Bool) (tick : Word) : Msg := mkMgmt 0 1 3 0 [linkEventUnit link up 1 tick]
def nodeMsg (node event : Nat) (tick : Word) : Msg := mkMgmt 0 1 4 0 [nodeEventUnit node event tick]
def tableS : State := netS (fun _ => { tableCounter := some 1 })
def unbuilt : State := netS (fun t => { t with routeBuilt := false })
def boundS (f : Topo → Topo) (now : Nat) : State :=
  let s := netS f
  { s with lodge := { s.lodge with released := true }, time := { now := BitVec.ofNat 64 now, isMaster := true }, retained := { clock := now } }
def trainingS : State := (boundS (fun t => { t with nodeReady := false }) 12000000000).modPane 3 (fun q => { q with link := .training })
def readyS : State := boundS (fun t => { t with nodeReady := false, ports := [(2, { disabled := true })] }) 5
def reportS (ready : Nat) (now : Nat) : State := boundS (fun t => { t with reported := false, ready := ready }) now
def installAt : InstallTable := readInstall installBytes
def boardAt : BoardTable := { ports := ((List.range 6).map (fun p => slice boardBytes (32 + 128 * p) 128)).map readBoardPort, digest := sha384 boardBytes }
def annealS (l : List Word) (as : List Anneal) (f : PodTime → PodTime) : State :=
  let s := creating l
  { up s 0 with lodge := { s.lodge with anneals := as }, time := f s.time }
def anneal0 : Anneal := { id := 7, pav := 0, initiator := 0, ta := 0, state := .annealed, applied := true }
def annealMsg (sub pav initiator id count last : Nat) : Msg := mkMgmt 0 1 5 sub [annealUnit pav initiator id count last]
def annealIn (m : Msg) (as : List Anneal) : State := let s := annealS [] as id; { s with lodge := { s.lodge with inbound := [{ port := 0, msg := m }] } }
def pausable : Channel := { chan0 with pav := 0, bufs := [{ ring := 0, lines := 2, begun := true, got := true }] }
def gotAs (k : ContentKey) (r : ReadResult) : ContentRead := match r with
  | .data l => { key := k, len := l.length, got := [(0, l)] }
  | x => { key := k, len := 64, failed := some x }
/-- Both tables read, or their reads failed. -/
def tableGot (x y : ReadResult) : State := { tableS with fab := { tableS.fab with contents := [gotAs .installation x, gotAs .board y] } }
def mgmtRx (m : Msg) : State := lodgeUp (upS.modPane 5 (fun q => { q with rxMsgs := [(1, { msg := m, key := 0 })] }))
def odd : Msg := mkMgmt 0 1 9 0 [0]
def lostSec : Msg := mkMgmt 0 1 1 0 [secUnit 9 5 0 0]
def goodSec : Msg := mkMgmt 0 1 1 0 [secUnit 5 5 0 0]
def noticeS : State := { lodgeUp running with lodge := { (lodgeUp running).lodge with notices := [⟨3, 7, [1]⟩, ⟨4, 8, []⟩], noticeRing := 0x8000000000003008, produced := 300, noticeCons := 45 } }
def belvCmd (words : List Word) (sets : Table BelvSet) : State := { lodgeUp (withCmd running ([0x40, 0x0701] ++ words)) with belv := { sets := sets } }
def belvTenant (words : List Word) (sets : Table BelvSet) : State := { lodgeUp (byTenant running ([0x40, 0x0701] ++ words)) with belv := { sets := sets } }
def onSet (owner : Nat) : BelvSet := { enabled := true, owner := owner, ring := 0x1000, log2 := 4, list := [16 * 1024], periodUs := 10 }
def enableW (trace : Word) : List Word := [0x107, 0x400000000001000, 0x2000, 0xA00000002, trace]
def sampleS (f : BelvSet → BelvSet) (level : Nat) : State := { running with belv := { sets := [(7, f (onSet 0))] }, time := { now := 12000 }, retained := { clock := 12000 }, power := { running.power with level := level } }
def rep (c : Nat) : ErrorReport := mkReport c (unit := 3) (checker := 0x31)
def fltS (f : Flt → Flt) (now : Nat) : State := { running with flt := f running.flt, time := { now := BitVec.ofNat 64 now }, retained := { clock := now } }
def capAs (k : ErrClass) (f : Flt) : Flt := { f with capture := some ⟨k, rep 1, 5⟩ }
def quietS (v : Nat) : State := withChan { (withTenant (lodgeUp running) tenant5) with flt := { running.flt with quiet := [(v, some 0)] }, time := { now := 240000 }, retained := { clock := 240000 } } 9 { chan0 with pav := v, bufs := [{ ring := 0, lines := 2, begun := true, got := true }] }
def killedS : State := { (withTenant (lodgeUp running) tenant5) with flt := { running.flt with hanging := [5, 6] } }
def injS (checker : Nat) (mode : BitVec 2) : State := fltS (fun f => { f with injArmed := true, injMode := mode, injChecker := BitVec.ofNat 10 checker }) 0
def pulseS : State := { fltS (fun f => { f with pulseStart := some 0 }) 1200 with pins := { faultOut := true } }
def restoreBytes : List Byte := beBytes 112 0x01000000000000004d000000000000001314d4547d8f8098b073fb103f6ef36e3c2f6f7fcfaa13c9b5784f64ee162d0fb2cd7d79f2746bfdf7ecc281ae0eaa55cfb431a76a652dcbcf5059cdbcc9cb23ed9f32529e70b807fbbb6afefd0abeb924f5914ff7cd4313c6a980ebdd858987
def worn (s : State) : State :=
  { s with front := { s.front with chans := [(4095, { state := .active, gen := 255 })], rings := [(5, { enabled := true })] }, belv := { sets := [(1, {})] }, gate := { s.gate with tenant := some tenant5, records := [⟨0, 0, 0, 0, []⟩] },
           lodge := { s.lodge with running := true, anneals := [anneal0] }, ports := s.ports.map (fun q => { q with pane := { q.pane with retired := 32 } }) }
def fataled (f : FatalState) (now : Nat) : State := { (worn upS) with flt := { running.flt with fatal := some f }, time := { now := BitVec.ofNat 64 now }, retained := { clock := now } }
def askedS (n : Nat) : State := { (worn upS) with flt := { running.flt with resetDue := some (ref0, n) } }
def resettingS (r : ResetRun) : State := { upS with resetRun := some r, power := { upS.power with clocksLost := false } }
def warmRun : ResetRun := { scope := .warm, source := 3, fatalCause := 0x30, recorded := true }
def coldRun : ResetRun := { scope := .cold, source := 1, fatalCause := 0, recorded := true }
def resetCmd (fn : Nat) (w : List Word) : State := { lodgeUp (withCmd running ([0x40, BitVec.ofNat 64 fn] ++ w)) with global := { running.global with serial := 1 }, ident := { running.ident with podKey := podPub } }
def outS (w : List Word) : State := { resetCmd 0x0503 w with retained := { oos := true, nonce := 77, history := [1, 2], clock := 9 } }
def hist (l : List Nat) (clock : Nat) (s : State) : State := { s with retained := { s.retained with history := l, clock := clock } }
def frozenS : State := { running with power := { running.power with frozen := true } }

/-! ### Helper lemmas for hypotheses about `Except` -/

theorem ok_of {α ε : Type} {x : Except ε α} {a : α} (h : x.toOption = some a) : x = .ok a := by
  cases x with
  | ok b => simp [Except.toOption] at h; rw [h]
  | error e => simp [Except.toOption] at h

theorem err_of {α : Type} {x : Except Nat α} {n : Nat} (h : (match x with | .ok _ => none | .error e => some e) = some n) : x = .error n := by
  cases x with
  | ok b => simp at h
  | error e => simp at h; rw [h]

/-! ### Well-formedness: for each check of `Instr.wf`, commands just outside its range, which it refuses, and some just inside, which it takes -/

def refusedBy (l : List Instr) : Bool := l.all (fun i => !i.wf)
def takenBy (l : List Instr) : Bool := l.all Instr.wf
def rel0 : RotRelease := ⟨0, 0, 0, 0, 0, 0, 0, [0], []⟩

theorem test_wf_pavilions_and_rings :
    refusedBy [.adminDoorbellPoll 16, .adminDoorbellNotify 16, .adminDoorbellReadDone 16 .fault, .adminEntryReadDone 16 .ue, .adminEntryRetry 16, .tagGrant 16,
      .hangDeclared 16, .createChannel ⟨16, 0⟩, .measSeal ⟨0, 2 ^ 32⟩] = true ∧
    takenBy [.adminDoorbellPoll 15, .adminEntryReadDone 15 .ue, .hangDeclared 15, .measSeal ⟨15, 2 ^ 32 - 1⟩] = true := by decide +kernel

theorem test_wf_channels_and_operations :
    refusedBy [.doorbellNotify 4096, .doorbellReadDone 4096 .fault, .ringEntryReadDone 4096 .ue, .bufferReadDone 0 (2 ^ 32) .ue, .bufferComplete 4096, .signalWordWrite 4096,
      .engineStopped 0 (.copy 4), .engineStopped 0 (.gather 6), .channelRetireComplete 4096, .drainComplete 4096, .put ⟨4096, 0, 0⟩, .nop ⟨0, 2 ^ 32, 0⟩, .wait ⟨0, 0, 1024⟩,
      .semaphoreReadDone ⟨0, 0, 1024⟩ .fault] = true ∧
    takenBy [.put ⟨4095, 2 ^ 32 - 1, 1023⟩, .engineStopped 4095 (.gather 5), .bufferReadDone 4095 0 .ue] = true := by decide +kernel

theorem test_wf_read_results : (ReadResult.data (List.replicate (2 ^ 20 + 1) 0)).wf = false ∧ (ReadResult.data (List.replicate 4096 0)).wf = true := by
  constructor <;> simp only [ReadResult.wf, List.length_replicate] <;> decide

theorem test_wf_tags_slots_and_accesses :
    refusedBy [.completionTimeout 16384, .relayTimeout 16384, .waitWatchNotify 6224, .watchRefused 6224, .fabricVisibleResponse 16 0, .fabricFaultResponse 0 1024,
      .fabricUeResponse 16 0, .fabricPartReset 16 0, .fabricDataResponse 0 0 [], .fabricDataResponse 0 0 (List.replicate 257 0), .slotFreed 0 (2 ^ 64), .triggerPoll 64,
      .triggerObserved 64 .fault, .runStart 64, .runEnd 64, .triggerWatchNotify 64, .chunkCombine 0 1024, .stepTimeout 64 0, .measureStagingGrant 256,
      .measureLeafHashed 0 (2 ^ 32), .regwinAccess ⟨false, 0, 0, none⟩, .regwinAccess ⟨false, 0, 9, none⟩] = true ∧
    takenBy [.completionTimeout 16383, .waitWatchNotify 6223, .fabricDataResponse 15 1023 (List.replicate 256 0), .chunkCombine 63 1023, .measureLeafHashed 255 (2 ^ 32 - 1),
      .regwinAccess ⟨true, 3, 8, none⟩] = true := by decide +kernel

theorem test_wf_ports_lanes_and_keys :
    refusedBy [.writeB (.port 0 12), .writeS (.port 0 12), .writeX (.port 0 12), .readB (.port 0 12), .readX (.port 0 12), .atomicMessage (.port 0 12), .copyReq (.port 0 12),
      .kvCmd (.port 0 12), .kvWrite (.port 0 12), .response (.port 0 12), .operand (.port 0 12), .credit (.port 0 12), .codewordReceive 0 0 (List.replicate 271 0), .codewordReceive 0 13 (List.replicate 272 0),
      .alignmentMarker 0 13 (List.replicate 272 0), .alignmentMarker 0 12 [], .laneFail 0 13 .pll, .laneBer 0 13, .marginMeasured 0 [], .opticsPoll 0 (.status 0 [13] []),
      .opticsIbi 0 (.status 0 [] [(13, 0, 0, 0)]), .opticsIbi 0 (.status 0 [] [(0, 2 ^ 16, 0, 0)]), .keyRejectRetry 0 16, .keyRotationDue 0 16, .keyRotationStall 0 16,
      .pwrmDomAck 96, .pwrmNoAck 96, .engineIdleE1 12, .engineDeepSleep 12, .engineWake 12, .belvSample 8] = true ∧
    takenBy [.writeB (.port 5 11), .kvCmd .sameNode, .codewordReceive 5 12 (List.replicate 272 0), .laneBer 5 12, .opticsPoll 5 (.status 3 [12] [(12, 65535, 0, 0)]),
      .keyRotationDue 5 15, .pwrmDomAck 95, .engineWake 11, .belvSample 7] = true := by decide +kernel

theorem test_wf_spdm_and_release :
    refusedBy [.spdmMsg ⟨0, 0⟩ (.getCertificate 16 0 0), .spdmMsg ⟨0, 0⟩ (.getCertificate 0 (2 ^ 16) 0), .spdmMsg ⟨0, 0⟩ (.getCertificate 0 0 (2 ^ 16)),
      .spdmMsg ⟨0, 0⟩ (.challenge 16 0), .spdmMsg ⟨0, 0⟩ (.getMeasurements none 256 true), .rotRelease { rel0 with rootKeys := [] },
      .rotRelease { rel0 with rootKeys := [0, 0, 0, 0, 0] }, .rotRelease { rel0 with chain := List.replicate 4001 0 }, .rotRelease { rel0 with installAddr := 2 ^ 56 },
      .rotRelease { rel0 with boardAddr := 2 ^ 56 }] = true ∧
    takenBy [.spdmMsg ⟨15, 0⟩ (.getCertificate 15 65535 65535), .rotRelease rel0, .warmResetInput, .nodeReady] = true := by decide +kernel

/-! ### The worked examples of the spec, and published test vectors -/

/-- The table of K16 encodings under R212. -/
theorem test_k16_encodings :
    (roundK16 .nearest false 1 0).1 = 0x3C00 ∧ (roundK16 .nearest true 1 1).1 = 0xC000 ∧ (roundK16 .nearest false 60000 0).1 = 0x7B53 ∧
      (roundK16 .nearest false 65536 0).1 = 0x7C00 ∧ (roundK16 .nearest false 130944 0).1 = 0x7FFE ∧ (roundK16 .nearest false 1 (-14)).1 = 0x0400 ∧
      (roundK16 .nearest false 1 (-24)).1 = 0x0001 ∧ Num.nan.bits16 = 0x7FFF := by decide +kernel

/-- The stochastic rounding of 100,000 on lane 5 under seed 0x1234 (R224). -/
theorem test_stochastic_rounding :
    drawAt 0x1234 5 0 = 0x8020091B ∧ drawAt 0x1234 5 1 = 0xC030048E ∧ (roundK16 .nearest false 100000 0).1 = 0x7E1A ∧ (roundK16 .zero false 100000 0).1 = 0x7E1A ∧
      (roundK16 (.stochastic (drawAt 0x1234 5 0)) false 100000 0).1 = 0x7E1B ∧ (roundK16 (.stochastic 0x7FFFFFFF) false 100000 0).1 = 0x7E1A := by decide +kernel

/-- Double rounding avoided (R229): the pair 0x3F80_1000, 0x2B80_0000 written as K16. -/
theorem test_no_double_rounding :
    (({ outFmt := fK16 } : ConvDesc).bytes fK32x2 0 (.pair (b32 0x3F801000) (b32 0x2B800000))).run 0 = (([0x01, 0x3C], 0) : List Byte × Nat) := by rfl

/-- 62,914,560,000 written as K16 saturates with SAT, and as binary32 it is exact (R222). -/
theorem test_sum_of_the_row :
    roundK16 .nearest false 62914560000 0 = (0x7FFE, flSat) ∧ roundB32 .nearest false 62914560000 0 = (0x516A6000, 0) ∧
      roundB32 .nearest false 3600000000 0 = (0x4F5693A4, 0) := by decide +kernel

/-- exp2(−0.3) in basic mode is about 0.8122982, 5.64 × 10⁻⁵ from the exact value (R265 to R268). -/
theorem test_exp2_example :
    ((evalFunc .exp2 0 (b32 0xBE99999A)).run 0).1.lt (.fin false 13628102 (-24)) = false ∧ (Num.fin false 13628103 (-24)).lt ((evalFunc .exp2 0 (b32 0xBE99999A)).run 0).1 = false := by
  decide +kernel

def pod512 : InstallTable := { pod2 with ex := 16, ey := 16, ez := 32, nodes := List.replicate 8192 ⟨1, []⟩ }

/-- The route of R412 from (14, 3, 30) to (1, 12, 2): X+ first, 14 hops; and the block of R419 with a diameter of 31. -/
theorem test_route_example :
    nodeId 14 3 30 = 0x1E3E ∧ nodeId 1 12 2 = 0x02C1 ∧ routeOf pod512 0x1E3E 0x02C1 = (0, 14) ∧
      (⟨8, 0, 0, 8, 16, 32⟩ : Block).diameter pod512 = 31 ∧ annealLead 31 = 1030 * 1200 ∧ annealSpan 31 = 1240 * 1200 := by decide +kernel

/-- The IV of a DATA pane and the CTR of an IDLE pane (R435). -/
theorem test_iv_example :
    ({ KeySlot.null with salt := 0x9D3E07A1 } : KeySlot).iv (seqCtr false 0x123456789) = beBytes 12 0x9D3E07A10000000123456789 ∧
      ctlCtr 5 1000000 = 0x80028000000F4240 := by decide +kernel

/-- RESET_CAUSE after a self-reset (R572). -/
theorem test_reset_cause_example :
    ({ scope := .warm, source := 3, fatalCause := 0x31, recorded := true } : ResetRun).word 0x000000410012D687 1 = 0x0012D68731010301 := by decide +kernel

/-- SHA-384 of "abc" (FIPS 180-4), and the table base point of secp384r1 on its curve (SEC 2). -/
theorem test_sha384_and_curve :
    beNat (sha384 (asciiBytes "abc")) = 0xcb00753f45a35e8bb5a03d699ac65007272c32ab0eded1631a8b605a43ff5bed8086072ba1e7cc2358baeca134c825a7 ∧
      (ecPoint (ecGx * 2 ^ 384 + ecGy)).isSome = true ∧ ecPublic 1 = ecGx * 2 ^ 384 + ecGy := by decide +kernel

set_option maxRecDepth 20000 in
/-- The internal code (R484, R485): one and two bytes in error are corrected, three of the check bytes are not. -/
theorem test_internal_code :
    icDecode (icInvert 0 (icEncode (List.replicate 64 7))) = some (List.replicate 64 7, [64]) ∧ icDecode (icInvert 1 (icEncode [1, 2, 3])) = some ([1, 2, 3], [4, 3]) ∧
      icDecode (icInvert 2 (icEncode (List.replicate 64 7))) = none := by decide +kernel

def sumLib (axes : Nat) : LibDesc := ⟨1, gSum, fB32, axes, false, 0, false, false, 0, 0, { outFmt := fB32 }⟩
def ring4 : InstallTable := { pod2 with ex := 4, ey := 1, ez := 1, nodes := List.replicate 4 ⟨1, []⟩ }

/-- A full-block ALL_REDUCE over 16 × 16 × 32 is three programs of 122 steps, each with 122 × 2 receive streams (R297). -/
theorem test_library_steps :
    (List.range 3).all (fun p =>
      let l := (sumLib 7).ringSteps ⟨0, 0, 0, 16, 16, 32⟩ pod512 0x1E3E p
      stepTotal l == 122 && (l.map (fun s => (s.rx0.toList ++ s.rx1.toList).length)).sum == 122 * 2) = true := by decide +kernel

/-- The first step of a ring of four (R298): the positive half of segment j starts at rank j + 1, the negative half at rank j − 1. -/
theorem test_ring_order :
    (List.range 4).map (fun c => (((sumLib 1).ringSteps ⟨0, 0, 0, 4, 1, 1⟩ ring4 c 0).take 2).map (fun s => (s.txSegFirst, s.sends.map Send.peer))) =
      [[(6, [1]), (3, [3])], [(0, [2]), (5, [0])], [(2, [3]), (7, [1])], [(4, [0]), (1, [2])]] := by decide +kernel

/-- No row of the table gives bits, so that no word spells a command. -/
theorem test_no_word_is_a_command : decodeTableWord 64 0 = none ∧ decodeTableWord 8 255 = none := ⟨rfl, rfl⟩

/-- The counter of a marker agrees with every other active lane's, by its place. -/
theorem noOther : ¬∃ i c, i < 13 ∧ (activeAll.port 5).lane.rxActive.testBit i = true ∧ i ≠ 12 ∧ ((activeAll.port 5).lane.lane i).lastCount = some c ∧
    (c + (((activeAll.port 5).lane.lane 12).place + 1)) % 2 ^ 56 ≠ (beAt (goodMarker 8) 21 7 + ((activeAll.port 5).lane.lane i).place) % 2 ^ 56 := by
  rintro ⟨i, c, hi, -, -, hc, hd⟩
  have key : ∀ i, i < 13 → ((activeAll.port 5).lane.lane i).lastCount.all (fun c => decide ((c + (((activeAll.port 5).lane.lane 12).place + 1)) % 2 ^ 56 =
    (beAt (goodMarker 8) 21 7 + ((activeAll.port 5).lane.lane i).place) % 2 ^ 56)) = true := by decide +kernel
  have h7 := key i hi
  rw [hc] at h7
  exact hd (of_decide_eq_true h7)

/-! ### The statements without a list of clauses -/

theorem witness_StepRunsTheFrontCommand : ∃ (c : Instr) (rest : List Instr) (s : State), s.pending = c :: rest := ⟨.watchdogKick, [], { pending := [.watchdogKick] }, rfl⟩

theorem witness_StepsKeepTheInvariant : ∃ s t : State, s.Inv ∧ step s = .next t :=
  ⟨State.reset, State.reset.tick, ⟨by decide +kernel, by decide +kernel, by decide +kernel, by decide +kernel⟩, rfl⟩

theorem witness_OutOfServiceEndsOnlySo : ∃ s t : State, s.retained.oos = true ∧ step s = .next t ∧ t.retained.oos = false :=
  ⟨{ pending := [.coldResetInput true], retained := { oos := true } }, State.reset, rfl, rfl, rfl⟩

/-! ### Codewords: one that nothing corrects, and two without an error (R367) -/

set_option maxRecDepth 200000 in
theorem junk_decodes : fecDecode junk = none := by decide +kernel
set_option maxRecDepth 200000 in
theorem badCrc_decodes : fecDecode badCrc = some (badCrc.take 256, []) := by decide +kernel
set_option maxRecDepth 200000 in
theorem goodWord_decodes : fecDecode goodWord = some (goodWord.take 256, []) := by decide +kernel
/-! What is scrambled comes back descrambled (R366). -/

set_option maxRecDepth 200000 in
theorem junk_back : ((upS.port 5).descramble 0 (scr junk)).1 = junk := by decide +kernel
set_option maxRecDepth 200000 in
theorem junk_back_1 : ((retrainS.port 5).descramble 3 ((retrainS.port 5).descramble 3 junk).1).1 = junk := by decide +kernel
set_option maxRecDepth 200000 in
theorem junk_back_2 : (((upS.modLane 5 (fun l => { l with consecUncorr := 15 })).port 5).descramble 0 (scr junk)).1 = junk := by decide +kernel
set_option maxRecDepth 200000 in
theorem badCrc_back : ((upS.port 5).descramble 0 (scr badCrc)).1 = badCrc := by decide +kernel
set_option maxRecDepth 200000 in
theorem goodWord_back : ((upS.port 5).descramble 0 (scr goodWord)).1 = goodWord := by decide +kernel
set_option maxRecDepth 200000 in
theorem badCrc_crc : paneCrcOk (badCrc.take 256) = false := by decide +kernel
set_option maxRecDepth 200000 in
theorem goodWord_crc : paneCrcOk (goodWord.take 256) = true := by decide +kernel

/-! ### Witnesses: for each statement, states and operands that meet the hypotheses of its clauses -/

theorem witness_EmptyQueueIsOneTick :
    ∃ (s : State), s.pending = [] ∧ s.power.clocksLost = false ∧ s.power.frozen = false ∧ s.power.freezeAt = none ∧ s.time.hold = 0 ∧ s.time.ratePpb = 0 ∧ s.time.phase = 0 :=
  ⟨{}, by decide +kernel⟩
theorem witness_RegisterTargetAnswers :
    (∃ (s : State) (off : BitVec 24), s.regsOpen = true ∧ off.toNat % 8 = 0) ∧
    (∃ (s : State) (off : BitVec 24), s.regsOpen = true ∧ off.toNat % 8 = 0) ∧
    (∃ (s : State) (a : RegAccess), s.regsOpen = true ∧ (s.counter ctrRegwinErr).count < 4294967294 ∧ (a.size ≠ 8 ∨ a.offset.toNat % 8 ≠ 0) ∧ (a.size ≠ 4 ∨ a.write.isSome = true ∨ a.offset.toNat % 4 ≠ 0)) ∧
    (∃ (s : State) (a : RegAccess), s.regsOpen = true ∧ (s.counter ctrRegwinErr).count < 4294967294 ∧ (a.size ≠ 8 ∨ a.offset.toNat % 8 ≠ 0) ∧ (a.size ≠ 4 ∨ a.write.isSome = true ∨ a.offset.toNat % 4 ≠ 0)) :=
  ⟨⟨{}, 0xFFFFF8, by decide +kernel⟩,
   ⟨{}, 0xFFFFF8, by decide +kernel⟩,
   ⟨{}, ⟨false, 3, 2, none⟩, by decide +kernel⟩,
   ⟨{}, ⟨true, 4, 8, some 9⟩, by decide +kernel⟩⟩
theorem witness_RegisterWritesReadBack_1 :
    ∃ (s : State), s.regsOpen = true :=
  ⟨running, by decide +kernel⟩
theorem witness_RegisterWritesReadBack_2 :
    (∃ (s : State), s.regsOpen = true) ∧
    (∃ (s : State), s.regsOpen = true) :=
  ⟨⟨running, by decide +kernel⟩,
   ⟨running, by decide +kernel⟩⟩
theorem witness_RegisterWritesReadBack_3 :
    (∃ (s : State), s.regsOpen = true ∧ s.front.admin0En = false) ∧
    (∃ (s : State), s.regsOpen = true ∧ s.front.admin0En = false) :=
  ⟨⟨running, by decide +kernel⟩,
   ⟨running, by decide +kernel⟩⟩
theorem witness_RegisterWritesReadBack_4 :
    ∃ (s : State), s.regsOpen = true ∧ s.front.admin0En = true :=
  ⟨fed, by decide +kernel⟩
theorem witness_RegisterWritesReadBack_5 :
    ∃ (s : State), s.regsOpen = true :=
  ⟨fed, by decide +kernel⟩
theorem witness_RegisterWritesReadBack_6 :
    ∃ (s : State), s.regsOpen = true :=
  ⟨fed, by decide +kernel⟩
theorem witness_RegisterWritesReadBack_7 :
    ∃ (s : State), s.regsOpen = true :=
  ⟨fed, by decide +kernel⟩
theorem witness_RegisterWritesReadBack_8 :
    ∃ (s : State), s.regsOpen = true :=
  ⟨fed, by decide +kernel⟩
theorem witness_RegisterCommandsComplete_1 :
    ∃ (s : State), s.regsOpen = true :=
  ⟨fed, by decide +kernel⟩
theorem witness_RegisterCommandsComplete_2 :
    ∃ (s : State), s.regsOpen = true :=
  ⟨fed, by decide +kernel⟩
theorem witness_RegisterCommandsComplete_3 :
    ∃ (s : State), s.regsOpen = true :=
  ⟨fed, by decide +kernel⟩
theorem witness_RegisterCommandsComplete_4 :
    ∃ (s : State), s.regsOpen = true :=
  ⟨{ fed with xfer := { fed.xfer with pwc := [⟨1,2,3,none,[]⟩, ⟨1,3,3,none,[4]⟩] } }, by decide +kernel⟩
theorem witness_RegisterCommandsComplete_5 :
    ∃ (s : State), s.regsOpen = true :=
  ⟨{ fed with xfer := { fed.xfer with pwc := [⟨1,2,3,none,[]⟩, ⟨1,3,3,none,[4]⟩] } }, by decide +kernel⟩
theorem witness_RegisterCommandsComplete_6 :
    (∃ (s : State), s.regsOpen = true) ∧
    (∃ (s : State), s.regsOpen = true) :=
  ⟨⟨fed, by decide +kernel⟩,
   ⟨{ fed with flt := {injArmed := true, injDone := true} }, by decide +kernel⟩⟩
theorem witness_RegisterCommandsComplete_7 :
    (∃ (s : State), s.regsOpen = true) ∧
    (∃ (s : State), s.regsOpen = true) :=
  ⟨⟨{ fed with flt := {contained := true, capture := some ⟨.contained, mkReport 3, 5⟩} }, by decide +kernel⟩,
   ⟨{ fed with flt := {contained := true, capture := some ⟨.fatal, mkReport 3, 5⟩, multi := true} }, by decide +kernel⟩⟩
theorem witness_RegisterCommandsComplete_8 :
    (∃ (s : State), s.regsOpen = true) ∧
    (∃ (s : State), s.regsOpen = true) :=
  ⟨⟨{ fed with flt := {contained := true, capture := some ⟨.fatal, mkReport 3, 5⟩, multi := true, corrected := true} }, by decide +kernel⟩,
   ⟨{ fed with flt := {contained := true, capture := some ⟨.corrected, mkReport 3, 5⟩, multi := true, corrected := true} }, by decide +kernel⟩⟩
theorem witness_RegisterCommandsComplete_9 :
    ∃ (s : State) (off : BitVec 20), s.regsOpen = true ∧ isCounter off.toNat = true :=
  ⟨{ fed with counters := [(0x40, ⟨true, 0xFFFFFFFF⟩), (0x30020, ⟨false, 3⟩)] }, 0x40, by decide +kernel⟩
theorem witness_TrainControlMovesTheLink_1 :
    ∃ (s : State) (p : PortIx), s.regsOpen = true ∧ (Table.get { : TopoPort } s.topo.ports ↑p).disabled = true :=
  ⟨{ running with topo := { running.topo with ports := [(5, { disabled := true })] } }, 5, by decide +kernel⟩
theorem witness_TrainControlMovesTheLink_2 :
    (∃ (s : State) (p : PortIx), s.regsOpen = true ∧ (Table.get { : TopoPort } s.topo.ports ↑p).disabled = false ∧ (s.port p).pane.link = LinkState.down ∧ (s.port p).lane.testing = false ∧ (s.power.level < 2 ∨ (portDomains p).all s.power.domOn = true)) ∧
    (∃ (s : State) (p : PortIx), s.regsOpen = true ∧ (Table.get { : TopoPort } s.topo.ports ↑p).disabled = false ∧ (s.port p).pane.link = LinkState.down ∧ (s.port p).lane.testing = false ∧ (s.power.level < 2 ∨ (portDomains p).all s.power.domOn = true)) ∧
    (∃ (s : State) (p : PortIx), s.regsOpen = true ∧ (Table.get { : TopoPort } s.topo.ports ↑p).disabled = false ∧ (s.port p).pane.link = LinkState.down ∧ (s.port p).lane.testing = false ∧ 2 ≤ s.power.level ∧ (portDomains p).all s.power.domOn = false) :=
  ⟨⟨running, 5, by decide +kernel⟩,
   ⟨{ running with power := { running.power with level := 3, domainsOn := BitVec.allOnes 96 } }, 5, by decide +kernel⟩,
   ⟨{ running with power := { running.power with level := 2 } }, 5, by decide +kernel⟩⟩
theorem witness_TrainControlMovesTheLink_3 :
    (∃ (s : State), s.regsOpen = true) ∧
    (∃ (s : State), s.regsOpen = true) :=
  ⟨⟨running, by decide +kernel⟩,
   ⟨running.modPane 5 (fun q => { q with link := .up }), by decide +kernel⟩⟩
theorem witness_TrainControlMovesTheLink_4 :
    ∃ (s : State) (p : PortIx), s.regsOpen = true ∧ (s.port p).lane.testing = false :=
  ⟨running.modPane 5 (fun q => { q with link := .up }), 5, by decide +kernel⟩
theorem witness_TrainControlMovesTheLink_5 :
    ∃ (s : State) (p : PortIx), s.regsOpen = true ∧ s.serving p = true :=
  ⟨running.modPane 5 (fun q => { q with link := .up }), 5, by decide +kernel⟩
theorem witness_TrainControlMovesTheLink_6 :
    ∃ (s : State) (p : PortIx), s.regsOpen = true ∧ s.serving p = false ∧ (s.port p).pane.link ≠ LinkState.retraining :=
  ⟨running, 5, by decide +kernel⟩
theorem witness_AdminRingsAreFed_1 :
    (∃ (s : State), s.regsOpen = true ∧ s.front.admin0En = false ∧ s.ringBusy 0 = false) ∧
    (∃ (s : State), s.regsOpen = true ∧ s.front.admin0En = true) :=
  ⟨⟨running, by decide +kernel⟩,
   ⟨fed, by decide +kernel⟩⟩
theorem witness_AdminRingsAreFed_2 :
    (∃ (s : State) (pav : ℕ), s.live = true ∧ (s.ring pav).enabled = true ∧ s.watching (4096 + pav) = true) ∧
    (∃ (s : State) (pav : ℕ), s.live = true ∧ (s.ring pav).enabled = true ∧ s.adminPollDue pav = true) ∧
    (∃ (s : State) (pav : ℕ), s.live = true ∧ (s.ring pav).enabled = true ∧ s.hasUse (isAdminDb pav) = true ∧ s.useEpoch (isAdminDb pav) = (s.ring pav).epoch) ∧
    (∃ (s : State) (pav : ℕ), s.live = true ∧ (s.ring pav).enabled = true ∧ s.hasUse (isAdminDb pav) = true ∧ s.useEpoch (isAdminDb pav) = (s.ring pav).epoch) ∧
    (∃ (s : State) (pav : ℕ), s.live = true ∧ (s.ring pav).enabled = true ∧ Option.any (fun f => s.usPassed f 1000) (s.ring pav).faultAt = true) ∧
    (∃ (s : State) (pav : ℕ), s.live = true ∧ (s.ring pav).enabled = true ∧ s.hasUse (isAdminDb pav) = true ∧ s.useEpoch (isAdminDb pav) ≠ (s.ring pav).epoch) ∧
    (∃ (s : State) (pav : ℕ), s.live = true ∧ (s.ring pav).enabled = true ∧ s.hasUse (isAdminEntry pav) = true ∧ s.useEpoch (isAdminEntry pav) ≠ (s.ring pav).epoch) :=
  ⟨⟨fed, 0, by decide +kernel⟩,
   ⟨fed, 0, by decide +kernel⟩,
   ⟨readAsked fed 4 (.adminDoorbell 0 0), 0, by decide +kernel⟩,
   ⟨readAsked fed 4 (.adminDoorbell 0 0), 0, by decide +kernel⟩,
   ⟨{ fed with front := { fed.front with rings := [(0, { ring0 with faultAt := some 0 })] } }, 0, by decide +kernel⟩,
   ⟨readAsked (fedAgain fed) 4 (.adminDoorbell 0 0), 0, by decide +kernel⟩,
   ⟨readAsked (fedAgain taking) 64 (.adminEntry 0 0), 0, by decide +kernel⟩⟩
theorem witness_AdminRingsAreFed_3 :
    (∃ (s : State) (pav : ℕ), s.live = true ∧ s.hasUse (isAdminEntry pav) = true ∧ s.useEpoch (isAdminEntry pav) = (s.ring pav).epoch ∧ (s.ring pav).enabled = true ∧ (s.ring pav).entryOut = true ∧ 1 ≤ (s.ring pav).pending ∧ (s.ring pav).pending ≤ 2 ^ (s.ring pav).log2) ∧
    (∃ (s : State) (pav : ℕ), s.live = true ∧ s.hasUse (isAdminEntry pav) = true ∧ s.useEpoch (isAdminEntry pav) = (s.ring pav).epoch ∧ (s.ring pav).enabled = true ∧ (s.ring pav).entryOut = true ∧ 1 ≤ (s.ring pav).pending ∧ (s.ring pav).pending ≤ 2 ^ (s.ring pav).log2) :=
  ⟨⟨readAsked taking 64 (.adminEntry 0 0), 0, by decide +kernel⟩,
   ⟨readAsked taking 64 (.adminEntry 0 0), 0, by decide +kernel⟩⟩
theorem witness_CompletionsAndQueries_1 :
    ∃ (s : State) (r : AdminRef) (c : AdminCmd) (st : ℕ) (ra : ℕ) (r1 : ℕ) (r2 : ℕ) (r3 : ℕ), s.live = true ∧ s.firstDone r = true ∧ s.cmd r = some c ∧ c.phase = CmdPhase.finished st ra r1 r2 r3 :=
  ⟨finished, ref0, doneCmd, 3, 5, 6, 7, 8, by decide +kernel⟩
theorem witness_CompletionsAndQueries_2 :
    (∃ (s : State) (r : AdminRef) (i : ℕ), (s.cmdD r).zeroArgs [3, 4, 5, 6, 7] = true ∧ s.live = true ∧ s.queryIs r 1 = true ∧ bits ((s.cmdD r).arg 2) 63 24 = 0 ∧ ((s.cmdD r).pav = 0 ∨ bits ((s.cmdD r).arg 2) 15 12 = (s.cmdD r).pav) ∧ s.chanOf (bits ((s.cmdD r).arg 2) 31 0) = some i) ∧
    (∃ (s : State) (r : AdminRef), (s.cmdD r).zeroArgs [3, 4, 5, 6, 7] = true ∧ s.live = true ∧ s.queryIs r 2 = true ∧ bits ((s.cmdD r).arg 2) 63 6 = 0 ∧ (s.cmdD r).pav = 0) ∧
    (∃ (s : State) (r : AdminRef), (s.cmdD r).zeroArgs [3, 4, 5, 6, 7] = true ∧ s.queryIs r 3 = true ∧ s.lodgeTurn r = true ∧ bits ((s.cmdD r).arg 2) 63 4 = 0 ∧ ((s.cmdD r).pav = 0 ∨ bits ((s.cmdD r).arg 2) 3 0 = (s.cmdD r).pav)) ∧
    (∃ (s : State) (r : AdminRef), (s.cmdD r).zeroArgs [3, 4, 5, 6, 7] = true ∧ s.queryIs r 4 = true ∧ s.lodgeTurn r = true ∧ (s.cmdD r).arg 2 = 0) :=
  ⟨⟨withCmd live0 [0x41, 1, 0x70FFF], ref0, 4095, by decide +kernel⟩,
   ⟨withCmd live0 [0x41, 2, 63], ref0, by decide +kernel⟩,
   ⟨lodgeUp (withCmd live0 [0x41, 3, 15]), ref0, by decide +kernel⟩,
   ⟨lodgeUp (withCmd live0 [0x41, 4, 0]), ref0, by decide +kernel⟩⟩
theorem witness_ChannelsLiveAndRetire_1 :
    ∃ (s : State) (r : AdminRef) (i : ℕ), s.live = true ∧ s.cmdIs r 1 = true ∧ createArgsOk (s.cmdD r) = true ∧ s.freeChan (s.cmdD r).pav = some i :=
  ⟨withCmd running [0x01, 0x1000000000001000, 0x40, 0x3E800002], ref0, 0, by decide +kernel⟩
theorem witness_ChannelsLiveAndRetire_2 :
    (∃ (s : State) (r : AdminRef) (i : ℕ), channelCmdRefused (s.cmdD r) = none ∧ s.chanOf (bits ((s.cmdD r).arg 1) 31 0) = some i ∧ s.channelCmdDue r 2 = true) ∧
    (∃ (s : State) (r : AdminRef) (i : ℕ), channelCmdRefused (s.cmdD r) = none ∧ s.chanOf (bits ((s.cmdD r).arg 1) 31 0) = some i ∧ s.channelCmdDue r 2 = true) ∧
    (∃ (s : State) (r : AdminRef) (i : ℕ), channelCmdRefused (s.cmdD r) = none ∧ s.chanOf (bits ((s.cmdD r).arg 1) 31 0) = some i ∧ s.channelCmdDue r 3 = true) :=
  ⟨⟨withCmd live0 [0x02, 0x70FFF], ref0, 4095, by decide +kernel⟩,
   ⟨withCmd live0 [0x02, 0x70FFF, 1], ref0, 4095, by decide +kernel⟩,
   ⟨withCmd live0 [0x03, 0x70FFF, 1], ref0, 4095, by decide +kernel⟩⟩
theorem witness_ChannelsLiveAndRetire_3 :
    (∃ (s : State) (ch : ℕ) (e : EngineKind), s.live = true ∧ e ∈ (s.chan ch).stopping ∧ s.engineIdle ch e = true) ∧
    (∃ (s : State) (ch : ℕ), s.live = true ∧ (s.chan ch).drained = true) ∧
    (∃ (s : State) (ch : ℕ) (q : Retire) (r : AdminRef), s.live = true ∧ s.retireDue ch = true ∧ (s.chan ch).retire = some q ∧ q.next = AfterRetire.free ∧ (s.chan ch).bufs = [] ∧ (s.chan ch).recs = [] ∧ (s.chan ch).cmd = some r ∧ Option.any AdminCmd.unfinished (s.cmd r) = true) ∧
    (∃ (s : State) (ch : ℕ) (q : Retire) (r : AdminRef), s.live = true ∧ s.retireDue ch = true ∧ (s.chan ch).retire = some q ∧ q.next = AfterRetire.free ∧ (s.chan ch).bufs = [] ∧ (s.chan ch).recs = [] ∧ (s.chan ch).cmd = some r ∧ Option.any AdminCmd.unfinished (s.cmd r) = true) :=
  ⟨⟨withChan live0 4095 { chan0 with stopping := [.copy 3, .atomic] }, 4095, .copy 3, by decide +kernel⟩,
   ⟨withChan live0 4095 { chan0 with state := .retiring, drain := some ⟨0xFFFFFFFF, false⟩ }, 4095, by decide +kernel⟩,
   ⟨withCmd (withChan live0 4095 { chan0 with state := .retiring, completed := 9, cmd := some ref0, retire := some ⟨0x31, false, .free, .records⟩ }) [2], 4095, ⟨0x31, false, .free, .records⟩, ref0, by decide +kernel⟩,
   ⟨withCmd (withChan live0 4095 { chan0 with state := .retiring, completed := 9, cmd := some ref0, retire := some ⟨0x31, false, .free, .stopping⟩ }) [2], 4095, ⟨0x31, false, .free, .stopping⟩, ref0, by decide +kernel⟩⟩
theorem witness_BuffersAreFetched_1 :
    (∃ (s : State) (ch : ℕ), s.live = true ∧ s.watching ch = true ∧ (s.chan ch).state ≠ ChanState.free ∧ (s.chan ch).state ≠ ChanState.retiring) ∧
    (∃ (s : State), s.live = true ∧ s.sweepUs ≠ 0 ∧ s.usPassed s.front.lastSweep s.sweepUs = true) ∧
    (∃ (s : State) (ch : ℕ), s.live = true ∧ s.hasUse (isDoorbell ch (s.chan ch).gen.toNat) = true ∧ s.doorbellWhy ch = DbWhy.normal ∧ (s.chan ch).state = ChanState.active ∧ (s.chan ch).drain = none) ∧
    (∃ (s : State) (ch : ℕ), s.live = true ∧ s.hasUse (isDoorbell ch (s.chan ch).gen.toNat) = true ∧ s.doorbellWhy ch = DbWhy.normal ∧ (s.chan ch).state = ChanState.active ∧ (s.chan ch).drain = none) :=
  ⟨⟨live0, 4095, by decide +kernel⟩,
   ⟨{ live0 with time := { now := 1200000 }, retained := { clock := 1200000 } }, by decide +kernel⟩,
   ⟨readAsked live0 4 (.doorbell 4095 7 .normal), 4095, by decide +kernel⟩,
   ⟨readAsked live0 4 (.doorbell 4095 7 .normal), 4095, by decide +kernel⟩⟩
theorem witness_BuffersAreFetched_2 :
    (∃ (s : State) (ch : ℕ) (l : List Byte) (e : EntryRead) (a : ℕ) (n : ℕ), s.live = true ∧ s.hasUse (isEntry ch (s.chan ch).gen.toNat) = true ∧ (s.chan ch).entry = some e ∧ e.serial = s.entrySerial ch ∧ e.spec = false ∧ (s.chan ch).state ≠ ChanState.paused ∧ decodeEntry l = some (a, n)) ∧
    (∃ (s : State) (ch : ℕ) (e : EntryRead), s.live = true ∧ s.hasUse (isEntry ch (s.chan ch).gen.toNat) = true ∧ (s.chan ch).entry = some e ∧ e.serial = s.entrySerial ch ∧ (e.spec = true ∨ (s.chan ch).state = ChanState.paused)) ∧
    (∃ (s : State) (ch : ℕ) (e : EntryRead), s.live = true ∧ s.hasUse (isEntry ch (s.chan ch).gen.toNat) = true ∧ (s.chan ch).entry = some e ∧ e.serial = s.entrySerial ch ∧ (e.spec = true ∨ (s.chan ch).state = ChanState.paused)) ∧
    (∃ (s : State) (ch : ℕ) (ring : ℕ) (l : List Byte) (b : Buffer) (h : BufHeader), s.live = true ∧ s.hasUse (isBuffer ch (s.chan ch).gen.toNat ring) = true ∧ (s.chan ch).buf ring = some b ∧ b.reading = true ∧ b.begun = false ∧ List.filter (fun x => !x.begun) (s.chan ch).bufs = [b] ∧ b.hdr = none ∧ b.read ≤ 64 ∧ decodeHeader (List.take 64 l) b.lines = some h ∧ h.sigwordEn = false ∧ firstBad (decodeOps l 0) 0 = none) ∧
    (∃ (s : State) (ch : ℕ) (ring : ℕ) (l : List Byte) (b : Buffer), s.live = true ∧ s.hasUse (isBuffer ch (s.chan ch).gen.toNat ring) = true ∧ (s.chan ch).buf ring = some b ∧ b.reading = true ∧ b.begun = false ∧ List.filter (fun x => !x.begun) (s.chan ch).bufs = [b] ∧ b.hdr = none ∧ b.read ≤ 64 ∧ decodeHeader (List.take 64 l) b.lines = none ∧ (s.chan ch).state = ChanState.active ∧ (s.chan ch).canBegin = true ∧ s.annealed (s.chan ch).pav = false) ∧
    (∃ (s : State) (i : ℕ) (rt : Bool) (b : Buffer), s.live = true ∧ s.awake 11 = true ∧ s.scoreboard < 16384 ∧ s.admitFrom = some (i, rt) ∧ (s.chan i).admitting = some b) :=
  ⟨⟨readAsked (withChan live0 4095 { chan0 with entry := some { ring := 0xFFFFFFFF, serial := 0, spec := false } }) 16 (.ringEntry 4095 7 0xFFFFFFFF 0), 4095, entryL, { ring := 0xFFFFFFFF, serial := 0, spec := false }, 0x123440, 2, by decide +kernel⟩,
   ⟨readAsked (withChan live0 4095 { chan0 with entry := some { ring := 0xFFFFFFFF, serial := 0, spec := true } }) 16 (.ringEntry 4095 7 0xFFFFFFFF 0), 4095, { ring := 0xFFFFFFFF, serial := 0, spec := true }, by decide +kernel⟩,
   ⟨readAsked (withChan live0 4095 { chan0 with state := .paused, entry := some { ring := 0xFFFFFFFF, serial := 0, spec := false } }) 16 (.ringEntry 4095 7 0xFFFFFFFF 0), 4095, { ring := 0xFFFFFFFF, serial := 0, spec := false }, by decide +kernel⟩,
   ⟨readAsked (withChan live0 4095 { chan0 with bufs := [{ ring := 9, lines := 2, read := 2, reading := true }] }) 128 (.buffer 4095 7 9 0), 4095, 9, leBytes 8 0x01000001 ++ List.replicate 56 0 ++ List.replicate 64 0, { ring := 9, lines := 2, read := 2, reading := true }, ((decodeHeader (leBytes 8 0x01000001 ++ List.replicate 56 0) 2).getD ⟨0, false, false, false, 0, 0, 0, 0, 0, 0, 0, 0, 0⟩), by decide +kernel⟩,
   ⟨readAsked (withChan live0 4095 { chan0 with bufs := [{ ring := 9, lines := 2, read := 2, reading := true }] }) 128 (.buffer 4095 7 9 0), 4095, 9, leBytes 8 0x02000001 ++ List.replicate 56 0 ++ List.replicate 64 0, { ring := 9, lines := 2, read := 2, reading := true }, by decide +kernel⟩,
   ⟨withChan live0 4095 { chan0 with bufs := [begunBuf] }, 4095, false, begunBuf, by decide +kernel⟩⟩
theorem witness_FabricAnswers_1 :
    (∃ (s : State) (f : ℕ) (x : ℕ) (pav : ℕ) (a : FabAccess) (l : List Byte), s.live = true ∧ s.access f x = some a ∧ a.old = none ∧ a.vis = false ∧ (s.ring pav).enabled = true ∧ a.op = FabOp.read ∧ a.use = FabUse.adminDoorbell pav (s.ring pav).epoch ∧ l.length = a.len) ∧
    (∃ (s : State) (f : ℕ) (x : ℕ) (pav : ℕ) (a : FabAccess), s.live = true ∧ s.access f x = some a ∧ a.old = none ∧ a.vis = false ∧ (s.ring pav).enabled = true ∧ a.op = FabOp.read ∧ a.use = FabUse.adminDoorbell pav (s.ring pav).epoch ∧ s.flt.capture = none) ∧
    (∃ (s : State) (f : ℕ) (x : ℕ) (pav : ℕ) (a : FabAccess), s.live = true ∧ s.access f x = some a ∧ a.old = none ∧ a.vis = false ∧ (s.ring pav).enabled = true ∧ a.op = FabOp.write ∧ a.use = FabUse.adminCompletion pav ∧ pav < 16 ∧ BitVec.getLsbD s.global.ctl pav = true ∧ bit s.global.ctl 16 = true ∧ (s.ring pav).wanted = false) :=
  ⟨⟨readAsked fed 4 (.adminDoorbell 0 0), 3, 1023, 0, { fport := 3, txid := 1023, op := .read, addr := 0x40, len := 4, pav := 0, use := .adminDoorbell 0 0 }, [1,2,3,4], by decide +kernel⟩,
   ⟨readAsked fed 4 (.adminDoorbell 0 0), 3, 1023, 0, { fport := 3, txid := 1023, op := .read, addr := 0x40, len := 4, pav := 0, use := .adminDoorbell 0 0 }, by decide +kernel⟩,
   ⟨asked { fed with global := { ctl := 0x10001 } } { op := .write, addr := 0x40, len := 32, pav := 0, use := .adminCompletion 0 }, 3, 1023, 0, { fport := 3, txid := 1023, op := .write, addr := 0x40, len := 32, pav := 0, use := .adminCompletion 0 }, by decide +kernel⟩⟩
theorem witness_FabricAnswers_2 :
    ∃ (s : State) (wid : ℕ), s.clocked = true ∧ wid ∈ s.watch.armed ∧ wid ∉ s.watch.refused :=
  ⟨fed, 4096, by decide +kernel⟩
theorem witness_FabricAnswers_3 :
    ∃ (s : State) (f : ℕ) (x : ℕ), s.power.clocksLost = false ∧ s.power.frozen = false ∧ s.access f x = none :=
  ⟨fed, 0, 0, by decide +kernel⟩
theorem witness_OperationsAreTaken_1 :
    ∃ (s : State) (o : OpRef) (p : Operation) (q : OpSlot) (src : ℕ) (d : Remote) (n : ℕ) (m : ℕ), s.takeable o = some p ∧ s.opOf o = some q ∧ p.body = OpBody.put src d n m :=
  ⟨admittedOp putB, op0, oper putB, slotOf putB .admitted, 0x1000, far, 0x1000, 0, by decide +kernel⟩
theorem witness_OperationsAreTaken_2 :
    ∃ (s : State) (o : OpRef) (p : Operation) (q : OpSlot) (d : Remote) (n : ℕ) (l : List Byte), s.takeable o = some p ∧ s.opOf o = some q ∧ p.body = OpBody.putInline d n l :=
  ⟨admittedOp inlB, op0, oper inlB, slotOf inlB .admitted, far, 32, List.replicate 32 7, by decide +kernel⟩
theorem witness_OperationsAreTaken_3 :
    ∃ (s : State) (o : OpRef) (p : Operation) (q : OpSlot) (dst : ℕ) (r : Remote) (n : ℕ) (m : ℕ), s.takeable o = some p ∧ s.opOf o = some q ∧ p.body = OpBody.get dst r n m :=
  ⟨admittedOp getB, op0, oper getB, slotOf getB .admitted, 0x1000, far, 0x1000, 0, by decide +kernel⟩
theorem witness_OperationsAreTaken_4 :
    ∃ (s : State) (o : OpRef) (p : Operation) (q : OpSlot) (src : CopySource) (d : Remote) (n : ℕ) (m : ℕ), s.takeable o = some p ∧ s.opOf o = some q ∧ p.body = OpBody.copy src d n m :=
  ⟨admittedOp copyB, op0, oper copyB, slotOf copyB .admitted, .remote far, far, 0x1000, 0, by decide +kernel⟩
theorem witness_OperationsAreTaken_5 :
    ∃ (s : State) (o : OpRef) (p : Operation) (q : OpSlot) (k : KvMove), s.takeable o = some p ∧ s.opOf o = some q ∧ p.body = OpBody.kvmove k ∧ k.srcNode ≠ s.topo.node :=
  ⟨admittedOp kvB, op0, oper kvB, slotOf kvB .admitted, ⟨1, 7, 2, 0, 0, 0, 0, 0, 1, 0, 1, 0, 1⟩, by decide +kernel⟩
theorem witness_OperationsAreTaken_6 :
    ∃ (s : State) (o : OpRef) (p : Operation) (q : OpSlot) (a : AtomicOp), s.takeable o = some p ∧ s.opOf o = some q ∧ p.body = OpBody.atomic a :=
  ⟨admittedOp (.atomic atomB), op0, oper (.atomic atomB), slotOf (.atomic atomB) .admitted, atomB, by decide +kernel⟩
theorem witness_OperationsAreTaken_7 :
    ∃ (s : State) (o : OpRef) (p : Operation) (q : OpSlot) (r : Remote) (mode : ℕ) (v : Word), s.takeable o = some p ∧ s.opOf o = some q ∧ p.body = OpBody.signal (SemTarget.remote r) mode v ∧ s.earlierOpen o q = [] :=
  ⟨admittedOp (.signal (.remote far) 0 1), op0, oper (.signal (.remote far) 0 1), slotOf (.signal (.remote far) 0 1) .admitted, far, 0, 1, by decide +kernel⟩
theorem witness_LocalOperationsRun_1 :
    ∃ (s : State) (o : OpRef) (p : Operation) (q : OpSlot) (a : ℕ) (mode : ℕ) (v : Word), s.takeable o = some p ∧ s.opOf o = some q ∧ p.body = OpBody.signal (SemTarget.localAddr a) mode v ∧ s.earlierOpen o q = [] ∧ s.atomicsHeld < 512 :=
  ⟨admittedOp (.signal (.localAddr 0x2000) 2 9), op0, oper (.signal (.localAddr 0x2000) 2 9), slotOf (.signal (.localAddr 0x2000) 2 9) .admitted, 0x2000, 2, 9, by decide +kernel⟩
theorem witness_LocalOperationsRun_2 :
    (∃ (s : State) (o : OpRef) (p : Operation) (q : OpSlot), s.takeable o = some p ∧ s.opOf o = some q ∧ p.body = OpBody.nop) ∧
    (∃ (s : State) (o : OpRef) (p : Operation) (q : OpSlot), s.takeable o = some p ∧ s.opOf o = some q ∧ p.body = OpBody.fence ∧ s.earlierOpen o q = []) :=
  ⟨⟨admittedOp .nop, op0, oper .nop, slotOf .nop .admitted, by decide +kernel⟩,
   ⟨admittedOp .fence, op0, oper .fence, slotOf .fence .admitted, by decide +kernel⟩⟩
theorem witness_LocalOperationsRun_3 :
    (∃ (s : State) (o : OpRef) (q : OpSlot) (a : ℕ) (th : Word) (ns : ℕ), s.live = true ∧ s.opOf o = some q ∧ q.body = OpBody.wait a th ns ∧ (s.takeable o).isSome = true) ∧
    (∃ (s : State) (o : OpRef) (q : OpSlot) (a : ℕ) (th : Word) (ns : ℕ) (wid : ℕ), s.live = true ∧ s.opOf o = some q ∧ q.body = OpBody.wait a th ns ∧ q.phase = OpPhase.running ∧ List.find? (fun w => w.1 == wid) s.front.waits = some (wid, o) ∧ s.watching wid = true) ∧
    (∃ (s : State) (o : OpRef) (q : OpSlot) (a : ℕ) (th : Word) (ns : ℕ), s.live = true ∧ s.opOf o = some q ∧ q.body = OpBody.wait a th ns ∧ q.phase = OpPhase.running ∧ (q.wid = none ∨ ∃ w, q.wid = some w ∧ w ∈ s.watch.refused) ∧ s.usPassed q.lastRead 1 = true) ∧
    (∃ (s : State) (o : OpRef) (q : OpSlot) (a : ℕ) (th : Word) (ns : ℕ) (l : List Byte), s.live = true ∧ s.opOf o = some q ∧ q.body = OpBody.wait a th ns ∧ q.phase = OpPhase.running ∧ s.hasUse (isSemRead o (s.chan o.chan).gen.toNat) = true ∧ (s.chan o.chan).state ≠ ChanState.free ∧ BitVec.toNat th ≤ leAt l 0 8) ∧
    (∃ (s : State) (o : OpRef) (q : OpSlot) (a : ℕ) (th : Word) (ns : ℕ) (l : List Byte), s.live = true ∧ s.opOf o = some q ∧ q.body = OpBody.wait a th ns ∧ q.phase = OpPhase.running ∧ s.hasUse (isSemRead o (s.chan o.chan).gen.toNat) = true ∧ (s.chan o.chan).state ≠ ChanState.free ∧ leAt l 0 8 < BitVec.toNat th) ∧
    (∃ (s : State) (o : OpRef) (q : OpSlot) (a : ℕ) (th : Word) (ns : ℕ), s.live = true ∧ s.opOf o = some q ∧ q.body = OpBody.wait a th ns ∧ q.phase = OpPhase.running ∧ s.nsExpired q.armed ns = true) :=
  ⟨⟨admittedOp waitB, op0, slotOf waitB .admitted, 0x3000, 5, 1000, by decide +kernel⟩,
   ⟨waitS, op0, waiting, 0x3000, 5, 1000, 4112, by decide +kernel⟩,
   ⟨{ waitS with watch := { armed := [4112], refused := [4112] } }, op0, waiting, 0x3000, 5, 1000, by decide +kernel⟩,
   ⟨readAsked waitS 8 (.semRead op0 7), op0, waiting, 0x3000, 5, 1000, [5,0,0,0,0,0,0,0], by decide +kernel⟩,
   ⟨readAsked waitS 8 (.semRead op0 7), op0, waiting, 0x3000, 5, 1000, [4,0,0,0,0,0,0,0], by decide +kernel⟩,
   ⟨{ waitS with time := { now := 1201 }, retained := { clock := 1201 } }, op0, waiting, 0x3000, 5, 1000, by decide +kernel⟩⟩
theorem witness_OperationsAndBuffersComplete_1 :
    (∃ (s : State) (o : OpRef) (q : OpSlot), s.live = true ∧ s.opOf o = some q ∧ s.opDone o = true ∧ goodStatus q.endStatus = true) ∧
    (∃ (s : State) (o : OpRef) (q : OpSlot), s.live = true ∧ s.opOf o = some q ∧ s.opDone o = true ∧ guiltyStatus q.endStatus = true ∧ (s.chan o.chan).state = ChanState.active) :=
  ⟨⟨busy [ended 0], op0, ended 0, by decide +kernel⟩,
   ⟨busy [ended 0x20], op0, ended 0x20, by decide +kernel⟩⟩
theorem witness_OperationsAndBuffersComplete_2 :
    ∃ (s : State), s.live = true :=
  ⟨busy [closing], by decide +kernel⟩
theorem witness_OperationsAndBuffersComplete_3 :
    (∃ (s : State) (ch : ℕ) (r : PendRecord), s.live = true ∧ (s.chan ch).nextSig = some r ∧ s.waitsTag (TagOwner.sigWord ch) = false ∧ s.annealed (s.chan ch).pav = false ∧ s.tagFree (s.chan ch).pav = true) ∧
    (∃ (s : State) (ch : ℕ) (r : PendRecord), s.live = true ∧ (s.chan ch).nextSig = some r ∧ s.waitsTag (TagOwner.sigWord ch) = false ∧ s.annealed (s.chan ch).pav = false ∧ s.tagFree (s.chan ch).pav = false) :=
  ⟨⟨sigS, 0, sigDue, by decide +kernel⟩,
   ⟨{ sigS with xfer := { sigS.xfer with tags := { fresh := 16384 } } }, 0, sigDue, by decide +kernel⟩⟩
theorem witness_RequestsAndTags_1 :
    (∃ (s : State) (o : OpRef) (q : OpSlot), s.opOf o = some q ∧ q.measAt = none ∧ s.jobOf o = none ∧ s.heldWrite o = none ∧ s.issueDue o = true ∧ s.tagFree (s.chan o.chan).pav = true ∧ q.formsNext = true) ∧
    (∃ (s : State) (o : OpRef) (q : OpSlot), s.opOf o = some q ∧ q.measAt = none ∧ s.jobOf o = none ∧ s.heldWrite o = none ∧ s.issueDue o = true ∧ s.tagFree (s.chan o.chan).pav = true ∧ q.formsNext = true) ∧
    (∃ (s : State) (o : OpRef) (q : OpSlot), s.opOf o = some q ∧ q.measAt = none ∧ s.jobOf o = none ∧ s.heldWrite o = none ∧ s.issueDue o = true ∧ s.tagFree (s.chan o.chan).pav = false) ∧
    (∃ (s : State) (o : OpRef) (q : OpSlot), s.opOf o = some q ∧ q.measAt = none ∧ s.jobOf o = none ∧ s.heldWrite o = none ∧ s.live = true ∧ s.tagFree (s.chan o.chan).pav = true ∧ s.nextWaiter (s.chan o.chan).pav = some ((s.chan o.chan).pav, TagOwner.op o) ∧ q.formsNext = true) :=
  ⟨⟨busy [runningOp putB], op0, runningOp putB, by decide +kernel⟩,
   ⟨busy [runningOp inlB], op0, runningOp inlB, by decide +kernel⟩,
   ⟨{ busy [runningOp putB] with xfer := { tags := { fresh := 16384 } } }, op0, runningOp putB, by decide +kernel⟩,
   ⟨{ busy [runningOp putB] with xfer := { tags := { waiting := [(0, .op op0)] } } }, op0, runningOp putB, by decide +kernel⟩⟩
theorem witness_RequestsAndTags_2 :
    (∃ (s : State) (src : MsgSource) (m : Arrived), s.live = true ∧ s.arrived src = some m ∧ m.msg.kind = kResponse ∧ s.tagAlloc (hdrTag m.msg.hdr) = none) ∧
    (∃ (s : State) (src : MsgSource) (m : Arrived) (a : TagAlloc), s.live = true ∧ s.arrived src = some m ∧ m.msg.kind = kResponse ∧ s.tagAlloc (hdrTag m.msg.hdr) = some a ∧ (hdrSgen m.msg.hdr ≠ s.retained.srcGen.toNat ∨ hdrUse m.msg.hdr ≠ a.use)) ∧
    (∃ (s : State) (src : MsgSource) (m : Arrived) (a : TagAlloc) (o : OpRef) (q : OpSlot), s.live = true ∧ s.arrived src = some m ∧ m.msg.kind = kResponse ∧ s.tagAlloc (hdrTag m.msg.hdr) = some a ∧ hdrSgen m.msg.hdr = s.retained.srcGen.toNat ∧ hdrUse m.msg.hdr = a.use ∧ a.withdrawn = false ∧ hdrCgen m.msg.hdr = (s.chan a.chan).gen.toNat ∧ a.owner = TagOwner.op o ∧ a.kind = TagKind.write ∧ s.opOf o = some q) ∧
    (∃ (s : State) (src : MsgSource) (m : Arrived) (a : TagAlloc) (o : OpRef) (q : OpSlot), s.live = true ∧ s.arrived src = some m ∧ m.msg.kind = kResponse ∧ s.tagAlloc (hdrTag m.msg.hdr) = some a ∧ hdrSgen m.msg.hdr = s.retained.srcGen.toNat ∧ hdrUse m.msg.hdr = a.use ∧ a.withdrawn = false ∧ hdrCgen m.msg.hdr = (s.chan a.chan).gen.toNat ∧ a.owner = TagOwner.op o ∧ a.kind = TagKind.write ∧ s.opOf o = some q) :=
  ⟨⟨inLocalQ tagged (rspM 16382 63 7 0) 3, .sameNode, arrivedM (rspM 16382 63 7 0) 3, by decide +kernel⟩,
   ⟨inLocalQ tagged (rspM 16383 62 7 0) 3, .sameNode, arrivedM (rspM 16383 62 7 0) 3, alloc, by decide +kernel⟩,
   ⟨inLocalQ tagged (rspM 16383 63 7 0) 3, .sameNode, arrivedM (rspM 16383 63 7 0) 3, alloc, op0, outOne, by decide +kernel⟩,
   ⟨inLocalQ tagged (rspM 16383 63 7 0x13) 3, .sameNode, arrivedM (rspM 16383 63 7 0x13) 3, alloc, op0, outOne, by decide +kernel⟩⟩
theorem witness_RequestsAndTags_3 :
    (∃ (s : State) (tag : ℕ) (a : TagAlloc), s.live = true ∧ s.tagAlloc tag = some a ∧ s.usPassed a.issued a.timeoutUs = false) ∧
    (∃ (s : State) (tag : ℕ) (a : TagAlloc) (o : OpRef) (q : OpSlot), s.live = true ∧ s.tagAlloc tag = some a ∧ s.usPassed a.issued a.timeoutUs = true ∧ a.withdrawn = false ∧ a.owner = TagOwner.op o ∧ s.opOf o = some q ∧ (s.chan a.chan).state ≠ ChanState.free ∧ (s.chan a.chan).gen.toNat = a.cgen) ∧
    (∃ (s : State) (tag : ℕ) (a : TagAlloc) (id : ℕ) (r : CReq), s.live = true ∧ s.tagAlloc tag = some a ∧ s.usPassed a.issued a.timeoutUs = true ∧ a.owner = TagOwner.relay id ∧ s.creq id = some r ∧ (∀ x ∈ s.xfer.creqs, x.id ≠ id → x.issued = true ∨ x.walking = true)) :=
  ⟨⟨{ tagged with time := { now := 76799 }, retained := { clock := 76799 } }, 16383, alloc, by decide +kernel⟩,
   ⟨{ tagged with time := { now := 76800 }, retained := { clock := 76800 } }, 16383, alloc, op0, outOne, by decide +kernel⟩,
   ⟨{ tagged with time := { now := 76800 }, retained := { clock := 76800 }, xfer := { tagged.xfer with tags := { tagged.xfer.tags with used := [relayA] }, creqs := [relayR] } }, 16383, relayA, 4, relayR, by decide +kernel⟩⟩
theorem witness_MeasurementSlotsOpenHashAndSeal_1 :
    ∃ (s : State) (r : AdminRef), s.mgmtIs r 257 = true ∧ s.lodgeTurn r = true ∧ bits ((s.cmdD r).arg 2) 63 8 = 0 ∧ bits ((s.cmdD r).arg 3) 63 24 = 0 ∧ 1 ≤ bits ((s.cmdD r).arg 4) 63 0 ∧ bits ((s.cmdD r).arg 4) 63 0 ≤ 2 ^ 40 ∧ bits ((s.cmdD r).arg 5) 63 16 = 0 ∧ (s.cmdD r).zeroArgs [6, 7] = true ∧ (s.meas (bits ((s.cmdD r).arg 2) 7 0)).state = MeasState.closed ∧ (∃ i, s.chanOf (bits ((s.cmdD r).arg 3) 31 0) = some i ∧ (s.chan i).pav = (s.cmdD r).pav) :=
  ⟨measArgs [0x40, 0x0101, 255, 0x70000, 0x10000000000, 65535], ref0, by decide +kernel⟩
theorem witness_MeasurementSlotsOpenHashAndSeal_2 :
    (∃ (s : State) (r : AdminRef), s.mgmtIs r 258 = true ∧ s.lodgeTurn r = true ∧ bits ((s.cmdD r).arg 2) 63 8 = 0 ∧ bits ((s.cmdD r).arg 3) 63 56 = 0 ∧ bits ((s.cmdD r).arg 3) 5 0 = 0 ∧ (s.cmdD r).zeroArgs [4, 5, 6, 7] = true ∧ (s.meas (bits ((s.cmdD r).arg 2) 7 0)).state = MeasState.closed) ∧
    (∃ (s : State) (r : AdminRef), s.mgmtIs r 258 = true ∧ s.lodgeTurn r = true ∧ bits ((s.cmdD r).arg 2) 63 8 = 0 ∧ bits ((s.cmdD r).arg 3) 63 56 = 0 ∧ bits ((s.cmdD r).arg 3) 5 0 = 0 ∧ (s.cmdD r).zeroArgs [4, 5, 6, 7] = true ∧ (s.meas (bits ((s.cmdD r).arg 2) 7 0)).state = MeasState.failed) ∧
    (∃ (s : State) (r : AdminRef), s.mgmtIs r 258 = true ∧ s.lodgeTurn r = true ∧ bits ((s.cmdD r).arg 2) 63 8 = 0 ∧ bits ((s.cmdD r).arg 3) 63 56 = 0 ∧ bits ((s.cmdD r).arg 3) 5 0 = 0 ∧ (s.cmdD r).zeroArgs [4, 5, 6, 7] = true ∧ (s.meas (bits ((s.cmdD r).arg 2) 7 0)).state = MeasState.opened ∧ (s.meas (bits ((s.cmdD r).arg 2) 7 0)).sealable = false) ∧
    (∃ (s : State) (r : AdminRef) (i : ℕ), s.mgmtIs r 258 = true ∧ s.lodgeTurn r = true ∧ bits ((s.cmdD r).arg 2) 63 8 = 0 ∧ bits ((s.cmdD r).arg 3) 63 56 = 0 ∧ bits ((s.cmdD r).arg 3) 5 0 = 0 ∧ (s.cmdD r).zeroArgs [4, 5, 6, 7] = true ∧ (s.meas (bits ((s.cmdD r).arg 2) 7 0)).state = MeasState.opened ∧ (s.meas (bits ((s.cmdD r).arg 2) 7 0)).sealable = true ∧ s.gate.recordFor (s.meas (bits ((s.cmdD r).arg 2) 7 0)).label (bits (s.meas (bits ((s.cmdD r).arg 2) 7 0)).handle 15 12) = some i) :=
  ⟨⟨measArgs [0x40, 0x0102, 255, 0x40], ref0, by decide +kernel⟩,
   ⟨meas { state := .failed } (measArgs [0x40, 0x0102, 255, 0x40]), ref0, by decide +kernel⟩,
   ⟨meas { state := .opened, objLen := 1 } (measArgs [0x40, 0x0102, 255, 0x40]), ref0, by decide +kernel⟩,
   ⟨meas sealed (measArgs [0x40, 0x0102, 255, 0x40]), ref0, 0, by decide +kernel⟩⟩
theorem witness_MeasurementSlotsOpenHashAndSeal_3 :
    ∃ (s : State) (k : ℕ) (i : ℕ) (l : Leaf), s.live = true ∧ (s.meas k).state = MeasState.opened ∧ (s.meas k).leaf i = some l ∧ l.digest = none ∧ l.entered.length = (s.meas k).leafLen i :=
  ⟨meas hashing running, 255, 0, { index := 0, entered := [9] }, by decide +kernel⟩
theorem witness_MeasurementSlotsOpenHashAndSeal_4 :
    ∃ (s : State) (k : ℕ) (o : OpRef) (pos : ℕ) (len : ℕ), s.live = true ∧ s.stagingNext k = some (o, pos, len) ∧ s.stagingFree k pos len = true ∧ s.measWindow k pos len = true ∧ s.waiterOk ((s.chan o.chan).pav, TagOwner.op o) = true :=
  ⟨staged, 255, op0, 0, 4096, by decide +kernel⟩
theorem witness_RequestsAreServed_1 :
    (∃ (s : State) (src : MsgSource) (m : Arrived) (d : WinDesc), s.live = true ∧ s.arrived src = some m ∧ s.retained.oos = false ∧ hdrOrd m.msg.hdr = false ∧ d.kind = WinKind.linear ∧ s.creq s.xfer.nextId = none ∧ m.msg.kind = kWriteB ∧ (s.winCheck (hdrWindow m.msg.hdr) m.key false Perm.w = Except.ok d ∧ hdrOffset m.msg.hdr + (writeData m.msg).length ≤ d.size)) ∧
    (∃ (s : State) (src : MsgSource) (m : Arrived) (d : WinDesc), s.live = true ∧ s.arrived src = some m ∧ s.retained.oos = false ∧ hdrOrd m.msg.hdr = false ∧ d.kind = WinKind.linear ∧ s.creq s.xfer.nextId = none ∧ m.msg.kind = kWriteS ∧ (s.winCheck (hdrWindow m.msg.hdr) m.key false Perm.w = Except.ok d ∧ hdrOffset m.msg.hdr + (writeData m.msg).length ≤ d.size)) ∧
    (∃ (s : State) (src : MsgSource) (m : Arrived) (d : WinDesc), s.live = true ∧ s.arrived src = some m ∧ s.retained.oos = false ∧ hdrOrd m.msg.hdr = false ∧ d.kind = WinKind.linear ∧ s.creq s.xfer.nextId = none ∧ m.msg.kind = kWriteX ∧ (s.winCheck (hdrWindow m.msg.hdr) m.key false Perm.w = Except.ok d ∧ hdrOffset m.msg.hdr + (writeData m.msg).length ≤ d.size)) ∧
    (∃ (s : State) (src : MsgSource) (m : Arrived) (d : WinDesc), s.live = true ∧ s.arrived src = some m ∧ s.retained.oos = false ∧ hdrOrd m.msg.hdr = false ∧ d.kind = WinKind.linear ∧ s.creq s.xfer.nextId = none ∧ m.msg.kind = kReadB ∧ (s.winCheck (hdrWindow m.msg.hdr) m.key false Perm.r = Except.ok d ∧ hdrOffset m.msg.hdr + readLen m.msg ≤ d.size)) ∧
    (∃ (s : State) (src : MsgSource) (m : Arrived) (d : WinDesc), s.live = true ∧ s.arrived src = some m ∧ s.retained.oos = false ∧ hdrOrd m.msg.hdr = false ∧ d.kind = WinKind.linear ∧ s.creq s.xfer.nextId = none ∧ m.msg.kind = kReadX ∧ (s.winCheck (hdrWindow m.msg.hdr) m.key false Perm.r = Except.ok d ∧ hdrOffset m.msg.hdr + readLen m.msg ≤ d.size)) ∧
    (∃ (s : State) (src : MsgSource) (m : Arrived) (d : WinDesc), s.live = true ∧ s.arrived src = some m ∧ s.retained.oos = false ∧ hdrOrd m.msg.hdr = false ∧ d.kind = WinKind.linear ∧ s.creq s.xfer.nextId = none ∧ m.msg.kind = kAtomic ∧ s.awake 10 = true ∧ hdrOffset m.msg.hdr % fmtSize (bits (m.msg.body.getD 0 0) 119 117) = 0 ∧ (s.winCheck (hdrWindow m.msg.hdr) m.key false Perm.a = Except.ok d ∧ hdrOffset m.msg.hdr + fmtSize (bits (m.msg.body.getD 0 0) 119 117) ≤ d.size) ∧ s.atomicsHeld < 512) ∧
    (∃ (s : State) (src : MsgSource) (m : Arrived) (d : WinDesc), s.live = true ∧ s.arrived src = some m ∧ s.retained.oos = false ∧ hdrOrd m.msg.hdr = false ∧ d.kind = WinKind.linear ∧ s.creq s.xfer.nextId = none ∧ m.msg.kind = kCopyReq ∧ (s.winCheck (hdrWindow m.msg.hdr) m.key false Perm.r = Except.ok d ∧ hdrOffset m.msg.hdr + bits (m.msg.body.getD 0 0) 58 46 ≤ d.size) ∧ s.tagFree m.key = true) :=
  ⟨⟨inLocalQ linS (wB) 2, .sameNode, arrivedM (wB) 2, linD, by decide +kernel, by decide +kernel, by decide +kernel, by decide +kernel, by decide +kernel, by decide +kernel, by decide +kernel, ⟨ok_of (by decide +kernel), by decide +kernel⟩⟩,
   ⟨inLocalQ linS (wS 0xFFE0) 2, .sameNode, arrivedM (wS 0xFFE0) 2, linD, by decide +kernel, by decide +kernel, by decide +kernel, by decide +kernel, by decide +kernel, by decide +kernel, by decide +kernel, ⟨ok_of (by decide +kernel), by decide +kernel⟩⟩,
   ⟨inLocalQ linS (wX 0xFFF0) 2, .sameNode, arrivedM (wX 0xFFF0) 2, linD, by decide +kernel, by decide +kernel, by decide +kernel, by decide +kernel, by decide +kernel, by decide +kernel, by decide +kernel, ⟨ok_of (by decide +kernel), by decide +kernel⟩⟩,
   ⟨inLocalQ linS (rB 0xFFFF) 2, .sameNode, arrivedM (rB 0xFFFF) 2, linD, by decide +kernel, by decide +kernel, by decide +kernel, by decide +kernel, by decide +kernel, by decide +kernel, by decide +kernel, ⟨ok_of (by decide +kernel), by decide +kernel⟩⟩,
   ⟨inLocalQ linS (rX 0xFFF0) 2, .sameNode, arrivedM (rX 0xFFF0) 2, linD, by decide +kernel, by decide +kernel, by decide +kernel, by decide +kernel, by decide +kernel, by decide +kernel, by decide +kernel, ⟨ok_of (by decide +kernel), by decide +kernel⟩⟩,
   ⟨inLocalQ linS (aM 0xFFF8) 2, .sameNode, arrivedM (aM 0xFFF8) 2, linD, by decide +kernel, by decide +kernel, by decide +kernel, by decide +kernel, by decide +kernel, by decide +kernel, by decide +kernel, by decide +kernel, by decide +kernel, ⟨ok_of (by decide +kernel), by decide +kernel⟩, by decide +kernel⟩,
   ⟨inLocalQ linS (cM 0xFFF0) 2, .sameNode, arrivedM (cM 0xFFF0) 2, linD, by decide +kernel, by decide +kernel, by decide +kernel, by decide +kernel, by decide +kernel, by decide +kernel, by decide +kernel, ⟨ok_of (by decide +kernel), by decide +kernel⟩, by decide +kernel⟩⟩
theorem witness_RequestsAreServed_2 :
    (∃ (s : State) (src : MsgSource) (m : Arrived) (st : ℕ), s.live = true ∧ s.arrived src = some m ∧ m.msg.kind = kWriteB ∧ (s.winCheck (hdrWindow m.msg.hdr) m.key false Perm.w = Except.error st ∨ st = 19 ∧ ∃ d, s.winCheck (hdrWindow m.msg.hdr) m.key false Perm.w = Except.ok d ∧ d.size < hdrOffset m.msg.hdr + (writeData m.msg).length) ∧ s.retained.oos = false) ∧
    (∃ (s : State) (src : MsgSource) (m : Arrived) (st : ℕ), s.live = true ∧ s.arrived src = some m ∧ m.msg.kind = kWriteB ∧ (s.winCheck (hdrWindow m.msg.hdr) m.key false Perm.w = Except.error st ∨ st = 19 ∧ ∃ d, s.winCheck (hdrWindow m.msg.hdr) m.key false Perm.w = Except.ok d ∧ d.size < hdrOffset m.msg.hdr + (writeData m.msg).length) ∧ s.retained.oos = false) ∧
    (∃ (s : State) (src : MsgSource) (m : Arrived) (p : PortIx) (vc : ℕ), s.live = true ∧ s.arrived src = some m ∧ m.msg.kind = kWriteB ∧ src = MsgSource.port p vc ∧ s.retained.oos = true ∧ (∀ x ∈ (s.port p).pane.rxMsgs, x.2.dead = false) ∧ (s.counter (ctrPlDiscard p)).count < 4294967294) ∧
    (∃ (s : State) (src : MsgSource) (m : Arrived) (st : ℕ), s.live = true ∧ s.arrived src = some m ∧ m.msg.kind = kWriteS ∧ (s.winCheck (hdrWindow m.msg.hdr) m.key false Perm.w = Except.error st ∨ st = 19 ∧ ∃ d, s.winCheck (hdrWindow m.msg.hdr) m.key false Perm.w = Except.ok d ∧ d.size < hdrOffset m.msg.hdr + (writeData m.msg).length) ∧ s.retained.oos = false) ∧
    (∃ (s : State) (src : MsgSource) (m : Arrived) (st : ℕ), s.live = true ∧ s.arrived src = some m ∧ m.msg.kind = kWriteS ∧ (s.winCheck (hdrWindow m.msg.hdr) m.key false Perm.w = Except.error st ∨ st = 19 ∧ ∃ d, s.winCheck (hdrWindow m.msg.hdr) m.key false Perm.w = Except.ok d ∧ d.size < hdrOffset m.msg.hdr + (writeData m.msg).length) ∧ s.retained.oos = false) ∧
    (∃ (s : State) (src : MsgSource) (m : Arrived) (p : PortIx) (vc : ℕ), s.live = true ∧ s.arrived src = some m ∧ m.msg.kind = kWriteS ∧ src = MsgSource.port p vc ∧ s.retained.oos = true ∧ (∀ x ∈ (s.port p).pane.rxMsgs, x.2.dead = false) ∧ (s.counter (ctrPlDiscard p)).count < 4294967294) ∧
    (∃ (s : State) (src : MsgSource) (m : Arrived) (st : ℕ), s.live = true ∧ s.arrived src = some m ∧ m.msg.kind = kWriteX ∧ (s.winCheck (hdrWindow m.msg.hdr) m.key false Perm.w = Except.error st ∨ st = 19 ∧ ∃ d, s.winCheck (hdrWindow m.msg.hdr) m.key false Perm.w = Except.ok d ∧ d.size < hdrOffset m.msg.hdr + (writeData m.msg).length) ∧ s.retained.oos = false) ∧
    (∃ (s : State) (src : MsgSource) (m : Arrived) (st : ℕ), s.live = true ∧ s.arrived src = some m ∧ m.msg.kind = kWriteX ∧ (s.winCheck (hdrWindow m.msg.hdr) m.key false Perm.w = Except.error st ∨ st = 19 ∧ ∃ d, s.winCheck (hdrWindow m.msg.hdr) m.key false Perm.w = Except.ok d ∧ d.size < hdrOffset m.msg.hdr + (writeData m.msg).length) ∧ s.retained.oos = false) ∧
    (∃ (s : State) (src : MsgSource) (m : Arrived) (p : PortIx) (vc : ℕ), s.live = true ∧ s.arrived src = some m ∧ m.msg.kind = kWriteX ∧ src = MsgSource.port p vc ∧ s.retained.oos = true ∧ (∀ x ∈ (s.port p).pane.rxMsgs, x.2.dead = false) ∧ (s.counter (ctrPlDiscard p)).count < 4294967294) ∧
    (∃ (s : State) (src : MsgSource) (m : Arrived) (st : ℕ), s.live = true ∧ s.arrived src = some m ∧ m.msg.kind = kReadB ∧ (s.winCheck (hdrWindow m.msg.hdr) m.key false Perm.r = Except.error st ∨ st = 19 ∧ ∃ d, s.winCheck (hdrWindow m.msg.hdr) m.key false Perm.r = Except.ok d ∧ d.size < hdrOffset m.msg.hdr + readLen m.msg) ∧ s.retained.oos = false) ∧
    (∃ (s : State) (src : MsgSource) (m : Arrived) (st : ℕ), s.live = true ∧ s.arrived src = some m ∧ m.msg.kind = kReadB ∧ (s.winCheck (hdrWindow m.msg.hdr) m.key false Perm.r = Except.error st ∨ st = 19 ∧ ∃ d, s.winCheck (hdrWindow m.msg.hdr) m.key false Perm.r = Except.ok d ∧ d.size < hdrOffset m.msg.hdr + readLen m.msg) ∧ s.retained.oos = false) ∧
    (∃ (s : State) (src : MsgSource) (m : Arrived) (p : PortIx) (vc : ℕ), s.live = true ∧ s.arrived src = some m ∧ m.msg.kind = kReadB ∧ src = MsgSource.port p vc ∧ s.retained.oos = true ∧ (∀ x ∈ (s.port p).pane.rxMsgs, x.2.dead = false) ∧ (s.counter (ctrPlDiscard p)).count < 4294967294) ∧
    (∃ (s : State) (src : MsgSource) (m : Arrived) (st : ℕ), s.live = true ∧ s.arrived src = some m ∧ m.msg.kind = kReadX ∧ (s.winCheck (hdrWindow m.msg.hdr) m.key false Perm.r = Except.error st ∨ st = 19 ∧ ∃ d, s.winCheck (hdrWindow m.msg.hdr) m.key false Perm.r = Except.ok d ∧ d.size < hdrOffset m.msg.hdr + readLen m.msg) ∧ s.retained.oos = false) ∧
    (∃ (s : State) (src : MsgSource) (m : Arrived) (st : ℕ), s.live = true ∧ s.arrived src = some m ∧ m.msg.kind = kReadX ∧ (s.winCheck (hdrWindow m.msg.hdr) m.key false Perm.r = Except.error st ∨ st = 19 ∧ ∃ d, s.winCheck (hdrWindow m.msg.hdr) m.key false Perm.r = Except.ok d ∧ d.size < hdrOffset m.msg.hdr + readLen m.msg) ∧ s.retained.oos = false) ∧
    (∃ (s : State) (src : MsgSource) (m : Arrived) (p : PortIx) (vc : ℕ), s.live = true ∧ s.arrived src = some m ∧ m.msg.kind = kReadX ∧ src = MsgSource.port p vc ∧ s.retained.oos = true ∧ (∀ x ∈ (s.port p).pane.rxMsgs, x.2.dead = false) ∧ (s.counter (ctrPlDiscard p)).count < 4294967294) ∧
    (∃ (s : State) (src : MsgSource) (m : Arrived) (p : PortIx) (vc : ℕ), s.live = true ∧ s.arrived src = some m ∧ m.msg.kind = kAtomic ∧ s.awake 10 = true ∧ src = MsgSource.port p vc ∧ s.retained.oos = true ∧ (∀ x ∈ (s.port p).pane.rxMsgs, x.2.dead = false) ∧ (s.counter (ctrPlDiscard p)).count < 4294967294) ∧
    (∃ (s : State) (src : MsgSource) (m : Arrived) (st : ℕ), s.live = true ∧ s.arrived src = some m ∧ m.msg.kind = kAtomic ∧ s.awake 10 = true ∧ hdrOffset m.msg.hdr % fmtSize (bits (m.msg.body.getD 0 0) 119 117) ≠ 0 ∧ st = 16 ∧ s.retained.oos = false) ∧
    (∃ (s : State) (src : MsgSource) (m : Arrived) (st : ℕ), s.live = true ∧ s.arrived src = some m ∧ m.msg.kind = kAtomic ∧ s.awake 10 = true ∧ hdrOffset m.msg.hdr % fmtSize (bits (m.msg.body.getD 0 0) 119 117) = 0 ∧ (s.winCheck (hdrWindow m.msg.hdr) m.key false Perm.a = Except.error st ∨ st = 19 ∧ ∃ d, s.winCheck (hdrWindow m.msg.hdr) m.key false Perm.a = Except.ok d ∧ d.size < hdrOffset m.msg.hdr + fmtSize (bits (m.msg.body.getD 0 0) 119 117)) ∧ s.retained.oos = false) ∧
    (∃ (s : State) (src : MsgSource) (m : Arrived) (st : ℕ), s.live = true ∧ s.arrived src = some m ∧ m.msg.kind = kCopyReq ∧ (s.winCheck (hdrWindow m.msg.hdr) m.key false Perm.r = Except.error st ∨ st = 19 ∧ ∃ d, s.winCheck (hdrWindow m.msg.hdr) m.key false Perm.r = Except.ok d ∧ d.size < hdrOffset m.msg.hdr + bits (m.msg.body.getD 0 0) 58 46) ∧ s.retained.oos = false) ∧
    (∃ (s : State) (src : MsgSource) (m : Arrived) (p : PortIx) (vc : ℕ), s.live = true ∧ s.arrived src = some m ∧ m.msg.kind = kCopyReq ∧ src = MsgSource.port p vc ∧ s.retained.oos = true ∧ (∀ x ∈ (s.port p).pane.rxMsgs, x.2.dead = false) ∧ (s.counter (ctrPlDiscard p)).count < 4294967294) ∧
    (∃ (s : State) (src : MsgSource) (m : Arrived) (st : ℕ), s.live = true ∧ s.arrived src = some m ∧ m.msg.kind = kKvCmd ∧ s.winCheck (hdrWindow m.msg.hdr) m.key true Perm.r = Except.error st ∧ s.retained.oos = false) ∧
    (∃ (s : State) (src : MsgSource) (m : Arrived) (p : PortIx) (vc : ℕ), s.live = true ∧ s.arrived src = some m ∧ m.msg.kind = kKvCmd ∧ src = MsgSource.port p vc ∧ s.retained.oos = true ∧ (∀ x ∈ (s.port p).pane.rxMsgs, x.2.dead = false) ∧ (s.counter (ctrPlDiscard p)).count < 4294967294) ∧
    (∃ (s : State) (src : MsgSource) (m : Arrived) (st : ℕ), s.live = true ∧ s.arrived src = some m ∧ m.msg.kind = kKvWrite ∧ s.winCheck (hdrWindow m.msg.hdr) m.key true Perm.w = Except.error st ∧ s.retained.oos = false) ∧
    (∃ (s : State) (src : MsgSource) (m : Arrived) (p : PortIx) (vc : ℕ), s.live = true ∧ s.arrived src = some m ∧ m.msg.kind = kKvWrite ∧ src = MsgSource.port p vc ∧ s.retained.oos = true ∧ (∀ x ∈ (s.port p).pane.rxMsgs, x.2.dead = false) ∧ (s.counter (ctrPlDiscard p)).count < 4294967294) :=
  ⟨⟨inLocalQ linS ({ wB with hdr := reqHdr kWriteB 0x10000 0 }) 2, .sameNode, arrivedM ({ wB with hdr := reqHdr kWriteB 0x10000 0 }) 2, 0x13, by decide +kernel, by decide +kernel, by decide +kernel, Or.inr ⟨by decide +kernel, linD, ok_of (by decide +kernel), by decide +kernel⟩, by decide +kernel⟩,
   ⟨inLocalQ running ({ wB with hdr := reqHdr kWriteB 0x10000 0 }) 2, .sameNode, arrivedM ({ wB with hdr := reqHdr kWriteB 0x10000 0 }) 2, 0x11, by decide +kernel, by decide +kernel, by decide +kernel, Or.inl (err_of (by decide +kernel)), by decide +kernel⟩,
   ⟨oosS (onPort linS ({ wB with hdr := reqHdr kWriteB 0x10000 0 }) 2), .port 5 2, arrivedP ({ wB with hdr := reqHdr kWriteB 0x10000 0 }) 2, 5, 2, by decide +kernel⟩,
   ⟨inLocalQ linS (wS 0xFFE1) 2, .sameNode, arrivedM (wS 0xFFE1) 2, 0x13, by decide +kernel, by decide +kernel, by decide +kernel, Or.inr ⟨by decide +kernel, linD, ok_of (by decide +kernel), by decide +kernel⟩, by decide +kernel⟩,
   ⟨inLocalQ running (wS 0xFFE1) 2, .sameNode, arrivedM (wS 0xFFE1) 2, 0x11, by decide +kernel, by decide +kernel, by decide +kernel, Or.inl (err_of (by decide +kernel)), by decide +kernel⟩,
   ⟨oosS (onPort linS (wS 0xFFE1) 2), .port 5 2, arrivedP (wS 0xFFE1) 2, 5, 2, by decide +kernel⟩,
   ⟨inLocalQ linS (wX 0xFFF1) 2, .sameNode, arrivedM (wX 0xFFF1) 2, 0x13, by decide +kernel, by decide +kernel, by decide +kernel, Or.inr ⟨by decide +kernel, linD, ok_of (by decide +kernel), by decide +kernel⟩, by decide +kernel⟩,
   ⟨inLocalQ running (wX 0xFFF1) 2, .sameNode, arrivedM (wX 0xFFF1) 2, 0x11, by decide +kernel, by decide +kernel, by decide +kernel, Or.inl (err_of (by decide +kernel)), by decide +kernel⟩,
   ⟨oosS (onPort linS (wX 0xFFF1) 2), .port 5 2, arrivedP (wX 0xFFF1) 2, 5, 2, by decide +kernel⟩,
   ⟨inLocalQ linS (rB 0x10000) 2, .sameNode, arrivedM (rB 0x10000) 2, 0x13, by decide +kernel, by decide +kernel, by decide +kernel, Or.inr ⟨by decide +kernel, linD, ok_of (by decide +kernel), by decide +kernel⟩, by decide +kernel⟩,
   ⟨inLocalQ running (rB 0x10000) 2, .sameNode, arrivedM (rB 0x10000) 2, 0x11, by decide +kernel, by decide +kernel, by decide +kernel, Or.inl (err_of (by decide +kernel)), by decide +kernel⟩,
   ⟨oosS (onPort linS (rB 0x10000) 2), .port 5 2, arrivedP (rB 0x10000) 2, 5, 2, by decide +kernel⟩,
   ⟨inLocalQ linS (rX 0xFFF1) 2, .sameNode, arrivedM (rX 0xFFF1) 2, 0x13, by decide +kernel, by decide +kernel, by decide +kernel, Or.inr ⟨by decide +kernel, linD, ok_of (by decide +kernel), by decide +kernel⟩, by decide +kernel⟩,
   ⟨inLocalQ running (rX 0xFFF1) 2, .sameNode, arrivedM (rX 0xFFF1) 2, 0x11, by decide +kernel, by decide +kernel, by decide +kernel, Or.inl (err_of (by decide +kernel)), by decide +kernel⟩,
   ⟨oosS (onPort linS (rX 0xFFF1) 2), .port 5 2, arrivedP (rX 0xFFF1) 2, 5, 2, by decide +kernel⟩,
   ⟨oosS (onPort linS (aM 0) 2), .port 5 2, arrivedP (aM 0) 2, 5, 2, by decide +kernel⟩,
   ⟨inLocalQ linS (aM 1) 2, .sameNode, arrivedM (aM 1) 2, 0x10, by decide +kernel⟩,
   ⟨inLocalQ linS (aM 0x10000) 2, .sameNode, arrivedM (aM 0x10000) 2, 0x13, by decide +kernel, by decide +kernel, by decide +kernel, by decide +kernel, by decide +kernel, Or.inr ⟨by decide +kernel, linD, ok_of (by decide +kernel), by decide +kernel⟩, by decide +kernel⟩,
   ⟨inLocalQ linS (cM 0xFFF1) 2, .sameNode, arrivedM (cM 0xFFF1) 2, 0x13, by decide +kernel, by decide +kernel, by decide +kernel, Or.inr ⟨by decide +kernel, linD, ok_of (by decide +kernel), by decide +kernel⟩, by decide +kernel⟩,
   ⟨oosS (onPort linS (cM 0xFFF1) 2), .port 5 2, arrivedP (cM 0xFFF1) 2, 5, 2, by decide +kernel⟩,
   ⟨inLocalQ linS kvcM 2, .sameNode, arrivedM kvcM 2, 0x12, by decide +kernel, by decide +kernel, by decide +kernel, err_of (by decide +kernel), by decide +kernel⟩,
   ⟨oosS (onPort linS kvcM 2), .port 5 2, arrivedP kvcM 2, 5, 2, by decide +kernel⟩,
   ⟨inLocalQ linS (kvwM 3) 2, .sameNode, arrivedM (kvwM 3) 2, 0x12, by decide +kernel, by decide +kernel, by decide +kernel, err_of (by decide +kernel), by decide +kernel⟩,
   ⟨oosS (onPort linS (kvwM 3) 2), .port 5 2, arrivedP (kvwM 3) 2, 5, 2, by decide +kernel⟩⟩
theorem witness_WindowsTranslate_1 :
    (∃ (s : State) (src : MsgSource) (m : Arrived) (d : WinDesc), s.live = true ∧ s.arrived src = some m ∧ s.retained.oos = false ∧ hdrOrd m.msg.hdr = false ∧ s.creq s.xfer.nextId = none ∧ s.job s.xfer.nextId = none ∧ m.msg.kind = kKvWrite ∧ s.winCheck (hdrWindow m.msg.hdr) m.key true Perm.w = Except.ok d ∧ bits (m.msg.body.getD 0 0) 40 29 * 16 = d.entryBytes ∧ bits (m.msg.body.getD 0 0) 127 96 < d.seqCount ∧ bits (m.msg.body.getD 0 0) 95 80 < d.layers ∧ bits (m.msg.body.getD 0 0) 79 72 < d.hgTotal ∧ bits (m.msg.body.getD 0 0) 71 50 + bits (m.msg.body.getD 0 0) 49 41 ≤ 2 ^ d.maxTokensLog2 ∧ (kvPlace d (bits (m.msg.body.getD 0 0) 95 80) (bits (m.msg.body.getD 0 0) 79 72) (bits (m.msg.body.getD 0 0) 71 50) (bits (m.msg.body.getD 0 0) 28 17)).2.1 + (writeData m.msg).length ≤ (kvPlace d (bits (m.msg.body.getD 0 0) 95 80) (bits (m.msg.body.getD 0 0) 79 72) (bits (m.msg.body.getD 0 0) 71 50) (bits (m.msg.body.getD 0 0) 28 17)).2.2 ∧ List.find? (fun x => (x.src, x.pav, x.cgen) == (hdrSrc m.msg.hdr, m.key, hdrCgen m.msg.hdr) && x.win == hdrWindow m.msg.hdr && x.slot == bits (m.msg.body.getD 0 0) 127 96) s.xfer.dests = none ∧ s.dest (s.xfer.nextId + 1) = none) ∧
    (∃ (s : State) (src : MsgSource) (m : Arrived) (d : WinDesc) (k : KvMove), s.live = true ∧ s.arrived src = some m ∧ s.retained.oos = false ∧ hdrOrd m.msg.hdr = false ∧ s.creq s.xfer.nextId = none ∧ s.job s.xfer.nextId = none ∧ k = kvOfCmd m.msg ∧ m.msg.kind = kKvCmd ∧ s.winCheck (hdrWindow m.msg.hdr) m.key true Perm.r = Except.ok d ∧ k.srcSeq < d.seqCount ∧ k.layerFirst + k.layerCount ≤ d.layers ∧ k.hgFirst + k.hgCount ≤ d.hgTotal ∧ s.clustersOf m.key ≠ []) ∧
    (∃ (s : State) (src : MsgSource) (m : Arrived) (d : WinDesc) (x : KvDest) (list : ℕ), s.live = true ∧ s.arrived src = some m ∧ s.retained.oos = false ∧ hdrOrd m.msg.hdr = false ∧ s.creq s.xfer.nextId = none ∧ s.job s.xfer.nextId = none ∧ m.msg.kind = kKvWrite ∧ s.winCheck (hdrWindow m.msg.hdr) m.key true Perm.w = Except.ok d ∧ bits (m.msg.body.getD 0 0) 40 29 * 16 = d.entryBytes ∧ bits (m.msg.body.getD 0 0) 127 96 < d.seqCount ∧ bits (m.msg.body.getD 0 0) 95 80 < d.layers ∧ bits (m.msg.body.getD 0 0) 79 72 < d.hgTotal ∧ bits (m.msg.body.getD 0 0) 71 50 + bits (m.msg.body.getD 0 0) 49 41 ≤ 2 ^ d.maxTokensLog2 ∧ (kvPlace d (bits (m.msg.body.getD 0 0) 95 80) (bits (m.msg.body.getD 0 0) 79 72) (bits (m.msg.body.getD 0 0) 71 50) (bits (m.msg.body.getD 0 0) 28 17)).2.1 + (writeData m.msg).length ≤ (kvPlace d (bits (m.msg.body.getD 0 0) 95 80) (bits (m.msg.body.getD 0 0) 79 72) (bits (m.msg.body.getD 0 0) 71 50) (bits (m.msg.body.getD 0 0) 28 17)).2.2 ∧ List.find? (fun x => (x.src, x.pav, x.cgen) == (hdrSrc m.msg.hdr, m.key, hdrCgen m.msg.hdr) && x.win == hdrWindow m.msg.hdr && x.slot == bits (m.msg.body.getD 0 0) 127 96) s.xfer.dests = some x ∧ s.dest x.id = some x ∧ x.list = some list ∧ s.pwcFind (hdrWindow m.msg.hdr) (kvPlace d (bits (m.msg.body.getD 0 0) 95 80) (bits (m.msg.body.getD 0 0) 79 72) (bits (m.msg.body.getD 0 0) 71 50) (bits (m.msg.body.getD 0 0) 28 17)).1 (some x.id) = none) :=
  ⟨⟨inLocalQ kvS (kvwM 3) 2, .sameNode, arrivedM (kvwM 3) 2, kvD, by decide +kernel, by decide +kernel, by decide +kernel, by decide +kernel, by decide +kernel, by decide +kernel, by decide +kernel, ok_of (by decide +kernel), by decide +kernel, by decide +kernel, by decide +kernel, by decide +kernel, by decide +kernel, by decide +kernel, by decide +kernel, by decide +kernel⟩,
   ⟨inLocalQ kvS kvcM 2, .sameNode, arrivedM kvcM 2, kvD, kvOfCmd kvcM, by decide +kernel, by decide +kernel, by decide +kernel, by decide +kernel, by decide +kernel, by decide +kernel, by decide +kernel, by decide +kernel, ok_of (by decide +kernel), by decide +kernel, by decide +kernel, by decide +kernel, by decide +kernel⟩,
   ⟨inLocalQ { kvS with xfer := { kvS.xfer with dests := [dest9] } } (kvwM 3) 2, .sameNode, arrivedM (kvwM 3) 2, kvD, dest9, 0x8000, by decide +kernel, by decide +kernel, by decide +kernel, by decide +kernel, by decide +kernel, by decide +kernel, by decide +kernel, ok_of (by decide +kernel), by decide +kernel, by decide +kernel, by decide +kernel, by decide +kernel, by decide +kernel, by decide +kernel, by decide +kernel, by decide +kernel, by decide +kernel, by decide +kernel⟩⟩
theorem witness_WindowsTranslate_3 :
    (∃ (s : State) (id : ℕ) (l : List Byte) (r : CReq) (e : WinEntry) (p : ℕ) (f : ℕ), s.live = true ∧ s.hasUse (isWalk id) = true ∧ s.creq id = some r ∧ s.job id = none ∧ r.walking = true ∧ r.issued = false ∧ r.kind = CKind.read ∧ r.ordered = false ∧ r.pages = [p] ∧ s.win r.win = some e ∧ frameOf l e.desc.pageLog2 = some f) ∧
    (∃ (s : State) (id : ℕ) (l : List Byte) (r : CReq) (e : WinEntry) (p : ℕ), s.live = true ∧ s.hasUse (isWalk id) = true ∧ s.creq id = some r ∧ s.job id = none ∧ r.walking = true ∧ r.issued = false ∧ r.kind = CKind.read ∧ r.ordered = false ∧ r.pages = [p] ∧ s.win r.win = some e ∧ frameOf l e.desc.pageLog2 = none ∧ (∀ x ∈ s.xfer.creqs, x.id ≠ id → x.issued = true ∨ x.walking = true)) :=
  ⟨⟨walkS, 4, leBytes 8 0x7FFFF001, walkR, { desc := pagedD }, 15, 0x7FFFF000, by decide +kernel⟩,
   ⟨walkS, 4, leBytes 8 0x7FFFF000, walkR, { desc := pagedD }, 15, by decide +kernel⟩⟩
theorem witness_WindowsTranslate_2 :
    (∃ (s : State) (id : ℕ), s.live = true ∧ s.hasUse (isWalk id) = true) ∧
    (∃ (s : State) (id : ℕ), s.live = true ∧ s.hasUse (isWalk id) = true) :=
  ⟨⟨walkS, 4, by decide +kernel⟩,
   ⟨readAsked running 16 (.walk 7), 7, by decide +kernel⟩⟩
theorem witness_WindowsAreRegisteredAndReleased_1 :
    ∃ (s : State) (r : AdminRef) (d : WinDesc) (w : ℕ), s.live = true ∧ s.cmdIs r 16 = true ∧ (s.cmdD r).descriptor = some d ∧ bits ((s.cmdD r).arg 5) 63 17 = 0 ∧ (s.cmdD r).zeroArgs [6, 7] = true ∧ s.win w = none ∧ (bit ((s.cmdD r).arg 5) 16 = true → s.freeWin d.pav = some w ∧ ((s.cmdD r).pav = 0 ∨ d.pav = (s.cmdD r).pav)) ∧ (bit ((s.cmdD r).arg 5) 16 = false → w = bits ((s.cmdD r).arg 5) 15 0 ∧ ((s.cmdD r).pav = 0 ∨ d.pav = (s.cmdD r).pav ∧ s.winInRange (s.cmdD r).pav w = true)) :=
  ⟨withCmd running [0x10, 0x1C, 0x10000000000, 0x1000, 0, 0xFFFF], ref0, { linD with size := 0x10000000000, base := 0x1000 }, 65535, by decide +kernel⟩
theorem witness_WindowsAreRegisteredAndReleased_2 :
    (∃ (s : State) (r : AdminRef) (e : WinEntry), s.live = true ∧ s.cmdIs r 17 = true ∧ bits ((s.cmdD r).arg 1) 63 16 = 0 ∧ (s.cmdD r).zeroArgs [2, 3, 4, 5, 6, 7] = true ∧ s.win (bits ((s.cmdD r).arg 1) 15 0) = some e ∧ e.releasing = false ∧ e.opening = none ∧ ((s.cmdD r).pav = 0 ∨ e.desc.pav = (s.cmdD r).pav) ∧ s.winBusy (bits ((s.cmdD r).arg 1) 15 0) = false) ∧
    (∃ (s : State) (r : AdminRef) (e : WinEntry), s.live = true ∧ s.cmdIs r 17 = true ∧ bits ((s.cmdD r).arg 1) 63 16 = 0 ∧ (s.cmdD r).zeroArgs [2, 3, 4, 5, 6, 7] = true ∧ s.win (bits ((s.cmdD r).arg 1) 15 0) = some e ∧ e.releasing = false ∧ e.opening = none ∧ ((s.cmdD r).pav = 0 ∨ e.desc.pav = (s.cmdD r).pav) ∧ s.winBusy (bits ((s.cmdD r).arg 1) 15 0) = true) :=
  ⟨⟨withCmd linS [0x11, 0xFFFF], ref0, { desc := linD }, by decide +kernel⟩,
   ⟨withCmd { linS with xfer := { linS.xfer with creqs := [{ walkR with issued := true, out := 1, walking := false }] } } [0x11, 0xFFFF], ref0, { desc := linD }, by decide +kernel⟩⟩
theorem witness_WindowsAreRegisteredAndReleased_3 :
    ∃ (s : State) (r : AdminRef), s.live = true ∧ s.cmdIs r 16 = true ∧ (bit ((s.cmdD r).arg 5) 16 = true ∨ s.win (bits ((s.cmdD r).arg 5) 15 0) = none) :=
  ⟨withCmd linS [0x10, 0x1C, 0x10000000000, 0x1000, 0, 0x1FFFF], ref0, by decide +kernel⟩
theorem witness_WindowsAreRegisteredAndReleased_4 :
    ∃ (s : State) (r : AdminRef), s.live = true ∧ s.cmdIs r 17 = true ∧ s.win (bits ((s.cmdD r).arg 1) 15 0) = none ∧ bits ((s.cmdD r).arg 1) 63 16 = 0 ∧ (s.cmdD r).zeroArgs [2, 3, 4, 5, 6, 7] = true :=
  ⟨withCmd linS [0x11, 7], ref0, by decide +kernel⟩
theorem witness_WindowsAreRegisteredAndReleased_5 :
    ∃ (s : State) (r : AdminRef) (w : ℕ) (x : WinEntry) (q : AdminCmd) (st : ℕ) (ra : ℕ) (r1 : ℕ) (r2 : ℕ) (r3 : ℕ), s.live = true ∧ s.firstDone r = true ∧ s.cmd r = some q ∧ q.phase = CmdPhase.finished st ra r1 r2 r3 ∧ s.win w = some x ∧ x.opening = some r :=
  ⟨{ finished with xfer := { wins := [(65535, some { desc := linD, opening := some ref0 })] } }, ref0, 65535, { desc := linD, opening := some ref0 }, doneCmd, 3, 5, 6, 7, 8, by decide +kernel⟩
theorem witness_ProgramsComeAndGo_1 :
    (∃ (s : State) (r : AdminRef), s.live = true ∧ s.cmdIs r 32 = true ∧ bits ((s.cmdD r).arg 1) 63 56 = 0 ∧ bits ((s.cmdD r).arg 1) 5 0 = 0 ∧ bits ((s.cmdD r).arg 2) 63 17 = 0 ∧ (s.cmdD r).zeroArgs [3, 4, 5, 6, 7] = true ∧ s.contentRead (ContentKey.admin r) = none) ∧
    (∃ (s : State) (r : AdminRef) (l : List Byte) (p : Program) (i : ℕ) (k : ℕ), s.live = true ∧ s.cmdIs r 32 = true ∧ bits ((s.cmdD r).arg 1) 63 56 = 0 ∧ bits ((s.cmdD r).arg 1) 5 0 = 0 ∧ bits ((s.cmdD r).arg 2) 63 17 = 0 ∧ (s.cmdD r).zeroArgs [3, 4, 5, 6, 7] = true ∧ s.content (ContentKey.admin r) = some (ReadResult.data l) ∧ s.loadImage (s.cmdD r).pav (bits ((s.cmdD r).arg 2) 16 0) l = Except.ok [p] ∧ p.persistent = false ∧ s.placesFor (s.cmdD r).pav [p] [] [] = some [(i, k)] ∧ s.gather.memoryUsed + p.memory ≤ 262144) ∧
    (∃ (s : State) (r : AdminRef) (l : List Byte) (p : Program), s.live = true ∧ s.cmdIs r 32 = true ∧ bits ((s.cmdD r).arg 1) 63 56 = 0 ∧ bits ((s.cmdD r).arg 1) 5 0 = 0 ∧ bits ((s.cmdD r).arg 2) 63 17 = 0 ∧ (s.cmdD r).zeroArgs [3, 4, 5, 6, 7] = true ∧ s.content (ContentKey.admin r) = some (ReadResult.data l) ∧ s.loadImage (s.cmdD r).pav (bits ((s.cmdD r).arg 2) 16 0) l = Except.ok [p] ∧ (s.placesFor (s.cmdD r).pav [p] [] [] = none ∨ 262144 < s.gather.memoryUsed + p.memory)) ∧
    (∃ (s : State) (r : AdminRef) (l : List Byte) (st : ℕ), s.live = true ∧ s.cmdIs r 32 = true ∧ bits ((s.cmdD r).arg 1) 63 56 = 0 ∧ bits ((s.cmdD r).arg 1) 5 0 = 0 ∧ bits ((s.cmdD r).arg 2) 63 17 = 0 ∧ (s.cmdD r).zeroArgs [3, 4, 5, 6, 7] = true ∧ s.content (ContentKey.admin r) = some (ReadResult.data l) ∧ s.loadImage (s.cmdD r).pav (bits ((s.cmdD r).arg 2) 16 0) l = Except.error st) ∧
    (∃ (s : State) (r : AdminRef) (res : ReadResult), s.live = true ∧ s.cmdIs r 32 = true ∧ bits ((s.cmdD r).arg 1) 63 56 = 0 ∧ bits ((s.cmdD r).arg 1) 5 0 = 0 ∧ bits ((s.cmdD r).arg 2) 63 17 = 0 ∧ (s.cmdD r).zeroArgs [3, 4, 5, 6, 7] = true ∧ s.content (ContentKey.admin r) = some res ∧ (res = ReadResult.fault ∨ res = ReadResult.ue ∨ res = ReadResult.partReset)) ∧
    (∃ (s : State) (r : AdminRef) (res : ReadResult), s.live = true ∧ s.cmdIs r 32 = true ∧ bits ((s.cmdD r).arg 1) 63 56 = 0 ∧ bits ((s.cmdD r).arg 1) 5 0 = 0 ∧ bits ((s.cmdD r).arg 2) 63 17 = 0 ∧ (s.cmdD r).zeroArgs [3, 4, 5, 6, 7] = true ∧ s.content (ContentKey.admin r) = some res ∧ (res = ReadResult.fault ∨ res = ReadResult.ue ∨ res = ReadResult.partReset)) :=
  ⟨⟨loadS, ref0, by decide +kernel⟩,
   ⟨withContent loadS (.admin ref0) image0, ref0, image0, moved, 0, 0, by decide +kernel, by decide +kernel, by decide +kernel, by decide +kernel, by decide +kernel, by decide +kernel, by decide +kernel, ok_of (by decide +kernel), by decide +kernel, by decide +kernel, by decide +kernel⟩,
   ⟨{ withContent loadS (.admin ref0) image0 with gather := { ctl := 0 } }, ref0, image0, moved, by decide +kernel, by decide +kernel, by decide +kernel, by decide +kernel, by decide +kernel, by decide +kernel, by decide +kernel, ok_of (by decide +kernel), by decide +kernel⟩,
   ⟨withContent loadS (.admin ref0) [1], ref0, [1], 2, by decide +kernel, by decide +kernel, by decide +kernel, by decide +kernel, by decide +kernel, by decide +kernel, by decide +kernel, err_of (by decide +kernel)⟩,
   ⟨withLostContent loadS (.admin ref0) .ue, ref0, .ue, by decide +kernel⟩,
   ⟨withLostContent loadS (.admin ref0) .partReset, ref0, .partReset, by decide +kernel⟩⟩
theorem witness_ProgramsComeAndGo_2 :
    (∃ (s : State) (r : AdminRef) (i : ℕ), s.live = true ∧ s.cmdIs r 33 = true ∧ i = bits ((s.cmdD r).arg 1) 5 0 ∧ bits ((s.cmdD r).arg 1) 31 6 = 0 ∧ bits ((s.cmdD r).arg 2) 63 1 = 0 ∧ (s.cmdD r).zeroArgs [3, 4, 5, 6, 7] = true ∧ s.gslot i = none) ∧
    (∃ (s : State) (r : AdminRef) (i : ℕ) (q : GSlot), s.live = true ∧ s.cmdIs r 33 = true ∧ i = bits ((s.cmdD r).arg 1) 5 0 ∧ bits ((s.cmdD r).arg 1) 31 6 = 0 ∧ bits ((s.cmdD r).arg 2) 63 1 = 0 ∧ (s.cmdD r).zeroArgs [3, 4, 5, 6, 7] = true ∧ s.gslot i = some q ∧ q.tag ≠ bits ((s.cmdD r).arg 1) 63 32) ∧
    (∃ (s : State) (r : AdminRef) (i : ℕ) (q : GSlot), s.live = true ∧ s.cmdIs r 33 = true ∧ i = bits ((s.cmdD r).arg 1) 5 0 ∧ bits ((s.cmdD r).arg 1) 31 6 = 0 ∧ bits ((s.cmdD r).arg 2) 63 1 = 0 ∧ (s.cmdD r).zeroArgs [3, 4, 5, 6, 7] = true ∧ s.gslot i = some q ∧ q.tag = bits ((s.cmdD r).arg 1) 63 32 ∧ (s.cmdD r).pav ≠ 0 ∧ q.pav ≠ (s.cmdD r).pav) ∧
    (∃ (s : State) (r : AdminRef) (i : ℕ) (q : GSlot), s.live = true ∧ s.cmdIs r 33 = true ∧ i = bits ((s.cmdD r).arg 1) 5 0 ∧ bits ((s.cmdD r).arg 1) 31 6 = 0 ∧ bits ((s.cmdD r).arg 2) 63 1 = 0 ∧ (s.cmdD r).zeroArgs [3, 4, 5, 6, 7] = true ∧ s.gslot i = some q ∧ q.tag = bits ((s.cmdD r).arg 1) 63 32 ∧ ((s.cmdD r).pav = 0 ∨ q.pav = (s.cmdD r).pav) ∧ q.run.isSome = true ∧ bit ((s.cmdD r).arg 2) 0 = false) ∧
    (∃ (s : State) (r : AdminRef) (i : ℕ) (q : GSlot), s.live = true ∧ s.cmdIs r 33 = true ∧ i = bits ((s.cmdD r).arg 1) 5 0 ∧ bits ((s.cmdD r).arg 1) 31 6 = 0 ∧ bits ((s.cmdD r).arg 2) 63 1 = 0 ∧ (s.cmdD r).zeroArgs [3, 4, 5, 6, 7] = true ∧ s.gslot i = some q ∧ q.tag = bits ((s.cmdD r).arg 1) 63 32 ∧ ((s.cmdD r).pav = 0 ∨ q.pav = (s.cmdD r).pav) ∧ q.run = none ∧ q.queue = [] ∧ (∀ w ∈ s.gather.loads, w.cmd ≠ r)) :=
  ⟨⟨withCmd running [0x21, 63 + 0x900000000], ref0, 63, by decide +kernel⟩,
   ⟨withCmd (withSlot running (gslot0 (prog0 moveStep))) [0x21, 63 + 0x800000000], ref0, 63, gslot0 (prog0 moveStep), by decide +kernel⟩,
   ⟨tenantCmd (withSlot running (gslot0 (prog0 moveStep))) [0x21, 63 + 0x900000000], ⟨5, 0⟩, 63, gslot0 (prog0 moveStep), by decide +kernel⟩,
   ⟨withCmd (withSlot running (combining moveStep run0)) [0x21, 63 + 0x900000000], ref0, 63, combining moveStep run0, by decide +kernel⟩,
   ⟨withCmd (withSlot running (gslot0 (prog0 moveStep))) [0x21, 63 + 0x900000000], ref0, 63, gslot0 (prog0 moveStep), by decide +kernel⟩⟩
theorem witness_GatherRunsGoThrough_1 :
    (∃ (s : State) (o : OpRef) (p : Operation) (x : OpSlot) (g : GatherRunOp), s.takeable o = some p ∧ s.opOf o = some x ∧ p.body = OpBody.gatherRun g ∧ s.gslot g.program = none ∧ (s.chan o.chan).state = ChanState.active) ∧
    (∃ (s : State) (o : OpRef) (p : Operation) (x : OpSlot) (g : GatherRunOp) (q : GSlot), s.takeable o = some p ∧ s.opOf o = some x ∧ p.body = OpBody.gatherRun g ∧ s.gslot g.program = some q ∧ (q.tag ≠ g.progTag ∨ q.prog.persistent = true) ∧ (s.chan o.chan).state = ChanState.active) ∧
    (∃ (s : State) (o : OpRef) (p : Operation) (x : OpSlot) (g : GatherRunOp) (q : GSlot), s.takeable o = some p ∧ s.opOf o = some x ∧ p.body = OpBody.gatherRun g ∧ s.gslot g.program = some q ∧ q.tag = g.progTag ∧ q.prog.persistent = false ∧ q.pav ≠ (s.chan o.chan).pav ∧ (s.chan o.chan).state = ChanState.active) ∧
    (∃ (s : State) (o : OpRef) (p : Operation) (x : OpSlot) (g : GatherRunOp) (q : GSlot), s.takeable o = some p ∧ s.opOf o = some x ∧ p.body = OpBody.gatherRun g ∧ s.gslot g.program = some q ∧ q.tag = g.progTag ∧ q.prog.persistent = false ∧ q.pav = (s.chan o.chan).pav) :=
  ⟨⟨gatherS none, op0, oper (.gatherRun gatherB), slotOf (.gatherRun gatherB) .admitted, gatherB, by decide +kernel⟩,
   ⟨gatherS (some armedQ), op0, oper (.gatherRun gatherB), slotOf (.gatherRun gatherB) .admitted, gatherB, armedQ, by decide +kernel⟩,
   ⟨gatherS (some { gslot0 (prog0 moveStep) with pav := 5 }), op0, oper (.gatherRun gatherB), slotOf (.gatherRun gatherB) .admitted, gatherB, { gslot0 (prog0 moveStep) with pav := 5 }, by decide +kernel⟩,
   ⟨gatherS (some (gslot0 (prog0 moveStep))), op0, oper (.gatherRun gatherB), slotOf (.gatherRun gatherB) .admitted, gatherB, gslot0 (prog0 moveStep), by decide +kernel⟩⟩
theorem witness_GatherRunsGoThrough_2 :
    (∃ (s : State) (i : ℕ) (q : GSlot), s.live = true ∧ s.gslot i = some q ∧ s.runDue i = true) ∧
    (∃ (s : State) (i : ℕ) (q : GSlot), s.live = true ∧ s.gslot i = some q ∧ s.runDue i = true) ∧
    (∃ (s : State) (i : ℕ) (q : GSlot) (r : Run) (k : ℕ), s.live = true ∧ s.gslot i = some q ∧ q.run = some r ∧ s.stepTimedOut i k = true ∧ (s.counter ctrTimeout).count < 4294967294) ∧
    (∃ (s : State) (i : ℕ) (q : GSlot) (r : Run), s.live = true ∧ s.gslot i = some q ∧ q.run = some r ∧ s.runOver i = true ∧ q.prog.persistent = true) ∧
    (∃ (s : State) (i : ℕ) (q : GSlot) (r : Run), s.live = true ∧ s.gslot i = some q ∧ q.run = some r ∧ s.runOver i = true ∧ q.prog.persistent = false) :=
  ⟨⟨withSlot running dueQ, 63, dueQ, by decide +kernel⟩,
   ⟨withSlot (busy [slotOf (.gatherRun gatherB) .running]) queuedQ, 63, queuedQ, by decide +kernel⟩,
   ⟨{ withSlot running (combining moveStep late0) with time := { now := 120001 }, retained := { clock := 120001 } }, 63, combining moveStep late0, late0, 0, by decide +kernel⟩,
   ⟨withSlot running persDone, 63, persDone, doneRun, by decide +kernel⟩,
   ⟨withSlot running (combining moveStep doneRun), 63, combining moveStep doneRun, doneRun, by decide +kernel⟩⟩
theorem witness_GatherChunksMove_1 :
    (∃ (s : State) (i : ℕ) (n : ℕ) (k : ℕ) (q : GSlot) (r : Run) (g : GStep) (w : WorkLane), s.live = true ∧ s.combineStep i n = some k ∧ s.running i = some (q, r) ∧ q.prog.steps[k]? = some g ∧ readyLane q r k = some w ∧ q.unload = [] ∧ q.kill = false ∧ operandBytes q r k w = some none) ∧
    (∃ (s : State) (i : ℕ) (n : ℕ) (k : ℕ) (q : GSlot) (r : Run) (g : GStep) (w : WorkLane) (l : List (List Byte)), s.live = true ∧ s.combineStep i n = some k ∧ s.running i = some (q, r) ∧ q.prog.steps[k]? = some g ∧ readyLane q r k = some w ∧ q.unload = [] ∧ q.kill = false ∧ operandBytes q r k WorkLane.main = some (some l) ∧ w = WorkLane.main ∧ (StateT.run (combineChunk q.prog r k (g.laneChunk q.prog r WorkLane.main (r.step k).main.done).1 (g.laneChunk q.prog r WorkLane.main (r.step k).main.done).2 g l) 0).1.malformed = true) ∧
    (∃ (s : State) (i : ℕ) (n : ℕ) (k : ℕ) (q : GSlot) (r : Run) (g : GStep) (w : WorkLane) (l : List (List Byte)), s.live = true ∧ s.combineStep i n = some k ∧ s.running i = some (q, r) ∧ q.prog.steps[k]? = some g ∧ readyLane q r k = some w ∧ q.unload = [] ∧ q.kill = false ∧ operandBytes q r k WorkLane.main = some (some l) ∧ w = WorkLane.main ∧ (StateT.run (combineChunk q.prog r k (g.laneChunk q.prog r WorkLane.main (r.step k).main.done).1 (g.laneChunk q.prog r WorkLane.main (r.step k).main.done).2 g l) 0).1.malformed = false) :=
  ⟨⟨withSlot running badRx, 63, 0, 0, badRx, asking [] run0, rxStep, .main, by decide +kernel⟩,
   ⟨withSlot running topQ, 63, 0, 0, topQ, asking badList run0, topStep, .main, [badList], by decide +kernel⟩,
   ⟨withSlot running moveQ, 63, 0, 0, moveQ, asking [0, 0, 0x80, 0x3F] run0, moveStep, .main, [[0, 0, 0x80, 0x3F]], by decide +kernel⟩⟩
theorem witness_GatherChunksMove_2 :
    (∃ (s : State) (src : MsgSource) (m : Arrived) (q : GSlot), s.live = true ∧ s.arrived src = some m ∧ m.msg.kind = kOperand ∧ s.retained.oos = false ∧ s.gslot (opdSlot m.msg.hdr) = some q ∧ q.pav = m.key ∧ q.expects (opdRun m.msg.hdr) = true) ∧
    (∃ (s : State) (src : MsgSource) (m : Arrived), s.live = true ∧ s.arrived src = some m ∧ m.msg.kind = kOperand ∧ s.retained.oos = false ∧ (s.gslot (opdSlot m.msg.hdr) = none ∨ ∃ q, s.gslot (opdSlot m.msg.hdr) = some q ∧ q.pav ≠ m.key) ∧ opdPart m.msg.hdr = 0 ∧ (s.counter ctrDiscard).count < 4294967294 ∧ s.flt.capture = none) ∧
    (∃ (s : State) (src : MsgSource) (m : Arrived) (q : GSlot), s.live = true ∧ s.arrived src = some m ∧ m.msg.kind = kCredit ∧ s.gslot (opdSlot m.msg.hdr) = some q ∧ q.pav = m.key ∧ q.run = none) ∧
    (∃ (s : State) (src : MsgSource) (m : Arrived) (q : GSlot), s.live = true ∧ s.arrived src = some m ∧ m.msg.kind = kCredit ∧ s.gslot (opdSlot m.msg.hdr) = some q ∧ q.pav = m.key ∧ q.run = none) ∧
    (∃ (s : State) (src : MsgSource) (m : Arrived), s.live = true ∧ s.arrived src = some m ∧ m.msg.kind = kCredit ∧ (s.gslot (opdSlot m.msg.hdr) = none ∨ ∃ q, s.gslot (opdSlot m.msg.hdr) = some q ∧ q.pav ≠ m.key)) ∧
    (∃ (s : State) (src : MsgSource) (m : Arrived), s.live = true ∧ s.arrived src = some m ∧ m.msg.kind = kOperand ∧ s.retained.oos = false ∧ (s.gslot (opdSlot m.msg.hdr) = none ∨ ∃ q, s.gslot (opdSlot m.msg.hdr) = some q ∧ q.pav ≠ m.key) ∧ opdPart m.msg.hdr ≠ 0) :=
  ⟨⟨inLocalQ (withSlot running (gslot0 (prog0 rxStep))) (opdM 1) 8, .sameNode, arrivedM (opdM 1) 8, gslot0 (prog0 rxStep), by decide +kernel⟩,
   ⟨inLocalQ running (opdM 1) 8, .sameNode, arrivedM (opdM 1) 8, by decide +kernel⟩,
   ⟨inLocalQ (withSlot running { gslot0 (prog0 rxStep) with spent := [(0, 3)] }) crdM 8, .sameNode, arrivedM crdM 8, { gslot0 (prog0 rxStep) with spent := [(0, 3)] }, by decide +kernel⟩,
   ⟨inLocalQ (withSlot running { gslot0 (prog0 rxStep) with spent := [(0, 2)] }) crdM 8, .sameNode, arrivedM crdM 8, { gslot0 (prog0 rxStep) with spent := [(0, 2)] }, by decide +kernel⟩,
   ⟨inLocalQ running crdM 8, .sameNode, arrivedM crdM 8, by decide +kernel⟩,
   ⟨inLocalQ running (opdPartM 1) 8, .sameNode, arrivedM (opdPartM 1) 8, by decide +kernel⟩⟩
theorem witness_TriggersAreRead_1 :
    (∃ (s : State) (i : ℕ) (q : GSlot), s.live = true ∧ s.gslot i = some q ∧ q.prog.persistent = true ∧ q.base.isSome = true ∧ q.faulted = false ∧ s.watching (triggerWid i) = true) ∧
    (∃ (s : State) (i : ℕ) (q : GSlot), s.live = true ∧ s.gslot i = some q ∧ q.prog.persistent = true ∧ q.base.isSome = true ∧ q.faulted = false ∧ s.watching (triggerWid i) = false ∧ s.usPassed q.lastPoll 1 = true) :=
  ⟨⟨{ withSlot running armedQ with watch := { armed := [6223] } }, 63, armedQ, by decide +kernel⟩,
   ⟨{ withSlot running armedQ with time := { now := 1200 }, retained := { clock := 1200 } }, 63, armedQ, by decide +kernel⟩⟩
theorem witness_TriggersAreRead_2 :
    (∃ (s : State) (i : ℕ) (q : GSlot), s.live = true ∧ s.gslot i = some q ∧ s.hasUse (isTrigger i) = true ∧ s.triggerTag i = q.tag ∧ q.faulted = false ∧ q.base = none) ∧
    (∃ (s : State) (i : ℕ) (q : GSlot), s.live = true ∧ s.gslot i = some q ∧ s.hasUse (isTrigger i) = true ∧ s.triggerTag i = q.tag ∧ q.faulted = false ∧ q.base.isSome = true) ∧
    (∃ (s : State) (i : ℕ) (q : GSlot), s.live = true ∧ s.gslot i = some q ∧ s.hasUse (isTrigger i) = true ∧ s.triggerTag i = q.tag ∧ q.faulted = false ∧ s.flt.capture = none) :=
  ⟨⟨readAsked (withSlot running unarmedQ) 8 (.trigger 63 9), 63, unarmedQ, by decide +kernel⟩,
   ⟨readAsked (withSlot running armedQ) 8 (.trigger 63 9), 63, armedQ, by decide +kernel⟩,
   ⟨readAsked (withSlot running unarmedQ) 8 (.trigger 63 9), 63, unarmedQ, by decide +kernel⟩⟩
theorem witness_PavilionsAreCreated_1 :
    ∃ (s : State) (r : AdminRef), s.cmdIs r 48 = true ∧ s.lodgeTurn r = true ∧ (s.cmdD r).pav ≠ 0 :=
  ⟨placed (lodgeUp (byTenant running createWords)), ref5, by decide +kernel⟩
theorem witness_PavilionsAreCreated_2 :
    ∃ (s : State) (r : AdminRef), s.cmdIs r 48 = true ∧ s.lodgeTurn r = true ∧ (s.cmdD r).pav = 0 ∧ (createPavOk (s.cmdD r) && Option.any (fun i => (s.cmdD r).tenant.block.ok i && (s.cmdD r).tenant.block.has i s.topo.node) s.topo.install) = false :=
  ⟨creating (createWords.set 1 0x3F00010110), ref0, by decide +kernel⟩
theorem witness_PavilionsAreCreated_3 :
    ∃ (s : State) (r : AdminRef), s.cmdIs r 48 = true ∧ s.lodgeTurn r = true ∧ (s.cmdD r).pav = 0 ∧ (createPavOk (s.cmdD r) && Option.any (fun i => (s.cmdD r).tenant.block.ok i && (s.cmdD r).tenant.block.has i s.topo.node) s.topo.install) = true ∧ (s.gate.tenant.isSome || s.rangesUsed (s.cmdD r).tenant) = true :=
  ⟨withTenant (creating createWords) { tenant5 with num := 6 }, ref0, by decide +kernel⟩
theorem witness_PavilionsAreCreated_4 :
    ∃ (s : State) (r : AdminRef), s.cmdIs r 48 = true ∧ s.lodgeTurn r = true ∧ (s.cmdD r).pav = 0 ∧ (createPavOk (s.cmdD r) && Option.any (fun i => (s.cmdD r).tenant.block.ok i && (s.cmdD r).tenant.block.has i s.topo.node) s.topo.install) = true ∧ (s.gate.tenant.isSome || s.rangesUsed (s.cmdD r).tenant) = false ∧ (decide ((s.cmdD r).tenant.clusters = 15) || decide ((s.cmdD r).tenant.fabPorts = 65535)) = true :=
  ⟨creating (createWords.set 1 0x3F00010F15), ref0, by decide +kernel⟩
theorem witness_PavilionsAreCreated_5 :
    ∃ (s : State) (r : AdminRef), s.cmdIs r 48 = true ∧ s.lodgeTurn r = true ∧ (s.cmdD r).pav = 0 ∧ (createPavOk (s.cmdD r) && Option.any (fun i => (s.cmdD r).tenant.block.ok i && (s.cmdD r).tenant.block.has i s.topo.node) s.topo.install) = true ∧ (s.gate.tenant.isSome || s.rangesUsed (s.cmdD r).tenant) = false ∧ (decide ((s.cmdD r).tenant.clusters = 15) || decide ((s.cmdD r).tenant.fabPorts = 65535)) = false :=
  ⟨creating createWords, ref0, by decide +kernel⟩
theorem witness_PavilionsEnd_1 :
    (∃ (s : State) (r : AdminRef) (q : Tenant), s.gate.tenant = some q ∧ s.cmdIs r 49 = true ∧ s.lodgeTurn r = true ∧ (s.cmdD r).pav ≠ 0) ∧
    (∃ (s : State) (r : AdminRef) (q : Tenant), s.gate.tenant = some q ∧ s.cmdIs r 49 = true ∧ s.lodgeTurn r = true ∧ (s.cmdD r).pav = 0 ∧ (bits ((s.cmdD r).arg 1) 3 0 = 0 ∨ bits ((s.cmdD r).arg 1) 63 4 ≠ 0 ∨ (s.cmdD r).zeroArgs [2, 3, 4, 5, 6, 7] = false)) ∧
    (∃ (s : State) (r : AdminRef) (q : Tenant), s.gate.tenant = some q ∧ s.cmdIs r 49 = true ∧ s.lodgeTurn r = true ∧ (s.cmdD r).pav = 0 ∧ bits ((s.cmdD r).arg 1) 3 0 ≠ 0 ∧ bits ((s.cmdD r).arg 1) 63 4 = 0 ∧ (s.cmdD r).zeroArgs [2, 3, 4, 5, 6, 7] = true ∧ (bits ((s.cmdD r).arg 1) 3 0 ≠ q.num ∨ q.teardown.isSome = true)) ∧
    (∃ (s : State) (r : AdminRef) (q : Tenant), s.gate.tenant = some q ∧ s.cmdIs r 49 = true ∧ s.lodgeTurn r = true ∧ (s.cmdD r).pav = 0 ∧ bits ((s.cmdD r).arg 1) 3 0 ≠ 0 ∧ bits ((s.cmdD r).arg 1) 63 4 = 0 ∧ (s.cmdD r).zeroArgs [2, 3, 4, 5, 6, 7] = true ∧ bits ((s.cmdD r).arg 1) 3 0 = q.num ∧ q.teardown = none ∧ s.chansOf q.num = [] ∧ s.programsOf q.num = [] ∧ s.annealOf q.num = none ∧ (∀ a ∈ s.xfer.tags.used, a.pav ≠ q.num) ∧ (∀ w ∈ s.xfer.tags.waiting, w.1 ≠ q.num) ∧ (∀ j ∈ s.xfer.jobs, j.pav ≠ q.num)) ∧
    (∃ (s : State) (r : AdminRef) (q : Tenant), s.gate.tenant = some q ∧ s.live = true ∧ s.cmdIs r 49 = false ∧ s.teardownDue r = true ∧ s.winsOf q.num = [] ∧ r.pav ≠ q.num ∧ Option.any AdminCmd.unfinished (s.cmd r) = true) :=
  ⟨⟨lodgeUp (byTenant (withTenant running tenant5) [0x31, 5]), ref5, tenant5, by decide +kernel⟩,
   ⟨lodgeUp (withCmd (withTenant running tenant5) [0x31, 0]), ref0, tenant5, by decide +kernel⟩,
   ⟨lodgeUp (withCmd (withTenant running tenant5) [0x31, 15]), ref0, tenant5, by decide +kernel⟩,
   ⟨lodgeUp (withCmd (withTenant running tenant5) [0x31, 5]), ref0, tenant5, by decide +kernel⟩,
   ⟨tearing, ref0, { tenant5 with teardown := some ref0 }, by decide +kernel⟩⟩
theorem witness_PavilionsEnd_2 :
    (∃ (s : State) (r : AdminRef) (q : Tenant), s.gate.tenant = some q ∧ s.mgmtIs r 1281 = true ∧ s.lodgeTurn r = true ∧ (s.cmdD r).pav ≠ 0) ∧
    (∃ (s : State) (r : AdminRef) (q : Tenant), s.gate.tenant = some q ∧ s.mgmtIs r 1281 = true ∧ s.lodgeTurn r = true ∧ (s.cmdD r).pav = 0 ∧ (bits ((s.cmdD r).arg 2) 3 0 = 0 ∨ bits ((s.cmdD r).arg 2) 63 4 ≠ 0 ∨ (s.cmdD r).zeroArgs [3, 4, 5, 6, 7] = false)) ∧
    (∃ (s : State) (r : AdminRef) (q : Tenant), s.gate.tenant = some q ∧ s.mgmtIs r 1281 = true ∧ s.lodgeTurn r = true ∧ (s.cmdD r).pav = 0 ∧ bits ((s.cmdD r).arg 2) 3 0 ≠ 0 ∧ bits ((s.cmdD r).arg 2) 63 4 = 0 ∧ (s.cmdD r).zeroArgs [3, 4, 5, 6, 7] = true ∧ (bits ((s.cmdD r).arg 2) 3 0 ≠ q.num ∨ q.teardown.isSome = true)) ∧
    (∃ (s : State) (r : AdminRef) (q : Tenant), s.gate.tenant = some q ∧ s.mgmtIs r 1281 = true ∧ s.lodgeTurn r = true ∧ (s.cmdD r).pav = 0 ∧ bits ((s.cmdD r).arg 2) 3 0 ≠ 0 ∧ bits ((s.cmdD r).arg 2) 63 4 = 0 ∧ (s.cmdD r).zeroArgs [3, 4, 5, 6, 7] = true ∧ bits ((s.cmdD r).arg 2) 3 0 = q.num ∧ q.teardown = none ∧ s.programsOf q.num = [] ∧ s.winsOf q.num = [] ∧ s.annealOf q.num = none) ∧
    (∃ (s : State) (r : AdminRef) (q : Tenant), s.gate.tenant = some q ∧ s.live = true ∧ s.mgmtIs r 1281 = false ∧ s.resetPavDone r = true ∧ Option.any AdminCmd.unfinished (s.cmd r) = true) :=
  ⟨⟨lodgeUp (byTenant (withTenant running tenant5) [0x40, 0x0501, 5]), ref5, tenant5, by decide +kernel⟩,
   ⟨lodgeUp (withCmd (withTenant running tenant5) [0x40, 0x0501, 16]), ref0, tenant5, by decide +kernel⟩,
   ⟨lodgeUp (withCmd (withTenant running tenant5) [0x40, 0x0501, 1]), ref0, tenant5, by decide +kernel⟩,
   ⟨lodgeUp (withCmd (withTenant (withChan running 4095 chan5) tenant5) [0x40, 0x0501, 5]), ref0, tenant5, by decide +kernel⟩,
   ⟨killing, ref0, tenant5, by decide +kernel⟩⟩
theorem witness_AttestationRequests_1 :
    (∃ (s : State) (r : AdminRef), s.mgmtIs r 1025 = true ∧ s.lodgeTurn r = true ∧ s.contentRead (ContentKey.admin r) = none ∧ (bits ((s.cmdD r).arg 2) 63 56 == 0 && bits ((s.cmdD r).arg 4) 63 56 == 0 && (s.cmdD r).zeroArgs [6, 7] && decide (1 ≤ bits ((s.cmdD r).arg 3) 63 0) && decide (bits ((s.cmdD r).arg 3) 63 0 ≤ 4096) && decide (4096 ≤ bits ((s.cmdD r).arg 5) 63 0) && decide (bits ((s.cmdD r).arg 5) 63 0 < 8192)) = false) ∧
    (∃ (s : State) (r : AdminRef), s.mgmtIs r 1025 = true ∧ s.lodgeTurn r = true ∧ s.contentRead (ContentKey.admin r) = none ∧ (bits ((s.cmdD r).arg 2) 63 56 == 0 && bits ((s.cmdD r).arg 4) 63 56 == 0 && (s.cmdD r).zeroArgs [6, 7] && decide (1 ≤ bits ((s.cmdD r).arg 3) 63 0) && decide (bits ((s.cmdD r).arg 3) 63 0 ≤ 4096) && decide (4096 ≤ bits ((s.cmdD r).arg 5) 63 0) && decide (bits ((s.cmdD r).arg 5) 63 0 < 8192)) = true) ∧
    (∃ (s : State) (r : AdminRef) (q : SpdmRequest) (l : List Byte), s.mgmtIs r 1025 = true ∧ s.lodgeTurn r = true ∧ (bits ((s.cmdD r).arg 2) 63 56 == 0 && bits ((s.cmdD r).arg 4) 63 56 == 0 && (s.cmdD r).zeroArgs [6, 7] && decide (1 ≤ bits ((s.cmdD r).arg 3) 63 0) && decide (bits ((s.cmdD r).arg 3) 63 0 ≤ 4096) && decide (4096 ≤ bits ((s.cmdD r).arg 5) 63 0) && decide (bits ((s.cmdD r).arg 5) 63 0 < 8192)) = true ∧ s.content (ContentKey.admin r) = some (ReadResult.data l) ∧ spelt q l = true) ∧
    (∃ (s : State) (r : AdminRef) (q : SpdmRequest) (l : List Byte), s.mgmtIs r 1025 = true ∧ s.lodgeTurn r = true ∧ (bits ((s.cmdD r).arg 2) 63 56 == 0 && bits ((s.cmdD r).arg 4) 63 56 == 0 && (s.cmdD r).zeroArgs [6, 7] && decide (1 ≤ bits ((s.cmdD r).arg 3) 63 0) && decide (bits ((s.cmdD r).arg 3) 63 0 ≤ 4096) && decide (4096 ≤ bits ((s.cmdD r).arg 5) 63 0) && decide (bits ((s.cmdD r).arg 5) 63 0 < 8192)) = true ∧ s.content (ContentKey.admin r) = some (ReadResult.data l) ∧ spelt q l = true) :=
  ⟨⟨lodgeUp (withCmd running (spdmWords 4097)), ref0, by decide +kernel⟩,
   ⟨lodgeUp (withCmd running (spdmWords 4096)), ref0, by decide +kernel⟩,
   ⟨spdmGot [0x10, 0x84, 0, 0], ref0, .getVersion, [0x10, 0x84, 0, 0], by decide +kernel⟩,
   ⟨spdmGot [0x12, 0x81, 0, 0], ref0, .wrongVersion, [0x12, 0x81, 0, 0], by decide +kernel⟩⟩
theorem witness_AttestationRequests_2 :
    (∃ (s : State) (r : AdminRef), s.mgmtIs r 1027 = true ∧ s.lodgeTurn r = true) ∧
    (∃ (s : State) (r : AdminRef), s.mgmtIs r 1027 = true ∧ s.lodgeTurn r = true) ∧
    (∃ (s : State) (r : AdminRef), s.mgmtIs r 1028 = true ∧ s.lodgeTurn r = true) ∧
    (∃ (s : State) (r : AdminRef), s.mgmtIs r 1028 = true ∧ s.lodgeTurn r = true) ∧
    (∃ (s : State) (r : AdminRef) (w : RotWait) (rest : List RotWait) (k : ℕ) (v : Word), s.live = true ∧ s.lodge.rot = w :: rest ∧ w.req = RotRequest.counterRaise k v ∧ w.cmd = some r ∧ Option.any AdminCmd.unfinished (s.cmd r) = true) ∧
    (∃ (s : State) (r : AdminRef) (w : RotWait) (rest : List RotWait) (k : ℕ) (v : Word), s.live = true ∧ s.lodge.rot = w :: rest ∧ w.req = RotRequest.counterRaise k v ∧ w.cmd = some r ∧ Option.any AdminCmd.unfinished (s.cmd r) = true) ∧
    (∃ (s : State) (w : RotWait) (rest : List RotWait) (k : ℕ), s.live = true ∧ s.lodge.rot = w :: rest ∧ w.req = RotRequest.counterRead k) ∧
    (∃ (s : State) (w : RotWait) (rest : List RotWait), s.live = true ∧ s.lodge.rot = w :: rest ∧ s.usPassed w.sent 100000 = true) ∧
    (∃ (s : State) (w : RotWait) (rest : List RotWait), s.live = true ∧ s.lodge.rot = w :: rest ∧ s.usPassed w.sent 100000 = false) :=
  ⟨⟨lodgeUp (withCmd running [0x40, 0x0403]), ref0, by decide +kernel⟩,
   ⟨lodgeUp (withCmd running [0x40, 0x0403, 1]), ref0, by decide +kernel⟩,
   ⟨lodgeUp (withCmd running [0x40, 0x0404]), ref0, by decide +kernel⟩,
   ⟨placed (lodgeUp (withCmd running [0x40, 0x0404])), ref0, by decide +kernel⟩,
   ⟨rotS (.counterRaise 0 4) 0, ref0, { req := .counterRaise 0 4, sent := 0, cmd := some ref0, slot := none }, [], 0, 4, by decide +kernel⟩,
   ⟨rotS (.counterRaise 0 4) 0, ref0, { req := .counterRaise 0 4, sent := 0, cmd := some ref0, slot := none }, [], 0, 4, by decide +kernel⟩,
   ⟨rotS (.counterRead 1) 0, { req := .counterRead 1, sent := 0, cmd := some ref0, slot := none }, [], 1, by decide +kernel⟩,
   ⟨rotS (.counterRead 1) 120000000, { req := .counterRead 1, sent := 0, cmd := some ref0, slot := none }, [], by decide +kernel⟩,
   ⟨rotS (.counterRead 1) 119999999, { req := .counterRead 1, sent := 0, cmd := some ref0, slot := none }, [], by decide +kernel⟩⟩
theorem witness_RootOfTrustReleasesTheLodge_1 :
    (∃ (s : State), s.clocked = true) ∧
    (∃ (s : State), s.clocked = true) :=
  ⟨⟨running, by decide +kernel⟩,
   ⟨{ running with ident := { chain := [1] } }, by decide +kernel⟩⟩
theorem witness_RootOfTrustReleasesTheLodge_2 :
    (∃ (s : State), s.live = true ∧ s.lodge.released = false) ∧
    (∃ (s : State), s.live = true ∧ s.lodge.released = false) :=
  ⟨⟨running, by decide +kernel⟩,
   ⟨running, by decide +kernel⟩⟩
theorem witness_RootOfTrustReleasesTheLodge_3 :
    ∃ (s : State), s.lodge.released = true :=
  ⟨{ running with lodge := { released := true } }, by decide +kernel⟩
theorem witness_PodTimeIsKept_1 :
    (∃ (s : State) (p : PortIx), s.timeDue p = true) ∧
    (∃ (s : State) (p : PortIx) (x : RxPane), s.linkLive = true ∧ s.rxHead p ptTime = some x ∧ s.serving p = true ∧ (s.port p).keys.segOf x.hdr x.slot x.body = none ∧ (s.counter (ctrBadDrop p)).count < 4294967294) ∧
    (∃ (s : State) (p : PortIx) (x : RxPane), s.linkLive = true ∧ s.rxHead p ptTime = some x ∧ s.serving p = true ∧ ((s.port p).keys.segOf x.hdr x.slot x.body).isSome = true ∧ x.body.headD 0 = 1) :=
  ⟨⟨timing, 5, by decide +kernel⟩,
   ⟨gotPane (up running 5) timeBad, 5, timeBad, by decide +kernel⟩,
   ⟨gotPane (up running 5) timeGood, 5, timeGood, by decide +kernel⟩⟩
theorem witness_PodTimeIsKept_2 :
    (∃ (s : State), s.clocked = true ∧ s.time.isMaster = false ∧ (s.time.state = TimeState.synced ∨ s.time.state = TimeState.acquiring) ∧ s.usPassed s.time.lastValid 50 = true) ∧
    (∃ (s : State), s.clocked = true ∧ s.usPassed s.time.lastValid 50 = false) ∧
    (∃ (s : State) (h : ℕ) (p : PortIx), s.clocked = true ∧ s.time.state = TimeState.holdover ∧ s.time.holdSince = some h ∧ s.usPassed h 100 = true ∧ s.newParent = some p) :=
  ⟨⟨held running .synced 0 60000 none, by decide +kernel⟩,
   ⟨held running .synced 0 59999 none, by decide +kernel⟩,
   ⟨held parents .holdover 0 120000 (some 0), 0, 4, by decide +kernel⟩⟩
theorem witness_TimetablesRun_1 :
    (∃ (s : State) (r : AdminRef), s.mgmtIs r 513 = true ∧ s.lodgeTurn r = true ∧ (s.cmdD r).pav = 0 ∧ bits ((s.cmdD r).arg 2) 63 6 = 0 ∧ bits ((s.cmdD r).arg 3) 63 56 = 0 ∧ bits ((s.cmdD r).arg 3) 2 0 = 0 ∧ bits ((s.cmdD r).arg 4) 63 0 ≤ 4096 ∧ 1024 ≤ bits ((s.cmdD r).arg 5) 63 0 ∧ bits ((s.cmdD r).arg 5) 63 0 ≤ 2 ^ 32 ∧ (s.cmdD r).zeroArgs [7] = true ∧ s.contentRead (ContentKey.admin r) = none) ∧
    (∃ (s : State) (r : AdminRef) (l : List Byte), s.mgmtIs r 513 = true ∧ s.lodgeTurn r = true ∧ (s.cmdD r).pav = 0 ∧ bits ((s.cmdD r).arg 2) 63 6 = 0 ∧ bits ((s.cmdD r).arg 3) 63 56 = 0 ∧ bits ((s.cmdD r).arg 3) 2 0 = 0 ∧ bits ((s.cmdD r).arg 4) 63 0 ≤ 4096 ∧ 1024 ≤ bits ((s.cmdD r).arg 5) 63 0 ∧ bits ((s.cmdD r).arg 5) 63 0 ≤ 2 ^ 32 ∧ (s.cmdD r).zeroArgs [7] = true ∧ s.content (ContentKey.admin r) = some (ReadResult.data l) ∧ 8 * bits ((s.cmdD r).arg 4) 63 0 ≤ l.length ∧ ttEntriesOk (bits ((s.cmdD r).arg 5) 63 0) (List.map (ttEntry l) (List.range (bits ((s.cmdD r).arg 4) 63 0))) = false) ∧
    (∃ (s : State) (r : AdminRef) (l : List Byte), s.mgmtIs r 513 = true ∧ s.lodgeTurn r = true ∧ (s.cmdD r).pav = 0 ∧ bits ((s.cmdD r).arg 2) 63 6 = 0 ∧ bits ((s.cmdD r).arg 3) 63 56 = 0 ∧ bits ((s.cmdD r).arg 3) 2 0 = 0 ∧ bits ((s.cmdD r).arg 4) 63 0 ≤ 4096 ∧ 1024 ≤ bits ((s.cmdD r).arg 5) 63 0 ∧ bits ((s.cmdD r).arg 5) 63 0 ≤ 2 ^ 32 ∧ (s.cmdD r).zeroArgs [7] = true ∧ s.content (ContentKey.admin r) = some (ReadResult.data l) ∧ 8 * bits ((s.cmdD r).arg 4) 63 0 ≤ l.length ∧ ttEntriesOk (bits ((s.cmdD r).arg 5) 63 0) (List.map (ttEntry l) (List.range (bits ((s.cmdD r).arg 4) 63 0))) = true ∧ BitVec.toNat ((s.cmdD r).arg 6) < s.podTime + usTicks 100) ∧
    (∃ (s : State) (r : AdminRef) (l : List Byte), s.mgmtIs r 513 = true ∧ s.lodgeTurn r = true ∧ (s.cmdD r).pav = 0 ∧ bits ((s.cmdD r).arg 2) 63 6 = 0 ∧ bits ((s.cmdD r).arg 3) 63 56 = 0 ∧ bits ((s.cmdD r).arg 3) 2 0 = 0 ∧ bits ((s.cmdD r).arg 4) 63 0 ≤ 4096 ∧ 1024 ≤ bits ((s.cmdD r).arg 5) 63 0 ∧ bits ((s.cmdD r).arg 5) 63 0 ≤ 2 ^ 32 ∧ (s.cmdD r).zeroArgs [7] = true ∧ s.content (ContentKey.admin r) = some (ReadResult.data l) ∧ 8 * bits ((s.cmdD r).arg 4) 63 0 ≤ l.length ∧ ttEntriesOk (bits ((s.cmdD r).arg 5) 63 0) (List.map (ttEntry l) (List.range (bits ((s.cmdD r).arg 4) 63 0))) = true ∧ s.podTime + usTicks 100 ≤ BitVec.toNat ((s.cmdD r).arg 6)) ∧
    (∃ (s : State) (r : AdminRef) (x : ReadResult), s.mgmtIs r 513 = true ∧ s.lodgeTurn r = true ∧ (s.cmdD r).pav = 0 ∧ bits ((s.cmdD r).arg 2) 63 6 = 0 ∧ bits ((s.cmdD r).arg 3) 63 56 = 0 ∧ bits ((s.cmdD r).arg 3) 2 0 = 0 ∧ bits ((s.cmdD r).arg 4) 63 0 ≤ 4096 ∧ 1024 ≤ bits ((s.cmdD r).arg 5) 63 0 ∧ bits ((s.cmdD r).arg 5) 63 0 ≤ 2 ^ 32 ∧ (s.cmdD r).zeroArgs [7] = true ∧ s.content (ContentKey.admin r) = some x ∧ (∀ (l : List Byte), x ≠ ReadResult.data l)) :=
  ⟨⟨ttS 120005, ref0, by decide +kernel⟩,
   ⟨withContent (ttS 120005) (.admin ref0) (ttBytes 0xFFFFFFFF 2 1), ref0, ttBytes 0xFFFFFFFF 2 1, by decide +kernel⟩,
   ⟨withContent (ttS 120004) (.admin ref0) (ttBytes 0xFFFFFFFF 1 1), ref0, ttBytes 0xFFFFFFFF 1 1, by decide +kernel⟩,
   ⟨withContent (ttS 120005) (.admin ref0) (ttBytes 0xFFFFFFFF 1 1), ref0, ttBytes 0xFFFFFFFF 1 1, by decide +kernel⟩,
   ⟨withLostContent (ttS 120005) (.admin ref0) .ue, ref0, .ue, by decide +kernel, by decide +kernel, by decide +kernel, by decide +kernel, by decide +kernel, by decide +kernel, by decide +kernel, by decide +kernel, by decide +kernel, by decide +kernel, by decide +kernel, (by intro l h; cases h)⟩⟩
theorem witness_TimetablesRun_2 :
    (∃ (s : State) (p : PortIx) (w : TimeTable), s.live = true ∧ (s.port p).time.waiting = some w ∧ w.epoch ≤ s.podTime) ∧
    (∃ (s : State) (p : PortIx) (w : ℕ × ℕ), s.live = true ∧ s.opening p = some w) ∧
    (∃ (s : State) (p : PortIx) (w : ℕ × ℕ), s.live = true ∧ s.closing p = some w ∧ (s.counter (ctrTtOverrun p)).count < 4294967294) :=
  ⟨⟨{ running.modPTime 5 (fun q => { q with waiting := some table0 }) with time := { now := 1024 }, retained := { clock := 1024 } }, 5, table0, by decide +kernel⟩,
   ⟨{ running.modPTime 5 (fun q => { q with active := some table0 }) with time := { now := 1123 }, retained := { clock := 1123 } }, 5, (1, 1124), by decide +kernel⟩,
   ⟨{ running.modPTime 5 (fun q => { q with opened := [(1, 1124)] }) with time := { now := 1124 }, retained := { clock := 1124 } }, 5, (1, 1124), by decide +kernel⟩⟩
theorem witness_PanesAreSent_1 :
    (∃ (s : State) (p : PortIx), s.paneReady p = true ∧ s.timeDue p = false ∧ (s.port p).lane.testing = false ∧ s.serving p = true ∧ (s.port p).lane.lpsState ≠ 1 ∧ ((∀ c ∈ (s.port p).pane.cullet, c.resend = 0) ∧ (s.port p).pane.ctrlDue = [] ∧ (s.port p).pane.nakDue = [] ∧ (s.port p).pane.fences = []) ∧ s.nextPair p = none) ∧
    (∃ (s : State) (p : PortIx) (v : ℕ × ℕ), s.paneReady p = true ∧ s.timeDue p = false ∧ (s.port p).lane.testing = false ∧ s.serving p = true ∧ (s.port p).lane.lpsState ≠ 1 ∧ ((∀ c ∈ (s.port p).pane.cullet, c.resend = 0) ∧ (s.port p).pane.ctrlDue = [] ∧ (s.port p).pane.nakDue = [] ∧ (s.port p).pane.fences = []) ∧ (s.port p).pane.ackDue = false ∧ (s.port p).pane.sinceVector < 61 ∧ s.mayStart p = true ∧ s.flt.injArmed = false ∧ s.nextPair p = some v) ∧
    (∃ (s : State) (p : PortIx), s.paneReady p = true ∧ s.timeDue p = false ∧ (s.port p).lane.testing = false ∧ s.serving p = true ∧ (s.port p).lane.lpsState = 1) ∧
    (∃ (s : State) (p : PortIx) (m : TrainMsg), s.paneReady p = true ∧ s.timeDue p = false ∧ (s.port p).lane.testing = false ∧ s.serving p = false ∧ (s.leads p = false ∨ (s.port p).lane.train.phase ≠ TrainPhase.lock ∧ (s.port p).lane.train.phase ≠ TrainPhase.ident ∧ (s.port p).lane.train.phase ≠ TrainPhase.done) ∧ (s.port p).lane.train.ans = none ∧ (s.port p).lane.train.msg = some m) ∧
    (∃ (s : State) (p : PortIx), s.paneReady p = true ∧ s.timeDue p = false ∧ (s.port p).lane.testing = false ∧ s.serving p = false ∧ (s.leads p = false ∨ (s.port p).lane.train.phase ≠ TrainPhase.lock ∧ (s.port p).lane.train.phase ≠ TrainPhase.ident ∧ (s.port p).lane.train.phase ≠ TrainPhase.done) ∧ (s.port p).lane.train.ans = none ∧ (s.port p).lane.train.msg = none) :=
  ⟨⟨upS, 5, by decide +kernel⟩,
   ⟨sendS, 5, (sendS.nextPair 5).getD (0, 0), by decide +kernel⟩,
   ⟨upS.modLane 5 (fun l => { l with lpsState := 1 }), 5, by decide +kernel⟩,
   ⟨trainMsgS, 5, { code := 1, seq := 3, args := [] }, by decide +kernel⟩,
   ⟨retrainS, 5, by decide +kernel⟩⟩
theorem witness_PanesAreSent_2 :
    ∃ (s : State) (p : PortIx), s.paneReady p = true ∧ s.timeDue p = false ∧ (s.port p).lane.testing = true ∧ (s.port p).lane.prbsCode ≠ 0 ∧ (s.port p).lane.nearLoop = false ∧ (s.port p).lane.train.phase ≠ TrainPhase.tune :=
  ⟨prbsS, 5, by decide +kernel⟩
theorem witness_CodewordsAreReceived_1 :
    ∃ (s : State) (p : PortIx) (lane : ℕ) (bytes : List Byte), s.linkLive = true ∧ s.inTraining p = true ∧ (s.port p).lane.testing = false ∧ lane < 13 ∧ bytes.length = 272 ∧ fecDecode ((s.port p).descramble lane bytes).1 = none ∧ (s.counter (ctrFecUncorr p)).count < 4294967294 :=
  ⟨retrainS, 5, 3, ((retrainS.port 5).descramble 3 junk).1, by decide +kernel, by decide +kernel, by decide +kernel, by decide +kernel, by decide +kernel, (congrArg fecDecode junk_back_1).trans junk_decodes, by decide +kernel⟩
theorem witness_CodewordsAreReceived_2 :
    (∃ (s : State) (p : PortIx) (lane : ℕ) (bytes : List Byte), s.linkLive = true ∧ (s.port p).pane.link.inService = true ∧ (s.port p).lane.testing = false ∧ lane < 13 ∧ bytes.length = 272 ∧ fecDecode ((s.port p).descramble lane bytes).1 = none ∧ (s.counter (ctrFecUncorr p)).count < 4294967294 ∧ (s.port p).lane.consecUncorr ≠ 15) ∧
    (∃ (s : State) (p : PortIx) (lane : ℕ) (bytes : List Byte), s.linkLive = true ∧ (s.port p).pane.link.inService = true ∧ (s.port p).lane.testing = false ∧ lane < 13 ∧ bytes.length = 272 ∧ fecDecode ((s.port p).descramble lane bytes).1 = none ∧ (s.port p).lane.consecUncorr = 15) ∧
    (∃ (s : State) (p : PortIx) (lane : ℕ) (bytes : List Byte) (d : List Byte) (f : List ℕ), s.linkLive = true ∧ (s.port p).pane.link.inService = true ∧ (s.port p).lane.testing = false ∧ lane < 13 ∧ bytes.length = 272 ∧ fecDecode ((s.port p).descramble lane bytes).1 = some (d, f) ∧ paneCrcOk d = false ∧ (s.counter (ctrCrcDrop p)).count < 4294967294) ∧
    (∃ (s : State) (p : PortIx) (lane : ℕ) (bytes : List Byte) (d : List Byte) (f : List ℕ), s.linkLive = true ∧ (s.port p).pane.link.inService = true ∧ (s.port p).lane.testing = false ∧ lane < 13 ∧ bytes.length = 272 ∧ fecDecode ((s.port p).descramble lane bytes).1 = some (d, f) ∧ paneCrcOk d = true ∧ (paneType (BitVec.ofNat 64 (beAt d 0 8)) < 6 ∨ paneType (BitVec.ofNat 64 (beAt d 0 8)) = 7) ∧ (paneType (BitVec.ofNat 64 (beAt d 0 8)) = ptCtrl → ctrlKnown (BitVec.toNat ((slice d 8 240).headD 0)) = true)) :=
  ⟨⟨upS, 5, 0, scr junk, by decide +kernel, by decide +kernel, by decide +kernel, by decide +kernel, by decide +kernel, (congrArg fecDecode junk_back).trans junk_decodes, by decide +kernel, by decide +kernel⟩,
   ⟨upS.modLane 5 (fun l => { l with consecUncorr := 15 }), 5, 0, scr junk, by decide +kernel, by decide +kernel, by decide +kernel, by decide +kernel, by decide +kernel, (congrArg fecDecode junk_back_2).trans junk_decodes, by decide +kernel⟩,
   ⟨upS, 5, 0, scr badCrc, badCrc.take 256, [], by decide +kernel, by decide +kernel, by decide +kernel, by decide +kernel, by decide +kernel, (congrArg fecDecode badCrc_back).trans badCrc_decodes, badCrc_crc, by decide +kernel⟩,
   ⟨upS, 5, 0, scr goodWord, goodWord.take 256, [], by decide +kernel, by decide +kernel, by decide +kernel, by decide +kernel, by decide +kernel, (congrArg fecDecode goodWord_back).trans goodWord_decodes, goodWord_crc, by decide +kernel, by decide +kernel⟩⟩
theorem witness_DataPanesAreTaken :
    (∃ (s : State) (p : PortIx) (x : RxPane) (n : ℕ), s.linkLive = true ∧ s.rxHead p ptData = some x ∧ s.serving p = true ∧ s.early p = false ∧ paneVc x.hdr < 12 ∧ (s.port p).pane.seqClass (paneSeq x.hdr) = SeqClass.new n ∧ (s.port p).pane.retired.getLsbD (paneKey x.hdr) = false ∧ (s.port p).keys.rx (paneKey x.hdr) ≠ [] ∧ (s.port p).keys.openData (paneKey x.hdr) n x.hdr (paneEnc x.hdr) x.body = none ∧ (s.counter (ctrBadDrop p)).count < 4294967294) ∧
    (∃ (s : State) (p : PortIx) (x : RxPane) (n : ℕ) (units : List Byte), s.linkLive = true ∧ s.rxHead p ptData = some x ∧ s.serving p = true ∧ s.early p = false ∧ paneVc x.hdr < 12 ∧ (s.port p).pane.seqClass (paneSeq x.hdr) = SeqClass.new n ∧ (s.port p).pane.retired.getLsbD (paneKey x.hdr) = false ∧ (s.port p).keys.rx (paneKey x.hdr) ≠ [] ∧ (s.port p).keys.openData (paneKey x.hdr) n x.hdr (paneEnc x.hdr) x.body = some units ∧ (s.port p).pane.slots.length < 4096 ∧ ((s.port p).pane.takeFields x.hdr s.now).isSome = true ∧ n ≠ (s.port p).pane.rxNext ∧ (∀ h ∈ (s.port p).pane.held, h.seq ≠ (s.port p).pane.rxNext)) ∧
    (∃ (s : State) (p : PortIx) (x : RxPane) (n : ℕ) (units : List Byte), s.linkLive = true ∧ s.rxHead p ptData = some x ∧ s.serving p = true ∧ s.early p = false ∧ paneVc x.hdr < 12 ∧ (s.port p).pane.seqClass (paneSeq x.hdr) = SeqClass.new n ∧ (s.port p).pane.retired.getLsbD (paneKey x.hdr) = false ∧ (s.port p).keys.rx (paneKey x.hdr) ≠ [] ∧ (s.port p).keys.openData (paneKey x.hdr) n x.hdr (paneEnc x.hdr) x.body = some units ∧ (s.port p).pane.slots.length < 4096 ∧ ((s.port p).pane.takeFields x.hdr s.now).isSome = true ∧ n = (s.port p).pane.rxNext ∧ (s.port p).pane.held = []) ∧
    (∃ (s : State) (p : PortIx) (x : RxPane), s.linkLive = true ∧ s.rxHead p ptData = some x ∧ s.serving p = true ∧ s.early p = false ∧ paneVc x.hdr < 12 ∧ (s.port p).pane.seqClass (paneSeq x.hdr) = SeqClass.dup ∧ (s.counter (ctrDup p)).count < 4294967294) :=
  ⟨⟨rxS { hdr := mkPaneHdr ptData 2 0 1 0 15 0 8, body := List.replicate 240 0 }, 5, { hdr := mkPaneHdr ptData 2 0 1 0 15 0 8, body := List.replicate 240 0 }, 1, by decide +kernel⟩,
   ⟨rxS (dataPane 1), 5, dataPane 1, 1, dataUnits0, by decide +kernel⟩,
   ⟨rxS (dataPane 0), 5, dataPane 0, 0, dataUnits0, by decide +kernel⟩,
   ⟨rxS (dataPane 65535), 5, dataPane 65535, by decide +kernel⟩⟩
theorem witness_ControlPanesAct_1 :
    (∃ (s : State) (p : PortIx) (x : RxPane) (q : Pane), s.linkLive = true ∧ s.serving p = true ∧ ((s.port p).keys.segOf x.hdr x.slot x.body).isSome = true ∧ s.early p = false ∧ ({ (s.port p).pane with rxq := List.drop 1 (s.port p).pane.rxq } : Pane).takeFields x.hdr s.now = some q ∧ s.rxHead p ptAck = some x ∧ (q.takeRets (List.map (fun v => (v, vectorRet x.body v)) vcIds)).isSome = true) ∧
    (∃ (s : State) (p : PortIx) (x : RxPane) (q : Pane), s.linkLive = true ∧ s.serving p = true ∧ ((s.port p).keys.segOf x.hdr x.slot x.body).isSome = true ∧ s.early p = false ∧ ({ (s.port p).pane with rxq := List.drop 1 (s.port p).pane.rxq } : Pane).takeFields x.hdr s.now = some q ∧ s.rxHead p ptIdle = some x ∧ (q.takeRets (List.map (fun v => (v, vectorRet x.body v)) vcIds)).isSome = true) ∧
    (∃ (s : State) (p : PortIx) (x : RxPane) (q : Pane), s.linkLive = true ∧ s.serving p = true ∧ ((s.port p).keys.segOf x.hdr x.slot x.body).isSome = true ∧ s.early p = false ∧ ({ (s.port p).pane with rxq := List.drop 1 (s.port p).pane.rxq } : Pane).takeFields x.hdr s.now = some q ∧ s.rxHead p ptNak = some x ∧ (∀ c ∈ q.cullet, c.retx < 16)) ∧
    (∃ (s : State) (p : PortIx) (x : RxPane) (q : Pane), s.linkLive = true ∧ s.serving p = true ∧ ((s.port p).keys.segOf x.hdr x.slot x.body).isSome = true ∧ s.early p = false ∧ ({ (s.port p).pane with rxq := List.drop 1 (s.port p).pane.rxq } : Pane).takeFields x.hdr s.now = some q ∧ s.rxHead p ptCtrl = some x ∧ BitVec.toNat (x.body.headD 0) = 4) :=
  ⟨⟨rxS (tagPane ptAck []), 5, tagPane ptAck [], takenQ ptAck [], by decide +kernel⟩,
   ⟨rxS (tagPane ptIdle []), 5, tagPane ptIdle [], takenQ ptIdle [], by decide +kernel⟩,
   ⟨nakS (tagPane ptNak nakText), 5, tagPane ptNak nakText, takenN, by decide +kernel⟩,
   ⟨rxS (tagPane ptCtrl [4]), 5, tagPane ptCtrl [4], takenQ ptCtrl [4], by decide +kernel⟩⟩
theorem witness_ControlPanesAct_2 :
    (∃ (s : State) (p : PortIx) (x : RxPane), s.linkLive = true ∧ s.serving p = true ∧ (s.port p).keys.segOf x.hdr x.slot x.body = none ∧ (s.counter (ctrBadDrop p)).count < 4294967294 ∧ s.rxHead p ptAck = some x) ∧
    (∃ (s : State) (p : PortIx) (x : RxPane), s.linkLive = true ∧ s.serving p = true ∧ (s.port p).keys.segOf x.hdr x.slot x.body = none ∧ (s.counter (ctrBadDrop p)).count < 4294967294 ∧ s.rxHead p ptIdle = some x) ∧
    (∃ (s : State) (p : PortIx) (x : RxPane), s.linkLive = true ∧ s.serving p = true ∧ (s.port p).keys.segOf x.hdr x.slot x.body = none ∧ (s.counter (ctrBadDrop p)).count < 4294967294 ∧ s.rxHead p ptNak = some x) ∧
    (∃ (s : State) (p : PortIx) (x : RxPane), s.linkLive = true ∧ s.serving p = true ∧ (s.port p).keys.segOf x.hdr x.slot x.body = none ∧ (s.counter (ctrBadDrop p)).count < 4294967294 ∧ s.rxHead p ptCtrl = some x ∧ BitVec.toNat (x.body.headD 0) = 1) ∧
    (∃ (s : State) (p : PortIx) (x : RxPane), s.linkLive = true ∧ s.serving p = true ∧ (s.port p).keys.segOf x.hdr x.slot x.body = none ∧ (s.counter (ctrBadDrop p)).count < 4294967294 ∧ s.rxHead p ptCtrl = some x ∧ BitVec.toNat (x.body.headD 0) = 4) :=
  ⟨⟨rxS (untagged ptAck 0), 5, untagged ptAck 0, by decide +kernel⟩,
   ⟨rxS (untagged ptIdle 0), 5, untagged ptIdle 0, by decide +kernel⟩,
   ⟨rxS (untagged ptNak 0), 5, untagged ptNak 0, by decide +kernel⟩,
   ⟨rxS (untagged ptCtrl 1), 5, untagged ptCtrl 1, by decide +kernel⟩,
   ⟨rxS (untagged ptCtrl 4), 5, untagged ptCtrl 4, by decide +kernel⟩⟩
theorem witness_FencesAndSlots :
    (∃ (s : State) (p : PortIx) (x : RxPane) (n : ℕ), s.linkLive = true ∧ s.rxHead p ptFence = some x ∧ s.serving p = true ∧ s.early p = false ∧ paneVc x.hdr < 12 ∧ (s.port p).pane.seqClass (paneSeq x.hdr) = SeqClass.new n ∧ (s.port p).pane.leavingFence = none ∧ (∀ h ∈ (s.port p).pane.held, h.seq ≠ (s.port p).pane.rxNext) ∧ n ≠ (s.port p).pane.rxNext ∧ (s.port p).keys.fenceOk (x.body.headD 0 == 2) n x.hdr x.body = false ∧ (s.counter (ctrBadDrop p)).count < 4294967294) ∧
    (∃ (s : State) (p : PortIx) (x : RxPane) (n : ℕ), s.linkLive = true ∧ s.rxHead p ptFence = some x ∧ s.serving p = true ∧ s.early p = false ∧ paneVc x.hdr < 12 ∧ (s.port p).pane.seqClass (paneSeq x.hdr) = SeqClass.new n ∧ (s.port p).pane.leavingFence = none ∧ (∀ h ∈ (s.port p).pane.held, h.seq ≠ (s.port p).pane.rxNext) ∧ n ≠ (s.port p).pane.rxNext ∧ (s.port p).keys.fenceOk (x.body.headD 0 == 2) n x.hdr x.body = true ∧ (s.port p).pane.slots.length < 4096 ∧ ((s.port p).pane.takeFields x.hdr s.now).isSome = true ∧ (x.body.headD 0 = 1 ∧ 1 ≤ BitVec.toNat (x.body.getD 1 0) ∧ BitVec.toNat (x.body.getD 1 0) ≤ 15 ∨ x.body.headD 0 = 2 ∧ x.body.getD 1 0 = 0)) ∧
    (∃ (s : State) (p : PortIx) (f : PoolSlot) (k : ℕ), s.linkLive = true ∧ s.fenceHead p false = false ∧ (s.port p).pane.leavingFence = some f ∧ f.fenceKey = some k) ∧
    (∃ (s : State) (p : PortIx) (n : ℕ) (f : PoolSlot), s.linkLive = true ∧ (s.port p).pane.emptied n = some f) :=
  ⟨⟨rxS (fenceBad 1), 5, fenceBad 1, 1, by decide +kernel⟩,
   ⟨rxS (fencePane false 1 [1, 15]), 5, fencePane false 1 [1, 15], 1, by decide +kernel⟩,
   ⟨slotS fenceSlot, 5, fenceSlot, 5, by decide +kernel⟩,
   ⟨slotS freeSlot, 5, 2 ^ 64 - 1, freeSlot, by decide +kernel⟩⟩
theorem witness_PortTimersAndResumption_1 :
    (∃ (s : State) (p : PortIx), s.linkLive = true ∧ s.serving p = true ∧ s.staleGaps p ≠ []) ∧
    (∃ (s : State) (p : PortIx) (c : CulletPane) (r : List CulletPane), s.ackExpired p = true ∧ (s.port p).pane.cullet = c :: r ∧ (s.port p).pane.ackExpiries < 7 ∧ c.retx < 16) ∧
    (∃ (s : State) (p : PortIx), s.ackExpired p = true ∧ (s.port p).pane.ackExpiries = 7) ∧
    (∃ (s : State) (p : PortIx), s.timersRun p = true ∧ s.usPassed (s.port p).pane.creditStart (bits (s.port p).pane.ctl 47 32) = true) :=
  ⟨⟨gapS, 5, by decide +kernel⟩,
   ⟨ackS 6, 5, cullet1, [], by decide +kernel⟩,
   ⟨ackS 7, 5, by decide +kernel⟩,
   ⟨creditS, 5, by decide +kernel⟩⟩
theorem witness_PortTimersAndResumption_2 :
    (∃ (s : State) (p : PortIx) (x : RxPane), s.linkLive = true ∧ s.serving p = true ∧ (s.port p).pane.resuming = true ∧ s.rxHead p ptCtrl = some x ∧ BitVec.toNat (x.body.headD 0) = 1 ∧ ((s.port p).keys.segOf x.hdr x.slot x.body).isSome = true ∧ BitVec.ofNat 32 (beAt x.body 4 4) = (s.port p).pane.farPlId ∧ beAt x.body 8 4 = (s.port p).pane.plId.toNat) ∧
    (∃ (s : State) (p : PortIx), s.linkLive = true ∧ s.serving p = true ∧ (s.port p).pane.resuming = true ∧ s.usPassed (s.port p).pane.lastResume 2 = true) :=
  ⟨⟨resumingS, 5, resumeX, by decide +kernel⟩,
   ⟨{ resumingS with time := { now := 2400 }, retained := { clock := 2400 } }, 5, by decide +kernel⟩⟩
theorem witness_PurgeClears :
    (∃ (s : State) (r : AdminRef), s.mgmtIs r 769 = true ∧ s.lodgeTurn r = true ∧ (bits ((s.cmdD r).arg 2) 5 0 = 0 ∨ bits ((s.cmdD r).arg 3) 15 0 = 0 ∨ bits ((s.cmdD r).arg 2) 63 6 ≠ 0 ∨ bits ((s.cmdD r).arg 3) 63 16 ≠ 0 ∨ (s.cmdD r).zeroArgs [4, 5, 6, 7] = false)) ∧
    (∃ (s : State) (r : AdminRef), s.mgmtIs r 769 = true ∧ s.lodgeTurn r = true ∧ bits ((s.cmdD r).arg 2) 5 0 ≠ 0 ∧ bits ((s.cmdD r).arg 3) 15 0 ≠ 0 ∧ bits ((s.cmdD r).arg 2) 63 6 = 0 ∧ bits ((s.cmdD r).arg 3) 63 16 = 0 ∧ (s.cmdD r).zeroArgs [4, 5, 6, 7] = true ∧ (s.cmdD r).pav ≠ 0 ∧ (bits ((s.cmdD r).arg 3) 15 0 ≠ 1 <<< (s.cmdD r).pav ∨ ∃ p : PortIx, (bits ((s.cmdD r).arg 2) 5 0).testBit ↑p = true ∧ s.linkInBlock (s.cmdD r).pav p = false)) ∧
    (∃ (s : State) (r : AdminRef), s.mgmtIs r 769 = true ∧ s.lodgeTurn r = true ∧ bits ((s.cmdD r).arg 2) 5 0 ≠ 0 ∧ bits ((s.cmdD r).arg 3) 15 0 ≠ 0 ∧ bits ((s.cmdD r).arg 2) 63 6 = 0 ∧ bits ((s.cmdD r).arg 3) 63 16 = 0 ∧ (s.cmdD r).zeroArgs [4, 5, 6, 7] = true ∧ ((s.cmdD r).pav = 0 ∨ bits ((s.cmdD r).arg 3) 15 0 = 1 <<< (s.cmdD r).pav ∧ ∀ (p : PortIx), (bits ((s.cmdD r).arg 2) 5 0).testBit ↑p = true → s.linkInBlock (s.cmdD r).pav p = true)) :=
  ⟨⟨purging [0x40, 0x0301, 64, 1], ref0, by decide +kernel⟩,
   ⟨lodgeUp (byTenant upS [0x40, 0x0301, 0x20, 0x21]), ref5, by decide +kernel⟩,
   ⟨purging [0x40, 0x0301, 0x20, 0x8000], ref0, by decide +kernel⟩⟩
theorem witness_TrainingMessages_1 :
    (∃ (s : State) (p : PortIx) (x : RxPane), s.linkLive = true ∧ s.rxHead p ptTrain = some x ∧ s.trainHead p tmHello = true ∧ s.serving p = true) ∧
    (∃ (s : State) (p : PortIx) (x : RxPane), s.linkLive = true ∧ s.rxHead p ptTrain = some x ∧ s.trainHead p tmHello = true ∧ (s.inTraining p = true ∧ (s.port p).lane.train.repeats (BitVec.toNat (x.body.headD 0)) (beAt x.body 2 2) = false ∧ ((s.port p).lane.train.initial = true ∨ (s.port p).lane.train.step ≠ 0))) ∧
    (∃ (s : State) (p : PortIx) (x : RxPane), s.linkLive = true ∧ s.rxHead p ptTrain = some x ∧ s.trainHead p tmHello = true ∧ (s.inTraining p = true ∧ (s.port p).lane.train.repeats (BitVec.toNat (x.body.headD 0)) (beAt x.body 2 2) = false ∧ ((s.port p).lane.train.initial = true ∨ (s.port p).lane.train.step ≠ 0))) ∧
    (∃ (s : State) (p : PortIx) (x : RxPane), s.linkLive = true ∧ s.rxHead p ptTrain = some x ∧ s.trainHead p tmRetrain = true ∧ s.serving p = true) ∧
    (∃ (s : State) (p : PortIx) (x : RxPane), s.linkLive = true ∧ s.rxHead p ptTrain = some x ∧ s.trainHead p tmRetrain = true ∧ (s.inTraining p = true ∧ (s.port p).lane.train.repeats (BitVec.toNat (x.body.headD 0)) (beAt x.body 2 2) = false ∧ ((s.port p).lane.train.initial = true ∨ (s.port p).lane.train.step ≠ 0))) ∧
    (∃ (s : State) (p : PortIx) (x : RxPane), s.linkLive = true ∧ s.rxHead p ptTrain = some x ∧ s.trainHead p tmConfig = true ∧ (s.inTraining p = true ∧ (s.port p).lane.train.repeats (BitVec.toNat (x.body.headD 0)) (beAt x.body 2 2) = false ∧ ((s.port p).lane.train.initial = true ∨ (s.port p).lane.train.step ≠ 0)) ∧ ((s.rxPop p).heardTrain p x.body).leads p = false) ∧
    (∃ (s : State) (p : PortIx) (x : RxPane) (m : TrainMsg), s.linkLive = true ∧ s.rxHead p ptTrain = some x ∧ s.trainHead p tmConfigAck = true ∧ (s.inTraining p = true ∧ (s.port p).lane.train.repeats (BitVec.toNat (x.body.headD 0)) (beAt x.body 2 2) = false ∧ ((s.port p).lane.train.initial = true ∨ (s.port p).lane.train.step ≠ 0)) ∧ ((s.rxPop p).heardTrain p x.body).leads p = true ∧ (s.port p).lane.train.msg = some m ∧ m.code = tmConfig ∧ bit (x.body.getD 1 0) 1 = true) ∧
    (∃ (s : State) (p : PortIx) (x : RxPane) (m : TrainMsg), s.linkLive = true ∧ s.rxHead p ptTrain = some x ∧ s.trainHead p tmConfigAck = true ∧ (s.inTraining p = true ∧ (s.port p).lane.train.repeats (BitVec.toNat (x.body.headD 0)) (beAt x.body 2 2) = false ∧ ((s.port p).lane.train.initial = true ∨ (s.port p).lane.train.step ≠ 0)) ∧ ((s.rxPop p).heardTrain p x.body).leads p = true ∧ (s.port p).lane.train.msg = some m ∧ m.code = tmConfig ∧ bit (x.body.getD 1 0) 1 = false ∧ slice x.body 24 5 = m.args) ∧
    (∃ (s : State) (p : PortIx) (x : RxPane) (m : TrainMsg), s.linkLive = true ∧ s.rxHead p ptTrain = some x ∧ s.trainHead p tmConfigAck = true ∧ (s.inTraining p = true ∧ (s.port p).lane.train.repeats (BitVec.toNat (x.body.headD 0)) (beAt x.body 2 2) = false ∧ ((s.port p).lane.train.initial = true ∨ (s.port p).lane.train.step ≠ 0)) ∧ ((s.rxPop p).heardTrain p x.body).leads p = true ∧ (s.port p).lane.train.msg = some m ∧ m.code = tmConfig ∧ bit (x.body.getD 1 0) 1 = false ∧ slice x.body 24 5 = m.args) ∧
    (∃ (s : State) (p : PortIx) (x : RxPane), s.linkLive = true ∧ s.rxHead p ptTrain = some x ∧ s.trainHead p tmIdent = true ∧ (s.inTraining p = true ∧ (s.port p).lane.train.repeats (BitVec.toNat (x.body.headD 0)) (beAt x.body 2 2) = false ∧ ((s.port p).lane.train.initial = true ∨ (s.port p).lane.train.step ≠ 0)) ∧ (s.port p).lane.train.phase = TrainPhase.ident ∧ (s.port p).lane.train.round = x.body.getD 17 0) ∧
    (∃ (s : State) (p : PortIx) (x : RxPane), s.linkLive = true ∧ s.rxHead p ptTrain = some x ∧ s.trainHead p tmIdent = true ∧ (s.inTraining p = true ∧ (s.port p).lane.train.repeats (BitVec.toNat (x.body.headD 0)) (beAt x.body 2 2) = false ∧ ((s.port p).lane.train.initial = true ∨ (s.port p).lane.train.step ≠ 0)) ∧ (s.port p).lane.train.phase = TrainPhase.ident ∧ (s.port p).lane.train.round = x.body.getD 17 0) ∧
    (∃ (s : State) (p : PortIx) (x : RxPane), s.linkLive = true ∧ s.rxHead p ptTrain = some x ∧ s.trainHead p tmIdentAck = true ∧ (s.inTraining p = true ∧ (s.port p).lane.train.repeats (BitVec.toNat (x.body.headD 0)) (beAt x.body 2 2) = false ∧ ((s.port p).lane.train.initial = true ∨ (s.port p).lane.train.step ≠ 0)) ∧ (s.port p).lane.train.phase = TrainPhase.ident ∧ (s.port p).lane.train.round = x.body.getD 17 0) ∧
    (∃ (s : State) (p : PortIx) (x : RxPane), s.linkLive = true ∧ s.rxHead p ptTrain = some x ∧ s.trainHead p tmIdentAck = true ∧ (s.inTraining p = true ∧ (s.port p).lane.train.repeats (BitVec.toNat (x.body.headD 0)) (beAt x.body 2 2) = false ∧ ((s.port p).lane.train.initial = true ∨ (s.port p).lane.train.step ≠ 0)) ∧ (s.port p).lane.train.phase = TrainPhase.ident ∧ (s.port p).lane.train.round = x.body.getD 17 0) :=
  ⟨⟨rxS (trainPane 1 0 2 []), 5, trainPane 1 0 2 [], by decide +kernel⟩,
   ⟨lead (training (trainPane 1 0 2 []) id), 5, trainPane 1 0 2 [], by decide +kernel⟩,
   ⟨follow (training (trainPane 1 0 2 []) id), 5, trainPane 1 0 2 [], by decide +kernel⟩,
   ⟨rxS (trainPane 2 0 2 []), 5, trainPane 2 0 2 [], by decide +kernel⟩,
   ⟨lead (training (trainPane 2 0 2 []) id), 5, trainPane 2 0 2 [], by decide +kernel⟩,
   ⟨follow (training (trainPane 3 0 2 cfgArgs) id), 5, trainPane 3 0 2 cfgArgs, by decide +kernel⟩,
   ⟨lead (training (trainPane 4 2 0 cfgArgs) (fun t => { t with msg := some copied })), 5, trainPane 4 2 0 cfgArgs, copied, by decide +kernel⟩,
   ⟨lead (training (trainPane 4 0 0 cfgArgs) (fun t => { t with msg := some copied })), 5, trainPane 4 0 0 cfgArgs, copied, by decide +kernel⟩,
   ⟨lead (training (trainPane 4 0 0 cfg0.args) (fun t => { t with msg := some cfg0, phase := .lock })), 5, trainPane 4 0 0 cfg0.args, cfg0, by decide +kernel⟩,
   ⟨identS (trainPane 0x20 0 2 (identArgs ++ List.replicate 8 0)), 5, trainPane 0x20 0 2 (identArgs ++ List.replicate 8 0), by decide +kernel⟩,
   ⟨identS (trainPane 0x20 0 2 (1 :: List.replicate 8 0)), 5, trainPane 0x20 0 2 (1 :: List.replicate 8 0), by decide +kernel⟩,
   ⟨identS (trainPane 0x21 0 2 [1]), 5, trainPane 0x21 0 2 [1], by decide +kernel⟩,
   ⟨identS (trainPane 0x21 0 2 [5]), 5, trainPane 0x21 0 2 [5], by decide +kernel⟩⟩
theorem witness_TrainingMessages_2 :
    (∃ (s : State) (p : PortIx) (x : RxPane), s.linkLive = true ∧ s.rxHead p ptTrain = some x ∧ s.trainHead p tmTuneReq = true ∧ (s.inTraining p = true ∧ (s.port p).lane.train.repeats (BitVec.toNat (x.body.headD 0)) (beAt x.body 2 2) = false ∧ (s.port p).lane.train.round = x.body.getD 17 0) ∧ (s.port p).lane.train.phase ≠ TrainPhase.done ∧ (s.port p).lane.train.phase ≠ TrainPhase.lock) ∧
    (∃ (s : State) (p : PortIx) (x : RxPane), s.linkLive = true ∧ s.rxHead p ptTrain = some x ∧ s.trainHead p tmTuneRsp = true ∧ (s.inTraining p = true ∧ (s.port p).lane.train.repeats (BitVec.toNat (x.body.headD 0)) (beAt x.body 2 2) = false ∧ (s.port p).lane.train.round = x.body.getD 17 0) ∧ (s.port p).lane.testing = false ∧ (s.port p).lane.train.phase = TrainPhase.tune ∧ (s.port p).lane.train.waiting.isSome = true) ∧
    (∃ (s : State) (p : PortIx) (x : RxPane), s.linkLive = true ∧ s.rxHead p ptTrain = some x ∧ s.trainHead p tmTuneRsp = true ∧ (s.inTraining p = true ∧ (s.port p).lane.train.repeats (BitVec.toNat (x.body.headD 0)) (beAt x.body 2 2) = false ∧ (s.port p).lane.train.round = x.body.getD 17 0) ∧ (s.port p).lane.testing = false ∧ (s.port p).lane.train.phase = TrainPhase.tune ∧ (s.port p).lane.train.waiting.isSome = true) ∧
    (∃ (s : State) (p : PortIx) (x : RxPane), s.linkLive = true ∧ s.rxHead p ptTrain = some x ∧ s.trainHead p tmTuneDone = true ∧ (s.inTraining p = true ∧ (s.port p).lane.train.repeats (BitVec.toNat (x.body.headD 0)) (beAt x.body 2 2) = false ∧ (s.port p).lane.train.round = x.body.getD 17 0) ∧ ((s.port p).lane.train.phase = TrainPhase.tune ∨ (s.port p).lane.train.phase = TrainPhase.measure)) ∧
    (∃ (s : State) (p : PortIx) (x : RxPane), s.linkLive = true ∧ s.rxHead p ptTrain = some x ∧ s.trainHead p tmTuneDone = true ∧ (s.inTraining p = true ∧ (s.port p).lane.train.repeats (BitVec.toNat (x.body.headD 0)) (beAt x.body 2 2) = false ∧ (s.port p).lane.train.round = x.body.getD 17 0) ∧ ((s.port p).lane.train.phase = TrainPhase.tune ∨ (s.port p).lane.train.phase = TrainPhase.measure)) ∧
    (∃ (s : State) (p : PortIx) (x : RxPane), s.linkLive = true ∧ s.rxHead p ptTrain = some x ∧ s.trainHead p tmGo = true ∧ (s.inTraining p = true ∧ (s.port p).lane.train.repeats (BitVec.toNat (x.body.headD 0)) (beAt x.body 2 2) = false ∧ (s.port p).lane.train.round = x.body.getD 17 0) ∧ (s.port p).lane.train.phase = TrainPhase.going) ∧
    (∃ (s : State) (p : PortIx) (x : RxPane), s.linkLive = true ∧ s.rxHead p ptTrain = some x ∧ s.trainHead p tmReady = true ∧ (s.inTraining p = true ∧ (s.port p).lane.train.repeats (BitVec.toNat (x.body.headD 0)) (beAt x.body 2 2) = false ∧ (s.port p).lane.train.round = x.body.getD 17 0) ∧ (s.port p).lane.train.phase = TrainPhase.service ∧ (s.port p).lane.retrainDue = false) ∧
    (∃ (s : State) (p : PortIx) (x : RxPane), s.linkLive = true ∧ s.rxHead p ptTrain = some x ∧ s.trainHead p tmLoopReq = true ∧ s.serving p = false ∧ s.inTraining p = false ∧ (s.port p).lane.testing = true ∧ (s.port p).lane.train.repeats tmLoopReq (beAt x.body 2 2) = false) ∧
    (∃ (s : State) (p : PortIx) (x : RxPane), s.linkLive = true ∧ s.rxHead p ptTrain = some x ∧ s.trainHead p tmLoopReq = true ∧ s.serving p = false ∧ s.inTraining p = false ∧ (s.port p).lane.testing = true ∧ (s.port p).lane.train.repeats tmLoopReq (beAt x.body 2 2) = false) :=
  ⟨⟨tuned (trainPane 5 0 2 [0, 1]) .tune id, 5, trainPane 5 0 2 [0, 1], by decide +kernel⟩,
   ⟨tuned (trainPane 6 0 2 [0, 1]) .tune (fun t => { t with waiting := some 0 }), 5, trainPane 6 0 2 [0, 1], by decide +kernel⟩,
   ⟨tuned (trainPane 6 0 2 [0, 1]) .tune (fun t => { t with waiting := some 0, second := true }), 5, trainPane 6 0 2 [0, 1], by decide +kernel⟩,
   ⟨tuned (trainPane 7 0 2 [0xFF, 0xFF]) .tune id, 5, trainPane 7 0 2 [0xFF, 0xFF], by decide +kernel⟩,
   ⟨tuned (trainPane 7 0 2 [0xFF, 0xFF]) .measure id, 5, trainPane 7 0 2 [0xFF, 0xFF], by decide +kernel⟩,
   ⟨goAt (trainPane 8 0 2 []) .going, 5, trainPane 8 0 2 [], by decide +kernel⟩,
   ⟨goAt (trainPane 9 0 2 []) .service, 5, trainPane 9 0 2 [], by decide +kernel⟩,
   ⟨loopS loopX, 5, loopX, by decide +kernel⟩,
   ⟨loopS loopX0, 5, loopX0, by decide +kernel⟩⟩
theorem witness_LanesAndTrainingTimers_1 :
    (∃ (s : State) (p : PortIx) (k : ℕ) (b : List Byte), s.linkLive = true ∧ k < 13 ∧ b.length = 272 ∧ (s.port p).pane.link ≠ LinkState.down ∧ markerTaken b = false ∧ s.serving p = false) ∧
    (∃ (s : State) (p : PortIx) (k : ℕ) (b : List Byte), s.linkLive = true ∧ k < 13 ∧ b.length = 272 ∧ (s.port p).pane.link ≠ LinkState.down ∧ markerTaken b = false ∧ s.serving p = true ∧ (s.port p).lane.rxActive.testBit k = true) ∧
    (∃ (s : State) (p : PortIx) (k : ℕ) (b : List Byte), s.linkLive = true ∧ k < 13 ∧ b.length = 272 ∧ (s.port p).pane.link ≠ LinkState.down ∧ markerTaken b = false ∧ s.serving p = true ∧ (s.port p).lane.rxActive.testBit k = true) ∧
    (∃ (s : State) (p : PortIx) (k : ℕ) (b : List Byte), s.linkLive = true ∧ k < 13 ∧ b.length = 272 ∧ (s.port p).pane.link ≠ LinkState.down ∧ markerTaken b = true ∧ s.serving p = true ∧ (s.port p).lane.rxActive.testBit k = true ∧ (∃ i c, i < 13 ∧ (s.port p).lane.rxActive.testBit i = true ∧ i ≠ k ∧ ((s.port p).lane.lane i).lastCount = some c ∧ (c + (((s.port p).lane.lane k).place + 1)) % 2 ^ 56 ≠ (beAt b 21 7 + ((s.port p).lane.lane i).place) % 2 ^ 56)) ∧
    (∃ (s : State) (p : PortIx) (k : ℕ) (b : List Byte), s.linkLive = true ∧ k < 13 ∧ b.length = 272 ∧ (s.port p).pane.link ≠ LinkState.down ∧ markerTaken b = true ∧ s.serving p = true ∧ (s.port p).lane.rxActive.testBit k = true ∧ (¬∃ i c, i < 13 ∧ (s.port p).lane.rxActive.testBit i = true ∧ i ≠ k ∧ ((s.port p).lane.lane i).lastCount = some c ∧ (c + (((s.port p).lane.lane k).place + 1)) % 2 ^ 56 ≠ (beAt b 21 7 + ((s.port p).lane.lane i).place) % 2 ^ 56)) ∧
    (∃ (s : State) (p : PortIx) (k : ℕ) (b : List Byte), s.linkLive = true ∧ k < 13 ∧ b.length = 272 ∧ (s.port p).pane.link ≠ LinkState.down ∧ markerTaken b = true ∧ s.inTraining p = true ∧ (s.port p).lane.train.phase = TrainPhase.lock ∧ ((s.port p).lane.lane k).lastCount = some ((beAt b 21 7 + 2 ^ 56 - 1) % 2 ^ 56) ∧ 1 ≤ ((s.port p).lane.lane k).markers ∧ ((s.port p).lane.lane k).fail ≤ 1 ∧ (∀ i < 13, ((s.port p).lane.lane i).cdr = true → ((s.port p).lane.lane i).lastCount = some (beAt b 21 7) → s.now ≤ ((s.port p).lane.lane i).markerTick + 76) ∧ (s.leads p = true → (s.port p).lane.train.farUsable.testBit k = true)) ∧
    (∃ (s : State) (k : ℕ), s.linkLive = true ∧ k < 13) ∧
    (∃ (s : State) (k : ℕ), s.linkLive = true ∧ k < 13) :=
  ⟨⟨lane12 (running.modPane 5 (fun q => { q with link := .training })) (fun l => { l with markers := 3 }), 5, 12, zeros, by decide +kernel⟩,
   ⟨activeAll, 5, 12, zeros, by decide +kernel⟩,
   ⟨activeAll.modLane 5 (fun l => { l with lanes := [(12, { missed := 1 })] }), 5, 12, zeros, by decide +kernel⟩,
   ⟨activeAll, 5, 12, goodMarker 9, by decide +kernel, by decide +kernel, by decide +kernel, by decide +kernel, by decide +kernel, by decide +kernel, by decide +kernel, ⟨0, 7, by decide +kernel⟩⟩,
   ⟨activeAll, 5, 12, goodMarker 8, by decide +kernel, by decide +kernel, by decide +kernel, by decide +kernel, by decide +kernel, by decide +kernel, by decide +kernel, noOther⟩,
   ⟨locking, 5, 12, goodMarker 0, by decide +kernel⟩,
   ⟨activeAll, 12, by decide +kernel⟩,
   ⟨running, 12, by decide +kernel⟩⟩
theorem witness_LanesAndTrainingTimers_2 :
    (∃ (s : State) (p : PortIx), s.linkLive = true ∧ s.inTraining p = true ∧ s.attemptLate p = false ∧ s.msgLate p = true) ∧
    (∃ (s : State) (p : PortIx), s.linkLive = true ∧ s.inTraining p = true ∧ s.attemptLate p = true) ∧
    (∃ (s : State) (p : PortIx), s.linkLive = true ∧ s.inTraining p = true ∧ s.attemptLate p = true) ∧
    (∃ (s : State) (p : PortIx), s.linkLive = true ∧ s.inTraining p = true ∧ (s.port p).lane.train.phase = TrainPhase.tune ∧ s.usPassed (s.port p).lane.train.tuneStart 60000 = true ∧ (s.port p).lane.train.farPass = none) ∧
    (∃ (s : State) (p : PortIx) (r : List (ℕ × ℕ)), s.linkLive = true ∧ s.inTraining p = true ∧ (s.port p).lane.train.phase = TrainPhase.measure ∧ r.length = 13 ∧ (∀ e ∈ r, e.2 = (s.port p).lane.train.window) ∧ (s.port p).lane.adopt = false ∧ (s.port p).lane.train.firstPass = none) ∧
    (∃ (s : State) (p : PortIx) (r : List (ℕ × ℕ)) (a : ℕ), s.linkLive = true ∧ s.inTraining p = true ∧ (s.port p).lane.train.phase = TrainPhase.measure ∧ r.length = 13 ∧ (∀ e ∈ r, e.2 = (s.port p).lane.train.window) ∧ (s.port p).lane.adopt = false ∧ (s.port p).lane.train.firstPass = some a ∧ (s.port p).lane.train.second = true ∧ (s.port p).lane.train.farPass = none) ∧
    (∃ (s : State) (p : PortIx), s.linkLive = true ∧ (s.port p).pane.link = LinkState.down ∧ (s.port p).lane.enabled = true ∧ (s.port p).lane.testing = false ∧ (s.port p).lane.lpsState ≠ 4 ∧ s.usPassed (s.port p).lane.downSince (10000 * (s.port p).lane.retry10ms) = true) :=
  ⟨⟨late (fun t => { t with waiting := some 0, farSerial := 5 }) 1200000, 5, by decide +kernel⟩,
   ⟨late (fun t => { t with initial := false, step := 3 }) 2400000, 5, by decide +kernel⟩,
   ⟨late (fun t => { t with initial := false }) 12000000, 5, by decide +kernel⟩,
   ⟨tuneLate, 5, by decide +kernel⟩,
   ⟨measuring id, 5, ratios 7, by decide +kernel⟩,
   ⟨measuring (fun t => { t with firstPass := some 0x3F, second := true }), 5, ratios 7, 0x3F, by decide +kernel⟩,
   ⟨downS, 5, by decide +kernel⟩⟩
theorem witness_WidthsChange_1 :
    ∃ (s : State) (p : PortIx) (k : ℕ), s.linkLive = true ∧ s.serving p = true ∧ k < 13 ∧ (s.port p).lane.rxActive.testBit k = true ∧ ((s.port p).lane.lane k).berOver = true ∧ (s.port p).lane.change = none :=
  ⟨berS, 5, 3, by decide +kernel⟩
theorem witness_WidthsChange_2 :
    (∃ (s : State) (p : PortIx) (x : RxPane) (q : Pane), s.linkLive = true ∧ s.serving p = true ∧ s.rxHead p ptCtrl = some x ∧ ((s.port p).keys.segOf x.hdr x.slot x.body).isSome = true ∧ s.early p = false ∧ ({ (s.port p).pane with rxq := List.drop 1 (s.port p).pane.rxq } : Pane).takeFields x.hdr s.now = some q ∧ BitVec.toNat (x.body.headD 0) = 16 ∧ (s.port p).lane.change = none ∧ ((s.port p).lane.widthCfg (beAt x.body 2 2 % 8192) (BitVec.toNat (x.body.getD 4 0)) (reasonOf (x.body.getD 1 0) == lcPower)).2 = 0) ∧
    (∃ (s : State) (p : PortIx) (x : RxPane) (q : Pane), s.linkLive = true ∧ s.serving p = true ∧ s.rxHead p ptCtrl = some x ∧ ((s.port p).keys.segOf x.hdr x.slot x.body).isSome = true ∧ s.early p = false ∧ ({ (s.port p).pane with rxq := List.drop 1 (s.port p).pane.rxq } : Pane).takeFields x.hdr s.now = some q ∧ BitVec.toNat (x.body.headD 0) = 16 ∧ (s.port p).lane.change = none ∧ ((s.port p).lane.widthCfg (beAt x.body 2 2 % 8192) (BitVec.toNat (x.body.getD 4 0)) (reasonOf (x.body.getD 1 0) == lcPower)).2 ≠ 0) ∧
    (∃ (s : State) (p : PortIx) (x : RxPane) (q : Pane) (c : WidthChange), s.linkLive = true ∧ s.serving p = true ∧ s.rxHead p ptCtrl = some x ∧ ((s.port p).keys.segOf x.hdr x.slot x.body).isSome = true ∧ s.early p = false ∧ ({ (s.port p).pane with rxq := List.drop 1 (s.port p).pane.rxq } : Pane).takeFields x.hdr s.now = some q ∧ BitVec.toNat (x.body.headD 0) = 17 ∧ (s.port p).lane.change = some c ∧ c.leading = true ∧ c.acked = false ∧ ((s.port p).lane.widthCfg (if c.farReason = 0 then (s.port p).lane.farUsable else c.farUsable) (min c.max c.farMax) (c.reason == lcPower && (c.farReason == 0 || c.farReason == lcPower))).2 ≠ 0 ∧ beAt x.body 16 2 = ((s.port p).lane.widthCfg (if c.farReason = 0 then (s.port p).lane.farUsable else c.farUsable) (min c.max c.farMax) (c.reason == lcPower && (c.farReason == 0 || c.farReason == lcPower))).1 ∧ BitVec.toNat (x.body.getD 18 0) = ((s.port p).lane.widthCfg (if c.farReason = 0 then (s.port p).lane.farUsable else c.farUsable) (min c.max c.farMax) (c.reason == lcPower && (c.farReason == 0 || c.farReason == lcPower))).2) ∧
    (∃ (s : State) (p : PortIx) (x : RxPane) (q : Pane) (c : WidthChange), s.linkLive = true ∧ s.serving p = true ∧ s.rxHead p ptCtrl = some x ∧ ((s.port p).keys.segOf x.hdr x.slot x.body).isSome = true ∧ s.early p = false ∧ ({ (s.port p).pane with rxq := List.drop 1 (s.port p).pane.rxq } : Pane).takeFields x.hdr s.now = some q ∧ BitVec.toNat (x.body.headD 0) = 17 ∧ (s.port p).lane.change = some c ∧ c.leading = true ∧ c.acked = false ∧ (((s.port p).lane.widthCfg (if c.farReason = 0 then (s.port p).lane.farUsable else c.farUsable) (min c.max c.farMax) (c.reason == lcPower && (c.farReason == 0 || c.farReason == lcPower))).2 = 0 ∨ beAt x.body 16 2 ≠ ((s.port p).lane.widthCfg (if c.farReason = 0 then (s.port p).lane.farUsable else c.farUsable) (min c.max c.farMax) (c.reason == lcPower && (c.farReason == 0 || c.farReason == lcPower))).1 ∨ BitVec.toNat (x.body.getD 18 0) ≠ ((s.port p).lane.widthCfg (if c.farReason = 0 then (s.port p).lane.farUsable else c.farUsable) (min c.max c.farMax) (c.reason == lcPower && (c.farReason == 0 || c.farReason == lcPower))).2)) ∧
    (∃ (s : State) (p : PortIx) (x : RxPane) (q : Pane) (c : WidthChange), s.linkLive = true ∧ s.serving p = true ∧ s.rxHead p ptCtrl = some x ∧ ((s.port p).keys.segOf x.hdr x.slot x.body).isSome = true ∧ s.early p = false ∧ ({ (s.port p).pane with rxq := List.drop 1 (s.port p).pane.rxq } : Pane).takeFields x.hdr s.now = some q ∧ BitVec.toNat (x.body.headD 0) = 18 ∧ (s.port p).lane.change = some c) :=
  ⟨⟨ctrlS reqNone id, 5, ctrlX reqNone, takenC reqNone, by decide +kernel⟩,
   ⟨ctrlS reqText id, 5, ctrlX reqText, takenC reqText, by decide +kernel⟩,
   ⟨ctrlS ackText (fun l => { l with change := some leadChange }), 5, ctrlX ackText, takenC ackText, leadChange, by decide +kernel⟩,
   ⟨ctrlS ackBad (fun l => { l with change := some leadChange }), 5, ctrlX ackBad, takenC ackBad, leadChange, by decide +kernel⟩,
   ⟨ctrlS goText (fun l => { l with change := some ackedChange }), 5, ctrlX goText, takenC goText, ackedChange, by decide +kernel⟩⟩
theorem witness_WidthsChange_3 :
    ∃ (s : State) (p : PortIx) (c : WidthChange), s.linkLive = true ∧ s.serving p = true ∧ (s.port p).lane.change = some c ∧ c.own = true ∧ c.leading = true ∧ c.acked = false ∧ s.usPassed c.since 20 = true :=
  ⟨lateChange, 5, leadChange, by decide +kernel⟩
theorem witness_WidthsChange_4 :
    ∃ (s : State) (p : PortIx) (d : ℕ), s.linkLive = true ∧ s.serving p = true ∧ (s.port p).pane.link = LinkState.degraded ∧ (s.port p).lane.spareAt = some d ∧ d ≤ s.now :=
  ⟨spareS, 5, 0, by decide +kernel⟩
theorem witness_LanesOpticsAndDomains_1 :
    (∃ (s : State) (p : PortIx) (x : RxPane) (q : Pane), s.linkLive = true ∧ s.serving p = true ∧ s.rxHead p ptCtrl = some x ∧ ((s.port p).keys.segOf x.hdr x.slot x.body).isSome = true ∧ s.early p = false ∧ ({ (s.port p).pane with rxq := List.drop 1 (s.port p).pane.rxq } : Pane).takeFields x.hdr s.now = some q ∧ BitVec.toNat (x.body.headD 0) = 19) ∧
    (∃ (s : State) (p : PortIx) (x : RxPane) (q : Pane), s.linkLive = true ∧ s.serving p = true ∧ s.rxHead p ptCtrl = some x ∧ ((s.port p).keys.segOf x.hdr x.slot x.body).isSome = true ∧ s.early p = false ∧ ({ (s.port p).pane with rxq := List.drop 1 (s.port p).pane.rxq } : Pane).takeFields x.hdr s.now = some q ∧ BitVec.toNat (x.body.headD 0) = 20) ∧
    (∃ (s : State) (p : PortIx) (x : RxPane) (q : Pane), s.linkLive = true ∧ s.serving p = true ∧ s.rxHead p ptCtrl = some x ∧ ((s.port p).keys.segOf x.hdr x.slot x.body).isSome = true ∧ s.early p = false ∧ ({ (s.port p).pane with rxq := List.drop 1 (s.port p).pane.rxq } : Pane).takeFields x.hdr s.now = some q ∧ BitVec.toNat (x.body.headD 0) = 21) ∧
    (∃ (s : State) (p : PortIx), s.linkLive = true ∧ s.serving p = true ∧ s.lpsChoice p ≠ (s.port p).lane.lpsOwn ∧ (s.port p).lane.lpsState ≤ s.lpsChoice p ∧ (s.port p).lane.lpsState ≠ 1 ∧ (s.port p).lane.lpsState ≠ 3) ∧
    (∃ (s : State) (p : PortIx), s.linkLive = true ∧ s.serving p = true ∧ s.lpsChoice p ≠ (s.port p).lane.lpsOwn ∧ ((s.port p).lane.lpsState = 1 ∨ (s.port p).lane.lpsState = 3)) ∧
    (∃ (s : State) (p : PortIx), s.linkLive = true ∧ s.hasPane p = true ∧ ((s.port p).lane.lpsState = 1 ∨ (s.port p).lane.lpsState = 3)) ∧
    (∃ (s : State) (p : PortIx), s.linkLive = true ∧ s.hasPane p = true ∧ (s.port p).lane.lpsState = 2 ∧ (s.port p).lane.change = none ∧ (s.port p).lane.width < droopWidth s.power.level) ∧
    (∃ (s : State) (p : PortIx), s.linkLive = true ∧ s.hasPane p = true ∧ (s.port p).lane.lpsState = 4 ∧ (s.port p).lane.enabled = true ∧ s.power.level < 2 ∧ (s.port p).pane.link = LinkState.down ∧ (portDomains p).all s.power.domOn = true) ∧
    (∃ (s : State) (p : PortIx), s.linkLive = true ∧ s.hasPane p = true ∧ (s.port p).lane.lpsState = 4 ∧ (s.port p).lane.enabled = true ∧ s.power.level < 2 ∧ (portDomains p).all s.power.domOn = false) ∧
    (∃ (s : State) (p : PortIx), s.linkLive = true ∧ (s.port p).lane.lpsState = 3) :=
  ⟨⟨ctrlS (ctrlLps 0x13 2 4) (fun l => { l with lpsOwn := 1 }), 5, ctrlX (ctrlLps 0x13 2 4), takenC (ctrlLps 0x13 2 4), by decide +kernel⟩,
   ⟨ctrlS (ctrlLps 0x14 2 12) id, 5, ctrlX (ctrlLps 0x14 2 12), takenC (ctrlLps 0x14 2 12), by decide +kernel⟩,
   ⟨ctrlS (ctrlLps 0x15 1 0) (fun l => { l with lpsState := 1 }), 5, ctrlX (ctrlLps 0x15 1 0), takenC (ctrlLps 0x15 1 0), by decide +kernel⟩,
   ⟨idleLate id 2000, 5, by decide +kernel⟩,
   ⟨idleLate (fun l => { l with lpsState := 3, lpsOwn := 3 }) 2000, 5, by decide +kernel⟩,
   ⟨wakeS (fun l => { l with lpsState := 3 }), 5, by decide +kernel⟩,
   ⟨wakeS (fun l => { l with lpsState := 2, width := 6, lpsOwn := 2 }), 5, by decide +kernel⟩,
   ⟨wakeDown (BitVec.allOnes 96), 5, by decide +kernel⟩,
   ⟨wakeDown 0, 5, by decide +kernel⟩,
   ⟨laneS (fun l => { l with lpsState := 3 }), 5, by decide +kernel⟩⟩
theorem witness_LanesOpticsAndDomains_2 :
    (∃ (s : State) (p : PortIx), s.readsOptics p = true) ∧
    (∃ (s : State) (p : PortIx), s.readsOptics p = true) ∧
    (∃ (s : State) (p : PortIx), s.readsOptics p = true ∧ s.usPassed (s.port p).lane.lastPoll 10000 = true) ∧
    (∃ (s : State) (p : PortIx), s.readsOptics p = true ∧ s.usPassed (s.port p).lane.lastPoll 10000 = true) ∧
    (∃ (s : State) (p : PortIx), s.linkLive = true ∧ s.lodge.running = true ∧ (s.port p).lane.mgmtLost = true ∧ s.usPassed (s.port p).lane.lastPoll 1000000 = true) :=
  ⟨⟨opticsS (fun l => { l with i3cFails := 2 }) 12000000, 5, by decide +kernel⟩,
   ⟨opticsS (fun l => { l with i3cFails := 2 }) 12000000, 5, by decide +kernel⟩,
   ⟨opticsS id 12000000, 5, by decide +kernel⟩,
   ⟨opticsS (fun l => { l with i3cFails := 2 }) 12000000, 5, by decide +kernel⟩,
   ⟨opticsS (fun l => { l with mgmtLost := true }) 1200000000, 5, by decide +kernel⟩⟩
theorem witness_LanesOpticsAndDomains_3 :
    (∃ (s : State) (d : ℕ), d < 96 ∧ (s.power.domReqs.any fun r => r.domain == d) = true) ∧
    (∃ (s : State) (d : ℕ), s.clocked = true ∧ (s.power.domReqs.any fun r => r.domain == d && !r.reported && s.usPassed r.since 1000) = true) ∧
    (∃ (s : State), s.power.clocksLost = false ∧ s.power.frozen = false) ∧
    (∃ (s : State) (e : ℕ) (i : ℕ), s.clocked = true ∧ e < 12 ∧ (s.power.engine e).state = 0 ∧ (s.power.engine e).idleSince = some i ∧ i + bits s.power.engLtr 31 16 ≤ s.now ∧ s.engineWork e = false) ∧
    (∃ (s : State) (e : ℕ), s.clocked = true ∧ e < 12 ∧ 1 ≤ (s.power.engine e).state ∧ 2 ≤ s.engineChoice e ∧ (s.power.engine e).state < s.engineChoice e) ∧
    (∃ (s : State) (e : ℕ), s.clocked = true ∧ e < 12 ∧ s.engineWork e = true ∧ (s.power.engine e).state = 1) ∧
    (∃ (s : State) (e : ℕ), s.clocked = true ∧ e < 12 ∧ s.engineWork e = true ∧ 2 ≤ (s.power.engine e).state ∧ s.workPermitted e = true) :=
  ⟨⟨domS 95 { state := 3, waking := some 0 }, 95, by decide +kernel⟩,
   ⟨noAckS, 90, by decide +kernel⟩,
   ⟨running, by decide +kernel⟩,
   ⟨engS { idleSince := some 0 } 120000, 11, 0, by decide +kernel⟩,
   ⟨engS { state := 1, idleSince := some 0 } 120000, 11, by decide +kernel⟩,
   ⟨engWork { state := 1 }, 11, by decide +kernel⟩,
   ⟨engWork { state := 3 }, 11, by decide +kernel⟩⟩
theorem witness_DroopLevel_1 :
    (∃ (s : State) (r : DroopReading), s.power.clocksLost = false ∧ s.power.frozen = false ∧ s.power.level < ({ s.power with pwrm := r.pwrm.toNat, dets := [r.det0.toNat, r.det1.toNat, r.det2.toNat, r.det3.toNat] } : Power).rawLevel ∧ (∀ (i : ℕ), 1 ≤ i → i ≤ 3 → (s.counter (ctrDroop i)).count < 4294967294)) ∧
    (∃ (s : State) (r : DroopReading), s.power.clocksLost = false ∧ s.power.frozen = false ∧ ({ s.power with pwrm := r.pwrm.toNat, dets := [r.det0.toNat, r.det1.toNat, r.det2.toNat, r.det3.toNat] } : Power).rawLevel ≤ s.power.level) ∧
    (∃ (s : State) (r : DroopReading), s.power.clocksLost = false ∧ s.power.frozen = false ∧ ({ s.power with pwrm := r.pwrm.toNat, dets := [r.det0.toNat, r.det1.toNat, r.det2.toNat, r.det3.toNat] } : Power).rawLevel ≤ s.power.level) ∧
    (∃ (s : State) (r : DroopReading), s.power.clocksLost = false ∧ s.power.frozen = false ∧ s.power.rawLevel < s.power.level ∧ ({ s.power with pwrm := r.pwrm.toNat, dets := [r.det0.toNat, r.det1.toNat, r.det2.toNat, r.det3.toNat] } : Power).rawLevel < s.power.level ∧ s.usPassed s.power.fallStart (bits s.power.droopCtl 13 0) = true) ∧
    (∃ (s : State) (r : DroopReading), s.power.clocksLost = false ∧ s.power.frozen = false ∧ s.power.rawLevel < s.power.level ∧ ({ s.power with pwrm := r.pwrm.toNat, dets := [r.det0.toNat, r.det1.toNat, r.det2.toNat, r.det3.toNat] } : Power).rawLevel < s.power.level ∧ s.usPassed s.power.fallStart (bits s.power.droopCtl 13 0) = false) ∧
    (∃ (s : State) (r : DroopReading), s.power.clocksLost = false ∧ s.power.frozen = false ∧ s.power.level ≤ ({ s.power with pwrm := r.pwrm.toNat, dets := [r.det0.toNat, r.det1.toNat, r.det2.toNat, r.det3.toNat] } : Power).rawLevel) ∧
    (∃ (s : State) (r : DroopReading), s.power.clocksLost = false ∧ s.power.frozen = false ∧ s.power.level ≤ ({ s.power with pwrm := r.pwrm.toNat, dets := [r.det0.toNat, r.det1.toNat, r.det2.toNat, r.det3.toNat] } : Power).rawLevel) :=
  ⟨⟨droopS 0 0 500, droop3, by decide +kernel⟩,
   ⟨droopS 3 0 500, droop3, by decide +kernel⟩,
   ⟨droopS 3 0 500, droop0, by decide +kernel⟩,
   ⟨droopS 3 0 60000, droop0, by decide +kernel⟩,
   ⟨droopS 3 0 59999, droop0, by decide +kernel⟩,
   ⟨droopS 3 0 60000, droop3, by decide +kernel⟩,
   ⟨droopS 0 0 60000, droop0, by decide +kernel⟩⟩
theorem witness_DroopLevel_3 :
    (∃ (s : State), s.regsOpen = true) ∧
    (∃ (s : State), s.regsOpen = true) :=
  ⟨⟨running, by decide +kernel⟩,
   ⟨running, by decide +kernel⟩⟩
theorem witness_HandshakesRun_1 :
    ∃ (s : State) (p : PortIx) (c : Instr) (ty : ℕ) (m : Msg), (c, ty) ∈ [(Instr.lHello p, 1), (Instr.lReply p, 2), (Instr.lCert p, 3), (Instr.lProof p, 4), (Instr.lDone p, 5), (Instr.keyOffer p, 16), (Instr.keyAccept p, 17), (Instr.keySwitch p, 18), (Instr.keyReject p, 19), (Instr.keyLost p, 20)] ∧ s.inboundIs p (isSec ty) = some m ∧ (secOk m = false ∨ 2 < ty ∧ secSession m ≠ (s.port p).keys.sessionNo) ∧ (s.counter ctrAuthFail).count < 4294967294 :=
  ⟨secS (secMsg 1 0 []) id, 5, .lHello 5, 1, secMsg 1 0 [], by decide +kernel⟩
theorem witness_HandshakesRun_2 :
    (∃ (s : State) (p : PortIx) (m : Msg), s.inboundIs p (isSec 1) = some m ∧ secOk m = true ∧ (decide (BitVec.toNat s.global.serial < BitVec.toNat (s.port p).lane.farSerial) = true ∨ (s.port p).keys.session = Session.up ∨ (s.port p).keys.disabled = true ∨ s.serving p = false) ∧ (s.counter ctrAuthFail).count < 4294967294) ∧
    (∃ (s : State) (p : PortIx) (m : Msg), s.inboundIs p (isSec 1) = some m ∧ secOk m = true ∧ decide (BitVec.toNat s.global.serial < BitVec.toNat (s.port p).lane.farSerial) = false ∧ (s.port p).keys.session ≠ Session.up ∧ (s.port p).keys.disabled = false ∧ s.serving p = true) :=
  ⟨⟨secS (secMsg 1 77 hello1) id, 5, secMsg 1 77 hello1, by decide +kernel⟩,
   ⟨asFollower (secS (secMsg 1 77 hello1) id), 5, secMsg 1 77 hello1, by decide +kernel⟩⟩
theorem witness_HandshakesRun_3 :
    (∃ (s : State) (p : PortIx) (m : Msg) (h : Handshake), s.inboundIs p (isSec 2) = some m ∧ secOk m = true ∧ (s.port p).keys.hs = some h ∧ (s.port p).keys.leader = true ∧ secSession m = h.session ∧ h.reply = []) ∧
    (∃ (s : State) (p : PortIx) (m : Msg) (h : Handshake), s.inboundIs p (isSec 2) = some m ∧ secOk m = true ∧ (s.port p).keys.hs = some h ∧ ((s.port p).keys.leader = false ∨ secSession m ≠ h.session ∨ h.reply ≠ []) ∧ (s.counter ctrAuthFail).count < 4294967294) :=
  ⟨⟨secS (secMsg 2 77 reply2) (shaking hs0), 5, secMsg 2 77 reply2, hs0, by decide +kernel⟩,
   ⟨secS (secMsg 2 78 reply2) (shaking hs0), 5, secMsg 2 78 reply2, hs0, by decide +kernel⟩⟩
theorem witness_HandshakesRun_4 :
    (∃ (s : State) (p : PortIx) (m : Msg) (h : Handshake), s.inboundIs p (isSec 3) = some m ∧ secOk m = true ∧ (s.port p).keys.hs = some h ∧ secSession m = h.session ∧ beAt (secFields m) 0 2 = h.farChain.length) ∧
    (∃ (s : State) (p : PortIx) (m : Msg) (h : Handshake), s.inboundIs p (isSec 3) = some m ∧ secOk m = true ∧ (s.port p).keys.hs = some h ∧ secSession m = h.session ∧ beAt (secFields m) 0 2 ≠ h.farChain.length ∧ (s.counter ctrAuthFail).count < 4294967294) :=
  ⟨⟨secS (secMsg 3 77 (certF 0 4 [1, 2])) (shaking hs0), 5, secMsg 3 77 (certF 0 4 [1, 2]), hs0, by decide +kernel⟩,
   ⟨secS (secMsg 3 77 (certF 1 4 [1, 2])) (shaking hs0), 5, secMsg 3 77 (certF 1 4 [1, 2]), hs0, by decide +kernel⟩⟩
theorem witness_HandshakesRun_5 :
    (∃ (s : State) (p : PortIx) (m : Msg) (h : Handshake), s.inboundIs p (isSec 4) = some m ∧ secOk m = true ∧ (s.port p).keys.hs = some h ∧ secSession m = h.session ∧ (h.proved = true ∨ h.reply = [] ∨ h.farChain.length ≠ h.farTotal) ∧ (s.counter ctrAuthFail).count < 4294967294) ∧
    (∃ (s : State) (p : PortIx) (m : Msg) (h : Handshake) (why : ℕ), s.inboundIs p (isSec 4) = some m ∧ secOk m = true ∧ (s.port p).keys.hs = some h ∧ secSession m = h.session ∧ h.proved = false ∧ h.reply ≠ [] ∧ h.farChain.length = h.farTotal ∧ s.proofCause p h.farChain (if (s.port p).keys.leader = true then 70 else 76) (if (s.port p).keys.leader = true then t1Of h.hello h.reply (if (s.port p).keys.leader = true then h.farChain else h.ownChain) else sha384 (t1Of h.hello h.reply (if (s.port p).keys.leader = true then h.farChain else h.ownChain) ++ h.farChain)) (secFields m) = some why) ∧
    (∃ (s : State) (p : PortIx) (m : Msg) (h : Handshake), s.inboundIs p (isSec 4) = some m ∧ secOk m = true ∧ (s.port p).keys.hs = some h ∧ secSession m = h.session ∧ h.proved = false ∧ h.reply ≠ [] ∧ h.farChain.length = h.farTotal ∧ s.proofCause p h.farChain (if (s.port p).keys.leader = true then 70 else 76) (if (s.port p).keys.leader = true then t1Of h.hello h.reply (if (s.port p).keys.leader = true then h.farChain else h.ownChain) else sha384 (t1Of h.hello h.reply (if (s.port p).keys.leader = true then h.farChain else h.ownChain) ++ h.farChain)) (secFields m) = none ∧ ecdh h.ephPriv (beAt (if (s.port p).keys.leader = true then h.reply else h.hello) 32 96) = none) ∧
    (∃ (s : State) (p : PortIx) (m : Msg) (h : Handshake), s.inboundIs p (isSec 4) = some m ∧ secOk m = true ∧ (s.port p).keys.hs = some h ∧ secSession m = h.session ∧ h.proved = false ∧ h.reply ≠ [] ∧ h.farChain.length = h.farTotal ∧ s.proofCause p h.farChain (if (s.port p).keys.leader = true then 70 else 76) (if (s.port p).keys.leader = true then t1Of h.hello h.reply (if (s.port p).keys.leader = true then h.farChain else h.ownChain) else sha384 (t1Of h.hello h.reply (if (s.port p).keys.leader = true then h.farChain else h.ownChain) ++ h.farChain)) (secFields m) = none ∧ (ecdh h.ephPriv (beAt (if (s.port p).keys.leader = true then h.reply else h.hello) 32 96)).isSome = true) :=
  ⟨⟨secS (secMsg 4 77 sigOk) (shaking hs0), 5, secMsg 4 77 sigOk, hs0, by decide +kernel⟩,
   ⟨secS (secMsg 4 77 sigOk) (shaking (hsProof reply2 [])), 5, secMsg 4 77 sigOk, hsProof reply2 [], 1, by decide +kernel⟩,
   ⟨secS (secMsg 4 77 sigOff) (shaking (hsProof replyBad farChain)), 5, secMsg 4 77 sigOff, hsProof replyBad farChain, by decide +kernel⟩,
   ⟨secS (secMsg 4 77 sigOk) (shaking (hsProof reply2 farChain)), 5, secMsg 4 77 sigOk, hsProof reply2 farChain, by decide +kernel⟩⟩
theorem witness_HandshakesRun_6 :
    (∃ (s : State) (p : PortIx) (m : Msg) (h : Handshake) (x : List Byte × List Byte), s.inboundIs p (isSec 5) = some m ∧ secOk m = true ∧ (s.port p).keys.hs = some h ∧ (s.port p).keys.master = some x ∧ secSession m = h.session ∧ h.proved = false ∧ (s.counter ctrAuthFail).count < 4294967294) ∧
    (∃ (s : State) (p : PortIx) (m : Msg) (h : Handshake) (x : List Byte × List Byte), s.inboundIs p (isSec 5) = some m ∧ secOk m = true ∧ (s.port p).keys.hs = some h ∧ (s.port p).keys.master = some x ∧ secSession m = h.session ∧ h.proved = true ∧ secFields m ≠ confirmOf x (s.port p).keys.rxDir) ∧
    (∃ (s : State) (p : PortIx) (m : Msg) (h : Handshake) (x : List Byte × List Byte), s.inboundIs p (isSec 5) = some m ∧ secOk m = true ∧ (s.port p).keys.hs = some h ∧ (s.port p).keys.master = some x ∧ secSession m = h.session ∧ h.proved = true ∧ secFields m = confirmOf x (s.port p).keys.rxDir) :=
  ⟨⟨secS (secMsg 5 77 (confirmOf m0 1)) (fun k => keyed (shaking hs0 k)), 5, secMsg 5 77 (confirmOf m0 1), hs0, m0, by decide +kernel⟩,
   ⟨secS (secMsg 5 77 (confirmOf m0 0)) (fun k => keyed (shaking hsDone k)), 5, secMsg 5 77 (confirmOf m0 0), hsDone, m0, by decide +kernel⟩,
   ⟨secS (secMsg 5 77 (confirmOf m0 1)) (fun k => keyed (shaking hsDone k)), 5, secMsg 5 77 (confirmOf m0 1), hsDone, m0, by decide +kernel⟩⟩
theorem witness_HandshakesRun_7 :
    ∃ (s : State) (p : PortIx) (h : Handshake), s.clocked = true ∧ (s.port p).keys.session = Session.handshake ∧ (s.port p).keys.hs = some h ∧ s.usPassed h.start 20000 = true :=
  ⟨waiting20, 5, hs0, by decide +kernel⟩
theorem witness_HandshakesRun_8 :
    ∃ (s : State) (p : PortIx) (d : ℕ), s.clocked = true ∧ (s.port p).keys.session = Session.failed ∧ (s.port p).keys.disabled = false ∧ (s.port p).keys.retryAt = some d ∧ d ≤ s.now ∧ s.serving p = true :=
  ⟨failedS, 5, 5, by decide +kernel⟩
theorem witness_KeysAreExchanged_1 :
    (∃ (s : State) (p : PortIx) (m : Msg) (x : List Byte × List Byte) (why : ℕ), (s.inboundIs p (isSec 16) = some m ∧ secOk m = true ∧ secSession m = (s.port p).keys.sessionNo) ∧ (s.port p).keys.master = some x ∧ (s.port p).keys.session = Session.up ∧ s.offerRefusal (beAt (secFields m) 0 1) (beAt (secFields m) 1 1 == 1) = some why) ∧
    (∃ (s : State) (p : PortIx) (m : Msg) (x : List Byte × List Byte) (why : ℕ), (s.inboundIs p (isSec 16) = some m ∧ secOk m = true ∧ secSession m = (s.port p).keys.sessionNo) ∧ (s.port p).keys.master = some x ∧ (s.port p).keys.session = Session.up ∧ s.offerRefusal (beAt (secFields m) 0 1) (beAt (secFields m) 1 1 == 1) = some why) ∧
    (∃ (s : State) (p : PortIx) (m : Msg) (x : List Byte × List Byte), (s.inboundIs p (isSec 16) = some m ∧ secOk m = true ∧ secSession m = (s.port p).keys.sessionNo) ∧ (s.port p).keys.master = some x ∧ (s.port p).keys.session = Session.up ∧ s.offerRefusal (beAt (secFields m) 0 1) (beAt (secFields m) 1 1 == 1) = none ∧ ((s.port p).keys.index (beAt (secFields m) 0 1)).rxNext.isSome = true) ∧
    (∃ (s : State) (p : PortIx) (m : Msg) (x : List Byte × List Byte), (s.inboundIs p (isSec 16) = some m ∧ secOk m = true ∧ secSession m = (s.port p).keys.sessionNo) ∧ (s.port p).keys.master = some x ∧ (s.port p).keys.session = Session.up ∧ s.offerRefusal (beAt (secFields m) 0 1) (beAt (secFields m) 1 1 == 1) = none ∧ ((s.port p).keys.index (beAt (secFields m) 0 1)).rxNext = none) ∧
    (∃ (s : State) (p : PortIx) (m : Msg) (x : List Byte × List Byte), (s.inboundIs p (isSec 16) = some m ∧ secOk m = true ∧ secSession m = (s.port p).keys.sessionNo) ∧ (s.port p).keys.master = some x ∧ (s.port p).keys.session = Session.up ∧ s.offerRefusal (beAt (secFields m) 0 1) (beAt (secFields m) 1 1 == 1) = none ∧ ((s.port p).keys.index (beAt (secFields m) 0 1)).rxNext = none) :=
  ⟨⟨keyS 0x10 (offerF 5 0 1) id, 5, secMsg 0x10 3 (offerF 5 0 1), m0, 2, by decide +kernel⟩,
   ⟨keyS 0x10 (offerF 0 0 1) id, 5, secMsg 0x10 3 (offerF 0 0 1), m0, 2, by decide +kernel⟩,
   ⟨keyS 0x10 (offerF 5 1 1) (fun k => k.modIndex 5 (fun i => { i with rxNext := some KeySlot.null })), 5, secMsg 0x10 3 (offerF 5 1 1), m0, by decide +kernel⟩,
   ⟨keyS 0x10 (offerF 5 1 1) id, 5, secMsg 0x10 3 (offerF 5 1 1), m0, by decide +kernel⟩,
   ⟨keyS 0x10 (offerF 0 1 1) id, 5, secMsg 0x10 3 (offerF 0 1 1), m0, by decide +kernel⟩⟩
theorem witness_KeysAreExchanged_2 :
    (∃ (s : State) (p : PortIx) (m : Msg) (x : List Byte × List Byte) (r : Rotation), (s.inboundIs p (isSec 17) = some m ∧ secOk m = true ∧ secSession m = (s.port p).keys.sessionNo) ∧ (s.port p).keys.master = some x ∧ List.find? (fun r => r.key == beAt (secFields m) 0 1 && r.gen.toNat == beAt (secFields m) 2 4) (s.port p).keys.rotations = some r ∧ (s.counter ctrRekey).count < 4294967294) ∧
    (∃ (s : State) (p : PortIx) (m : Msg) (x : List Byte × List Byte) (r : Rotation), (s.inboundIs p (isSec 17) = some m ∧ secOk m = true ∧ secSession m = (s.port p).keys.sessionNo) ∧ (s.port p).keys.master = some x ∧ List.find? (fun r => r.key == beAt (secFields m) 0 1 && r.gen.toNat == beAt (secFields m) 2 4) (s.port p).keys.rotations = some r ∧ (s.counter ctrRekey).count < 4294967294) :=
  ⟨⟨keyS 0x11 (offerF 5 1 2) (fun k => { k with rotations := [rot5] }), 5, secMsg 0x11 3 (offerF 5 1 2), m0, rot5, by decide +kernel⟩,
   ⟨keyS 0x11 (offerF 5 1 2) (fun k => { (k.modIndex 5 (fun i => { i with txCur := some (slotK 1 0) })) with rotations := [rot5] }), 5, secMsg 0x11 3 (offerF 5 1 2), m0, rot5, by decide +kernel⟩⟩
theorem witness_KeysAreExchanged_3 :
    (∃ (s : State) (p : PortIx) (m : Msg) (q : KeySlot), (s.inboundIs p (isSec 18) = some m ∧ secOk m = true ∧ secSession m = (s.port p).keys.sessionNo) ∧ ((s.port p).keys.index (beAt (secFields m) 0 1)).rxNext = some q ∧ q.gen.toNat = beAt (secFields m) 1 4) ∧
    (∃ (s : State) (p : PortIx) (m : Msg) (q : KeySlot), (s.inboundIs p (isSec 18) = some m ∧ secOk m = true ∧ secSession m = (s.port p).keys.sessionNo) ∧ ((s.port p).keys.index (beAt (secFields m) 0 1)).rxNext = some q ∧ q.gen.toNat = beAt (secFields m) 1 4) :=
  ⟨⟨keyS 0x12 ([5] ++ beBytes 4 1 ++ beBytes 8 9) (fun k => k.modIndex 5 (fun i => { i with rxNext := some (slotK 1 0) })), 5, secMsg 0x12 3 ([5] ++ beBytes 4 1 ++ beBytes 8 9), slotK 1 0, by decide +kernel⟩,
   ⟨(keyS 0x12 ([5] ++ beBytes 4 1 ++ beBytes 8 9) (fun k => k.modIndex 5 (fun i => { i with rxNext := some (slotK 1 0) }))).modPane 5 (fun q => { q with rxNext := 10 }), 5, secMsg 0x12 3 ([5] ++ beBytes 4 1 ++ beBytes 8 9), slotK 1 0, by decide +kernel⟩⟩
theorem witness_KeysAreExchanged_4 :
    (∃ (s : State) (p : PortIx) (m : Msg), (s.inboundIs p (isSec 19) = some m ∧ secOk m = true ∧ secSession m = (s.port p).keys.sessionNo) ∧ ((s.port p).keys.rotations.any fun r => r.key == beAt (secFields m) 0 1 && r.gen.toNat == beAt (secFields m) 1 4) = true) ∧
    (∃ (s : State) (p : PortIx) (m : Msg), (s.inboundIs p (isSec 19) = some m ∧ secOk m = true ∧ secSession m = (s.port p).keys.sessionNo) ∧ ((s.port p).keys.rotations.any fun r => r.key == beAt (secFields m) 0 1 && r.gen.toNat == beAt (secFields m) 1 4) = true) :=
  ⟨⟨keyS 0x13 ([5] ++ beBytes 4 2 ++ [3]) (fun k => { k with rotations := [rot5] }), 5, secMsg 0x13 3 ([5] ++ beBytes 4 2 ++ [3]), by decide +kernel⟩,
   ⟨keyS 0x13 ([5] ++ beBytes 4 2 ++ [2]) (fun k => { k with rotations := [rot5] }), 5, secMsg 0x13 3 ([5] ++ beBytes 4 2 ++ [2]), by decide +kernel⟩⟩
theorem witness_KeysAreExchanged_5 :
    ∃ (s : State) (p : PortIx) (m : Msg), (s.inboundIs p (isSec 20) = some m ∧ secOk m = true ∧ secSession m = (s.port p).keys.sessionNo) :=
  ⟨keyS 0x14 (beBytes 2 0x8021) (fun k => (k.modIndex 5 (fun i => { i with txCur := some (slotK 1 0) })).modIndex 2 (fun i => { i with txCur := some (slotK 1 0) })), 5, secMsg 0x14 3 (beBytes 2 0x8021), by decide +kernel⟩
theorem witness_KeysAreExchanged_6 :
    ∃ (s : State) (p : PortIx) (i : ℕ) (r : Rotation) (d : ℕ), s.levelTurn 3 = true ∧ r ∈ (s.port p).keys.rotations ∧ r.key = i ∧ r.retryAt = some d ∧ d ≤ s.now :=
  ⟨dueS (fun k => { k with rotations := [{ rot5 with retryAt := some 0 }] }), 5, 5, { rot5 with retryAt := some 0 }, 0, by decide +kernel⟩
theorem witness_KeysAreExchanged_7 :
    (∃ (s : State) (p : PortIx) (i : ℕ), i < 16 ∧ (s.port p).keys.session = Session.up ∧ s.levelTurn 3 = true ∧ s.serving p = true ∧ (∀ r ∈ (s.port p).keys.rotations, r.key ≠ i) ∧ s.rotationDue p i = true ∧ Option.any (fun t => t.num == i && t.teardown.isSome) s.gate.tenant = false) ∧
    (∃ (s : State) (p : PortIx) (i : ℕ) (q : KeySlot), i < 16 ∧ (s.port p).keys.session = Session.up ∧ s.clocked = true ∧ (s.port p).keys.tx i = some q ∧ s.gate.rotPanes + 2 ^ 36 ≤ q.panes ∧ (s.port p).pane.stalled.getLsbD i = false) :=
  ⟨⟨dueS (fun k => k.modIndex 5 (fun i => { i with txCur := some (slotK 1 (2 ^ 40)) })), 5, 5, by decide +kernel⟩,
   ⟨dueS (fun k => k.modIndex 15 (fun i => { i with txCur := some (slotK 1 (2 ^ 40 + 2 ^ 36)) })), 5, 15, slotK 1 (2 ^ 40 + 2 ^ 36), by decide +kernel⟩⟩
theorem witness_TheWaveGoesRound_1 :
    (∃ (s : State) (p : PortIx) (m : Msg), s.inboundIs p isWave = some m) ∧
    (∃ (s : State) (p : PortIx) (m : Msg), s.inboundIs p isWave = some m) :=
  ⟨⟨heardS (waveMsg 0 64 5) id, 5, waveMsg 0 64 5, by decide +kernel⟩,
   ⟨heardS (waveMsg 1 192 (2 ^ 100 + 4)) id, 5, waveMsg 1 192 (2 ^ 100 + 4), by decide +kernel⟩⟩
theorem witness_TheWaveGoesRound_2 :
    (∃ (s : State) (p : PortIx) (i : InstallTable), s.levelTurn 2 = true ∧ s.waveToSend p = true ∧ s.topo.install = some i) ∧
    (∃ (s : State) (p : PortIx) (i : InstallTable), s.levelTurn 2 = true ∧ s.waveToSend p = true ∧ s.topo.install = some i) :=
  ⟨⟨netS (fun t => { t with ready := 3, missing := 4 }), 5, pod2, by decide +kernel⟩,
   ⟨netS (fun t => { t with ready := 3, missing := 4, waveDue := [(5, (3, 0))] }), 5, pod2, by decide +kernel⟩⟩
theorem witness_TheWaveGoesRound_3 :
    (∃ (s : State) (p : PortIx) (m : Msg), (s.inboundIs p fun m => mgmtType m.hdr == 3) = some m ∧ s.topo.newer (bits (m.body.getD 0 0) 127 113) (bit (m.body.getD 0 0) 112) (BitVec.ofNat 64 (bits (m.body.getD 0 0) 63 0)).toNat = false) ∧
    (∃ (s : State) (p : PortIx) (m : Msg), (s.inboundIs p fun m => mgmtType m.hdr == 3) = some m ∧ s.topo.newer (bits (m.body.getD 0 0) 127 113) (bit (m.body.getD 0 0) 112) (BitVec.ofNat 64 (bits (m.body.getD 0 0) 63 0)).toNat = true) ∧
    (∃ (s : State) (p : PortIx) (m : Msg), (s.inboundIs p fun m => mgmtType m.hdr == 3) = some m ∧ s.topo.newer (bits (m.body.getD 0 0) 127 113) (bit (m.body.getD 0 0) 112) (BitVec.ofNat 64 (bits (m.body.getD 0 0) 63 0)).toNat = true) :=
  ⟨⟨heardS (linkMsg 3 true 9) (fun t => { t with linkEvents := [(3, (10, 0))] }), 5, linkMsg 3 true 9, by decide +kernel⟩,
   ⟨heardS (linkMsg 3 false 9) (fun t => { t with linkEvents := [(3, (10, 1))] }), 5, linkMsg 3 false 9, by decide +kernel⟩,
   ⟨heardS (linkMsg 3 true 9) (fun t => { t with missing := 0x1F }), 5, linkMsg 3 true 9, by decide +kernel⟩⟩
theorem witness_TheWaveGoesRound_4 :
    (∃ (s : State) (p : PortIx) (m : Msg), (s.inboundIs p fun m => mgmtType m.hdr == 4) = some m ∧ (2 ≤ bits (m.body.getD 0 0) 114 112 ∨ (BitVec.ofNat 64 (bits (m.body.getD 0 0) 63 0)).toNat + 1 ≤ Table.get 0 s.topo.nodeEvents (bits (m.body.getD 0 0) 127 115))) ∧
    (∃ (s : State) (p : PortIx) (m : Msg), (s.inboundIs p fun m => mgmtType m.hdr == 4) = some m ∧ (2 ≤ bits (m.body.getD 0 0) 114 112 ∨ (BitVec.ofNat 64 (bits (m.body.getD 0 0) 63 0)).toNat + 1 ≤ Table.get 0 s.topo.nodeEvents (bits (m.body.getD 0 0) 127 115))) ∧
    (∃ (s : State) (p : PortIx) (m : Msg), (s.inboundIs p fun m => mgmtType m.hdr == 4) = some m ∧ bits (m.body.getD 0 0) 114 112 < 2 ∧ Table.get 0 s.topo.nodeEvents (bits (m.body.getD 0 0) 127 115) < (BitVec.ofNat 64 (bits (m.body.getD 0 0) 63 0)).toNat + 1) ∧
    (∃ (s : State) (p : PortIx) (m : Msg), (s.inboundIs p fun m => mgmtType m.hdr == 4) = some m ∧ bits (m.body.getD 0 0) 114 112 < 2 ∧ Table.get 0 s.topo.nodeEvents (bits (m.body.getD 0 0) 127 115) < (BitVec.ofNat 64 (bits (m.body.getD 0 0) 63 0)).toNat + 1) :=
  ⟨⟨heardS (nodeMsg 1 2 9) id, 5, nodeMsg 1 2 9, by decide +kernel⟩,
   ⟨heardS (nodeMsg 1 0 9) (fun t => { t with nodeEvents := [(1, 10)] }), 5, nodeMsg 1 0 9, by decide +kernel⟩,
   ⟨heardS (nodeMsg 1 0 9) (fun t => { t with nodeEvents := [(1, 9)] }), 5, nodeMsg 1 0 9, by decide +kernel⟩,
   ⟨heardS (nodeMsg 1 1 9) (fun t => { t with nodeDown := 3 }), 5, nodeMsg 1 1 9, by decide +kernel⟩⟩
theorem witness_TheWaveGoesRound_5 :
    (∃ (s : State), s.levelTurn 2 = true ∧ s.retained.oos = false ∧ s.topo.nodeReady = false ∧ s.topo.install.isSome = true ∧ s.topo.state ≠ TopoState.tableBad ∧ s.portsReady = true ∧ s.timeReady = true) ∧
    (∃ (s : State), s.levelTurn 2 = true ∧ s.pastBound = true ∧ (s.topo.bound = false ∨ s.overdue ≠ [])) ∧
    (∃ (s : State) (i : InstallTable), s.levelTurn 2 = true ∧ s.topo.nodeReady = true ∧ s.topo.install = some i ∧ (s.topo.allReady = true ∧ s.topo.allReported = false ∨ s.topo.reported = false ∧ s.pastBound = true ∧ s.usPassed s.topo.changedAt 1000 = true) ∧ s.lodge.notices.length < 256) ∧
    (∃ (s : State) (i : InstallTable), s.levelTurn 2 = true ∧ s.topo.nodeReady = true ∧ s.topo.install = some i ∧ (s.topo.allReady = true ∧ s.topo.allReported = false ∨ s.topo.reported = false ∧ s.pastBound = true ∧ s.usPassed s.topo.changedAt 1000 = true) ∧ s.lodge.notices.length < 256) :=
  ⟨⟨(readyS).modKeys 5 (fun k => { k with session := .up }), by decide +kernel⟩,
   ⟨trainingS, by decide +kernel⟩,
   ⟨reportS 3 5, pod2, by decide +kernel⟩,
   ⟨reportS 1 12000000000, pod2, by decide +kernel⟩⟩
theorem witness_TablesPlaceTheNode_1 :
    (∃ (s : State), s.live = true ∧ s.lodge.running = true ∧ s.topo.tableCounter.isSome = true ∧ (s.topo.state = TopoState.noTable ∨ ∃ p, (s.topo.port p).disabled = true) ∧ s.contentRead ContentKey.installation = none ∧ s.contentRead ContentKey.board = none) ∧
    (∃ (s : State) (l : List Byte) (x : ReadResult), s.live = true ∧ s.lodge.running = true ∧ s.topo.tableCounter.isSome = true ∧ (s.topo.state = TopoState.noTable ∨ ∃ p, (s.topo.port p).disabled = true) ∧ s.content ContentKey.installation = some (ReadResult.data l) ∧ s.content ContentKey.board = some x ∧ installBegins l = true) ∧
    (∃ (s : State) (a : List Byte) (b : List Byte) (i : InstallTable) (c : BoardTable) (n : ℕ), s.live = true ∧ s.lodge.running = true ∧ s.topo.tableCounter.isSome = true ∧ (s.topo.state = TopoState.noTable ∨ ∃ p, (s.topo.port p).disabled = true) ∧ s.content ContentKey.installation = some (ReadResult.data a) ∧ s.content ContentKey.board = some (ReadResult.data b) ∧ s.acceptInstall a = some i ∧ s.acceptBoard b = some c ∧ List.find? (fun n => (i.record n).serial == s.global.serial) i.places = some n) ∧
    (∃ (s : State) (x : ReadResult) (y : ReadResult), s.live = true ∧ s.lodge.running = true ∧ s.topo.tableCounter.isSome = true ∧ (s.topo.state = TopoState.noTable ∨ ∃ p, (s.topo.port p).disabled = true) ∧ s.content ContentKey.installation = some x ∧ s.content ContentKey.board = some y ∧ (∀ (l : List Byte), x = ReadResult.data l → installBegins l = false) ∧ ((bytesOf (some x)).bind s.acceptInstall = none ∨ (bytesOf (some y)).bind s.acceptBoard = none)) :=
  ⟨⟨tableS, by decide +kernel⟩,
   ⟨tableGot (.data (installBytes.take 64)) (.data boardBytes), installBytes.take 64, .data boardBytes, by decide +kernel⟩,
   ⟨tableGot (.data installBytes) (.data boardBytes), installBytes, boardBytes, installAt, boardAt, 0, by decide +kernel⟩,
   ⟨tableGot .ue (.data boardBytes), .ue, .data boardBytes, by decide +kernel, by decide +kernel, by decide +kernel, by decide +kernel, by decide +kernel, by decide +kernel, (by intro l h; cases h), by decide +kernel⟩⟩
theorem witness_TablesPlaceTheNode_2 :
    ∃ (s : State), s.live = true ∧ s.lodge.running = true ∧ s.topo.install.isSome = true ∧ s.topo.state ≠ TopoState.tableBad ∧ s.topo.routeBuilt = false :=
  ⟨unbuilt, by decide +kernel⟩
theorem witness_AnnealsBeginAndEnd_1 :
    (∃ (s : State) (r : AdminRef) (st : ℕ), s.lodgeTurn r = true ∧ s.mgmtIs r 1537 = true ∧ annealRefused (s.cmdD r) = some st) ∧
    (∃ (s : State) (r : AdminRef) (st : ℕ), s.lodgeTurn r = true ∧ s.mgmtIs r 1537 = true ∧ annealRefused (s.cmdD r) = some st) ∧
    (∃ (s : State) (r : AdminRef), s.lodgeTurn r = true ∧ s.mgmtIs r 1537 = true ∧ annealRefused (s.cmdD r) = none ∧ (s.inBlock (bits ((s.cmdD r).arg 2) 3 0) s.topo.node = false ∨ (if (s.cmdD r).arg 3 = 0 then s.podTime + annealLead (s.blockDiameter (bits ((s.cmdD r).arg 2) 3 0)) else BitVec.toNat ((s.cmdD r).arg 3)) < s.podTime + annealFloor (s.blockDiameter (bits ((s.cmdD r).arg 2) 3 0)) ∨ (s.annealOf (bits ((s.cmdD r).arg 2) 3 0)).isSome = true)) ∧
    (∃ (s : State) (r : AdminRef), s.lodgeTurn r = true ∧ s.mgmtIs r 1537 = true ∧ annealRefused (s.cmdD r) = none ∧ (s.inBlock (bits ((s.cmdD r).arg 2) 3 0) s.topo.node = false ∨ (if (s.cmdD r).arg 3 = 0 then s.podTime + annealLead (s.blockDiameter (bits ((s.cmdD r).arg 2) 3 0)) else BitVec.toNat ((s.cmdD r).arg 3)) < s.podTime + annealFloor (s.blockDiameter (bits ((s.cmdD r).arg 2) 3 0)) ∨ (s.annealOf (bits ((s.cmdD r).arg 2) 3 0)).isSome = true)) ∧
    (∃ (s : State) (r : AdminRef), s.lodgeTurn r = true ∧ s.mgmtIs r 1537 = true ∧ annealRefused (s.cmdD r) = none ∧ s.inBlock (bits ((s.cmdD r).arg 2) 3 0) s.topo.node = true ∧ (s.podTime + annealFloor (s.blockDiameter (bits ((s.cmdD r).arg 2) 3 0)) ≤ if (s.cmdD r).arg 3 = 0 then s.podTime + annealLead (s.blockDiameter (bits ((s.cmdD r).arg 2) 3 0)) else BitVec.toNat ((s.cmdD r).arg 3)) ∧ s.annealOf (bits ((s.cmdD r).arg 2) 3 0) = none) ∧
    (∃ (s : State) (r : AdminRef), s.lodgeTurn r = true ∧ s.mgmtIs r 1537 = true ∧ annealRefused (s.cmdD r) = none ∧ s.inBlock (bits ((s.cmdD r).arg 2) 3 0) s.topo.node = true ∧ (s.podTime + annealFloor (s.blockDiameter (bits ((s.cmdD r).arg 2) 3 0)) ≤ if (s.cmdD r).arg 3 = 0 then s.podTime + annealLead (s.blockDiameter (bits ((s.cmdD r).arg 2) 3 0)) else BitVec.toNat ((s.cmdD r).arg 3)) ∧ s.annealOf (bits ((s.cmdD r).arg 2) 3 0) = none) ∧
    (∃ (s : State) (r : AdminRef) (st : ℕ), s.lodgeTurn r = true ∧ s.mgmtIs r 1538 = true ∧ annealRefused (s.cmdD r) = some st) ∧
    (∃ (s : State) (r : AdminRef), s.lodgeTurn r = true ∧ s.mgmtIs r 1538 = true ∧ annealRefused (s.cmdD r) = none ∧ (∀ (a : Anneal), s.annealOf (bits ((s.cmdD r).arg 2) 3 0) = some a → a.state ≠ AnnealState.annealed)) ∧
    (∃ (s : State) (r : AdminRef), s.lodgeTurn r = true ∧ s.mgmtIs r 1538 = true ∧ annealRefused (s.cmdD r) = none ∧ (∀ (a : Anneal), s.annealOf (bits ((s.cmdD r).arg 2) 3 0) = some a → a.state ≠ AnnealState.annealed)) ∧
    (∃ (s : State) (r : AdminRef) (a : Anneal), s.lodgeTurn r = true ∧ s.mgmtIs r 1538 = true ∧ annealRefused (s.cmdD r) = none ∧ s.annealOf (bits ((s.cmdD r).arg 2) 3 0) = some a ∧ a.state = AnnealState.annealed) ∧
    (∃ (s : State) (r : AdminRef) (a : Anneal), s.lodgeTurn r = true ∧ s.mgmtIs r 1538 = true ∧ annealRefused (s.cmdD r) = none ∧ s.annealOf (bits ((s.cmdD r).arg 2) 3 0) = some a ∧ a.state = AnnealState.annealed) :=
  ⟨⟨annealS [0x40, 0x0601, 16] [] id, ref0, 2, by decide +kernel⟩,
   ⟨byTenant (annealS [] [] id) [0x40, 0x0601, 4], ref5, 6, by decide +kernel⟩,
   ⟨annealS [0x40, 0x0601, 0, 1] [] (fun t => { t with now := 9 }), ref0, by decide +kernel⟩,
   ⟨annealS [0x40, 0x0601, 0] [anneal0] id, ref0, by decide +kernel⟩,
   ⟨annealS [0x40, 0x0601, 0] [] id, ref0, by decide +kernel⟩,
   ⟨annealS [0x40, 0x0601, 0, 36000] [] id, ref0, by decide +kernel⟩,
   ⟨annealS [0x40, 0x0602, 16] [] id, ref0, 2, by decide +kernel⟩,
   ⟨annealS [0x40, 0x0602, 0] [] id, ref0, by decide +kernel⟩,
   ⟨annealS [0x40, 0x0602, 0] [{ anneal0 with state := .pending }] id, ref0, by decide +kernel⟩,
   ⟨annealS [0x40, 0x0602, 0] [anneal0] id, ref0, anneal0, by decide +kernel⟩,
   ⟨annealS [0x40, 0x0602, 0, 5] [anneal0] id, ref0, anneal0, by decide +kernel⟩⟩
theorem witness_AnnealsBeginAndEnd_2 :
    (∃ (s : State) (p : PortIx) (m : Msg), s.inboundIs p (isAnneal 0) = some m ∧ (BitVec.ofNat 32 (bits (m.body.getD 0 0) 110 79) ∈ s.lodge.flooded ∨ s.inBlock (bits (m.body.getD 0 0) 127 124) s.topo.node = false)) ∧
    (∃ (s : State) (p : PortIx) (m : Msg), s.inboundIs p (isAnneal 0) = some m ∧ BitVec.ofNat 32 (bits (m.body.getD 0 0) 110 79) ∉ s.lodge.flooded ∧ s.inBlock (bits (m.body.getD 0 0) 127 124) s.topo.node = true) ∧
    (∃ (s : State) (p : PortIx) (m : Msg), s.inboundIs p (isAnneal 0) = some m ∧ BitVec.ofNat 32 (bits (m.body.getD 0 0) 110 79) ∉ s.lodge.flooded ∧ s.inBlock (bits (m.body.getD 0 0) 127 124) s.topo.node = true) ∧
    (∃ (s : State) (p : PortIx) (m : Msg), s.inboundIs p (isAnneal 1) = some m) ∧
    (∃ (s : State) (p : PortIx) (m : Msg) (a : Anneal), s.inboundIs p (isAnneal 2) = some m ∧ s.annealOf (bits (m.body.getD 0 0) 127 124) = some a ∧ a.id.toNat = bits (m.body.getD 0 0) 110 79 ∧ a.state ≠ AnnealState.releasing) ∧
    (∃ (s : State) (p : PortIx) (m : Msg), s.inboundIs p (isAnneal 2) = some m ∧ (∀ (a : Anneal), s.annealOf (bits (m.body.getD 0 0) 127 124) = some a → a.id.toNat ≠ bits (m.body.getD 0 0) 110 79 ∨ a.state = AnnealState.releasing)) :=
  ⟨⟨{ (annealIn (annealMsg 0 5 1 3 0 9) []) with gate := {} }, 0, annealMsg 0 5 1 3 0 9, by decide +kernel⟩,
   ⟨annealIn (annealMsg 0 0 1 3 0 9) [], 0, annealMsg 0 0 1 3 0 9, by decide +kernel⟩,
   ⟨withChan (annealIn (annealMsg 0 0 1 3 0 0) []) 9 pausable, 0, annealMsg 0 0 1 3 0 0, by decide +kernel⟩,
   ⟨annealIn (annealMsg 1 0 0 7 5 (2 ^ 49 * 3)) [{ anneal0 with counts := [(0, 1, 0), (3, 1, 1)] }], 0, annealMsg 1 0 0 7 5 (2 ^ 49 * 3), by decide +kernel⟩,
   ⟨annealIn (annealMsg 2 0 0 7 0 99) [anneal0], 0, annealMsg 2 0 0 7 0 99, anneal0, by decide +kernel⟩,
   ⟨annealIn (annealMsg 2 0 0 8 0 99) [anneal0], 0, annealMsg 2 0 0 8 0 99, by decide +kernel⟩⟩
theorem witness_AnnealsBeginAndEnd_3 :
    (∃ (s : State) (a : Anneal), s.live = true ∧ List.find? s.annealStep s.lodge.anneals = some a) ∧
    (∃ (s : State) (a : Anneal), s.live = true ∧ List.find? s.annealStep s.lodge.anneals = some a) ∧
    (∃ (s : State) (a : Anneal), s.live = true ∧ List.find? s.boundDue s.lodge.anneals = some a) ∧
    (∃ (s : State) (a : Anneal), s.live = true ∧ List.find? (fun a => a.state == AnnealState.releasing && decide (a.tr ≤ s.podTime)) s.lodge.anneals = some a) :=
  ⟨⟨withChan (annealS [] [{ anneal0 with applied := false, state := .pending }] id) 9 pausable, { anneal0 with applied := false, state := .pending }, by decide +kernel⟩,
   ⟨workingCmd { (annealS [] [{ anneal0 with cmd := some ref0, counts := [(0, 1, 0)] }] id) with topo := { (annealS [] [] id).topo with ready := 3 } } [], { anneal0 with cmd := some ref0, counts := [(0, 1, 0)] }, by decide +kernel⟩,
   ⟨atClock 48000 (workingCmd (annealS [] [{ anneal0 with cmd := some ref0 }] (fun t => { t with now := 48000 })) []), { anneal0 with cmd := some ref0 }, by decide +kernel⟩,
   ⟨annealS [] [{ anneal0 with state := .releasing }] id, { anneal0 with state := .releasing }, by decide +kernel⟩⟩
theorem witness_LodgeAndBelvedere_1 :
    (∃ (s : State) (p : PortIx) (m : RxMsg), s.live = true ∧ s.lodge.running = true ∧ s.mgmtHead p = some m ∧ s.lodge.inboundBytes + m.msg.bytes ≤ 65536 ∧ m.msg.mgmtKnown = false ∧ (s.counter ctrOverflow).count < 4294967294) ∧
    (∃ (s : State) (p : PortIx) (m : RxMsg), s.live = true ∧ s.lodge.running = true ∧ s.mgmtHead p = some m ∧ s.lodge.inboundBytes + m.msg.bytes ≤ 65536 ∧ m.msg.mgmtKnown = true ∧ (mgmtType m.msg.hdr == 1 && !ltypeKnown (secType m.msg)) = true ∧ (s.counter ctrAuthFail).count < 4294967294) ∧
    (∃ (s : State) (p : PortIx) (m : RxMsg), s.live = true ∧ s.lodge.running = true ∧ s.mgmtHead p = some m ∧ s.lodge.inboundBytes + m.msg.bytes ≤ 65536 ∧ m.msg.mgmtKnown = true ∧ (mgmtType m.msg.hdr == 1 && !ltypeKnown (secType m.msg)) = false) ∧
    (∃ (s : State) (n : Notice) (rest : List Notice), s.live = true ∧ s.lodge.running = true ∧ s.lodge.notices = n :: rest ∧ bit s.lodge.noticeRing 63 = true ∧ s.lodge.ringRoom = true ∧ s.lodgeIdle = true ∧ s.lodge.overflowDue = false) :=
  ⟨⟨mgmtRx odd, 5, { msg := odd, key := 0 }, by decide +kernel⟩,
   ⟨mgmtRx lostSec, 5, { msg := lostSec, key := 0 }, by decide +kernel⟩,
   ⟨mgmtRx goodSec, 5, { msg := goodSec, key := 0 }, by decide +kernel⟩,
   ⟨noticeS, ⟨3, 7, [1]⟩, [⟨4, 8, []⟩], by decide +kernel⟩⟩
theorem witness_LodgeAndBelvedere_2 :
    (∃ (s : State) (r : AdminRef), s.mgmtIs r 1793 = true ∧ s.lodgeTurn r = true ∧ s.readingContent (ContentKey.admin r) = false ∧ (¬(bits ((s.cmdD r).arg 2) 7 3 = 0 ∧ bits ((s.cmdD r).arg 2) 63 9 = 0 ∧ bits ((s.cmdD r).arg 3) 63 60 = 0 ∧ bits ((s.cmdD r).arg 4) 63 56 = 0 ∧ bits ((s.cmdD r).arg 5) 31 10 = 0 ∧ bits ((s.cmdD r).arg 5) 63 52 = 0 ∧ bits ((s.cmdD r).arg 6) 63 32 = 0 ∧ (s.cmdD r).zeroArgs [7] = true))) ∧
    (∃ (s : State) (r : AdminRef), s.mgmtIs r 1793 = true ∧ s.lodgeTurn r = true ∧ s.readingContent (ContentKey.admin r) = false ∧ (bits ((s.cmdD r).arg 2) 7 3 = 0 ∧ bits ((s.cmdD r).arg 2) 63 9 = 0 ∧ bits ((s.cmdD r).arg 3) 63 60 = 0 ∧ bits ((s.cmdD r).arg 4) 63 56 = 0 ∧ bits ((s.cmdD r).arg 5) 31 10 = 0 ∧ bits ((s.cmdD r).arg 5) 63 52 = 0 ∧ bits ((s.cmdD r).arg 6) 63 32 = 0 ∧ (s.cmdD r).zeroArgs [7] = true) ∧ bit ((s.cmdD r).arg 2) 8 = false ∧ (s.belvSet (bits ((s.cmdD r).arg 2) 2 0)).enabled = true ∧ (s.belvSet (bits ((s.cmdD r).arg 2) 2 0)).owner ≠ (s.cmdD r).pav) ∧
    (∃ (s : State) (r : AdminRef), s.mgmtIs r 1793 = true ∧ s.lodgeTurn r = true ∧ s.readingContent (ContentKey.admin r) = false ∧ (bits ((s.cmdD r).arg 2) 7 3 = 0 ∧ bits ((s.cmdD r).arg 2) 63 9 = 0 ∧ bits ((s.cmdD r).arg 3) 63 60 = 0 ∧ bits ((s.cmdD r).arg 4) 63 56 = 0 ∧ bits ((s.cmdD r).arg 5) 31 10 = 0 ∧ bits ((s.cmdD r).arg 5) 63 52 = 0 ∧ bits ((s.cmdD r).arg 6) 63 32 = 0 ∧ (s.cmdD r).zeroArgs [7] = true) ∧ bit ((s.cmdD r).arg 2) 8 = false ∧ (s.belvSet (bits ((s.cmdD r).arg 2) 2 0)).enabled = false) ∧
    (∃ (s : State) (r : AdminRef), s.mgmtIs r 1793 = true ∧ s.lodgeTurn r = true ∧ s.readingContent (ContentKey.admin r) = false ∧ (bits ((s.cmdD r).arg 2) 7 3 = 0 ∧ bits ((s.cmdD r).arg 2) 63 9 = 0 ∧ bits ((s.cmdD r).arg 3) 63 60 = 0 ∧ bits ((s.cmdD r).arg 4) 63 56 = 0 ∧ bits ((s.cmdD r).arg 5) 31 10 = 0 ∧ bits ((s.cmdD r).arg 5) 63 52 = 0 ∧ bits ((s.cmdD r).arg 6) 63 32 = 0 ∧ (s.cmdD r).zeroArgs [7] = true) ∧ bit ((s.cmdD r).arg 2) 8 = false ∧ (s.belvSet (bits ((s.cmdD r).arg 2) 2 0)).enabled = true ∧ (s.belvSet (bits ((s.cmdD r).arg 2) 2 0)).owner = (s.cmdD r).pav) ∧
    (∃ (s : State) (r : AdminRef) (l : List Byte), s.mgmtIs r 1793 = true ∧ s.lodgeTurn r = true ∧ s.content (ContentKey.admin r) = some (ReadResult.data l) ∧ 2 * bits ((s.cmdD r).arg 5) 9 0 ≤ l.length ∧ (bits ((s.cmdD r).arg 2) 7 3 = 0 ∧ bits ((s.cmdD r).arg 2) 63 9 = 0 ∧ bits ((s.cmdD r).arg 3) 63 60 = 0 ∧ bits ((s.cmdD r).arg 4) 63 56 = 0 ∧ bits ((s.cmdD r).arg 5) 31 10 = 0 ∧ bits ((s.cmdD r).arg 5) 63 52 = 0 ∧ bits ((s.cmdD r).arg 6) 63 32 = 0 ∧ (s.cmdD r).zeroArgs [7] = true) ∧ bit ((s.cmdD r).arg 2) 8 = true ∧ bits ((s.cmdD r).arg 3) 11 0 = 0 ∧ 4 ≤ bits ((s.cmdD r).arg 3) 59 56 ∧ bits ((s.cmdD r).arg 4) 1 0 = 0 ∧ 1 ≤ bits ((s.cmdD r).arg 5) 9 0 ∧ bits ((s.cmdD r).arg 5) 9 0 ≤ 512 ∧ 1 ≤ bits ((s.cmdD r).arg 5) 51 32 ∧ bits ((s.cmdD r).arg 5) 51 32 ≤ 1000000 ∧ (∃ x ∈ List.map (fun k => leAt l (2 * k) 2) (List.range (bits ((s.cmdD r).arg 5) 9 0)), belvSource x = BelvSource.reserved)) ∧
    (∃ (s : State) (r : AdminRef) (l : List Byte), s.mgmtIs r 1793 = true ∧ s.lodgeTurn r = true ∧ s.content (ContentKey.admin r) = some (ReadResult.data l) ∧ 2 * bits ((s.cmdD r).arg 5) 9 0 ≤ l.length ∧ (bits ((s.cmdD r).arg 2) 7 3 = 0 ∧ bits ((s.cmdD r).arg 2) 63 9 = 0 ∧ bits ((s.cmdD r).arg 3) 63 60 = 0 ∧ bits ((s.cmdD r).arg 4) 63 56 = 0 ∧ bits ((s.cmdD r).arg 5) 31 10 = 0 ∧ bits ((s.cmdD r).arg 5) 63 52 = 0 ∧ bits ((s.cmdD r).arg 6) 63 32 = 0 ∧ (s.cmdD r).zeroArgs [7] = true) ∧ bit ((s.cmdD r).arg 2) 8 = true ∧ bits ((s.cmdD r).arg 3) 11 0 = 0 ∧ 4 ≤ bits ((s.cmdD r).arg 3) 59 56 ∧ bits ((s.cmdD r).arg 4) 1 0 = 0 ∧ 1 ≤ bits ((s.cmdD r).arg 5) 9 0 ∧ bits ((s.cmdD r).arg 5) 9 0 ≤ 512 ∧ 1 ≤ bits ((s.cmdD r).arg 5) 51 32 ∧ bits ((s.cmdD r).arg 5) 51 32 ≤ 1000000 ∧ (¬∃ x ∈ List.map (fun k => leAt l (2 * k) 2) (List.range (bits ((s.cmdD r).arg 5) 9 0)), belvSource x = BelvSource.reserved) ∧ (((s.cmdD r).pav ≠ 0 ∧ ∃ x ∈ List.map (fun k => leAt l (2 * k) 2) (List.range (bits ((s.cmdD r).arg 5) 9 0)), (belvSource x).p0 = true) ∨ bits ((s.cmdD r).arg 6) 31 0 ≠ 0 ∧ bits ((s.cmdD r).arg 6) 15 12 ≠ (s.cmdD r).pav ∨ (s.belvSet (bits ((s.cmdD r).arg 2) 2 0)).enabled = true ∧ (s.belvSet (bits ((s.cmdD r).arg 2) 2 0)).owner ≠ (s.cmdD r).pav)) ∧
    (∃ (s : State) (r : AdminRef) (l : List Byte), s.mgmtIs r 1793 = true ∧ s.lodgeTurn r = true ∧ s.content (ContentKey.admin r) = some (ReadResult.data l) ∧ 2 * bits ((s.cmdD r).arg 5) 9 0 ≤ l.length ∧ (bits ((s.cmdD r).arg 2) 7 3 = 0 ∧ bits ((s.cmdD r).arg 2) 63 9 = 0 ∧ bits ((s.cmdD r).arg 3) 63 60 = 0 ∧ bits ((s.cmdD r).arg 4) 63 56 = 0 ∧ bits ((s.cmdD r).arg 5) 31 10 = 0 ∧ bits ((s.cmdD r).arg 5) 63 52 = 0 ∧ bits ((s.cmdD r).arg 6) 63 32 = 0 ∧ (s.cmdD r).zeroArgs [7] = true) ∧ bit ((s.cmdD r).arg 2) 8 = true ∧ bits ((s.cmdD r).arg 3) 11 0 = 0 ∧ 4 ≤ bits ((s.cmdD r).arg 3) 59 56 ∧ bits ((s.cmdD r).arg 4) 1 0 = 0 ∧ 1 ≤ bits ((s.cmdD r).arg 5) 9 0 ∧ bits ((s.cmdD r).arg 5) 9 0 ≤ 512 ∧ 1 ≤ bits ((s.cmdD r).arg 5) 51 32 ∧ bits ((s.cmdD r).arg 5) 51 32 ≤ 1000000 ∧ (¬∃ x ∈ List.map (fun k => leAt l (2 * k) 2) (List.range (bits ((s.cmdD r).arg 5) 9 0)), belvSource x = BelvSource.reserved) ∧ (((s.cmdD r).pav ≠ 0 ∧ ∃ x ∈ List.map (fun k => leAt l (2 * k) 2) (List.range (bits ((s.cmdD r).arg 5) 9 0)), (belvSource x).p0 = true) ∨ bits ((s.cmdD r).arg 6) 31 0 ≠ 0 ∧ bits ((s.cmdD r).arg 6) 15 12 ≠ (s.cmdD r).pav ∨ (s.belvSet (bits ((s.cmdD r).arg 2) 2 0)).enabled = true ∧ (s.belvSet (bits ((s.cmdD r).arg 2) 2 0)).owner ≠ (s.cmdD r).pav)) ∧
    (∃ (s : State) (r : AdminRef) (l : List Byte), s.mgmtIs r 1793 = true ∧ s.lodgeTurn r = true ∧ s.content (ContentKey.admin r) = some (ReadResult.data l) ∧ 2 * bits ((s.cmdD r).arg 5) 9 0 ≤ l.length ∧ (bits ((s.cmdD r).arg 2) 7 3 = 0 ∧ bits ((s.cmdD r).arg 2) 63 9 = 0 ∧ bits ((s.cmdD r).arg 3) 63 60 = 0 ∧ bits ((s.cmdD r).arg 4) 63 56 = 0 ∧ bits ((s.cmdD r).arg 5) 31 10 = 0 ∧ bits ((s.cmdD r).arg 5) 63 52 = 0 ∧ bits ((s.cmdD r).arg 6) 63 32 = 0 ∧ (s.cmdD r).zeroArgs [7] = true) ∧ bit ((s.cmdD r).arg 2) 8 = true ∧ bits ((s.cmdD r).arg 3) 11 0 = 0 ∧ 4 ≤ bits ((s.cmdD r).arg 3) 59 56 ∧ bits ((s.cmdD r).arg 4) 1 0 = 0 ∧ 1 ≤ bits ((s.cmdD r).arg 5) 9 0 ∧ bits ((s.cmdD r).arg 5) 9 0 ≤ 512 ∧ 1 ≤ bits ((s.cmdD r).arg 5) 51 32 ∧ bits ((s.cmdD r).arg 5) 51 32 ≤ 1000000 ∧ (¬∃ x ∈ List.map (fun k => leAt l (2 * k) 2) (List.range (bits ((s.cmdD r).arg 5) 9 0)), belvSource x = BelvSource.reserved) ∧ (¬(((s.cmdD r).pav ≠ 0 ∧ ∃ x ∈ List.map (fun k => leAt l (2 * k) 2) (List.range (bits ((s.cmdD r).arg 5) 9 0)), (belvSource x).p0 = true) ∨ bits ((s.cmdD r).arg 6) 31 0 ≠ 0 ∧ bits ((s.cmdD r).arg 6) 15 12 ≠ (s.cmdD r).pav ∨ (s.belvSet (bits ((s.cmdD r).arg 2) 2 0)).enabled = true ∧ (s.belvSet (bits ((s.cmdD r).arg 2) 2 0)).owner ≠ (s.cmdD r).pav)) ∧ (s.belvSet (bits ((s.cmdD r).arg 2) 2 0)).enabled = true) ∧
    (∃ (s : State) (r : AdminRef) (l : List Byte), s.mgmtIs r 1793 = true ∧ s.lodgeTurn r = true ∧ s.content (ContentKey.admin r) = some (ReadResult.data l) ∧ 2 * bits ((s.cmdD r).arg 5) 9 0 ≤ l.length ∧ (bits ((s.cmdD r).arg 2) 7 3 = 0 ∧ bits ((s.cmdD r).arg 2) 63 9 = 0 ∧ bits ((s.cmdD r).arg 3) 63 60 = 0 ∧ bits ((s.cmdD r).arg 4) 63 56 = 0 ∧ bits ((s.cmdD r).arg 5) 31 10 = 0 ∧ bits ((s.cmdD r).arg 5) 63 52 = 0 ∧ bits ((s.cmdD r).arg 6) 63 32 = 0 ∧ (s.cmdD r).zeroArgs [7] = true) ∧ bit ((s.cmdD r).arg 2) 8 = true ∧ bits ((s.cmdD r).arg 3) 11 0 = 0 ∧ 4 ≤ bits ((s.cmdD r).arg 3) 59 56 ∧ bits ((s.cmdD r).arg 4) 1 0 = 0 ∧ 1 ≤ bits ((s.cmdD r).arg 5) 9 0 ∧ bits ((s.cmdD r).arg 5) 9 0 ≤ 512 ∧ 1 ≤ bits ((s.cmdD r).arg 5) 51 32 ∧ bits ((s.cmdD r).arg 5) 51 32 ≤ 1000000 ∧ (¬∃ x ∈ List.map (fun k => leAt l (2 * k) 2) (List.range (bits ((s.cmdD r).arg 5) 9 0)), belvSource x = BelvSource.reserved) ∧ (¬(((s.cmdD r).pav ≠ 0 ∧ ∃ x ∈ List.map (fun k => leAt l (2 * k) 2) (List.range (bits ((s.cmdD r).arg 5) 9 0)), (belvSource x).p0 = true) ∨ bits ((s.cmdD r).arg 6) 31 0 ≠ 0 ∧ bits ((s.cmdD r).arg 6) 15 12 ≠ (s.cmdD r).pav ∨ (s.belvSet (bits ((s.cmdD r).arg 2) 2 0)).enabled = true ∧ (s.belvSet (bits ((s.cmdD r).arg 2) 2 0)).owner ≠ (s.cmdD r).pav)) ∧ (s.belvSet (bits ((s.cmdD r).arg 2) 2 0)).enabled = false) ∧
    (∃ (s : State) (r : AdminRef) (l : List Byte), s.mgmtIs r 1793 = true ∧ s.lodgeTurn r = true ∧ s.content (ContentKey.admin r) = some (ReadResult.data l) ∧ 2 * bits ((s.cmdD r).arg 5) 9 0 ≤ l.length ∧ (bits ((s.cmdD r).arg 2) 7 3 = 0 ∧ bits ((s.cmdD r).arg 2) 63 9 = 0 ∧ bits ((s.cmdD r).arg 3) 63 60 = 0 ∧ bits ((s.cmdD r).arg 4) 63 56 = 0 ∧ bits ((s.cmdD r).arg 5) 31 10 = 0 ∧ bits ((s.cmdD r).arg 5) 63 52 = 0 ∧ bits ((s.cmdD r).arg 6) 63 32 = 0 ∧ (s.cmdD r).zeroArgs [7] = true) ∧ bit ((s.cmdD r).arg 2) 8 = true ∧ bits ((s.cmdD r).arg 3) 11 0 = 0 ∧ 4 ≤ bits ((s.cmdD r).arg 3) 59 56 ∧ bits ((s.cmdD r).arg 4) 1 0 = 0 ∧ 1 ≤ bits ((s.cmdD r).arg 5) 9 0 ∧ bits ((s.cmdD r).arg 5) 9 0 ≤ 512 ∧ 1 ≤ bits ((s.cmdD r).arg 5) 51 32 ∧ bits ((s.cmdD r).arg 5) 51 32 ≤ 1000000 ∧ (¬∃ x ∈ List.map (fun k => leAt l (2 * k) 2) (List.range (bits ((s.cmdD r).arg 5) 9 0)), belvSource x = BelvSource.reserved) ∧ (¬(((s.cmdD r).pav ≠ 0 ∧ ∃ x ∈ List.map (fun k => leAt l (2 * k) 2) (List.range (bits ((s.cmdD r).arg 5) 9 0)), (belvSource x).p0 = true) ∨ bits ((s.cmdD r).arg 6) 31 0 ≠ 0 ∧ bits ((s.cmdD r).arg 6) 15 12 ≠ (s.cmdD r).pav ∨ (s.belvSet (bits ((s.cmdD r).arg 2) 2 0)).enabled = true ∧ (s.belvSet (bits ((s.cmdD r).arg 2) 2 0)).owner ≠ (s.cmdD r).pav)) ∧ (s.belvSet (bits ((s.cmdD r).arg 2) 2 0)).enabled = false) ∧
    (∃ (s : State) (r : AdminRef) (x : ReadResult), s.mgmtIs r 1793 = true ∧ s.lodgeTurn r = true ∧ s.content (ContentKey.admin r) = some x ∧ (∀ (l : List Byte), x ≠ ReadResult.data l) ∧ (bits ((s.cmdD r).arg 2) 7 3 = 0 ∧ bits ((s.cmdD r).arg 2) 63 9 = 0 ∧ bits ((s.cmdD r).arg 3) 63 60 = 0 ∧ bits ((s.cmdD r).arg 4) 63 56 = 0 ∧ bits ((s.cmdD r).arg 5) 31 10 = 0 ∧ bits ((s.cmdD r).arg 5) 63 52 = 0 ∧ bits ((s.cmdD r).arg 6) 63 32 = 0 ∧ (s.cmdD r).zeroArgs [7] = true) ∧ bit ((s.cmdD r).arg 2) 8 = true) ∧
    (∃ (s : State) (r : AdminRef), s.mgmtIs r 1793 = true ∧ s.lodgeTurn r = true ∧ s.contentRead (ContentKey.admin r) = none ∧ (bits ((s.cmdD r).arg 2) 7 3 = 0 ∧ bits ((s.cmdD r).arg 2) 63 9 = 0 ∧ bits ((s.cmdD r).arg 3) 63 60 = 0 ∧ bits ((s.cmdD r).arg 4) 63 56 = 0 ∧ bits ((s.cmdD r).arg 5) 31 10 = 0 ∧ bits ((s.cmdD r).arg 5) 63 52 = 0 ∧ bits ((s.cmdD r).arg 6) 63 32 = 0 ∧ (s.cmdD r).zeroArgs [7] = true) ∧ bit ((s.cmdD r).arg 2) 8 = true) :=
  ⟨⟨belvCmd [0x207] [], ref0, by decide +kernel⟩,
   ⟨belvCmd [7] [(7, onSet 5)], ref0, by decide +kernel⟩,
   ⟨belvCmd [7] [], ref0, by decide +kernel⟩,
   ⟨belvCmd [7] [(7, onSet 0)], ref0, by decide +kernel⟩,
   ⟨withContent (belvCmd (enableW 0) []) (.admin ref0) [0, 64, 0xFF, 0xFF], ref0, [0, 64, 0xFF, 0xFF], by decide +kernel⟩,
   ⟨withContent (belvCmd (enableW 0) [(7, onSet 5)]) (.admin ref0) [0, 64, 1, 64], ref0, [0, 64, 1, 64], by decide +kernel⟩,
   ⟨withContent (belvTenant (enableW 0) []) (.admin ref5) [0, 64, 0, 0], ref5, [0, 64, 0, 0], by decide +kernel⟩,
   ⟨withContent (belvCmd (enableW 0) [(7, onSet 0)]) (.admin ref0) [0, 64, 1, 64], ref0, [0, 64, 1, 64], by decide +kernel⟩,
   ⟨withContent (belvCmd (enableW 0x0001) []) (.admin ref0) [0, 64, 1, 64], ref0, [0, 64, 1, 64], by decide +kernel⟩,
   ⟨withContent (belvTenant (enableW 0x5001) []) (.admin ref5) [0, 64, 1, 64], ref5, [0, 64, 1, 64], by decide +kernel⟩,
   ⟨withLostContent (belvCmd (enableW 0) []) (.admin ref0) .ue, ref0, .ue, by decide +kernel, by decide +kernel, by decide +kernel, (by intro l h; cases h), by decide +kernel, by decide +kernel⟩,
   ⟨belvCmd (enableW 0) [], ref0, by decide +kernel⟩⟩
theorem witness_LodgeAndBelvedere_3 :
    (∃ (s : State) (i : ℕ), s.live = true ∧ i < 8 ∧ s.sampleDue i = true) ∧
    (∃ (s : State) (i : ℕ), s.live = true ∧ i < 8 ∧ s.sampleDue i = true) :=
  ⟨⟨sampleS id 1, 7, by decide +kernel⟩,
   ⟨sampleS (fun b => { b with pending := true }) 0, 7, by decide +kernel⟩⟩
theorem witness_ErrorsAreRecorded_1 :
    (∃ (s : State) (e : ErrorReport), s.linkLive = true ∧ causeClass e.cause.toNat = some ErrClass.corrected ∧ s.lodge.notices.length < 256) ∧
    (∃ (s : State) (e : ErrorReport), s.linkLive = true ∧ causeClass e.cause.toNat = some ErrClass.corrected ∧ s.lodge.notices.length < 256) :=
  ⟨⟨fltS id 9, rep 3, by decide +kernel⟩,
   ⟨fltS (capAs .corrected) 9, rep 3, by decide +kernel⟩⟩
theorem witness_ErrorsAreRecorded_2 :
    (∃ (s : State) (e : ErrorReport), s.linkLive = true ∧ causeClass e.cause.toNat = some ErrClass.contained ∧ e.cause ≠ 16) ∧
    (∃ (s : State) (e : ErrorReport), s.linkLive = true ∧ causeClass e.cause.toNat = some ErrClass.contained ∧ e.cause ≠ 16) :=
  ⟨⟨fltS (capAs .corrected) 9, rep 0x21, by decide +kernel⟩,
   ⟨fltS (capAs .fatal) 9, rep 0x11, by decide +kernel⟩⟩
theorem witness_ErrorsAreRecorded_3 :
    ∃ (s : State) (e : ErrorReport), e.cause = 16 ∧ s.containable e = true :=
  ⟨fltS id 9, rep 0x10, by decide +kernel⟩
theorem witness_ErrorsAreRecorded_4 :
    (∃ (s : State) (e : ErrorReport), s.power.clocksLost = false ∧ s.power.frozen = false ∧ causeClass e.cause.toNat = some ErrClass.fatal) ∧
    (∃ (s : State) (e : ErrorReport), s.power.clocksLost = false ∧ s.power.frozen = false ∧ causeClass e.cause.toNat = some ErrClass.fatal) :=
  ⟨⟨fltS id 9, rep 0x30, by decide +kernel⟩,
   ⟨fltS (capAs .contained) 9, rep 0x35, by decide +kernel⟩⟩
theorem witness_HangsAndInjection_1 :
    (∃ (s : State), s.linkLive = true ∧ s.flt.contained = true ∧ s.flt.ackExpired = false ∧ s.usPassed s.flt.ackStart (bits s.flt.ctl 43 24) = true) ∧
    (∃ (s : State), s.linkLive = true ∧ s.pins.faultOut = true ∧ (∀ (d : ℕ), s.flt.pulseStart = some d → s.usPassed d 1 = true) ∧ (bit s.flt.ctl 1 = true → s.flt.contained = false)) ∧
    (∃ (s : State), s.live = true ∧ s.lodge.running = true ∧ s.usPassed s.lodge.wdogStart (1000 * bits s.lodge.wdog 13 0) = true) ∧
    (∃ (s : State) (v : ℕ), s.live = true ∧ 1 ≤ v ∧ v ≤ 15 ∧ v ∉ s.flt.hanging ∧ s.hung v = true ∧ s.programsOf v = [] ∧ s.winsOf v = [] ∧ s.annealOf v = none) ∧
    (∃ (s : State) (v : ℕ), s.live = true ∧ 1 ≤ v ∧ v ≤ 15 ∧ s.hangKilled v = true ∧ (s.counter ctrHang).count < 4294967294) ∧
    (∃ (s : State), s.live = true ∧ s.flt.p0Reported = false ∧ s.hung 0 = true) :=
  ⟨⟨fltS (fun f => { f with contained := true }) 12000000, by decide +kernel⟩,
   ⟨pulseS, by decide +kernel⟩,
   ⟨{ lodgeUp running with time := { now := 120000000 }, retained := { clock := 120000000 } }, by decide +kernel⟩,
   ⟨quietS 5, 5, by decide +kernel⟩,
   ⟨killedS, 5, by decide +kernel⟩,
   ⟨quietS 0, by decide +kernel⟩⟩
theorem witness_HangsAndInjection_2 :
    (∃ (s : State), s.live = true ∧ s.flt.injArmed = true ∧ checkerExists s.flt.injChecker.toNat = true ∧ checkerTransmit s.flt.injChecker.toNat = false) ∧
    (∃ (s : State), s.live = true ∧ s.flt.injArmed = true ∧ checkerExists s.flt.injChecker.toNat = true ∧ checkerTransmit s.flt.injChecker.toNat = false) ∧
    (∃ (s : State), s.live = true) ∧
    (∃ (s : State), s.live = true) ∧
    (∃ (s : State), s.live = true ∧ s.flt.flaws = []) ∧
    (∃ (s : State) (c : BitVec 10), s.live = true ∧ s.flt.flaws = [] ∧ checkerSram c.toNat = true ∧ (s.counter ctrCe).count < 4294967295 ∧ s.lodge.notices.length < 256) :=
  ⟨⟨injS 0x31 2, by decide +kernel⟩,
   ⟨injS 0x30 1, by decide +kernel⟩,
   ⟨fltS (fun f => { f with flaws := [(0x31, 1, 3), (0x80, 2, 0)] }) 0, by decide +kernel⟩,
   ⟨running, by decide +kernel⟩,
   ⟨running, by decide +kernel⟩,
   ⟨running, 0x31, by decide +kernel⟩⟩
theorem witness_WarmResetsAndTheirCommands_1 :
    (∃ (s : State), s.clocked = true) ∧
    (∃ (s : State), s.resetRun = none ∧ s.clocked = false) ∧
    (∃ (s : State) (r : ResetRun), s.resetRun = some r) ∧
    (∃ (s : State) (r : ResetRun), s.resetRun = some r) ∧
    (∃ (s : State) (f : FatalState), s.clocked = true ∧ bit s.flt.ctl 3 = true ∧ s.flt.fatal = some f ∧ f.cold = false ∧ s.usPassed f.since (bits s.flt.ctl 23 4) = true) ∧
    (∃ (s : State) (r : AdminRef), s.resetAsked r 4 = true) ∧
    (∃ (s : State) (r : AdminRef), s.resetAsked r 5 = true) :=
  ⟨⟨worn upS, by decide +kernel⟩,
   ⟨frozenS, by decide +kernel⟩,
   ⟨resettingS warmRun, warmRun, by decide +kernel⟩,
   ⟨resettingS coldRun, coldRun, by decide +kernel⟩,
   ⟨fataled { cold := false, cause := 0x31, since := 0 } 1200000, { cold := false, cause := 0x31, since := 0 }, by decide +kernel⟩,
   ⟨askedS 4, ref0, by decide +kernel⟩,
   ⟨askedS 5, ref0, by decide +kernel⟩⟩
theorem witness_WarmResetsAndTheirCommands_2 :
    (∃ (s : State) (r : AdminRef), s.lodgeTurn r = true ∧ s.mgmtIs r 1282 = true ∧ s.resetAsked r 4 = false ∧ (bits ((s.cmdD r).arg 2) 63 1 == 0 && (s.cmdD r).zeroArgs [3, 4, 5, 6, 7]) = false) ∧
    (∃ (s : State) (r : AdminRef), s.lodgeTurn r = true ∧ s.mgmtIs r 1282 = true ∧ s.resetAsked r 4 = false ∧ (bits ((s.cmdD r).arg 2) 63 1 == 0 && (s.cmdD r).zeroArgs [3, 4, 5, 6, 7]) = true) ∧
    (∃ (s : State) (r : AdminRef), s.lodgeTurn r = true ∧ s.mgmtIs r 1282 = true ∧ s.resetAsked r 4 = false ∧ (bits ((s.cmdD r).arg 2) 63 1 == 0 && (s.cmdD r).zeroArgs [3, 4, 5, 6, 7]) = true) ∧
    (∃ (s : State) (r : AdminRef), s.lodgeTurn r = true ∧ s.mgmtIs r 1283 = true ∧ s.resetAsked r 5 = false ∧ s.readingContent (ContentKey.admin r) = false ∧ (bits ((s.cmdD r).arg 2) 63 56 == 0 && (s.cmdD r).zeroArgs [3, 4, 5, 6, 7]) = false) ∧
    (∃ (s : State) (r : AdminRef), s.lodgeTurn r = true ∧ s.mgmtIs r 1283 = true ∧ s.resetAsked r 5 = false ∧ s.readingContent (ContentKey.admin r) = false ∧ (bits ((s.cmdD r).arg 2) 63 56 == 0 && (s.cmdD r).zeroArgs [3, 4, 5, 6, 7]) = true ∧ s.retained.oos = false) ∧
    (∃ (s : State) (r : AdminRef), s.lodgeTurn r = true ∧ s.mgmtIs r 1283 = true ∧ s.resetAsked r 5 = false ∧ (bits ((s.cmdD r).arg 2) 63 56 == 0 && (s.cmdD r).zeroArgs [3, 4, 5, 6, 7]) = true ∧ s.retained.oos = true ∧ s.contentRead (ContentKey.admin r) = none) ∧
    (∃ (s : State) (r : AdminRef) (x : ReadResult), s.lodgeTurn r = true ∧ s.mgmtIs r 1283 = true ∧ s.resetAsked r 5 = false ∧ (bits ((s.cmdD r).arg 2) 63 56 == 0 && (s.cmdD r).zeroArgs [3, 4, 5, 6, 7]) = true ∧ s.retained.oos = true ∧ s.content (ContentKey.admin r) = some x ∧ (∀ (l : List Byte), x ≠ ReadResult.data l)) ∧
    (∃ (s : State) (r : AdminRef) (l : List Byte), s.lodgeTurn r = true ∧ s.mgmtIs r 1283 = true ∧ s.resetAsked r 5 = false ∧ (bits ((s.cmdD r).arg 2) 63 56 == 0 && (s.cmdD r).zeroArgs [3, 4, 5, 6, 7]) = true ∧ s.retained.oos = true ∧ s.content (ContentKey.admin r) = some (ReadResult.data l) ∧ leAt l 12 4 ≠ 0) ∧
    (∃ (s : State) (r : AdminRef) (l : List Byte), s.lodgeTurn r = true ∧ s.mgmtIs r 1283 = true ∧ s.resetAsked r 5 = false ∧ (bits ((s.cmdD r).arg 2) 63 56 == 0 && (s.cmdD r).zeroArgs [3, 4, 5, 6, 7]) = true ∧ s.retained.oos = true ∧ s.content (ContentKey.admin r) = some (ReadResult.data l) ∧ leAt l 12 4 = 0 ∧ s.authorised l = false) ∧
    (∃ (s : State) (r : AdminRef) (l : List Byte), s.lodgeTurn r = true ∧ s.mgmtIs r 1283 = true ∧ s.resetAsked r 5 = false ∧ (bits ((s.cmdD r).arg 2) 63 56 == 0 && (s.cmdD r).zeroArgs [3, 4, 5, 6, 7]) = true ∧ s.retained.oos = true ∧ s.content (ContentKey.admin r) = some (ReadResult.data l) ∧ leAt l 12 4 = 0 ∧ s.authorised l = true) :=
  ⟨⟨resetCmd 0x0502 [2], ref0, by decide +kernel⟩,
   ⟨resetCmd 0x0502 [0], ref0, by decide +kernel⟩,
   ⟨resetCmd 0x0502 [1], ref0, by decide +kernel⟩,
   ⟨resetCmd 0x0503 [0, 1], ref0, by decide +kernel⟩,
   ⟨resetCmd 0x0503 [0], ref0, by decide +kernel⟩,
   ⟨outS [0x1000], ref0, by decide +kernel⟩,
   ⟨withLostContent (outS [0x1000]) (.admin ref0) .partReset, ref0, .partReset, by decide +kernel, by decide +kernel, by decide +kernel, by decide +kernel, by decide +kernel, by decide +kernel, (by intro l h; cases h)⟩,
   ⟨withContent (outS [0x1000]) (.admin ref0) (List.replicate 112 1), ref0, List.replicate 112 1, by decide +kernel⟩,
   ⟨withContent (outS [0x1000]) (.admin ref0) (List.replicate 112 0), ref0, List.replicate 112 0, by decide +kernel⟩,
   ⟨withContent (outS [0x1000]) (.admin ref0) restoreBytes, ref0, restoreBytes, by decide +kernel⟩⟩
theorem witness_ResetsCompleteAndClocksStop_1 :
    (∃ (s : State), s.resetRun = none) ∧
    (∃ (s : State) (r : ResetRun), s.resetRun = some r ∧ (s.power.clocksLost = true ∨ s.power.frozen = true ∨ s.flt.fatal.isSome = true)) ∧
    (∃ (s : State) (r : ResetRun), s.resetRun = some r ∧ s.power.clocksLost = false ∧ s.power.frozen = false ∧ s.flt.fatal = none ∧ s.pins.regHeld = [] ∧ (s.counter ctrBlockReset).count < 4294967294) ∧
    (∃ (s : State) (r : ResetRun), s.resetRun = some r ∧ s.power.clocksLost = false ∧ s.power.frozen = false ∧ s.flt.fatal = none ∧ s.pins.regHeld = [] ∧ (s.counter ctrBlockReset).count < 4294967294) :=
  ⟨⟨running, by decide +kernel⟩,
   ⟨{ (resettingS coldRun) with power := { frozen := true } }, coldRun, by decide +kernel⟩,
   ⟨resettingS warmRun, warmRun, by decide +kernel⟩,
   ⟨hist [0, 5] 9 (resettingS coldRun), coldRun, by decide +kernel⟩⟩
theorem witness_ResetsCompleteAndClocksStop_2 :
    (∃ (s : State), s.power.clocksLost = false) ∧
    (∃ (s : State) (d : Option Word), s.power.clocksLost = false ∧ s.power.frozen = false ∧ (d = none ∨ ∃ x, d = some x ∧ BitVec.toNat x ≤ s.podTime)) ∧
    (∃ (s : State) (x : Word), s.power.clocksLost = false ∧ s.power.frozen = false ∧ s.podTime < BitVec.toNat x) :=
  ⟨⟨worn upS, by decide +kernel⟩,
   ⟨upS, none, by decide +kernel⟩,
   ⟨upS, 9, by decide +kernel⟩⟩
theorem witness_CountersStick :
    ∃ (c : Counter), c.count.toNat < 4294967295 ∧ c.saturated = false :=
  ⟨⟨false, 0xFFFFFFFE⟩, by decide +kernel⟩
theorem witness_HeadersReadBack :
    (∃ (kind : ℕ) (dest : ℕ) (src : ℕ) (tag : ℕ) (use : ℕ) (sgen : ℕ) (cgen : ℕ) (window : ℕ) (offset : ℕ) (lc : ℕ), kind < 16 ∧ dest < 2 ^ 13 ∧ src < 2 ^ 13 ∧ tag < 2 ^ 14 ∧ use < 2 ^ 6 ∧ sgen < 256 ∧ cgen < 256 ∧ window < 2 ^ 16 ∧ offset < 2 ^ 40 ∧ lc < 32) ∧
    (∃ (c : TrainCfg) (lead : List Byte), lead.length = 24 ∧ c.active < 2 ^ 13 ∧ c.width < 256 ∧ c.step < 256 ∧ c.action < 256) :=
  ⟨⟨15, 8191, 8191, 16383, 63, 255, 255, 65535, 2 ^ 40 - 1, 31, by decide +kernel⟩,
   ⟨{ active := 8191, width := 255, step := 255, action := 255 }, List.replicate 24 0, by decide +kernel⟩⟩
theorem witness_AdminRingRegistersHold :
    ∃ (s : State), s.front.admin0En = true :=
  ⟨{ front := { admin0En := true } }, by decide +kernel⟩
theorem witness_BlockDiameters :
    (∃ (t : InstallTable), t.ex = 16 ∧ t.ey = 16 ∧ t.ez = 32) ∧
    (∃ (s : State) (t : InstallTable) (b : Block) (pav : ℕ), s.topo.install = some t ∧ s.blockOf pav = some b) :=
  ⟨⟨{ pod2 with ex := 16, ey := 16, ez := 32 }, by decide +kernel⟩,
   ⟨placed running, pod2, ⟨0, 0, 0, 2, 1, 1⟩, 0, by decide +kernel⟩⟩
theorem witness_EveryHopComesCloser :
    ∃ (t : InstallTable) (own : ℕ) (dest : ℕ), t.ex ≤ 16 ∧ t.ey ≤ 16 ∧ t.ez ≤ 32 ∧ t.names own = true ∧ t.names dest = true ∧ own ≠ dest :=
  ⟨pod2, 1, 0, by decide +kernel⟩

end Sys2Proof.Tests
end

section
/-!
SUPPORT. What reading a channel or an operation gives after each shared update, said once (R37, R82, R142).
-/
namespace Sys2Proof.Machine

/-! ### Folds of operations -/

/-- A fold whose every step keeps to a relation that is reflexive and transitive keeps to it. -/
theorem foldl_keeps {α β : Type} {R : α → α → Prop} (hrefl : ∀ a, R a a) (htrans : ∀ {a b c}, R a b → R b c → R a c) {f : α → β → α}
    {l : List β} (hstep : ∀ b ∈ l, ∀ a, R a (f a b)) (a : α) : R a (l.foldl f a) := by
  induction l generalizing a with
  | nil => exact hrefl a
  | cons b r ih => exact htrans (hstep b (by simp) a) (ih (fun b hb => hstep b (by simp [hb])) (f a b))

/-! ### Reading a channel after an update -/

/-- A channel is read from the front end alone. -/
theorem State.chan_congr {s t : State} (h : t.front.chans = s.front.chans) (i : Nat) : t.chan i = s.chan i := by
  simp [State.chan, h]

@[simp] theorem State.keep_chan (s t : State) (i : Nat) : (s.keep t).chan i = t.chan i := rfl
@[simp] theorem State.modXfer_chan (s : State) (g : Xfer → Xfer) (i : Nat) : (s.modXfer g).chan i = s.chan i := rfl
@[simp] theorem State.belvAdd_chan (s : State) (a b n : Nat) (i : Nat) : (s.belvAdd a b n).chan i = s.chan i := rfl
@[simp] theorem State.activity_chan (s : State) (n : Nat) (i : Nat) : (s.activity n).chan i = s.chan i := rfl
@[simp] theorem State.disarm_chan (s : State) (w : Nat) (i : Nat) : (s.disarm w).chan i = s.chan i := State.chan_congr (by simp) i
@[simp] theorem State.issue_chan (s : State) (q : FabRequest) (i : Nat) : (s.issue q).chan i = s.chan i := State.chan_congr (by simp) i

@[simp] theorem State.setChan_chan_same (s : State) (i : Nat) (c : Channel) : (s.setChan i c).chan i = c := by
  simp [State.chan, State.setChan]

theorem State.setChan_chan_other (s : State) {i j : Nat} (c : Channel) (h : j ≠ i) : (s.setChan i c).chan j = s.chan j := by
  simp [State.chan, State.setChan, Table.get_put_other _ _ _ h]

@[simp] theorem State.modChan_chan_same (s : State) (i : Nat) (f : Channel → Channel) : (s.modChan i f).chan i = f (s.chan i) := by
  simp [State.modChan]

theorem State.modChan_chan_other (s : State) {i j : Nat} (f : Channel → Channel) (h : j ≠ i) : (s.modChan i f).chan j = s.chan j :=
  s.setChan_chan_other _ h

theorem State.modOp_chan_other (s : State) (o : OpRef) (f : OpSlot → OpSlot) {j : Nat} (h : j ≠ o.chan) : (s.modOp o f).chan j = s.chan j :=
  s.modChan_chan_other _ h

/-! ### Reading an operation after an update -/

/-- The operations of a channel. -/
def Channel.op (c : Channel) (o : OpRef) : Option OpSlot := (c.buf o.ring).bind (fun b => b.ops[o.op]?)

theorem State.opOf_eq (s : State) (o : OpRef) : s.opOf o = (s.chan o.chan).op o := by
  unfold State.opOf Channel.op
  cases (s.chan o.chan).buf o.ring <;> rfl

theorem State.opOf_congr {s t : State} {o : OpRef} (h : t.chan o.chan = s.chan o.chan) : t.opOf o = s.opOf o := by
  rw [State.opOf_eq, State.opOf_eq, h]

/-- A buffer changed under its own ring number reads back changed. -/
theorem Channel.buf_modBuf_same (c : Channel) (ring : Nat) (f : Buffer → Buffer) (h : ∀ b, (f b).ring = b.ring) :
    (c.modBuf ring f).buf ring = (c.buf ring).map f := by
  unfold Channel.buf Channel.modBuf
  induction c.bufs with
  | nil => rfl
  | cons b r ih =>
    by_cases hb : b.ring = ring
    · simp [hb, h]
    · simpa [hb] using ih

@[simp] theorem Buffer.modOp_ring (b : Buffer) (i : Nat) (f : OpSlot → OpSlot) : (b.modOp i f).ring = b.ring := rfl

@[simp] theorem State.modOp_opOf_same (s : State) (o : OpRef) (f : OpSlot → OpSlot) : (s.modOp o f).opOf o = (s.opOf o).map f := by
  simp only [State.opOf_eq, State.modOp, State.modChan_chan_same, Channel.op, Channel.buf_modBuf_same _ _ _ (fun b => b.modOp_ring o.op f)]
  cases (s.chan o.chan).buf o.ring <;> simp [Buffer.modOp]

end Sys2Proof.Machine
end

section
/-!
PROOFS. Tags, responses and timeouts at the requester (R61 to R63, R185 to R188): the rules for forming a request, taking a message and freeing a
tag, and the statement RequestsAndTags.
-/
namespace Sys2Proof.Machine

/-! ### Messages queued and dropped -/

section
variable (s : State) (p cls key dest : Nat) (m : Msg) (ready : Bool) (stream : Nat) (tag : Option Nat)

@[simp] theorem State.sendVia_front : (s.sendVia p cls key m ready stream tag).front = s.front := by
  unfold State.sendVia; repeat' split
  all_goals rfl

@[simp] theorem State.sendVia_fab : (s.sendVia p cls key m ready stream tag).fab = s.fab := by
  unfold State.sendVia; repeat' split
  all_goals rfl

@[simp] theorem State.sendVia_retained : (s.sendVia p cls key m ready stream tag).retained = s.retained := by
  unfold State.sendVia; repeat' split
  all_goals rfl

/-- Of the transfer side a message sent changes the queue of same-node messages alone. -/
theorem State.sendVia_xfer : ∃ l, (s.sendVia p cls key m ready stream tag).xfer = { s.xfer with localQ := l } := by
  unfold State.sendVia; repeat' split
  · exact ⟨_, rfl⟩
  · exact ⟨_, rfl⟩
  · exact ⟨_, rfl⟩

@[simp] theorem State.sendMsg_front : (s.sendMsg cls key dest m ready stream tag).front = s.front := s.sendVia_front ..
@[simp] theorem State.sendMsg_fab : (s.sendMsg cls key dest m ready stream tag).fab = s.fab := s.sendVia_fab ..
@[simp] theorem State.sendMsg_retained : (s.sendMsg cls key dest m ready stream tag).retained = s.retained := s.sendVia_retained ..

theorem State.sendMsg_xfer : ∃ l, (s.sendMsg cls key dest m ready stream tag).xfer = { s.xfer with localQ := l } := s.sendVia_xfer ..

@[simp] theorem State.sendMsg_chan (i : Nat) : (s.sendMsg cls key dest m ready stream tag).chan i = s.chan i := State.chan_congr (by simp) i

@[simp] theorem State.sendMsg_tags : (s.sendMsg cls key dest m ready stream tag).xfer.tags = s.xfer.tags := by
  obtain ⟨l, h⟩ := s.sendMsg_xfer cls key dest m ready stream tag
  rw [h]

end

@[simp] theorem State.dropMsg_front (s : State) (tag : Nat) : (s.dropMsg tag).front = s.front := rfl
@[simp] theorem State.dropMsg_fab (s : State) (tag : Nat) : (s.dropMsg tag).fab = s.fab := rfl
@[simp] theorem State.dropMsg_chan (s : State) (tag i : Nat) : (s.dropMsg tag).chan i = s.chan i := rfl
@[simp] theorem State.dropMsg_xfer (s : State) (tag : Nat) :
    (s.dropMsg tag).xfer = { s.xfer with localQ := s.xfer.localQ.filter (fun q => q.tag != some tag || q.ready) } := rfl

/-! ### Tags taken and freed -/

@[simp] theorem State.takeTag_chan (s : State) (a : TagAlloc) (i : Nat) : (s.takeTag a).chan i = s.chan i := rfl
@[simp] theorem State.takeTag_tags (s : State) (a : TagAlloc) : (s.takeTag a).xfer.tags = s.xfer.tags.take { a with issued := s.now } := rfl

/-- The entry a tag taken now gets. -/
def TagStore.entry (t : TagStore) (a : TagAlloc) : TagAlloc :=
  { a with tag := t.next.getD 0, use := (Table.get 0 t.uses (t.next.getD 0) + 1) % 64 }

@[simp] theorem TagStore.take_used (t : TagStore) (a : TagAlloc) : (t.take a).used = t.used ++ [t.entry a] := rfl

@[simp] theorem TagStore.free_used (t : TagStore) (tag : Nat) : (t.free tag).used = t.used.filter (fun a => a.tag != tag) := rfl

@[simp] theorem State.freeTag_front (s : State) (tag : Nat) : (s.freeTag tag).front = s.front := by
  unfold State.freeTag; dsimp only; split <;> rfl
@[simp] theorem State.freeTag_fab (s : State) (tag : Nat) : (s.freeTag tag).fab = s.fab := by
  unfold State.freeTag; dsimp only; split <;> rfl
@[simp] theorem State.freeTag_tags (s : State) (tag : Nat) : (s.freeTag tag).xfer.tags = s.xfer.tags.free tag := by
  unfold State.freeTag; dsimp only; split <;> rfl
@[simp] theorem State.freeTag_held (s : State) (tag : Nat) : (s.freeTag tag).xfer.held = s.xfer.held := by
  unfold State.freeTag; dsimp only; split <;> rfl
@[simp] theorem State.freeTag_chan (s : State) (tag i : Nat) : (s.freeTag tag).chan i = s.chan i := State.chan_congr (by simp) i

/-! ### A request formed -/

/-- One request of an operation formed between two states: the next tag goes to it, and of the front end the operation alone changes, which counts
one request more. -/
def State.FormsOne (s t : State) (o : OpRef) : Prop :=
  ∃ (a : TagAlloc) (n : Nat), a.owner = .op o ∧ a.pav = (s.chan o.chan).pav ∧ a.issued = s.now ∧ t.xfer.tags = s.xfer.tags.take a ∧
    t.front = (s.modOp o (fun q => q.formedMore n)).front

theorem State.takeTag_modOp_front (s : State) (a : TagAlloc) (o : OpRef) (f : OpSlot → OpSlot) :
    ((s.takeTag a).modOp o f).front = (s.modOp o f).front := rfl

/-- A request of an operation is formed by a tag taken for it and its count, whatever is sent with it. -/
theorem State.formsOne_of {s t : State} {o : OpRef} (kind : TagKind) (dest off len need n : Nat)
    (htags : t.xfer.tags = (s.takeTag (s.opTag o kind dest off len need)).xfer.tags)
    (hfront : t.front = (s.modOp o (fun q => q.formedMore n)).front) : s.FormsOne t o :=
  ⟨{ s.opTag o kind dest off len need with issued := s.now }, n, rfl, rfl, rfl, htags, hfront⟩

/-- Every request `formRequest` forms takes its tag for its operation, which counts it (R185). -/
theorem State.formRequest_formsOne {s : State} {o : OpRef} {q : OpSlot} (hq : s.opOf o = some q) (hf : q.formsNext = true) :
    s.FormsOne (s.formRequest o) o := by
  unfold OpSlot.formsNext at hf
  unfold State.formRequest
  cases hoper : q.oper with
  | none => simp [OpSlot.body, hoper] at hf
  | some p =>
    have hbody : q.body = p.body := by simp [OpSlot.body, hoper]
    rw [hbody, Bool.and_eq_true, decide_eq_true_eq] at hf
    obtain ⟨hrange, hkind⟩ := hf
    simp only [hq, hoper, if_neg (Nat.not_le.mpr hrange)]
    cases hb : p.body with
    | put src d => exact formsOne_of .write d.node q.formed q.nextLen q.nextLen q.nextLen (by simp) (by simp [takeTag_modOp_front])
    | putInline d => exact formsOne_of .write d.node 0 q.nextLen 0 q.nextLen (by simp) (by simp [takeTag_modOp_front])
    | get _ r => exact formsOne_of .read r.node q.formed q.nextLen 0 q.nextLen (by simp) (by simp [takeTag_modOp_front])
    | copy src d =>
      cases src with
      | localAddr => exact formsOne_of .write d.node q.formed q.nextLen q.nextLen q.nextLen (by simp) (by simp [takeTag_modOp_front])
      | remote r =>
        have hoff : r.offset + q.formed < 2 ^ 40 := by simpa [hb] using hkind
        simp only [if_neg (Nat.not_le.mpr hoff)]
        split
        · exact formsOne_of .measuredRead r.node q.formed q.nextLen 0 q.nextLen (by simp) (by simp [takeTag_modOp_front])
        · exact formsOne_of .copyReq r.node q.formed q.nextLen 0 q.nextLen (by simp) (by simp [takeTag_modOp_front])
    | kvmove k => exact formsOne_of .kvCmd k.srcNode 0 0 0 1 (by simp) (by simp [takeTag_modOp_front])
    | atomic a => exact formsOne_of .atomic a.tgt.node 0 (fmtSize a.fmt) 0 1 (by simp) (by simp [takeTag_modOp_front])
    | signal sem =>
      cases sem with
      | localAddr => simp [hb] at hkind
      | remote r => exact formsOne_of .atomic r.node 0 8 0 1 (by simp) (by simp [takeTag_modOp_front])
    | nop => simp [hb] at hkind
    | wait => simp [hb] at hkind
    | fence => simp [hb] at hkind
    | gatherRun => simp [hb] at hkind

/-- A state with the front end, the clock and the tag order of another. -/
structure State.SameForming (s u : State) : Prop where
  front : u.front = s.front
  now : u.now = s.now
  next : u.nextTag = s.nextTag
  used : u.xfer.tags.used = s.xfer.tags.used

/-- A request formed as seen from the state before the command: the next tag is in use for the operation, which counts one request more, and the
other channels stay. -/
theorem State.FormsOne.formed {s u t : State} {o : OpRef} {q : OpSlot} (h : u.FormsOne t o) (hu : s.SameForming u) (hq : s.opOf o = some q) :
    ∃ a, a ∈ t.xfer.tags.used ∧ a.owner = .op o ∧ a.tag = s.nextTag.1 ∧ a.use = s.nextTag.2 ∧ a.pav = (s.chan o.chan).pav ∧ a.issued = s.now ∧
      t.xfer.tags.used.length = s.xfer.tags.used.length + 1 ∧
      (∃ q2, t.opOf o = some q2 ∧ q2.out = q.out + 1 ∧ q.formed ≤ q2.formed ∧ q2.phase = q.phase) ∧ (∀ j, j ≠ o.chan → t.chan j = s.chan j) := by
  obtain ⟨a, n, howner, hpav, hissued, htags, hfront⟩ := h
  have hu' (j : Nat) : u.chan j = s.chan j := State.chan_congr (by rw [hu.front]) j
  have hchan (j : Nat) : t.chan j = (u.modOp o (fun q => q.formedMore n)).chan j := State.chan_congr (by rw [hfront]) j
  have hop : t.opOf o = some (q.formedMore n) := by
    rw [State.opOf_congr (hchan o.chan), State.modOp_opOf_same, State.opOf_congr (hu' o.chan), hq, Option.map_some]
  rw [← hu.next, ← hu.now, ← hu.used, ← hu']
  refine ⟨u.xfer.tags.entry a, ?_, howner, rfl, rfl, hpav, hissued, ?_, ⟨_, hop, rfl, Nat.le_add_right _ _, rfl⟩, ?_⟩
  · simp [htags]
  · simp [htags]
  · intro j hj
    rw [hchan, State.modOp_chan_other _ _ _ hj, hu']

/-! ### REQUEST_ISSUE and TAG_GRANT -/

theorem exec_requestIssue (o : OpRef) (s : State) : exec (.requestIssue o) s = act (s.issueDue o) s (s.requestIssue o) := rfl
theorem exec_tagGrant (pav : Nat) (s : State) :
    exec (.tagGrant pav) s = act (s.live && s.tagFree pav && (s.nextWaiter pav).isSome) s (s.tagGrant pav) := rfl

section
variable (s : State) (o : OpRef) (q : OpSlot)

@[simp] theorem State.takeSlot_front : (s.takeSlot o q).front = s.front := by unfold State.takeSlot; split <;> rfl
@[simp] theorem State.takeSlot_fab : (s.takeSlot o q).fab = s.fab := by unfold State.takeSlot; split <;> rfl
@[simp] theorem State.takeSlot_retained : (s.takeSlot o q).retained = s.retained := by unfold State.takeSlot; split <;> rfl
@[simp] theorem State.takeSlot_tags : (s.takeSlot o q).xfer.tags = s.xfer.tags := by unfold State.takeSlot; split <;> rfl
@[simp] theorem State.takeSlot_jobs : (s.takeSlot o q).xfer.jobs = s.xfer.jobs := by unfold State.takeSlot; split <;> rfl
@[simp] theorem State.takeSlot_chan (i : Nat) : (s.takeSlot o q).chan i = s.chan i := State.chan_congr (by simp) i
@[simp] theorem State.takeSlot_tagFree (pav : Nat) : (s.takeSlot o q).tagFree pav = s.tagFree pav := by
  unfold State.takeSlot; split <;> rfl
@[simp] theorem State.takeSlot_jobOf : (s.takeSlot o q).jobOf o = s.jobOf o := by simp [State.jobOf]

/-- A slot taken changes the frames of the clusters alone (R110). -/
theorem State.takeSlot_sameForming : s.SameForming (s.takeSlot o q) := ⟨by simp, by simp [State.now], by simp [State.nextTag], by simp⟩

end

/-- An operation that is due for REQUEST_ISSUE and has no data to write on does not wait for a tag. -/
theorem State.issueDue_not_waiting {s : State} {o : OpRef} (hdue : s.issueDue o = true) (hheld : s.heldWrite o = none) :
    s.waitsTag (.op o) = false := by
  unfold State.issueDue at hdue
  split at hdue
  case h_1 => simp at hdue
  case h_2 q _ =>
    have hwants : s.wantsIssue o q = true := by
      simp only [hheld, Option.isSome_none, Bool.false_or, Bool.and_eq_true] at hdue
      exact hdue.1.2
    unfold State.wantsIssue at hwants
    split at hwants
    · simp at hwants
    · simp only [Bool.and_eq_true, Bool.not_eq_true'] at hwants
      tauto

/-- REQUEST_ISSUE of an operation that is neither measured nor one that writes data on: the slot is taken, and the request formed or made to wait. -/
theorem State.requestIssue_plain {s : State} {o : OpRef} {q : OpSlot} (hq : s.opOf o = some q) (hmeas : q.measAt = none)
    (hheld : s.heldWrite o = none) : s.requestIssue o = (s.takeSlot o q).formOrWait o := by
  simp only [State.requestIssue, hq, hheld, hmeas]

theorem State.formFor_of_no_job {s : State} {o : OpRef} (hjob : s.jobOf o = none) : s.formFor o = s.formRequest o := by
  simp only [State.formFor, hjob]

theorem State.formOrWait_free {s : State} {o : OpRef} (hfree : s.tagFree (s.chan o.chan).pav = true) : s.formOrWait o = s.formFor o := by
  simp only [State.formOrWait, hfree, if_true]

theorem State.formOrWait_full {s : State} {o : OpRef} (hfree : s.tagFree (s.chan o.chan).pav = false) :
    s.formOrWait o = s.waitTag (s.chan o.chan).pav (.op o) := by
  simp [State.formOrWait, hfree]

/-- A request that waits for a tag stands at the end of the queue (R186). -/
theorem State.waitTag_of_not_waiting {s : State} {w : TagOwner} (h : s.waitsTag w = false) (pav : Nat) :
    s.waitTag pav w = s.modXfer (fun x => { x with tags := { x.tags with waiting := x.tags.waiting ++ [(pav, w)] } }) := by
  simp [State.waitTag, h]

/-- REQUEST_ISSUE with a tag free forms the request (R185). -/
theorem State.requestIssue_formsOne {s : State} {o : OpRef} {q : OpSlot} (hq : s.opOf o = some q) (hmeas : q.measAt = none)
    (hjob : s.jobOf o = none) (hheld : s.heldWrite o = none) (hfree : s.tagFree (s.chan o.chan).pav = true) (hf : q.formsNext = true) :
    (s.takeSlot o q).FormsOne (s.requestIssue o) o := by
  rw [State.requestIssue_plain hq hmeas hheld, State.formOrWait_free (by simpa using hfree), State.formFor_of_no_job (by simpa using hjob)]
  exact State.formRequest_formsOne ((State.opOf_congr (by simp)).trans hq) hf

/-- REQUEST_ISSUE with no tag free makes the request wait for one (R186). -/
theorem State.requestIssue_waits {s : State} {o : OpRef} {q : OpSlot} (hq : s.opOf o = some q) (hmeas : q.measAt = none)
    (hheld : s.heldWrite o = none) (hdue : s.issueDue o = true) (hfull : s.tagFree (s.chan o.chan).pav = false) :
    s.requestIssue o = (s.takeSlot o q).modXfer (fun x => { x with tags := { x.tags with
      waiting := x.tags.waiting ++ [((s.chan o.chan).pav, .op o)] } }) := by
  have hwait : (s.takeSlot o q).waitsTag (.op o) = false := by simpa [State.waitsTag] using State.issueDue_not_waiting hdue hheld
  rw [State.requestIssue_plain hq hmeas hheld, State.formOrWait_full (by simpa using hfull), State.waitTag_of_not_waiting hwait,
    State.takeSlot_chan]

/-- A request that waits no more for a tag. -/
def State.unwait (s : State) (w : Nat × TagOwner) : State :=
  s.modXfer (fun x => { x with tags := { x.tags with waiting := x.tags.waiting.erase w } })

theorem State.unwait_sameForming (s : State) (w : Nat × TagOwner) : s.SameForming (s.unwait w) := ⟨rfl, rfl, rfl, rfl⟩

/-- TAG_GRANT to an operation: it waits no more and its request is formed (R186). -/
theorem State.tagGrant_formsOne {s : State} {pav : Nat} {o : OpRef} {q : OpSlot} (hq : s.opOf o = some q) (hjob : s.jobOf o = none)
    (hnext : s.nextWaiter pav = some (pav, .op o)) (hf : q.formsNext = true) : (s.unwait (pav, .op o)).FormsOne (s.tagGrant pav) o := by
  have hgrant : s.tagGrant pav = (s.unwait (pav, .op o)).formFor o := by simp only [State.tagGrant, hnext, State.unwait]
  rw [hgrant, State.formFor_of_no_job (s := s.unwait (pav, .op o)) hjob]
  exact State.formRequest_formsOne (s := s.unwait (pav, .op o)) hq hf

/-! ### What a consumer takes off the queues -/

/-- Between two states the message queues change, and of the front end, the fabric, the retained state and the rest of the transfer side nothing. -/
structure State.QueuesOnly (s u : State) : Prop where
  front : u.front = s.front
  fab : u.fab = s.fab
  retained : u.retained = s.retained
  xfer : ∃ l, u.xfer = { s.xfer with localQ := l }

namespace State.QueuesOnly

theorem refl (s : State) : s.QueuesOnly s := ⟨rfl, rfl, rfl, s.xfer.localQ, rfl⟩

theorem trans {s u v : State} (h : s.QueuesOnly u) (k : u.QueuesOnly v) : s.QueuesOnly v := by
  obtain ⟨l, hl⟩ := h.xfer
  obtain ⟨m, hm⟩ := k.xfer
  exact ⟨k.front.trans h.front, k.fab.trans h.fab, k.retained.trans h.retained, m, by rw [hm, hl]⟩

variable {s u : State} (h : s.QueuesOnly u)
include h

theorem chan (i : Nat) : u.chan i = s.chan i := State.chan_congr (by rw [h.front]) i
theorem opOf (o : OpRef) : u.opOf o = s.opOf o := State.opOf_congr (h.chan o.chan)
theorem tags : u.xfer.tags = s.xfer.tags := by obtain ⟨l, hl⟩ := h.xfer; rw [hl]
theorem held : u.xfer.held = s.xfer.held := by obtain ⟨l, hl⟩ := h.xfer; rw [hl]
theorem tagAlloc (tag : Nat) : u.tagAlloc tag = s.tagAlloc tag := by rw [State.tagAlloc, h.tags, State.tagAlloc]

end State.QueuesOnly

theorem State.modPane_queuesOnly (s : State) (p : PortIx) (g : Pane → Pane) : s.QueuesOnly (s.modPane p g) :=
  ⟨rfl, rfl, rfl, s.xfer.localQ, rfl⟩

theorem State.sendMsg_queuesOnly (s : State) (cls key dest : Nat) (m : Msg) (ready : Bool) (stream : Nat) (tag : Option Nat) :
    s.QueuesOnly (s.sendMsg cls key dest m ready stream tag) := ⟨by simp, by simp, by simp, s.sendMsg_xfer ..⟩

theorem State.activity_queuesOnly (s : State) (n : Nat) : s.QueuesOnly (s.activity n) := ⟨rfl, rfl, rfl, s.xfer.localQ, rfl⟩

theorem State.releaseSlots_queuesOnly (s : State) (p : Option PortIx) (l : List Nat) : s.QueuesOnly (s.releaseSlots p l) := by
  unfold State.releaseSlots
  split
  · exact .refl s
  · exact s.modPane_queuesOnly _ _

theorem State.retiredMsg_queuesOnly (s : State) (p : PortIx) (hdr : LinkUnit) (slots : List Nat) : s.QueuesOnly (s.retiredMsg p hdr slots) := by
  unfold State.retiredMsg
  dsimp only
  split
  · exact (s.modPane_queuesOnly p _).trans (State.sendMsg_queuesOnly ..)
  · exact s.modPane_queuesOnly p _

/-- A sweep of a pool discards messages and answers them (R351). -/
theorem State.sweepPool_queuesOnly (p : PortIx) (n : Nat) (s : State) : s.QueuesOnly (State.sweepPool p n s) := by
  induction n generalizing s with
  | zero => exact .refl s
  | succ n ih =>
    unfold State.sweepPool
    split
    · exact .refl s
    · exact ((s.modPane_queuesOnly p _).trans (State.retiredMsg_queuesOnly ..)).trans (ih _)

/-- A message taken by its consumer leaves its queue, and the pool of its port is swept. -/
theorem State.consumed_queuesOnly (s : State) (src : MsgSource) : s.QueuesOnly (s.consumed src) := by
  unfold State.consumed
  split
  · exact .refl s
  · refine .trans ?_ (State.activity_queuesOnly ..)
    cases src with
    | port p vc => exact (s.modPane_queuesOnly p _).trans (State.sweepPool_queuesOnly ..)
    | sameNode =>
      dsimp only
      split
      · exact .refl s
      · exact ⟨rfl, rfl, rfl, _, rfl⟩

/-! ### The end of a request for its operation (R37, R77) -/

theorem State.opFail_opOf (s : State) (o : OpRef) (st n : Nat) :
    (s.opFail o st n).opOf o = (s.opOf o).map (fun q =>
      { q with status := if q.status = 0 then st else q.status, allFormed := true,
               out := q.out - n - (s.xfer.held.filter (fun w => w.op == o)).length }) := s.modOp_opOf_same o _

theorem State.opFail_chan_other (s : State) {o : OpRef} (st n : Nat) {j : Nat} (h : j ≠ o.chan) : (s.opFail o st n).chan j = s.chan j :=
  s.modOp_chan_other o _ h

@[simp] theorem State.opFail_fab (s : State) (o : OpRef) (st n : Nat) : (s.opFail o st n).fab = s.fab := rfl
@[simp] theorem State.opFail_used (s : State) (o : OpRef) (st n : Nat) : (s.opFail o st n).xfer.tags.used = s.xfer.tags.used := rfl
@[simp] theorem State.opFail_freed (s : State) (o : OpRef) (st n : Nat) : (s.opFail o st n).xfer.tags.freed = s.xfer.tags.freed := rfl

@[simp] theorem State.countMoved_chan (s : State) (o : OpRef) (k n i : Nat) : (s.countMoved o k n).chan i = s.chan i := rfl
@[simp] theorem State.countMoved_opOf (s : State) (o p : OpRef) (k n : Nat) : (s.countMoved o k n).opOf p = s.opOf p := State.opOf_congr rfl
@[simp] theorem State.countMoved_fab (s : State) (o : OpRef) (k n : Nat) : (s.countMoved o k n).fab = s.fab := rfl
@[simp] theorem State.countMoved_xfer (s : State) (o : OpRef) (k n : Nat) : (s.countMoved o k n).xfer = s.xfer := rfl

/-- The response to a write completes one request of its operation or fails the operation. -/
theorem State.opResponse_write (s : State) (o : OpRef) {a : TagAlloc} (hkind : a.kind = .write) (st fl : Nat) (data : List Byte) :
    s.opResponse o a st fl data = if goodStatus st then (s.opLess o 1).countMoved o 2 a.len else s.opFail o st 1 := by
  cases hgood : goodStatus st <;> simp [State.opResponse, hgood, hkind]

/-- A tag freed that was not withdrawn joins the back of the order (R62). -/
theorem TagStore.free_freed {t : TagStore} {a : TagAlloc} (ha : a ∈ t.used) (hw : a.withdrawn = false) :
    (t.free a.tag).freed = t.freed ++ [a.tag] := by
  have hany : t.used.any (fun b => b.tag == a.tag && !b.withdrawn) = true := List.any_eq_true.mpr ⟨a, ha, by simp [hw]⟩
  simp [TagStore.free, hany]

theorem State.tagAlloc_mem {s : State} {tag : Nat} {a : TagAlloc} (h : s.tagAlloc tag = some a) : a ∈ s.xfer.tags.used :=
  List.mem_of_find?_eq_some h

/-! ### RESPONSE (R61) -/

/-- The state a response is looked at in: its message has left its queue. -/
def State.afterMsg (s : State) (src : MsgSource) (m : Arrived) : State := (s.consumed src).releaseSlots m.port m.slots

theorem State.afterMsg_queuesOnly (s : State) (src : MsgSource) (m : Arrived) : s.QueuesOnly (s.afterMsg src m) :=
  (s.consumed_queuesOnly src).trans (State.releaseSlots_queuesOnly ..)

theorem exec_response {s : State} {src : MsgSource} {m : Arrived} (hlive : s.live = true) (harr : s.arrived src = some m)
    (hkind : m.msg.kind = kResponse) :
    exec (.response src) s = .next (s.keep ((s.afterMsg src m).takeResponse m.msg.hdr (rspData m.msg))) := by
  have hhead : s.headIs src kResponse = true := by simp [State.headIs, harr, hkind]
  show act (s.live && s.headIs src kResponse) s _ = _
  rw [hlive, hhead, harr]
  rfl

/-- A late response is counted, and nothing else. -/
theorem State.lateResponse_counts {s u : State} (h : s.QueuesOnly u) :
    (s.keep u.lateResponse).xfer.tags = { s.xfer.tags with late := s.xfer.tags.late + 1 } ∧ (s.keep u.lateResponse).front = s.front ∧
      (s.keep u.lateResponse).fab = s.fab :=
  ⟨by simp [State.lateResponse, h.tags], by simp [State.lateResponse, h.front], by simp [State.lateResponse, h.fab]⟩

theorem State.takeResponse_unknown {s : State} {h : LinkUnit} (htag : s.tagAlloc (hdrTag h) = none) (data : List Byte) :
    s.takeResponse h data = s.lateResponse := by
  simp only [State.takeResponse, htag]

theorem State.takeResponse_stale {s : State} {h : LinkUnit} {a : TagAlloc} (htag : s.tagAlloc (hdrTag h) = some a)
    (hstale : hdrSgen h ≠ s.retained.srcGen.toNat ∨ hdrUse h ≠ a.use) (data : List Byte) : s.takeResponse h data = s.lateResponse := by
  have hcond : (decide (hdrSgen h ≠ s.retained.srcGen.toNat) || decide (hdrUse h ≠ a.use) || a.withdrawn) = true := by
    rcases hstale with hs | hu
    · simp [hs]
    · simp [hu]
  simp only [State.takeResponse, htag, hcond, if_true]

/-- A response that matches an operation's tag frees it and ends the request. -/
theorem State.takeResponse_matched {s : State} {h : LinkUnit} {a : TagAlloc} {o : OpRef} (htag : s.tagAlloc (hdrTag h) = some a)
    (hsgen : hdrSgen h = s.retained.srcGen.toNat) (huse : hdrUse h = a.use) (hw : a.withdrawn = false)
    (hcgen : hdrCgen h = (s.chan a.chan).gen.toNat) (howner : a.owner = .op o) (data : List Byte) :
    s.takeResponse h data = ((s.freeTag a.tag).belvAdd 16 (belvId 0 3) 1).opResponse o a (rspStatus h) (rspFlags h) data := by
  simp [State.takeResponse, htag, hsgen, huse, hw, State.cgenOk, howner, TagOwner.hasChan, hcgen, State.ownerEnd]

/-- The response to a write of an operation: the tag is free, and the request is completed or its operation fails (R37, R77). -/
theorem State.takeResponse_write {s : State} {h : LinkUnit} {a : TagAlloc} {o : OpRef} {q : OpSlot} (htag : s.tagAlloc (hdrTag h) = some a)
    (hsgen : hdrSgen h = s.retained.srcGen.toNat) (huse : hdrUse h = a.use) (hw : a.withdrawn = false)
    (hcgen : hdrCgen h = (s.chan a.chan).gen.toNat) (howner : a.owner = .op o) (hkind : a.kind = .write) (hq : s.opOf o = some q)
    (data : List Byte) :
    (s.takeResponse h data).xfer.tags.used = s.xfer.tags.used.filter (fun b => b.tag != a.tag) ∧
      (s.takeResponse h data).xfer.tags.freed = s.xfer.tags.freed ++ [a.tag] ∧
      (s.takeResponse h data).opOf o = some (if goodStatus (rspStatus h) then { q with out := q.out - 1 }
        else { q with status := if q.status = 0 then rspStatus h else q.status, allFormed := true,
                      out := q.out - 1 - (s.xfer.held.filter (fun w => w.op == o)).length }) ∧
      (∀ j, j ≠ o.chan → (s.takeResponse h data).chan j = s.chan j) ∧ (s.takeResponse h data).fab = s.fab := by
  have hfreed := TagStore.free_freed (State.tagAlloc_mem htag) hw
  rw [State.takeResponse_matched htag hsgen huse hw hcgen howner, State.opResponse_write _ o hkind]
  have hop : ((s.freeTag a.tag).belvAdd 16 (belvId 0 3) 1).opOf o = some q := (State.opOf_congr (by simp)).trans hq
  split
  · refine ⟨by simp [State.opLess], by simp [State.opLess, hfreed], ?_, fun j hj => ?_, by simp [State.opLess]⟩
    · rw [State.countMoved_opOf, State.opLess, State.modOp_opOf_same, hop, Option.map_some]
    · rw [State.countMoved_chan, State.opLess, State.modOp_chan_other _ _ _ hj]
      simp
  · refine ⟨by simp, by simp [hfreed], ?_, fun j hj => ?_, by simp⟩
    · rw [State.opFail_opOf, hop, Option.map_some]
      simp
    · rw [State.opFail_chan_other _ _ _ hj]
      simp

/-! ### Timeouts (R63, R188) -/

theorem State.expired_of_passed {s : State} {tag : Nat} {a : TagAlloc} (htag : s.tagAlloc tag = some a)
    (hpassed : s.usPassed a.issued a.timeoutUs = true) : s.expired tag = some a := by
  simp only [State.expired, htag, hpassed, if_true]

theorem State.expired_of_not_passed {s : State} {tag : Nat} {a : TagAlloc} (htag : s.tagAlloc tag = some a)
    (hpassed : s.usPassed a.issued a.timeoutUs = false) : s.expired tag = none := by
  simp [State.expired, htag, hpassed]

/-- Before its time a tag does not run out. -/
theorem exec_timeouts_idle {s : State} {tag : Nat} (h : s.expired tag = none) :
    exec (.completionTimeout tag) s = .next s ∧ exec (.relayTimeout tag) s = .next s := by
  refine ⟨?_, ?_⟩
  · show execCompletionTimeout tag s = _
    rw [execCompletionTimeout, h]
  · show execRelayTimeout tag s = _
    rw [execRelayTimeout, h]

theorem exec_completionTimeout {s : State} {tag : Nat} {a : TagAlloc} (hlive : s.live = true) (h : s.expired tag = some a)
    (hown : s.ownTag a = true) : exec (.completionTimeout tag) s = .next (s.keep (s.completionTimeout a)) := by
  show execCompletionTimeout tag s = _
  rw [execCompletionTimeout, h]
  simp only [hlive, hown, Bool.and_true, act_due]

theorem exec_relayTimeout {s : State} {tag : Nat} {a : TagAlloc} (hlive : s.live = true) (h : s.expired tag = some a)
    (hown : s.ownTag a = false) : exec (.relayTimeout tag) s = .next (s.keep (s.relayTimeout a)) := by
  show execRelayTimeout tag s = _
  rw [execRelayTimeout, h]
  simp only [hlive, hown, Bool.not_false, Bool.and_true, act_due]

theorem State.timeoutStatus_not_good (s : State) (a : TagAlloc) : goodStatus (s.timeoutStatus a) = false := by
  unfold State.timeoutStatus
  repeat' split
  all_goals rfl

/-- A completion timeout of an operation of the present generation of its channel fails the operation (R63). -/
theorem State.completionTimeout_op {s : State} {a : TagAlloc} {o : OpRef} (howner : a.owner = .op o) (hstate : (s.chan a.chan).state ≠ .free)
    (hgen : (s.chan a.chan).gen.toNat = a.cgen) :
    s.completionTimeout a = ((s.freeTag a.tag).dropMsg a.tag).opFail o (s.timeoutStatus a) 1 := by
  have hok : s.genOk a.chan a.cgen = true := by simp [State.genOk, hgen, hstate]
  simp [State.completionTimeout, hok, State.ownerEnd, howner, State.opResponse, State.timeoutStatus_not_good]

/-! ### Releases that can end (R178) -/

/-- Between two states releases of windows end: their entries, their translations and their commands change, and of the channels, the ports, the
fabric and the rest of the transfer side nothing. -/
structure State.ReleasesOnly (s u : State) : Prop where
  chans : u.front.chans = s.front.chans
  fab : u.fab = s.fab
  ports : u.ports = s.ports
  xfer : ∃ w p, u.xfer = { s.xfer with wins := w, pwc := p }

namespace State.ReleasesOnly

theorem refl (s : State) : s.ReleasesOnly s := ⟨rfl, rfl, rfl, s.xfer.wins, s.xfer.pwc, rfl⟩

theorem trans {s u v : State} (h : s.ReleasesOnly u) (k : u.ReleasesOnly v) : s.ReleasesOnly v := by
  obtain ⟨w, p, hs⟩ := h.xfer
  obtain ⟨w', p', hu⟩ := k.xfer
  exact ⟨k.chans.trans h.chans, k.fab.trans h.fab, k.ports.trans h.ports, w', p', by rw [hu, hs]⟩

variable {s u : State} (h : s.ReleasesOnly u)
include h

theorem chan (i : Nat) : u.chan i = s.chan i := State.chan_congr h.chans i
theorem opOf (o : OpRef) : u.opOf o = s.opOf o := State.opOf_congr (h.chan o.chan)
theorem tags : u.xfer.tags = s.xfer.tags := by obtain ⟨w, p, hx⟩ := h.xfer; rw [hx]
theorem creqs : u.xfer.creqs = s.xfer.creqs := by obtain ⟨w, p, hx⟩ := h.xfer; rw [hx]
theorem localQ : u.xfer.localQ = s.xfer.localQ := by obtain ⟨w, p, hx⟩ := h.xfer; rw [hx]

end State.ReleasesOnly

theorem State.finish_chans (s : State) (r : AdminRef) (st a b c d : Nat) : (s.finish r st a b c d).front.chans = s.front.chans := by
  unfold State.finish; split <;> rfl

theorem State.finish_releasesOnly (s : State) (r : AdminRef) (st a b c d : Nat) : s.ReleasesOnly (s.finish r st a b c d) :=
  ⟨s.finish_chans r st a b c d, by simp, by simp, s.xfer.wins, s.xfer.pwc, by simp⟩

theorem State.endReleases_releasesOnly (s : State) : s.ReleasesOnly s.endReleases := by
  refine foldl_keeps .refl .trans (fun p _ t => ?_) s
  obtain ⟨w, e⟩ := p
  cases e with
  | none => exact .refl t
  | some e =>
    dsimp only
    split
    · split
      · refine .trans ?_ (State.finish_releasesOnly ..)
        exact ⟨rfl, rfl, rfl, _, _, rfl⟩
      · exact ⟨rfl, rfl, rfl, _, _, rfl⟩
    · exact .refl t

/-! ### The end of a request at the completer (R188) -/

/-- The request of an id is gone from the completer, no request is changed, and no message is queued. -/
structure State.Dropped (s u : State) (id : Nat) : Prop where
  chans : u.front.chans = s.front.chans
  used : u.xfer.tags.used = s.xfer.tags.used
  creqs : u.xfer.creqs = s.xfer.creqs.filter (fun q => q.id != id)
  localQ : u.xfer.localQ = s.xfer.localQ
  txq : ∀ p, (u.port p).pane.txq = (s.port p).pane.txq

theorem State.releaseSlots_txq (s : State) (p : Option PortIx) (l : List Nat) (k : PortIx) :
    ((s.releaseSlots p l).port k).pane.txq = (s.port k).pane.txq := by
  unfold State.releaseSlots
  split
  · rfl
  · next p =>
    by_cases hk : k = p
    · subst hk; simp
    · rw [State.modPane_port_other _ _ _ _ hk]

theorem State.releaseSlots_xfer (s : State) (p : Option PortIx) (l : List Nat) : (s.releaseSlots p l).xfer = s.xfer := by
  unfold State.releaseSlots; split <;> rfl

theorem State.endDest_eq (s : State) (id : Nat) : ∃ d p, s.endDest id = s.modXfer (fun x => { x with dests := d, pwc := p }) := by
  unfold State.endDest
  split
  · exact ⟨s.xfer.dests, s.xfer.pwc, rfl⟩
  · exact ⟨_, _, rfl⟩

theorem State.dropCreq_dropped (s : State) (r : CReq) : s.Dropped (s.dropCreq r) r.id := by
  unfold State.dropCreq
  obtain ⟨d, p, hend⟩ := State.endDest_eq ((((s.modXfer (fun x => { x with creqs := x.creqs.filter (fun q => q.id != r.id) })).releaseSlots
    r.port r.slots).pwcLeave (userReq r.id))) r.move
  rw [hend]
  refine ⟨?_, ?_, ?_, ?_, fun k => ?_⟩
  · exact congrArg FrontEnd.chans (State.releaseSlots_queuesOnly _ r.port r.slots).front
  · simp [State.pwcLeave, State.releaseSlots_xfer]
  · simp [State.pwcLeave, State.releaseSlots_xfer]
  · simp [State.pwcLeave, State.releaseSlots_xfer]
  · exact State.releaseSlots_txq _ r.port r.slots k

/-- With every request issued or walking nothing goes on. -/
theorem State.kick_idle {s : State} (h : ∀ x ∈ s.xfer.creqs, x.issued = true ∨ x.walking = true) : s.kick = s := by
  have hnone : s.xfer.creqs.filter (fun r => !r.issued && !r.walking) = [] := by
    rw [List.filter_eq_nil_iff]
    intro x hx
    rcases h x hx with hi | hw
    · simp [hi]
    · simp [hw]
  rw [State.kick, hnone, List.foldl_nil]

theorem State.creq_id {s : State} {id : Nat} {r : CReq} (h : s.creq id = some r) : r.id = id := by
  simpa using List.find?_some h

@[simp] theorem State.dropMsg_txq (s : State) (tag : Nat) (p : PortIx) :
    ((s.dropMsg tag).port p).pane.txq = (s.port p).pane.txq.filter (fun m => m.tag != some tag || m.ready) := by
  simp [State.dropMsg, State.modPorts, State.port]

@[simp] theorem State.freeTag_creqs (s : State) (tag : Nat) : (s.freeTag tag).xfer.creqs = s.xfer.creqs := by
  unfold State.freeTag; dsimp only; split <;> rfl
@[simp] theorem State.freeTag_localQ (s : State) (tag : Nat) : (s.freeTag tag).xfer.localQ = s.xfer.localQ := by
  unfold State.freeTag; dsimp only; split <;> rfl
@[simp] theorem State.freeTag_port (s : State) (tag : Nat) (p : PortIx) : (s.freeTag tag).port p = s.port p := by
  unfold State.freeTag; dsimp only; split <;> rfl

/-- A relay timeout frees the tag and drops the copy request, and sends nothing (R188). -/
theorem State.relayTimeout_relay {s : State} {a : TagAlloc} {id : Nat} {r : CReq} (howner : a.owner = .relay id) (hr : s.creq id = some r)
    (hothers : ∀ x ∈ s.xfer.creqs, x.id ≠ id → x.issued = true ∨ x.walking = true) :
    (s.relayTimeout a).xfer.tags.used = s.xfer.tags.used.filter (fun b => b.tag != a.tag) ∧ (s.relayTimeout a).creq r.id = none ∧
      (s.relayTimeout a).front.chans = s.front.chans ∧ (∀ x ∈ (s.relayTimeout a).xfer.localQ, x ∈ s.xfer.localQ) ∧
      (∀ p, ∀ x ∈ ((s.relayTimeout a).port p).pane.txq, x ∈ (s.port p).pane.txq) := by
  have hid : r.id = id := State.creq_id hr
  have hr1 : ((s.freeTag a.tag).dropMsg a.tag).creq id = some r := by simpa [State.creq] using hr
  have hdrop := ((s.freeTag a.tag).dropMsg a.tag).dropCreq_dropped r
  have hkick : (((s.freeTag a.tag).dropMsg a.tag).dropCreq r).kick = ((s.freeTag a.tag).dropMsg a.tag).dropCreq r := by
    refine State.kick_idle fun x hx => ?_
    rw [hdrop.creqs, hid] at hx
    simp only [State.dropMsg_xfer, State.freeTag_creqs, List.mem_filter, bne_iff_ne] at hx
    exact hothers x hx.1 hx.2
  have hend := State.endReleases_releasesOnly (((s.freeTag a.tag).dropMsg a.tag).dropCreq r)
  have heq : s.relayTimeout a = (((s.freeTag a.tag).dropMsg a.tag).dropCreq r).endReleases := by
    simp only [State.relayTimeout, howner, hr1, hkick]
  rw [heq]
  refine ⟨?_, ?_, ?_, fun x hx => ?_, fun p x hx => ?_⟩
  · rw [hend.tags, hdrop.used]
    simp
  · simp [State.creq, hend.creqs, hdrop.creqs]
  · rw [hend.chans, hdrop.chans]
    simp
  · rw [hend.localQ, hdrop.localQ] at hx
    simp only [State.dropMsg_xfer, State.freeTag_localQ] at hx
    exact (List.mem_filter.mp hx).1
  · have hport := congrArg (fun v => v[p]) hend.ports
    rw [State.port, hport] at hx
    have htx := hdrop.txq p
    rw [State.port] at htx
    rw [htx] at hx
    simp only [State.dropMsg_txq, State.freeTag_port] at hx
    exact (List.mem_filter.mp hx).1

/-- Settles O16: a request formed takes the next tag (`FormsOne`), a response and a timeout free theirs and end the request. -/
theorem requestsAndTags : Obligations.RequestsAndTags := by
  unfold Obligations.RequestsAndTags
  refine ⟨fun s o q hq hmeas hjob hheld => ?_, fun s src m hlive harr hkind => ⟨fun htag => ?_, fun a htag => ⟨fun hstale => ?_, ?_⟩⟩,
    fun s tag a hlive htag => ⟨fun hpassed => ?_, ?_, ?_⟩⟩
  · intro formed
    refine ⟨fun hdue hfree hf => ?_, fun hdue hfull => ?_, fun hlive hfree hnext hf => ?_⟩
    · obtain ⟨a, ha⟩ := (State.requestIssue_formsOne hq hmeas hjob hheld hfree hf).formed (s.takeSlot_sameForming o q) hq
      exact ⟨s.keep (s.requestIssue o), a, by rw [exec_requestIssue, hdue, act_due], ha⟩
    · refine ⟨s.keep (s.requestIssue o), by rw [exec_requestIssue, hdue, act_due], ?_⟩
      rw [State.requestIssue_waits hq hmeas hheld hdue hfull]
      simp
    · obtain ⟨a, ha⟩ := (State.tagGrant_formsOne hq hjob hnext hf).formed (s.unwait_sameForming _) hq
      exact ⟨s.keep (s.tagGrant (s.chan o.chan).pav), a, by rw [exec_tagGrant, hlive, hfree, hnext]; rfl, ha⟩
  · have hu := s.afterMsg_queuesOnly src m
    refine ⟨_, exec_response hlive harr hkind, ?_⟩
    rw [State.takeResponse_unknown ((hu.tagAlloc _).trans htag)]
    exact State.lateResponse_counts hu
  · have hu := s.afterMsg_queuesOnly src m
    refine ⟨_, exec_response hlive harr hkind, ?_⟩
    rw [State.takeResponse_stale ((hu.tagAlloc _).trans htag) (by rwa [hu.retained])]
    exact State.lateResponse_counts hu
  · intro o q hsgen huse hw hcgen howner hwrite hq
    have hu := s.afterMsg_queuesOnly src m
    obtain ⟨hused, hfreed, hop, hchan, hfab⟩ := State.takeResponse_write ((hu.tagAlloc _).trans htag) (by rwa [hu.retained]) huse hw
      (by rwa [hu.chan]) howner hwrite ((hu.opOf o).trans hq) (rspData m.msg)
    rw [hu.tags] at hused hfreed
    rw [hu.held] at hop
    exact ⟨_, exec_response hlive harr hkind, hused, hfreed, hop, fun j hj => (hchan j hj).trans (hu.chan j), hfab.trans hu.fab⟩
  · exact exec_timeouts_idle (State.expired_of_not_passed htag hpassed)
  · intro o q hpassed hw howner hq hstate hgen
    refine ⟨_, exec_completionTimeout hlive (State.expired_of_passed htag hpassed) (by simp [State.ownTag, howner]), ?_⟩
    rw [State.completionTimeout_op howner hstate hgen]
    have hop : ((s.freeTag a.tag).dropMsg a.tag).opOf o = some q := (State.opOf_congr (by simp)).trans hq
    refine ⟨by simp, fun j hj => ?_, by simp, ?_⟩
    · rw [State.keep_chan, State.opFail_chan_other _ _ _ hj]
      simp
    · rw [State.opOf_congr (State.keep_chan s _ _), State.opFail_opOf, hop, Option.map_some]
      simp [State.timeoutStatus, hw, stPeerDown, stTimeout]
  · intro id r hpassed howner hr hothers
    exact ⟨_, exec_relayTimeout hlive (State.expired_of_passed htag hpassed) (by simp [State.ownTag, howner]),
      State.relayTimeout_relay howner hr hothers⟩

end Sys2Proof.Machine
end

section
/-!
PROOFS. The end of operations, buffers and signal words (R37, R38, R114, R135, R136): what an end, a stop, a count and a fetch do to the channels, and
the statement OperationsAndBuffersComplete.
-/
namespace Sys2Proof.Machine

/-! ### The end of an operation in its buffer -/

@[simp] theorem Buffer.noteFail_ring (b : Buffer) (tick st k : Nat) : (b.noteFail tick st k).ring = b.ring := by
  unfold Buffer.noteFail; repeat' split
  all_goals rfl

@[simp] theorem Buffer.noteFail_ops (b : Buffer) (tick st k : Nat) : (b.noteFail tick st k).ops = b.ops := by
  unfold Buffer.noteFail; repeat' split
  all_goals rfl

/-- The dependencies of a buffer settled: its ring number stays, and so does every operation that is not waiting in a scoreboard. -/
structure Buffer.Settles (b c : Buffer) : Prop where
  ring : c.ring = b.ring
  ops : ∀ (k : Nat) (q : OpSlot), b.ops[k]? = some q → q.phase ≠ .admitted → c.ops[k]? = some q

theorem Buffer.Settles.refl (b : Buffer) : b.Settles b := ⟨rfl, fun _ _ h _ => h⟩

theorem Buffer.Settles.trans {b c d : Buffer} (h : b.Settles c) (k : c.Settles d) : b.Settles d :=
  ⟨k.ring.trans h.ring, fun i q hq hp => k.ops i q (h.ops i q hq hp) hp⟩

theorem Buffer.modOp_settles {b : Buffer} {i : Nat} {o : OpSlot} (hi : b.ops[i]? = some o) (ho : o.phase = .admitted) (f : OpSlot → OpSlot) :
    b.Settles (b.modOp i f) := by
  refine ⟨rfl, fun k q hq hp => ?_⟩
  have hne : i ≠ k := by
    rintro rfl
    rw [hi, Option.some.injEq] at hq
    exact hp (hq ▸ ho)
  simpa [Buffer.modOp, List.getElem?_modify, hne] using hq

theorem Buffer.ite_settles {b c : Buffer} {d : Bool} (h : d = true → b.Settles c) : b.Settles (if d then c else b) := by
  split
  · next hd => exact h hd
  · exact .refl b

theorem Buffer.settle_settles (b : Buffer) : b.Settles b.settle := by
  refine foldl_keeps .refl .trans (fun i _ c => ?_) b
  cases hi : c.ops[i]? with
  | none => exact .refl c
  | some o => exact Buffer.ite_settles fun hd => Buffer.modOp_settles hi (beq_iff_eq.mp (Bool.and_eq_true_iff.mp hd).1) _

/-- An operation after its end. -/
def OpSlot.endedWith (q : OpSlot) (st fl : Nat) : OpSlot := { q with phase := .ended, status := st, flags := fl, allFormed := true, out := 0 }

/-- What an operation's end leaves to settle: the buffer with that operation ended. -/
theorem Buffer.endOp_eq_settle (b : Buffer) (tick k st fl : Nat) (own : Bool) :
    ∃ c : Buffer, b.endOp tick k st fl own = c.settle ∧ c.ring = b.ring ∧ c.ops = b.ops.modify k (fun q => q.endedWith st fl) := by
  refine ⟨_, rfl, ?_, ?_⟩
  · split <;> simp
  · split
    · rfl
    · rw [Buffer.noteFail_ops]
      rfl

theorem Buffer.endOp_ring (b : Buffer) (tick k st fl : Nat) (own : Bool) : (b.endOp tick k st fl own).ring = b.ring := by
  obtain ⟨c, hend, hring, -⟩ := b.endOp_eq_settle tick k st fl own
  rw [hend, c.settle_settles.ring, hring]

/-- The operation ended has its status and flags; no settling of dependencies changes it. -/
theorem Buffer.endOp_op {b : Buffer} {k : Nat} {q : OpSlot} (h : b.ops[k]? = some q) (tick st fl : Nat) (own : Bool) :
    (b.endOp tick k st fl own).ops[k]? = some (q.endedWith st fl) := by
  obtain ⟨c, hend, -, hops⟩ := b.endOp_eq_settle tick k st fl own
  rw [hend]
  exact c.settle_settles.ops k _ (by simp [hops, h]) (by simp [OpSlot.endedWith])

/-! ### Ends noted (R204, R539) -/

/-- What a channel's stop decides: its state and its first failure. -/
def Channel.standing (c : Channel) : ChanState × Nat × Nat := (c.state, c.failStatus, c.failOp)

@[simp] theorem Channel.unbind_standing (c : Channel) (m : Nat) : (c.unbind m).standing = c.standing := rfl

/-- No measurement slot is open. -/
def State.NoneOpen (s : State) : Prop := ∀ k, (s.meas k).state ≠ .opened

theorem State.NoneOpen.of_meas {s u : State} (h : s.NoneOpen) (hm : u.xfer.meas = s.xfer.meas) : u.NoneOpen := by
  intro k
  rw [State.meas, hm]
  exact h k

/-- Between two states every channel, every port and every measurement slot stays. -/
structure State.ChansKept (s u : State) : Prop where
  ports : u.ports = s.ports
  chan : ∀ j, u.chan j = s.chan j
  meas : u.xfer.meas = s.xfer.meas

theorem State.ChansKept.refl (s : State) : s.ChansKept s := ⟨rfl, fun _ => rfl, rfl⟩

theorem State.ChansKept.trans {s u v : State} (h : s.ChansKept u) (k : u.ChansKept v) : s.ChansKept v :=
  ⟨k.ports.trans h.ports, fun j => (k.chan j).trans (h.chan j), k.meas.trans h.meas⟩

/-- Between two states ends of operations are noted: operations may lose their positions in measurement slots, and with no slot open no channel
changes at all. -/
structure State.EndsNoted (s u : State) : Prop where
  ports : u.ports = s.ports
  standing : ∀ j, (u.chan j).standing = (s.chan j).standing
  op : ∀ o q, s.opOf o = some q → ∃ q2, u.opOf o = some q2 ∧ q2.phase = q.phase ∧ q2.status = q.status
  closed : s.NoneOpen → u.xfer.meas = s.xfer.meas ∧ ∀ j, u.chan j = s.chan j

namespace State.EndsNoted

theorem of_kept {s u : State} (h : s.ChansKept u) : s.EndsNoted u :=
  ⟨h.ports, fun j => by rw [h.chan], fun o q hq => ⟨q, (State.opOf_congr (h.chan o.chan)).trans hq, rfl, rfl⟩, fun _ => ⟨h.meas, h.chan⟩⟩

theorem refl (s : State) : s.EndsNoted s := of_kept (.refl s)

theorem trans {s u v : State} (h : s.EndsNoted u) (k : u.EndsNoted v) : s.EndsNoted v where
  ports := k.ports.trans h.ports
  standing j := (k.standing j).trans (h.standing j)
  op o q hq := by
    obtain ⟨q2, hq2, hp2, hs2⟩ := h.op o q hq
    obtain ⟨q3, hq3, hp3, hs3⟩ := k.op o q2 hq2
    exact ⟨q3, hq3, hp3.trans hp2, hs3.trans hs2⟩
  closed hc := by
    obtain ⟨hm, hj⟩ := h.closed hc
    obtain ⟨hm2, hj2⟩ := k.closed (hc.of_meas hm)
    exact ⟨hm2.trans hm, fun j => (hj2 j).trans (hj j)⟩

end State.EndsNoted

/-- An operation that loses its positions in a slot. -/
def OpSlot.unbound (q : OpSlot) (m : Nat) : OpSlot := if q.measSlot = some m then { q with base := none } else q

theorem OpSlot.unbound_phase (q : OpSlot) (m : Nat) : (q.unbound m).phase = q.phase := by unfold OpSlot.unbound; split <;> rfl
theorem OpSlot.unbound_status (q : OpSlot) (m : Nat) : (q.unbound m).status = q.status := by unfold OpSlot.unbound; split <;> rfl

theorem Channel.unbind_op (c : Channel) (m : Nat) (o : OpRef) : (c.unbind m).op o = (c.op o).map (fun q => q.unbound m) := by
  have hbuf : (c.unbind m).buf o.ring = (c.buf o.ring).map (fun b => { b with ops := b.ops.map (fun q => q.unbound m) }) := by
    simp [Channel.buf, Channel.unbind, List.find?_map, OpSlot.unbound]
  rw [Channel.op, hbuf, Channel.op]
  cases c.buf o.ring <;> simp

/-- A slot unbound from its channel: of the channels that one alone changes, and of it the positions of its operations (R204). -/
theorem State.unbindSlot_opOf (s : State) (m i : Nat) (o : OpRef) :
    (s.unbindSlot m i).opOf o = (s.opOf o).map (fun q => if o.chan = i then q.unbound m else q) := by
  rw [State.opOf_eq, State.opOf_eq, State.unbindSlot, State.modXfer_chan]
  by_cases h : o.chan = i
  · subst h
    simp [Channel.unbind_op]
  · rw [State.modChan_chan_other _ _ h]
    simp [h]

theorem State.unbindSlot_standing (s : State) (m i j : Nat) : ((s.unbindSlot m i).chan j).standing = (s.chan j).standing := by
  rw [State.unbindSlot, State.modXfer_chan]
  by_cases h : j = i
  · subst h; simp
  · rw [State.modChan_chan_other _ _ h]

theorem State.failSlot_endsNoted (s : State) (m : Nat) : s.EndsNoted (s.failSlot m) := by
  unfold State.failSlot
  dsimp only
  split
  · next hopen =>
    refine ⟨rfl, fun j => State.unbindSlot_standing .., fun o q hq => ?_, fun hnone => absurd (beq_iff_eq.mp hopen) (hnone m)⟩
    rw [State.unbindSlot_opOf, State.opOf_congr (State.modXfer_chan ..), hq, Option.map_some]
    refine ⟨_, rfl, ?_, ?_⟩
    · split <;> simp [OpSlot.unbound_phase]
    · split <;> simp [OpSlot.unbound_status]
  · exact .refl s

theorem State.noteEnd_endsNoted (s : State) (pav bin : Nat) (o : OpSlot) : s.EndsNoted (s.noteEnd pav bin o) := by
  have hcount : s.EndsNoted (s.countOpEnd pav bin o.status) :=
    .of_kept ⟨by simp [State.countOpEnd], by simp [State.countOpEnd], by simp [State.countOpEnd]⟩
  unfold State.noteEnd
  dsimp only
  split
  · split
    · exact hcount
    · exact hcount.trans (State.failSlot_endsNoted ..)
  · exact hcount

/-- A buffer turned: it changes, and the ends of its operations are noted. -/
theorem State.turnBuf_endsNoted (s : State) (i : Nat) (b : Buffer) (f : Buffer → Buffer) :
    (s.modChan i (fun c => c.modBuf b.ring f)).EndsNoted (s.turnBuf i b f) :=
  foldl_keeps .refl .trans (fun _ _ t => t.noteEnd_endsNoted _ _ _) _

/-! ### What a stop does to the channels (R114, R119) -/

/-- Between two states one channel's buffers are counted, dropped or stopped: no channel's standing changes, and with no slot open no other channel
changes at all. -/
structure State.Halts (i : Nat) (s u : State) : Prop where
  ports : u.ports = s.ports
  standing : ∀ j, (u.chan j).standing = (s.chan j).standing
  closed : s.NoneOpen → u.xfer.meas = s.xfer.meas ∧ ∀ j, j ≠ i → u.chan j = s.chan j

namespace State.Halts

variable {i : Nat} {s u v : State}

theorem refl (s : State) : s.Halts i s := ⟨rfl, fun _ => rfl, fun _ => ⟨rfl, fun _ _ => rfl⟩⟩

theorem trans (h : s.Halts i u) (k : u.Halts i v) : s.Halts i v where
  ports := k.ports.trans h.ports
  standing j := (k.standing j).trans (h.standing j)
  closed hc := by
    obtain ⟨hm, hj⟩ := h.closed hc
    obtain ⟨hm2, hj2⟩ := k.closed (hc.of_meas hm)
    exact ⟨hm2.trans hm, fun j hne => (hj2 j hne).trans (hj j hne)⟩

theorem of_kept (h : s.ChansKept u) : s.Halts i u := ⟨h.ports, fun j => by rw [h.chan], fun _ => ⟨h.meas, fun j _ => h.chan j⟩⟩

theorem of_endsNoted (h : s.EndsNoted u) : s.Halts i u :=
  ⟨h.ports, h.standing, fun hc => ⟨(h.closed hc).1, fun j _ => (h.closed hc).2 j⟩⟩

/-- A change of the channel that leaves its standing. -/
theorem of_modChan (s : State) (i : Nat) {f : Channel → Channel} (hf : (f (s.chan i)).standing = (s.chan i).standing) :
    s.Halts i (s.modChan i f) := by
  refine ⟨by simp, fun j => ?_, fun _ => ⟨by simp, fun j hj => State.modChan_chan_other _ _ hj⟩⟩
  by_cases h : j = i
  · subst h; simpa using hf
  · rw [State.modChan_chan_other _ _ h]

end State.Halts

theorem State.turnBuf_halts (s : State) (i : Nat) (b : Buffer) (f : Buffer → Buffer) : s.Halts i (s.turnBuf i b f) :=
  (State.Halts.of_modChan s i rfl).trans (.of_endsNoted (s.turnBuf_endsNoted i b f))

theorem State.dropHeld_halts (s : State) (i : Nat) : s.Halts i (s.dropHeld i) := by
  refine .trans (u := s.modXfer (fun x => { x with held := x.held.filter (fun w => w.op.chan != i) })) (.of_kept ⟨rfl, fun _ => rfl, rfl⟩)
    (foldl_keeps .refl .trans (fun w hw t => ?_) _)
  have hchan : w.op.chan = i := by simpa using (List.mem_filter.mp hw).2
  exact hchan ▸ State.Halts.of_modChan t w.op.chan rfl

theorem State.dropFetch_halts (s : State) (i : Nat) (f : FabUse → Bool) : s.Halts i (s.dropFetch f) := .of_kept ⟨rfl, fun _ => rfl, rfl⟩

theorem State.disarm_halts (s : State) (i wid : Nat) : s.Halts i (s.disarm wid) := .of_kept ⟨by simp, by simp, by simp⟩

theorem State.stopEngines_halts (s : State) (i : Nat) (guilty : Bool) : s.Halts i (s.stopEngines i guilty) := by
  have hdisarm : s.Halts i ((s.front.waits.filter (fun w => w.2.chan == i)).foldl (fun t w => t.disarm w.1) s) :=
    foldl_keeps .refl .trans (fun w _ t => t.disarm_halts i w.1) s
  unfold State.stopEngines
  dsimp only
  refine .trans ?_ (.of_modChan _ i rfl)
  refine .trans ?_ (foldl_keeps .refl .trans (fun b _ t => t.turnBuf_halts i b _) _)
  refine .trans (hdisarm.trans ?_) (State.dropHeld_halts _ i)
  exact .of_kept ⟨rfl, fun _ => rfl, rfl⟩

/-! ### Buffers counted (R38, R113) -/

/-- A channel after a buffer of it is counted, with what is still to come for it. -/
def Channel.countedWith (c : Channel) (b : Buffer) (more : List PendRecord) : Channel :=
  { c with completed := c.completed + 1, bufs := c.bufs.filter (fun x => x.ring != b.ring), recs := c.recs ++ more,
           head := if b.begun then c.head else c.head + 1 }

theorem State.countBuffer_chan (s : State) (i : Nat) (b : Buffer) (st k : Nat) :
    ∃ more, ∀ j, (s.countBuffer i b st k).chan j = (s.modChan i (fun c => c.countedWith b more)).chan j := by
  unfold State.countBuffer
  dsimp only
  split
  · split
    · exact ⟨_, fun j => by rw [State.belvAdd_chan, State.belvAdd_chan, State.belvAdd_chan]; rfl⟩
    · exact ⟨_, fun j => by rw [State.issue_chan, State.belvAdd_chan, State.belvAdd_chan, State.belvAdd_chan]; rfl⟩
  · exact ⟨_, fun j => by rw [State.belvAdd_chan, State.belvAdd_chan, State.belvAdd_chan]; rfl⟩

@[simp] theorem State.countBuffer_ports (s : State) (i : Nat) (b : Buffer) (st k : Nat) : (s.countBuffer i b st k).ports = s.ports := by
  unfold State.countBuffer
  dsimp only
  repeat' split
  all_goals simp

@[simp] theorem State.countBuffer_xfer (s : State) (i : Nat) (b : Buffer) (st k : Nat) : (s.countBuffer i b st k).xfer = s.xfer := by
  unfold State.countBuffer
  dsimp only
  repeat' split
  all_goals simp

theorem State.countBuffer_halts (s : State) (i : Nat) (b : Buffer) (st k : Nat) : s.Halts i (s.countBuffer i b st k) := by
  obtain ⟨more, hchan⟩ := s.countBuffer_chan i b st k
  exact .trans (.of_modChan s i (f := fun c => c.countedWith b more) rfl) (.of_kept ⟨by simp, hchan, by simp⟩)

theorem State.countHeads_halts (i n : Nat) (s : State) : s.Halts i (s.countHeads i n) := by
  induction n generalizing s with
  | zero => exact .refl s
  | succ n ih =>
    unfold State.countHeads
    split
    · exact .refl s
    · exact (State.countBuffer_halts ..).trans (ih _)

theorem State.dropWaiting_halts (s : State) (i : Nat) : s.Halts i (s.dropWaiting i) :=
  (s.dropFetch_halts i _).trans (.of_modChan _ i rfl)

/-! ### A channel made GUILTY (R114) -/

/-- An active channel made GUILTY: what has completed is counted and what has not begun dropped, the channel has the state and the first failure, and
its engines stop. -/
theorem State.guilty_of_active {s : State} {i : Nat} (h : (s.chan i).state = .active) (st k : Nat) :
    ∃ u, s.Halts i u ∧ (u.modChan i (fun c => { c with state := .guilty, failStatus := st, failOp := k })).Halts i (s.guilty i st k) := by
  refine ⟨((s.counted i).dropWaiting i).dropFetch (ofChan i),
    ((State.countHeads_halts i 4 s).trans (State.dropWaiting_halts _ i)).trans (State.dropFetch_halts _ i _), ?_⟩
  have hguilty : s.guilty i st k = ((((s.counted i).dropWaiting i).dropFetch (ofChan i)).modChan i (fun c =>
      { c with state := .guilty, failStatus := st, failOp := k })).stopEngines i true := by
    simp [State.guilty, h, Channel.draining]
  rw [hguilty]
  exact State.stopEngines_halts ..

theorem State.guilty_standing {s : State} {i : Nat} (h : (s.chan i).state = .active) (st k : Nat) :
    ((s.guilty i st k).chan i).standing = (.guilty, st, k) := by
  obtain ⟨u, -, hstop⟩ := State.guilty_of_active h st k
  rw [hstop.standing, State.modChan_chan_same]
  rfl

theorem State.guilty_ports {s : State} {i : Nat} (h : (s.chan i).state = .active) (st k : Nat) : (s.guilty i st k).ports = s.ports := by
  obtain ⟨u, hcount, hstop⟩ := State.guilty_of_active h st k
  rw [hstop.ports, State.modChan_ports, hcount.ports]

theorem State.guilty_others {s : State} {i : Nat} (h : (s.chan i).state = .active) (hnone : s.NoneOpen) (st k : Nat) {j : Nat} (hj : j ≠ i) :
    (s.guilty i st k).chan j = s.chan j := by
  obtain ⟨u, hcount, hstop⟩ := State.guilty_of_active h st k
  obtain ⟨hm, hothers⟩ := hcount.closed hnone
  rw [(hstop.closed (hnone.of_meas hm)).2 j hj, State.modChan_chan_other _ _ hj, hothers j hj]

/-! ### The end of an operation (R37) -/

/-- What goes with an operation at its end: its watch and its jobs at this node. -/
def State.released (s : State) (o : OpRef) : State := ((s.countWait o).releaseWatch o).dropJobsOf o

theorem State.countWait_chansKept (s : State) (o : OpRef) : s.ChansKept (s.countWait o) := by
  unfold State.countWait
  repeat' split
  all_goals exact ⟨rfl, fun _ => rfl, rfl⟩

theorem State.releaseWatch_chansKept (s : State) (o : OpRef) : s.ChansKept (s.releaseWatch o) := by
  unfold State.releaseWatch
  split
  · exact .refl s
  · exact ⟨by simp, by simp [State.chan], by simp⟩

theorem State.dropJobsOf_chansKept (s : State) (o : OpRef) : s.ChansKept (s.dropJobsOf o) := by
  unfold State.dropJobsOf
  dsimp only
  split
  · exact .refl s
  · exact ⟨rfl, fun _ => rfl, rfl⟩

theorem State.released_chansKept (s : State) (o : OpRef) : s.ChansKept (s.released o) :=
  ((s.countWait_chansKept o).trans (State.releaseWatch_chansKept _ o)).trans (State.dropJobsOf_chansKept _ o)

/-- An operation ended in its buffer, before what its status does to its channel. -/
def State.endedIn (s : State) (o : OpRef) (b : Buffer) (st fl : Nat) (own : Bool) : State :=
  ((s.released o).turnBuf o.chan b (fun b => b.endOp s.now o.op st fl own)).activity (s.chan o.chan).pav

theorem State.endOp_eq {s : State} {o : OpRef} {b : Buffer} (hb : (s.chan o.chan).buf o.ring = some b) (st fl : Nat) (own : Bool) :
    s.endOp o st fl own = if guiltyStatus st && own then (s.endedIn o b st fl own).guilty o.chan st o.op else s.endedIn o b st fl own := by
  simp only [State.endOp, hb]
  rfl

section
variable {s : State} {o : OpRef} {b : Buffer} {q : OpSlot} (hb : (s.chan o.chan).buf o.ring = some b) (hq : b.ops[o.op]? = some q)
variable (st fl : Nat) (own : Bool)

theorem Channel.buf_ring {c : Channel} {ring : Nat} {b : Buffer} (h : c.buf ring = some b) : b.ring = ring := by
  simpa using List.find?_some h

/-- The state with the buffer of the ended operation changed, before the ends in it are noted. -/
def State.turned (s : State) (o : OpRef) (b : Buffer) (st fl : Nat) (own : Bool) : State :=
  (s.released o).modChan o.chan (fun c => c.modBuf b.ring (fun b => b.endOp s.now o.op st fl own))

theorem State.turned_endsNoted (s : State) (o : OpRef) (b : Buffer) (st fl : Nat) (own : Bool) :
    (s.turned o b st fl own).EndsNoted (s.endedIn o b st fl own) :=
  (State.turnBuf_endsNoted ..).trans (.of_kept ⟨rfl, fun _ => rfl, rfl⟩)

theorem State.endedIn_halts (s : State) (o : OpRef) (b : Buffer) (st fl : Nat) (own : Bool) : s.Halts o.chan (s.endedIn o b st fl own) :=
  (State.Halts.of_kept (s.released_chansKept o)).trans
    ((State.Halts.of_modChan (s.released o) o.chan rfl).trans (.of_endsNoted (s.turned_endsNoted o b st fl own)))

include hb hq

/-- The operation ended is the operation with its status and flags. -/
theorem State.turned_opOf : (s.turned o b st fl own).opOf o = some (q.endedWith st fl) := by
  rw [State.opOf_eq, State.turned, State.modChan_chan_same, (s.released_chansKept o).chan, Channel.op, Channel.buf_ring hb,
    Channel.buf_modBuf_same _ _ _ (fun b => b.endOp_ring s.now o.op st fl own), hb, Option.map_some, Option.bind_some, Buffer.endOp_op hq]

/-- Once the ends in its buffer are noted, the operation has ended with the status, and with no slot open it is as it was but for that. -/
theorem State.endedIn_opOf :
    ∃ q2, (s.endedIn o b st fl own).opOf o = some q2 ∧ q2.phase = .ended ∧ q2.status = st ∧ (s.NoneOpen → q2 = q.endedWith st fl) := by
  have hturned := State.turned_opOf hb hq st fl own
  have hnoted := s.turned_endsNoted o b st fl own
  obtain ⟨q2, hop, hphase, hstatus⟩ := hnoted.op o _ hturned
  refine ⟨q2, hop, hphase, hstatus, fun hnone => ?_⟩
  have hmeas : (s.turned o b st fl own).NoneOpen := hnone.of_meas (s.released_chansKept o).meas
  rw [State.opOf_congr ((hnoted.closed hmeas).2 o.chan), hturned] at hop
  exact (Option.some.inj hop).symm

end

/-! ### OPERATION_COMPLETE (R37, R114) -/

theorem exec_operationComplete (o : OpRef) (s : State) :
    exec (.operationComplete o) s = act (s.live && s.opDone o) s (s.completeOp o) := rfl

/-- An operation read back lies in a buffer of its channel. -/
theorem State.buf_of_opOf {s : State} {o : OpRef} {q : OpSlot} (h : s.opOf o = some q) :
    ∃ b, (s.chan o.chan).buf o.ring = some b ∧ b.ops[o.op]? = some q := by
  rw [State.opOf_eq, Channel.op] at h
  exact Option.bind_eq_some_iff.mp h

theorem guiltyStatus_of_good {st : Nat} (h : goodStatus st = true) : guiltyStatus st = false := by
  have hcases : st = 0 ∨ st = 1 := by simpa [goodStatus, stOk, stFlagged] using h
  rcases hcases with rfl | rfl <;> rfl

theorem ne_aborted_of_guilty {st : Nat} (h : guiltyStatus st = true) : (st != stAborted) = true := by
  rw [bne_iff_ne]
  rintro rfl
  exact absurd h (by decide)

/-- The end of an operation with a good status leaves its channel's state. -/
theorem State.completeOp_of_good {s : State} {o : OpRef} {q : OpSlot} {b : Buffer} (hq : s.opOf o = some q)
    (hb : (s.chan o.chan).buf o.ring = some b) (hgood : goodStatus q.endStatus = true) :
    s.completeOp o = (s.endedIn o b q.endStatus q.flags (q.endStatus != stAborted)).endReleases := by
  simp only [State.completeOp, hq, State.endOp_eq hb, guiltyStatus_of_good hgood, Bool.false_and, Bool.false_eq_true, if_false]

theorem State.completeOp_of_guilty {s : State} {o : OpRef} {q : OpSlot} {b : Buffer} (hq : s.opOf o = some q)
    (hb : (s.chan o.chan).buf o.ring = some b) (hguilty : guiltyStatus q.endStatus = true) :
    s.completeOp o = ((s.endedIn o b q.endStatus q.flags true).guilty o.chan q.endStatus o.op).endReleases := by
  simp only [State.completeOp, hq, ne_aborted_of_guilty hguilty, State.endOp_eq hb, hguilty, Bool.and_true, if_true]

theorem operationComplete_good {s : State} {o : OpRef} {q : OpSlot} (hlive : s.live = true) (hq : s.opOf o = some q) (hdone : s.opDone o = true)
    (hgood : goodStatus q.endStatus = true) :
    ∃ t q2, exec (.operationComplete o) s = .next t ∧ t.opOf o = some q2 ∧ q2.phase = .ended ∧ q2.status = q.endStatus ∧
      (t.chan o.chan).state = (s.chan o.chan).state ∧ t.ports = s.ports ∧
      (s.NoneOpen → q2 = q.endedWith q.endStatus q.flags ∧ ∀ j, j ≠ o.chan → t.chan j = s.chan j) := by
  obtain ⟨b, hb, hbq⟩ := State.buf_of_opOf hq
  have hends := State.endReleases_releasesOnly (s.endedIn o b q.endStatus q.flags (q.endStatus != stAborted))
  have hhalts := s.endedIn_halts o b q.endStatus q.flags (q.endStatus != stAborted)
  obtain ⟨q2, hop, hphase, hstatus, hsame⟩ := State.endedIn_opOf hb hbq q.endStatus q.flags (q.endStatus != stAborted)
  refine ⟨s.keep (s.completeOp o), q2, by rw [exec_operationComplete, hlive, hdone]; rfl, ?_⟩
  rw [State.opOf_congr (State.keep_chan ..), State.completeOp_of_good hq hb hgood, hends.opOf]
  simp only [State.keep_chan, State.keep_ports, hends.chan, hends.ports]
  exact ⟨hop, hphase, hstatus, congrArg Prod.fst (hhalts.standing o.chan), hhalts.ports,
    fun hnone => ⟨hsame hnone, (hhalts.closed hnone).2⟩⟩

theorem operationComplete_guilty {s : State} {o : OpRef} {q : OpSlot} (hlive : s.live = true) (hq : s.opOf o = some q)
    (hdone : s.opDone o = true) (hguilty : guiltyStatus q.endStatus = true) (hactive : (s.chan o.chan).state = .active) :
    ∃ t, exec (.operationComplete o) s = .next t ∧ (t.chan o.chan).standing = (.guilty, q.endStatus, o.op) ∧ t.ports = s.ports ∧
      (s.NoneOpen → ∀ j, j ≠ o.chan → t.chan j = s.chan j) := by
  obtain ⟨b, hb, -⟩ := State.buf_of_opOf hq
  have hhalts := s.endedIn_halts o b q.endStatus q.flags true
  have hstate : ((s.endedIn o b q.endStatus q.flags true).chan o.chan).state = .active :=
    (congrArg Prod.fst (hhalts.standing o.chan)).trans hactive
  have hends := State.endReleases_releasesOnly ((s.endedIn o b q.endStatus q.flags true).guilty o.chan q.endStatus o.op)
  refine ⟨s.keep (s.completeOp o), by rw [exec_operationComplete, hlive, hdone]; rfl, ?_⟩
  rw [State.completeOp_of_guilty hq hb hguilty]
  simp only [State.keep_chan, State.keep_ports, hends.chan, hends.ports]
  refine ⟨State.guilty_standing hstate _ _, (State.guilty_ports hstate _ _).trans hhalts.ports, fun hnone j hj => ?_⟩
  obtain ⟨hmeas, hothers⟩ := hhalts.closed hnone
  exact (State.guilty_others hstate (hnone.of_meas hmeas) _ _ hj).trans (hothers j hj)

/-! ### Accesses asked for -/

theorem State.asks_congr {s u : State} {r : FabRequest} (h : u.fab = s.fab) (hr : s.asks r) : u.asks r := by
  rwa [State.asks, h]

/-- An access issued is asked for. -/
theorem State.issue_asks (s : State) (r : FabRequest) : (s.issue r).asks r := by
  unfold State.issue
  split
  · exact .inl (by simp)
  · exact .inr ⟨_, List.mem_append_right _ (List.mem_singleton_self _), rfl, rfl, rfl, rfl, rfl, rfl⟩

/-- An access asked for stays so while others are issued. -/
theorem State.asks_issue {s : State} {r : FabRequest} (h : s.asks r) (q : FabRequest) : (s.issue q).asks r := by
  unfold State.issue
  split
  · exact h.imp (fun hw => List.mem_append_left _ hw) id
  · exact h.imp id (fun ⟨a, ha, hsame⟩ => ⟨a, List.mem_append_left _ ha, hsame⟩)

theorem State.asks_issueAll {r : FabRequest} (l : List FabRequest) {s : State} (h : s.asks r) : (s.issueAll l).asks r := by
  induction l generalizing s with
  | nil => exact h
  | cons q l ih => exact ih (State.asks_issue h q)

/-! ### Fetching on (R103, R107) -/

/-- Between two states a channel fetches: of the channels it alone changes, none of its buffers nor its count does, and every access asked for is
still asked for. -/
structure State.Fetches (i : Nat) (s u : State) : Prop where
  ports : u.ports = s.ports
  others : ∀ j, j ≠ i → u.chan j = s.chan j
  completed : (u.chan i).completed = (s.chan i).completed
  bufs : (u.chan i).bufs = (s.chan i).bufs
  asks : ∀ r, s.asks r → u.asks r

theorem State.Fetches.refl (i : Nat) (s : State) : s.Fetches i s := ⟨rfl, fun _ _ => rfl, rfl, rfl, fun _ h => h⟩

theorem State.Fetches.trans {i : Nat} {s u v : State} (h : s.Fetches i u) (k : u.Fetches i v) : s.Fetches i v :=
  ⟨k.ports.trans h.ports, fun j hj => (k.others j hj).trans (h.others j hj), k.completed.trans h.completed, k.bufs.trans h.bufs,
    fun r hr => k.asks r (h.asks r hr)⟩

theorem State.fetchOne_fetches (s : State) (i : Nat) : s.Fetches i s.fetchOne := by
  unfold State.fetchOne
  split
  · split
    · exact .refl i s
    · next f _ =>
      have hchan (j : Nat) : ((s.modFront (fun e => e.served f.1 f.2)).issueAll f.2.reqs).chan j = s.chan j := State.chan_congr (by simp [FrontEnd.served]) j
      exact ⟨by simp, fun j _ => hchan j, by rw [hchan], by rw [hchan],
        fun r hr => State.asks_issueAll _ (State.asks_congr (s.modFront_fab _) hr)⟩
  · exact .refl i s

theorem State.fetch_fetches (s : State) (pav chan : Nat) (l : List FabRequest) (i : Nat) : s.Fetches i (s.fetch pav chan l) := by
  refine .trans ?_ (State.fetchOne_fetches _ i)
  exact ⟨rfl, fun _ _ => rfl, rfl, rfl, fun _ h => h⟩

theorem State.readEntry_fetches (s : State) (i : Nat) (spec : Bool) : s.Fetches i (s.readEntry i spec) := by
  refine .trans ?_ (State.fetch_fetches ..)
  exact ⟨by simp, fun _ hj => State.modChan_chan_other _ _ hj, by simp, by simp, fun _ h => h⟩

theorem State.tryFetch_fetches (s : State) (i : Nat) : s.Fetches i (s.tryFetch i) := by
  unfold State.tryFetch
  dsimp only
  split
  · exact s.readEntry_fetches i false
  · exact .refl i s

/-! ### BUFFER_COMPLETE (R38) -/

theorem exec_bufferComplete (ch : Nat) (s : State) :
    exec (.bufferComplete ch) s = act (s.live && (s.bufferDone ch).isSome) s (s.bufferComplete ch) := rfl

/-- Where no buffer waits to begin, none begins. -/
theorem State.tryBegin_none {s : State} {i : Nat} (h : (s.chan i).waitingBuf = none) : s.tryBegin i = s := by
  simp only [State.tryBegin, h]

/-- A counted buffer leaves no buffer that waits to begin. -/
theorem Channel.countedWith_waitingBuf {c : Channel} (h : c.waitingBuf = none) (b : Buffer) (more : List PendRecord) :
    (c.countedWith b more).waitingBuf = none := by
  unfold Channel.waitingBuf at h ⊢
  rw [List.find?_eq_none] at h ⊢
  exact fun x hx => h x (List.mem_filter.mp hx).1

/-- The completion record of a good buffer is asked for. -/
theorem State.countBuffer_asks (s : State) (i : Nat) {b : Buffer} {h : BufHeader} (hhdr : b.hdr = some h) (hgood : b.faulty = false)
    (hrec : h.recordEn = true) (st k : Nat) :
    ∃ q : FabRequest, (s.countBuffer i b st k).asks q ∧ q.op = .write ∧ q.addr = h.recordAddr ∧ q.len = 32 ∧
      q.use = .record i (s.chan i).gen.toNat b.ring := by
  simp only [State.countBuffer, hhdr, hgood, hrec, Bool.not_true, Bool.or_false, Bool.false_eq_true, if_false]
  exact ⟨_, State.issue_asks .., rfl, rfl, rfl, rfl⟩

/-- With no buffer waiting to begin, BUFFER_COMPLETE counts the head buffer and fetches on. -/
theorem State.bufferComplete_fetches {s : State} {ch : Nat} {b : Buffer} {st k : Nat} (hdone : s.bufferDone ch = some (b, st, k))
    (hwait : (s.chan ch).waitingBuf = none) : (s.countBuffer ch b st k).Fetches ch (s.bufferComplete ch) := by
  obtain ⟨more, hchan⟩ := s.countBuffer_chan ch b st k
  have hnone : (((s.countBuffer ch b st k).activity (s.chan ch).pav).chan ch).waitingBuf = none := by
    rw [State.activity_chan, hchan, State.modChan_chan_same]
    exact Channel.countedWith_waitingBuf hwait b more
  have heq : s.bufferComplete ch = ((s.countBuffer ch b st k).activity (s.chan ch).pav).tryFetch ch := by
    simp only [State.bufferComplete, hdone, State.tryBegin_none hnone]
  rw [heq]
  refine .trans ?_ (State.tryFetch_fetches ..)
  exact ⟨rfl, fun _ _ => rfl, rfl, rfl, fun _ h => h⟩

theorem bufferComplete_counts {s : State} {ch : Nat} {b : Buffer} {st k : Nat} (hlive : s.live = true)
    (hdone : s.bufferDone ch = some (b, st, k)) (hwait : (s.chan ch).waitingBuf = none) :
    ∃ t, exec (.bufferComplete ch) s = .next t ∧ (t.chan ch).completed = (s.chan ch).completed + 1 ∧
      (∀ x ∈ (t.chan ch).bufs, x.ring ≠ b.ring) ∧ (∀ j, j ≠ ch → t.chan j = s.chan j) ∧ t.ports = s.ports ∧
      (∀ h, b.hdr = some h → b.faulty = false → h.recordEn = true → ∃ q : FabRequest, t.asks q ∧ q.op = .write ∧ q.addr = h.recordAddr ∧
        q.len = 32 ∧ q.use = .record ch (s.chan ch).gen.toNat b.ring) := by
  have hfetch := State.bufferComplete_fetches hdone hwait
  obtain ⟨more, hchan⟩ := s.countBuffer_chan ch b st k
  refine ⟨s.keep (s.bufferComplete ch), by rw [exec_bufferComplete, hlive, hdone]; rfl, ?_, fun x hx => ?_, fun j hj => ?_, ?_,
    fun h hhdr hgood hrec => ?_⟩
  · rw [State.keep_chan, hfetch.completed, hchan, State.modChan_chan_same]
    rfl
  · rw [State.keep_chan, hfetch.bufs, hchan, State.modChan_chan_same] at hx
    exact bne_iff_ne.mp (List.mem_filter.mp hx).2
  · rw [State.keep_chan, hfetch.others j hj, hchan, State.modChan_chan_other _ _ hj]
  · rw [State.keep_ports, hfetch.ports, State.countBuffer_ports]
  · obtain ⟨q, hasks, hq⟩ := s.countBuffer_asks ch hhdr hgood hrec st k
    exact ⟨q, hfetch.asks q hasks, hq⟩

/-! ### SIGNAL_WORD_WRITE (R135, R136) -/

theorem exec_signalWordWrite {s : State} {ch : Nat} {r : PendRecord} (hlive : s.live = true) (hsig : (s.chan ch).nextSig = some r)
    (hwaits : s.waitsTag (.sigWord ch) = false) (hanneal : s.annealed (s.chan ch).pav = false) :
    exec (.signalWordWrite ch) s = .next (s.keep (s.sigWrite ch)) := by
  show act (s.live && !s.annealed (s.chan ch).pav && (s.chan ch).nextSig.isSome && !s.waitsTag (.sigWord ch)) s _ = _
  rw [hlive, hsig, hwaits, hanneal]
  rfl

/-- A signal word formed holds a tag, and its record is no more to come. -/
theorem State.formSig_takes {s : State} {ch : Nat} {r : PendRecord} (hsig : (s.chan ch).nextSig = some r) :
    (∃ a ∈ (s.formSig ch).xfer.tags.used, a.owner = .sigWord ch ∧ a.dest = r.hdr.sigNode ∧ a.len = 8) ∧
      ((s.formSig ch).chan ch).recs = (s.chan ch).recs.filter (fun x => x != r) := by
  simp only [State.formSig, hsig]
  refine ⟨?_, by simp⟩
  rw [State.sendMsg_tags, State.modChan_xfer, State.takeTag_tags, TagStore.take_used]
  exact ⟨_, List.mem_append_right _ (List.mem_singleton_self _), rfl, rfl, rfl⟩

/-- Settles O15: what an end, a count and a stop do to the channels is said by `EndsNoted`, `Fetches` and `Halts`. -/
theorem operationsAndBuffersComplete : Obligations.OperationsAndBuffersComplete := by
  unfold Obligations.OperationsAndBuffersComplete
  refine fun s hlive => ⟨fun o q hq hdone => ⟨fun hgood => ?_, fun hguilty hactive => ?_⟩, fun ch b st k hdone hwait => ?_,
    fun ch r hsig hwaits hanneal => ⟨fun hfree => ?_, fun hfull => ?_⟩⟩
  · exact operationComplete_good hlive hq hdone hgood
  · obtain ⟨t, hexec, hstanding, hports, hothers⟩ := operationComplete_guilty hlive hq hdone hguilty hactive
    simp only [Channel.standing, Prod.mk.injEq] at hstanding
    obtain ⟨hstate, hstatus, hfailOp⟩ := hstanding
    exact ⟨t, hexec, hstate, hstatus, hfailOp, hports, hothers⟩
  · exact bufferComplete_counts hlive hdone hwait
  · refine ⟨_, exec_signalWordWrite hlive hsig hwaits hanneal, ?_⟩
    rw [State.sigWrite, if_pos hfree]
    exact State.formSig_takes hsig
  · refine ⟨_, exec_signalWordWrite hlive hsig hwaits hanneal, ?_⟩
    rw [State.sigWrite, if_neg (by simp [hfull]), State.waitTag_of_not_waiting hwaits]
    simp

end Sys2Proof.Machine
end

section
/-!
PROOFS. The statement LocalOperationsRun fails: the end of a WAIT reaches another channel through a measurement slot (R138, R204).
-/
namespace Sys2Proof.Machine

theorem exec_waitTimeout (o : OpRef) (s : State) :
    exec (.waitTimeout o) s = act (s.live && s.waitTimedOut o) s (s.endOp o stWaitTimeout 0) := rfl

/-- A PUT measured in slot 0, with positions in it, that waits for the operation of index 0. -/
def foreignPut : OpSlot :=
  { oper := some ⟨false, true, [0], .put 0x1000 ⟨5, 0, 0⟩ 0x1000 0⟩, phase := .admitted, base := some 0 }

/-- A WAIT of 1,000 ns armed at tick 0, without a watch. -/
def expiredWait : OpSlot := { oper := some ⟨false, false, [], .wait 0x3000 5 1000⟩, phase := .running }

/-- An ACTIVE channel with one begun buffer of the operations given. -/
def busyChannel (ops : List OpSlot) : Channel :=
  { state := .active, gen := 7, txn := 64, bufs := [{ ring := 9, begun := true, got := true, admitted := ops.length, ops := ops }] }

/-- Channel 0 holds a WAIT whose timeout has run and a measured PUT that depends on it; the PUT's slot is open and bound to channel 1, where an
operation has positions in it too. -/
def foreignSlotState : State :=
  { front := { chans := [(0, busyChannel [expiredWait, foreignPut]), (1, busyChannel [foreignPut])] },
    xfer := { meas := [(0, { state := .opened, handle := 1, objLen := 0x2000, cursor := 0x2000 })] },
    retained := { clock := 5000 } }

/-- The timeout of the WAIT ends the PUT ABORTED (R138), which fails its slot (R204), and the operations of channel 1 lose their positions. -/
theorem endOp_unbinds_other_channel :
    (foreignSlotState.endOp ⟨0, 9, 0⟩ stWaitTimeout 0).chan 1 ≠ foreignSlotState.chan 1 := by decide +kernel

theorem waitTimeout_reaches_other_channel {t : State} (h : exec (.waitTimeout ⟨0, 9, 0⟩) foreignSlotState = .next t) :
    t.chan 1 ≠ foreignSlotState.chan 1 := by
  have hdue : (foreignSlotState.live && foreignSlotState.waitTimedOut ⟨0, 9, 0⟩) = true := by decide +kernel
  rw [exec_waitTimeout, hdue, act_due] at h
  rw [← Host.Outcome.next.inj h, State.keep_chan]
  exact endOp_unbinds_other_channel

/-- Refutes O14. A WAIT that times out ends ABORTED the measured operations that depend on it (R138), and their slots become FAILED, which takes the
positions of every operation of the channel a slot is bound to (R204). The clause of WAIT_TIMEOUT says that every other channel stays, and no premise
of it excludes an open slot bound to another channel (O15 has one): in `foreignSlotState` slot 0 is bound to channel 1, and channel 1 changes. -/
theorem not_localOperationsRun : ¬ Obligations.LocalOperationsRun := by
  unfold Obligations.LocalOperationsRun
  rintro ⟨-, -, hwait⟩
  have htimeout := (hwait foreignSlotState ⟨0, 9, 0⟩ expiredWait 0x3000 5 1000 (by decide +kernel) (by decide +kernel) rfl).2 rfl
  obtain ⟨-, -, -, hends⟩ := htimeout
  obtain ⟨t, q2, hexec, -, -, -, -, hothers, -⟩ := hends (by decide +kernel)
  exact waitTimeout_reaches_other_channel hexec (hothers 1 (by decide))

end Sys2Proof.Machine
end

section
/-!
SUPPORT. What reading an admin ring, a command or a channel gives after the updates of the front end, said once (R85, R90, R109, R124).
-/
namespace Sys2Proof.Machine

/-! ### Admin rings read back -/

/-- An admin ring is read from the front end's rings alone. -/
theorem State.ring_congr {s t : State} (h : t.front.rings = s.front.rings) (pav : Nat) : t.ring pav = s.ring pav := by
  simp [State.ring, h]

@[simp] theorem State.modRing_ring_same (s : State) (pav : Nat) (f : AdminRing → AdminRing) : (s.modRing pav f).ring pav = f (s.ring pav) := by
  simp [State.modRing, State.ring]

@[simp] theorem State.modRing_cmds (s : State) (pav : Nat) (f : AdminRing → AdminRing) : (s.modRing pav f).front.cmds = s.front.cmds := rfl
@[simp] theorem State.modRing_chans (s : State) (pav : Nat) (f : AdminRing → AdminRing) : (s.modRing pav f).front.chans = s.front.chans := rfl
@[simp] theorem State.modRing_admin0En (s : State) (pav : Nat) (f : AdminRing → AdminRing) :
    (s.modRing pav f).front.admin0En = s.front.admin0En := rfl

@[simp] theorem State.keep_ring (s t : State) (pav : Nat) : (s.keep t).ring pav = t.ring pav := rfl
@[simp] theorem State.arm_ring (s : State) (w a p pav : Nat) : (s.arm w a p).ring pav = s.ring pav := State.ring_congr (by simp) pav
@[simp] theorem State.disarm_ring (s : State) (w pav : Nat) : (s.disarm w).ring pav = s.ring pav := State.ring_congr (by simp) pav
@[simp] theorem State.issue_ring (s : State) (q : FabRequest) (pav : Nat) : (s.issue q).ring pav = s.ring pav := State.ring_congr (by simp) pav
@[simp] theorem State.raiseContained_ring (s : State) (e : ErrorReport) (pav : Nat) : (s.raiseContained e).ring pav = s.ring pav :=
  State.ring_congr (by simp) pav

/-! ### Watches read back (R556) -/

theorem State.arm_armed (s : State) (w a p : Nat) : w ∈ (s.arm w a p).watch.armed := by simp [State.arm]

theorem State.disarm_not_armed (s : State) (w : Nat) : w ∉ (s.disarm w).watch.armed := by
  unfold State.disarm
  split
  · simp
  · next h => exact h

/-- A DISARM arms nothing. -/
theorem State.mem_of_mem_disarm {s : State} {w v : Nat} (h : v ∈ (s.disarm w).watch.armed) : v ∈ s.watch.armed := by
  unfold State.disarm at h
  split at h
  · exact (List.mem_filter.mp h).1
  · exact h

/-! ### The fetch unit (R109) -/

/-- Between two states accesses are issued: of the front end the queue and the turns of the fetch unit may change and nothing else, and
the ports, the watches and the fault controller stay. -/
structure State.Issues (s u : State) : Prop where
  front : ∃ q p c, u.front = { s.front with fetchQ := q, fetchRrPav := p, fetchRrChan := c }
  ports : u.ports = s.ports
  watch : u.watch = s.watch
  flt : u.flt = s.flt

namespace State.Issues

theorem refl (s : State) : s.Issues s := ⟨⟨_, _, _, rfl⟩, rfl, rfl, rfl⟩

theorem trans {s u v : State} (h : s.Issues u) (k : u.Issues v) : s.Issues v := by
  obtain ⟨q, p, c, hf⟩ := h.front
  obtain ⟨q', p', c', hg⟩ := k.front
  exact ⟨⟨q', p', c', by rw [hg, hf]⟩, k.ports.trans h.ports, k.watch.trans h.watch, k.flt.trans h.flt⟩

variable {s u : State} (h : s.Issues u)
include h

theorem chans : u.front.chans = s.front.chans := by obtain ⟨q, p, c, hf⟩ := h.front; rw [hf]
theorem cmds : u.front.cmds = s.front.cmds := by obtain ⟨q, p, c, hf⟩ := h.front; rw [hf]
theorem rings : u.front.rings = s.front.rings := by obtain ⟨q, p, c, hf⟩ := h.front; rw [hf]
theorem chan (i : Nat) : u.chan i = s.chan i := State.chan_congr h.chans i
theorem ring (pav : Nat) : u.ring pav = s.ring pav := State.ring_congr h.rings pav

end State.Issues

theorem State.issue_issues (s : State) (r : FabRequest) : s.Issues (s.issue r) := ⟨⟨_, _, _, by rw [State.issue_front]⟩, by simp, by simp, by simp⟩

theorem State.modFab_issues (s : State) (g : Fabric → Fabric) : s.Issues (s.modFab g) := ⟨⟨_, _, _, rfl⟩, rfl, rfl, rfl⟩

theorem State.issueAll_issues (l : List FabRequest) (s : State) : s.Issues (s.issueAll l) :=
  foldl_keeps .refl .trans (fun r _ t => t.issue_issues r) s

theorem State.issueWaiting_issues (s : State) : s.Issues s.issueWaiting := (s.modFab_issues _).trans (State.issueAll_issues _ _)

theorem State.fetchOne_issues (s : State) : s.Issues s.fetchOne := by
  unfold State.fetchOne
  split
  · split
    · exact .refl s
    · next f _ =>
      have hserved : s.Issues (s.modFront (fun e => e.served f.1 f.2)) := ⟨⟨_, _, _, rfl⟩, rfl, rfl, rfl⟩
      exact hserved.trans (State.issueAll_issues _ _)
  · exact .refl s

theorem State.fetch_issues (s : State) (pav chan : Nat) (l : List FabRequest) : s.Issues (s.fetch pav chan l) := by
  have hqueued : s.Issues (s.modFront (fun e => { e with fetchQ := e.fetchQ ++ [{ pav := pav, chan := chan, reqs := l }] })) :=
    ⟨⟨_, _, _, rfl⟩, rfl, rfl, rfl⟩
  exact hqueued.trans (State.fetchOne_issues _)

theorem State.dropFetch_issues (s : State) (f : FabUse → Bool) : s.Issues (s.dropFetch f) := ⟨⟨_, _, _, rfl⟩, rfl, rfl, rfl⟩

/-! ### Admin commands (R88, R90) -/

theorem State.cmd_congr {s t : State} (h : t.front.cmds = s.front.cmds) (r : AdminRef) : t.cmd r = s.cmd r := by
  simp [State.cmd, h]

/-- A command that is taken and not begun has no result. -/
theorem State.unfinished_of_cmdIs {s : State} {r : AdminRef} {op : Nat} (h : s.cmdIs r op = true) :
    (s.cmd r).any AdminCmd.unfinished = true := by
  unfold State.cmdIs at h
  split at h
  case h_1 c hc =>
    have hphase : c.phase = .taken := by simpa using (Bool.and_eq_true_iff.mp h).2
    simp [hc, AdminCmd.unfinished, hphase]
  case h_2 => cases h

/-- A command changed keeps its name. -/
theorem State.setCmdPhase_cmd (s : State) (r : AdminRef) (p : CmdPhase) :
    (s.setCmdPhase r p).cmd r = (s.cmd r).map (fun c => { c with phase := p }) := by
  simp only [State.cmd, State.setCmdPhase, State.modLodge_front, State.modFront_front, List.find?_map]
  have hname : (fun c : AdminCmd => c.isRef r) ∘ (fun c : AdminCmd => if c.isRef r then { c with phase := p } else c) = fun c => c.isRef r := by
    funext c
    simp only [Function.comp_apply]
    split <;> rfl
  rw [hname]
  cases hc : s.front.cmds.find? (fun c => c.isRef r) with
  | none => rfl
  | some c => simp [List.find?_some hc]

/-- The result of a command that had none stands once it is finished (R88, R90). -/
theorem State.finish_phaseOf {s : State} {r : AdminRef} (h : (s.cmd r).any AdminCmd.unfinished = true) (st r1 r2 r3 ra : Nat) :
    (s.finish r st r1 r2 r3 ra).phaseOf r = some (.finished st ra r1 r2 r3) := by
  have hcmd : (s.finish r st r1 r2 r3 ra).cmd r = (s.setCmdPhase r (.finished st ra r1 r2 r3)).cmd r := by
    rw [State.finish, if_pos h]
    exact State.cmd_congr rfl r
  rw [State.phaseOf, hcmd, State.setCmdPhase_cmd]
  cases hc : s.cmd r with
  | none => simp [hc] at h
  | some c => rfl

@[simp] theorem State.finish_chan (s : State) (r : AdminRef) (st a b c d i : Nat) : (s.finish r st a b c d).chan i = s.chan i :=
  State.chan_congr (s.finish_chans r st a b c d) i

end Sys2Proof.Machine
end

section
/-!
PROOFS. Admin rings start and stop, read TAIL and take entries (R90, R101, R102, R105, R124, R577): the statement AdminRingsAreFed.
-/
namespace Sys2Proof.Machine

/-! ### ADMIN0_EN (R124) -/

theorem exec_admin0Enable (s : State) : exec .admin0Enable s = act s.regsOpen s (s.setAdmin0 true) := rfl
theorem exec_admin0Disable (s : State) : exec .admin0Disable s = act s.regsOpen s (s.setAdmin0 false) := rfl

/-- The doorbell record of a ring that is read is asked for. -/
theorem State.readAdminDb_asks (s : State) (pav : Nat) :
    (s.readAdminDb pav).asks { op := .read, addr := (s.ring pav).db, len := 4, pav := pav, use := .adminDoorbell pav (s.ring pav).epoch } :=
  State.issue_asks ..

theorem State.readAdminDb_issues (s : State) (pav : Nat) : s.Issues (s.readAdminDb pav) := State.issue_issues ..

/-- A ring that starts: the next epoch, counts at zero and PHASE 1. -/
def AdminRing.started (q : AdminRing) (base log2 cmpl db tick : Nat) : AdminRing :=
  { epoch := q.epoch + 1, enabled := true, base := base, log2 := log2, cmpl := cmpl, db := db, lastPoll := tick }

theorem State.startRing_eq (s : State) (pav base log2 cmpl db : Nat) :
    s.startRing pav base log2 cmpl db =
      ((s.modRing pav (fun q => q.started base log2 cmpl db s.now)).arm (adminWid pav) db pav).readAdminDb pav := rfl

theorem State.startRing_ring (s : State) (pav base log2 cmpl db : Nat) :
    (s.startRing pav base log2 cmpl db).ring pav = (s.ring pav).started base log2 cmpl db s.now := by
  rw [State.startRing_eq, (State.readAdminDb_issues ..).ring, State.arm_ring, State.modRing_ring_same]

theorem State.startRing_asks (s : State) (pav base log2 cmpl db : Nat) :
    (s.startRing pav base log2 cmpl db).asks
      { op := .read, addr := db, len := 4, pav := pav, use := .adminDoorbell pav ((s.ring pav).epoch + 1) } := by
  have h := State.readAdminDb_asks ((s.modRing pav (fun q => q.started base log2 cmpl db s.now)).arm (adminWid pav) db pav) pav
  rwa [State.arm_ring, State.modRing_ring_same] at h

theorem State.startRing_armed (s : State) (pav base log2 cmpl db : Nat) :
    adminWid pav ∈ (s.startRing pav base log2 cmpl db).watch.armed := by
  rw [State.startRing, (State.readAdminDb_issues ..).watch]
  exact State.arm_armed ..

theorem State.startRing_admin0En (s : State) (pav base log2 cmpl db : Nat) :
    (s.startRing pav base log2 cmpl db).front.admin0En = s.front.admin0En := by
  simp [State.startRing, State.readAdminDb]

/-- The state in which an enable finds no command of the previous one outstanding. -/
def State.enabling (s : State) : State :=
  (s.modFront (fun e => { e with admin0En := true })).modRing 0 (fun r => { r with wanted := true })

/-- An enable with no command of the previous one outstanding starts the ring at once. -/
theorem State.setAdmin0_enable {s : State} (hoff : s.front.admin0En = false) (hidle : s.ringBusy 0 = false) :
    s.setAdmin0 true = s.enabling.startRing0 := by
  have hwanted : (s.enabling.ring 0).wanted = true := by rw [State.enabling, State.modRing_ring_same]
  have hbusy : s.enabling.ringBusy 0 = false := hidle
  have hset : s.setAdmin0 true = s.enabling.startWanted 0 := by simp [State.setAdmin0, hoff, State.enabling]
  simp [hset, State.startWanted, hwanted, hbusy]

/-- ADMIN0_ENABLE starts the Pavilion 0 ring from the FRONT registers (R124). -/
theorem admin0Enable_starts {s : State} (hopen : s.regsOpen = true) (hoff : s.front.admin0En = false) (hidle : s.ringBusy 0 = false) :
    ∃ t, exec .admin0Enable s = .next t ∧ t.front.admin0En = true ∧ (t.ring 0).enabled = true ∧
      (t.ring 0).base = bits s.front.admin0Ring 55 12 * 4096 ∧ (t.ring 0).log2 = bits s.front.admin0Ring 59 56 ∧
      (t.ring 0).head = 0 ∧ (t.ring 0).next = 0 ∧ (t.ring 0).phase = true ∧ 4096 ∈ t.watch.armed ∧
      t.asks { op := .read, addr := bits s.front.admin0Db 55 6 * 64, len := 4, pav := 0, use := .adminDoorbell 0 ((s.ring 0).epoch + 1) } := by
  refine ⟨s.keep s.enabling.startRing0, by rw [exec_admin0Enable, hopen, act_due, State.setAdmin0_enable hoff hidle], ?_⟩
  have hring : (s.keep s.enabling.startRing0).ring 0 = _ := State.startRing_ring ..
  rw [hring]
  refine ⟨State.startRing_admin0En .., rfl, rfl, rfl, rfl, rfl, rfl, State.startRing_armed .., ?_⟩
  have hepoch : (s.enabling.ring 0).epoch = (s.ring 0).epoch := by rw [State.enabling, State.modRing_ring_same]; rfl
  rw [← hepoch]
  exact State.startRing_asks ..

/-- ADMIN0_DISABLE stops the Pavilion 0 ring (R124). -/
theorem admin0Disable_stops {s : State} (hopen : s.regsOpen = true) (hon : s.front.admin0En = true) :
    ∃ t, exec .admin0Disable s = .next t ∧ t.front.admin0En = false ∧ (t.ring 0).enabled = false ∧ 4096 ∉ t.watch.armed ∧
      t.front.cmds = s.front.cmds ∧ t.front.chans = s.front.chans := by
  have hset : s.setAdmin0 false = (s.modFront (fun e => { e with admin0En := false })).stopRing 0 := by simp [State.setAdmin0, hon]
  refine ⟨s.keep ((s.modFront (fun e => { e with admin0En := false })).stopRing 0), by rw [exec_admin0Disable, hopen, act_due, hset], ?_⟩
  refine ⟨?_, ?_, State.disarm_not_armed _ _, ?_, ?_⟩ <;> simp [State.stopRing, State.dropFetch]

/-! ### Reading TAIL (R101, R102) -/

theorem exec_adminDoorbellNotify (pav : Nat) (s : State) :
    exec (.adminDoorbellNotify pav) s = act (s.live && s.watching (adminWid pav) && (s.ring pav).enabled) s (s.readAdminDb pav) := rfl
theorem exec_adminDoorbellPoll (pav : Nat) (s : State) :
    exec (.adminDoorbellPoll pav) s =
      act (s.live && s.adminPollDue pav) s ((s.modRing pav (fun r => { r with lastPoll := s.now })).readAdminDb pav) := rfl

theorem adminDoorbellNotify_reads {s : State} {pav : Nat} (hlive : s.live = true) (hon : (s.ring pav).enabled = true)
    (hwatch : s.watching (4096 + pav) = true) :
    ∃ t, exec (.adminDoorbellNotify pav) s = .next t ∧
      t.asks { op := .read, addr := (s.ring pav).db, len := 4, pav := pav, use := .adminDoorbell pav (s.ring pav).epoch } ∧
      t.front = s.front ∧ t.ports = s.ports := by
  refine ⟨s.keep (s.readAdminDb pav), ?_, s.readAdminDb_asks pav, State.issue_front .., (State.readAdminDb_issues ..).ports⟩
  rw [exec_adminDoorbellNotify, hlive, hon, adminWid, hwatch]
  rfl

theorem adminDoorbellPoll_reads {s : State} {pav : Nat} (hlive : s.live = true) (hdue : s.adminPollDue pav = true) :
    ∃ t, exec (.adminDoorbellPoll pav) s = .next t ∧
      t.asks { op := .read, addr := (s.ring pav).db, len := 4, pav := pav, use := .adminDoorbell pav (s.ring pav).epoch } ∧
      t.ring pav = { s.ring pav with lastPoll := s.now } ∧ t.front.chans = s.front.chans ∧ t.ports = s.ports := by
  have hissues := (s.modRing pav (fun r => { r with lastPoll := s.now })).readAdminDb_issues pav
  refine ⟨s.keep ((s.modRing pav (fun r => { r with lastPoll := s.now })).readAdminDb pav), ?_, ?_, ?_, hissues.chans, hissues.ports⟩
  · rw [exec_adminDoorbellPoll, hlive, hdue]
    rfl
  · have hasks := (s.modRing pav (fun r => { r with lastPoll := s.now })).readAdminDb_asks pav
    rwa [State.modRing_ring_same] at hasks
  · rw [State.keep_ring, hissues.ring, State.modRing_ring_same]

/-! ### Entries fetched (R90, R105, R109, R577) -/

/-- A fetch of entries changes whether one is out, and nothing else of its ring. -/
theorem State.adminFetch_ring (s : State) (pav : Nat) : ∃ out, (s.adminFetch pav).ring pav = { s.ring pav with entryOut := out } := by
  unfold State.adminFetch
  dsimp only
  split
  · exact ⟨true, by rw [(State.fetch_issues ..).ring, State.modRing_ring_same]⟩
  · exact ⟨(s.ring pav).entryOut, rfl⟩

theorem State.adminFetch_due {s : State} {pav : Nat} (hlive : s.live = true) (hon : (s.ring pav).enabled = true)
    (hout : (s.ring pav).entryOut = false) (hfault : (s.ring pav).faultAt = none) (hlow : 1 ≤ (s.ring pav).pending)
    (hhigh : (s.ring pav).pending ≤ 2 ^ (s.ring pav).log2) : ((s.adminFetch pav).ring pav).entryOut = true := by
  unfold State.adminFetch
  dsimp only
  rw [if_pos (by simp [hlive, hon, hout, hfault, hlow, hhigh]), (State.fetch_issues ..).ring, State.modRing_ring_same]

@[simp] theorem State.adminFetch_cmds (s : State) (pav : Nat) : (s.adminFetch pav).front.cmds = s.front.cmds := by
  unfold State.adminFetch
  dsimp only
  split
  · rw [(State.fetch_issues ..).cmds, State.modRing_cmds]
  · rfl

@[simp] theorem State.adminFetch_chans (s : State) (pav : Nat) : (s.adminFetch pav).front.chans = s.front.chans := by
  unfold State.adminFetch
  dsimp only
  split
  · rw [(State.fetch_issues ..).chans, State.modRing_chans]
  · rfl

@[simp] theorem State.adminFetch_ports (s : State) (pav : Nat) : (s.adminFetch pav).ports = s.ports := by
  unfold State.adminFetch
  dsimp only
  split
  · rw [(State.fetch_issues ..).ports, State.modRing_ports]
  · rfl

/-! ### Answers to reads of a ring -/

theorem exec_adminDoorbellReadDone (pav : Nat) (res : ReadResult) (s : State) :
    exec (.adminDoorbellReadDone pav res) s = act (s.live && s.hasUse (isAdminDb pav)) s
      ((((s.dropFirst (isAdminDb pav)).adminDbAnswer pav (s.useEpoch (isAdminDb pav)) (.ofRead res)).issueWaiting).fetchOne) := rfl
theorem exec_adminEntryReadDone (pav : Nat) (res : ReadResult) (s : State) :
    exec (.adminEntryReadDone pav res) s = act (s.live && s.hasUse (isAdminEntry pav)) s
      ((((s.dropFirst (isAdminEntry pav)).adminEntryAnswer pav (s.useEpoch (isAdminEntry pav)) (.ofRead res)).issueWaiting).fetchOne) := rfl

theorem State.dropFirst_issues (s : State) (f : FabUse → Bool) : s.Issues (s.dropFirst f) := s.modFab_issues _

/-- Waiting accesses and fetch reads follow an answer. -/
theorem State.followed_issues (s : State) : s.Issues s.issueWaiting.fetchOne := s.issueWaiting_issues.trans (State.fetchOne_issues _)

/-- The answer to a doorbell read of an earlier start is taken for nothing (R105). -/
theorem State.adminDbAnswer_stale {s : State} {pav epoch : Nat} (h : epoch ≠ (s.ring pav).epoch) (res : FabResult) :
    s.adminDbAnswer pav epoch res = s := by
  simp [State.adminDbAnswer, Ne.symm h]

/-- The answer to an entry read of an earlier start is taken for nothing (R105). -/
theorem State.adminEntryAnswer_stale {s : State} {pav epoch : Nat} (h : epoch ≠ (s.ring pav).epoch) (res : FabResult) :
    s.adminEntryAnswer pav epoch res = s := by
  simp [State.adminEntryAnswer, Ne.symm h]

theorem adminDoorbellReadDone_stale {s : State} {pav : Nat} (hlive : s.live = true) (hout : s.hasUse (isAdminDb pav) = true)
    (hstale : s.useEpoch (isAdminDb pav) ≠ (s.ring pav).epoch) (res : ReadResult) :
    ∃ t, exec (.adminDoorbellReadDone pav res) s = .next t ∧ t.ring pav = s.ring pav ∧ t.flt = s.flt := by
  have hissues := (s.dropFirst_issues (isAdminDb pav)).trans (State.followed_issues _)
  refine ⟨s.keep (s.dropFirst (isAdminDb pav)).issueWaiting.fetchOne, ?_, hissues.ring pav, hissues.flt⟩
  rw [exec_adminDoorbellReadDone, hlive, hout, State.adminDbAnswer_stale (s := s.dropFirst _) hstale]
  rfl

theorem adminEntryReadDone_stale {s : State} {pav : Nat} (hlive : s.live = true) (hout : s.hasUse (isAdminEntry pav) = true)
    (hstale : s.useEpoch (isAdminEntry pav) ≠ (s.ring pav).epoch) (res : ReadResult) :
    ∃ t, exec (.adminEntryReadDone pav res) s = .next t ∧ t.ring pav = s.ring pav ∧ t.front.cmds = s.front.cmds := by
  have hissues := (s.dropFirst_issues (isAdminEntry pav)).trans (State.followed_issues _)
  refine ⟨s.keep (s.dropFirst (isAdminEntry pav)).issueWaiting.fetchOne, ?_, hissues.ring pav, hissues.cmds⟩
  rw [exec_adminEntryReadDone, hlive, hout, State.adminEntryAnswer_stale (s := s.dropFirst _) hstale]
  rfl

/-! ### TAIL taken (R105) -/

/-- What the answer to a doorbell read makes of its ring, whatever entry is fetched on it: TAIL, and ADMIN_OVERRUN beyond the ring size. -/
structure AdminRing.TailTaken (q t : AdminRing) (w : BitVec 32) : Prop where
  tail : t.tail = w
  head : t.head = q.head
  overrun : t.overrun = decide (2 ^ q.log2 < (w - q.head).toNat)

theorem State.adminDbAnswer_data {s : State} {pav : Nat} (hon : (s.ring pav).enabled = true) (l : List Byte) :
    (s.ring pav).TailTaken ((s.adminDbAnswer pav (s.ring pav).epoch (.data l)).ring pav) (BitVec.ofNat 32 (leAt l 0 4)) ∧
      (s.adminDbAnswer pav (s.ring pav).epoch (.data l)).front.chans = s.front.chans ∧
      (s.adminDbAnswer pav (s.ring pav).epoch (.data l)).ports = s.ports := by
  unfold State.adminDbAnswer
  simp only [hon, Bool.not_true, bne_self_eq_false, Bool.or_self, Bool.false_eq_true, if_false, State.modRing_ring_same, AdminRing.pending]
  split
  · next hover =>
    refine ⟨?_, by simp, by simp⟩
    rw [State.raiseContained_ring]
    simp only [State.modRing_ring_same]
    exact ⟨rfl, rfl, (decide_eq_true hover).symm⟩
  · next hfits =>
    refine ⟨?_, by simp, by simp⟩
    obtain ⟨out, hring⟩ := State.adminFetch_ring (((s.modRing pav (fun r => { r with faultAt := none })).modRing pav (fun r =>
      { r with tail := BitVec.ofNat 32 (leAt l 0 4) })).modRing pav (fun r => { r with overrun := false })) pav
    rw [hring]
    simp only [State.modRing_ring_same]
    exact ⟨rfl, rfl, (decide_eq_false hfits).symm⟩

theorem adminDoorbellReadDone_data {s : State} {pav : Nat} (hlive : s.live = true) (hon : (s.ring pav).enabled = true)
    (hout : s.hasUse (isAdminDb pav) = true) (hepoch : s.useEpoch (isAdminDb pav) = (s.ring pav).epoch) (l : List Byte) :
    ∃ t, exec (.adminDoorbellReadDone pav (.data l)) s = .next t ∧ (t.ring pav).tail = BitVec.ofNat 32 (leAt l 0 4) ∧
      (t.ring pav).head = (s.ring pav).head ∧
      (t.ring pav).overrun = decide (2 ^ (s.ring pav).log2 < (BitVec.ofNat 32 (leAt l 0 4) - (s.ring pav).head).toNat) ∧
      t.front.chans = s.front.chans ∧ t.ports = s.ports := by
  have hdrop := s.dropFirst_issues (isAdminDb pav)
  have hfollow := ((s.dropFirst (isAdminDb pav)).adminDbAnswer pav (s.ring pav).epoch (.data l)).followed_issues
  obtain ⟨htaken, hchans, hports⟩ := State.adminDbAnswer_data (s := s.dropFirst (isAdminDb pav)) (by rwa [hdrop.ring]) l
  rw [hdrop.ring] at htaken hchans hports
  refine ⟨s.keep ((s.dropFirst (isAdminDb pav)).adminDbAnswer pav (s.ring pav).epoch (.data l)).issueWaiting.fetchOne,
    by rw [exec_adminDoorbellReadDone, hlive, hout, hepoch]; rfl, ?_⟩
  simp only [State.keep_ring, State.keep_front, State.keep_ports, hfollow.ring, hfollow.chans, hfollow.ports]
  exact ⟨htaken.tail, htaken.head, htaken.overrun, hchans.trans hdrop.chans, hports.trans hdrop.ports⟩

/-! ### ADMIN_ENTRY_RETRY (R577) -/

theorem exec_adminEntryRetry (pav : Nat) (s : State) :
    exec (.adminEntryRetry pav) s = act (s.live && (s.ring pav).enabled && (s.ring pav).faultAt.any (fun t => s.usPassed t 1000)) s
      ((s.modRing pav (fun r => { r with faultAt := none })).adminFetch pav) := rfl

theorem adminEntryRetry_fetches {s : State} {pav : Nat} (hlive : s.live = true) (hon : (s.ring pav).enabled = true)
    (hdue : (s.ring pav).faultAt.any (fun f => s.usPassed f 1000) = true) :
    ∃ t, exec (.adminEntryRetry pav) s = .next t ∧ (t.ring pav).faultAt = none ∧
      ((s.ring pav).entryOut = false → 1 ≤ (s.ring pav).pending → (s.ring pav).pending ≤ 2 ^ (s.ring pav).log2 → (t.ring pav).entryOut = true) ∧
      t.front.chans = s.front.chans ∧ t.ports = s.ports := by
  refine ⟨s.keep ((s.modRing pav (fun r => { r with faultAt := none })).adminFetch pav), by rw [exec_adminEntryRetry, hlive, hon, hdue]; rfl,
    ?_, fun hout hlow hhigh => ?_, by simp, by simp⟩
  · obtain ⟨out, hring⟩ := (s.modRing pav (fun r => { r with faultAt := none })).adminFetch_ring pav
    rw [State.keep_ring, hring, State.modRing_ring_same]
  · refine State.adminFetch_due (s := s.modRing pav _) hlive ?_ ?_ ?_ ?_ ?_
    all_goals rw [State.modRing_ring_same]
    · exact hon
    · exact hout
    · exact hlow
    · exact hhigh

/-! ### Entries taken (R90) -/

/-- Between two states admin commands are answered or queued: the rings, the channels and the ports stay, and so does every command but for where it
stands. -/
structure State.Disposes (s u : State) : Prop where
  rings : u.front.rings = s.front.rings
  chans : u.front.chans = s.front.chans
  ports : u.ports = s.ports
  cmds : ∀ c ∈ s.front.cmds, ∃ d ∈ u.front.cmds, d.pav = c.pav ∧ d.entry = c.entry ∧ d.words = c.words

theorem State.Disposes.of_front {s u : State} (h : u.front = s.front) (hports : u.ports = s.ports) : s.Disposes u :=
  ⟨by rw [h], by rw [h], hports, fun c hc => ⟨c, by rwa [h], rfl, rfl, rfl⟩⟩

theorem State.Disposes.trans {s u v : State} (h : s.Disposes u) (k : u.Disposes v) : s.Disposes v := by
  refine ⟨k.rings.trans h.rings, k.chans.trans h.chans, k.ports.trans h.ports, fun c hc => ?_⟩
  obtain ⟨d, hd, hpav, hentry, hwords⟩ := h.cmds c hc
  obtain ⟨e, he, hpav', hentry', hwords'⟩ := k.cmds d hd
  exact ⟨e, he, hpav'.trans hpav, hentry'.trans hentry, hwords'.trans hwords⟩

theorem State.finish_disposes (s : State) (r : AdminRef) (st a b c d : Nat) : s.Disposes (s.finish r st a b c d) := by
  unfold State.finish
  split
  · refine ⟨rfl, rfl, rfl, fun x hx => ⟨_, List.mem_map_of_mem hx, ?_⟩⟩
    split <;> exact ⟨rfl, rfl, rfl⟩
  · exact .of_front rfl rfl

/-- HEAD and TAKEN pass the entry, and its command is taken. -/
def State.passEntry (s : State) (pav : Nat) (l : List Byte) : State :=
  ((s.modRing pav (fun q => { q with head := q.head + 1, taken := q.taken + 1, entryOut := false })).modFront
    (fun e => { e with cmds := e.cmds ++ [{ pav := pav, entry := (s.ring pav).head.toNat, words := wordsOf l 8 }] })).activity pav

theorem State.passEntry_ring (s : State) (pav : Nat) (l : List Byte) :
    (s.passEntry pav l).ring pav = { s.ring pav with head := (s.ring pav).head + 1, taken := (s.ring pav).taken + 1, entryOut := false } :=
  s.modRing_ring_same pav (fun q => { q with head := q.head + 1, taken := q.taken + 1, entryOut := false })

theorem State.passEntry_cmds (s : State) (pav : Nat) (l : List Byte) : (s.passEntry pav l).front.cmds =
    s.front.cmds ++ [{ pav := pav, entry := (s.ring pav).head.toNat, words := wordsOf l 8 }] := rfl

/-- An entry taken is passed, then its command answered or queued, then the next entry fetched. -/
theorem State.takeAdmin_disposes (s : State) (pav : Nat) (l : List Byte) :
    ∃ u, (s.passEntry pav l).Disposes u ∧ s.takeAdmin pav l = u.adminFetch pav := by
  unfold State.takeAdmin
  dsimp only
  rw [← State.passEntry]
  refine ⟨_, ?_, rfl⟩
  split
  · exact State.finish_disposes ..
  · split
    · exact State.finish_disposes ..
    · split
      · split
        · refine .trans ?_ (State.finish_disposes ..)
          exact .of_front (State.drawn_front _) (State.drawn_ports _)
        · exact .of_front rfl rfl
      · exact .of_front rfl rfl

theorem State.adminEntryAnswer_data {s : State} {pav : Nat} (hon : (s.ring pav).enabled = true) (hout : (s.ring pav).entryOut = true)
    (hlow : 1 ≤ (s.ring pav).pending) (hhigh : (s.ring pav).pending ≤ 2 ^ (s.ring pav).log2) (l : List Byte) :
    s.adminEntryAnswer pav (s.ring pav).epoch (.data l) = s.takeAdmin pav l := by
  have hrange : ¬((s.ring pav).pending = 0 ∨ 2 ^ (s.ring pav).log2 < (s.ring pav).pending) := by omega
  simp [State.adminEntryAnswer, hon, hout, hrange]

/-- A returned entry of a ring with entries pending is taken (R90). -/
theorem adminEntryReadDone_takes {s : State} {pav : Nat} (hlive : s.live = true) (huse : s.hasUse (isAdminEntry pav) = true)
    (hepoch : s.useEpoch (isAdminEntry pav) = (s.ring pav).epoch) (hon : (s.ring pav).enabled = true) (hout : (s.ring pav).entryOut = true)
    (hlow : 1 ≤ (s.ring pav).pending) (hhigh : (s.ring pav).pending ≤ 2 ^ (s.ring pav).log2) (l : List Byte) :
    ∃ t, exec (.adminEntryReadDone pav (.data l)) s = .next t ∧ (t.ring pav).head = (s.ring pav).head + 1 ∧
      (t.ring pav).taken = (s.ring pav).taken + 1 ∧
      (∃ c ∈ t.front.cmds, c.pav = pav ∧ c.entry = (s.ring pav).head.toNat ∧ c.words = wordsOf l 8) ∧
      t.front.chans = s.front.chans ∧ t.ports = s.ports := by
  have hdrop : (s.dropFirst (isAdminEntry pav)).ring pav = s.ring pav := (s.dropFirst_issues _).ring pav
  have hanswer : (s.dropFirst (isAdminEntry pav)).adminEntryAnswer pav (s.ring pav).epoch (.data l) =
      (s.dropFirst (isAdminEntry pav)).takeAdmin pav l := by
    rw [← hdrop] at hon hout hlow hhigh ⊢
    exact State.adminEntryAnswer_data hon hout hlow hhigh l
  obtain ⟨u, hdisposes, htake⟩ := (s.dropFirst (isAdminEntry pav)).takeAdmin_disposes pav l
  have hfollow := (u.adminFetch pav).followed_issues
  refine ⟨s.keep (u.adminFetch pav).issueWaiting.fetchOne, ?_, ?_⟩
  · rw [exec_adminEntryReadDone, hlive, huse, hepoch, FabResult.ofRead, hanswer, htake]
    rfl
  · obtain ⟨out, hring⟩ := u.adminFetch_ring pav
    have hpassed := (State.ring_congr hdisposes.rings pav).trans (State.passEntry_ring _ pav l)
    obtain ⟨c, hc, hpav, hentry, hwords⟩ := hdisposes.cmds _ (by rw [State.passEntry_cmds]; exact List.mem_append_right _ (List.mem_singleton_self _))
    rw [hdrop] at hpassed hentry
    simp only [State.keep_ring, State.keep_front, State.keep_ports, hfollow.ring, hfollow.cmds, hfollow.chans, hfollow.ports, hring, hpassed,
      State.adminFetch_cmds, State.adminFetch_chans, State.adminFetch_ports]
    exact ⟨trivial, trivial, ⟨c, hc, hpav, hentry, hwords⟩, hdisposes.chans, hdisposes.ports⟩

/-- Settles O8, command by command: the FRONT enable, the reads of TAIL, their answers, the retry and the taking of an entry. -/
theorem adminRingsAreFed : Obligations.AdminRingsAreFed := by
  unfold Obligations.AdminRingsAreFed
  refine ⟨fun s hopen => ⟨fun hoff hidle => ?_, fun hon => ?_⟩, fun s pav hlive hon => ⟨fun hwatch => ?_, fun hdue => ?_,
    fun res hout hstale => ?_, fun res hout hstale => ?_, fun l hout hepoch => ?_, fun hdue => ?_⟩,
    fun s pav l hlive huse hepoch hon hout hlow hhigh => ?_⟩
  · exact admin0Enable_starts hopen hoff hidle
  · exact admin0Disable_stops hopen hon
  · exact adminDoorbellNotify_reads hlive hon hwatch
  · exact adminDoorbellPoll_reads hlive hdue
  · exact adminDoorbellReadDone_stale hlive hout hstale res
  · exact adminEntryReadDone_stale hlive hout hstale res
  · exact adminDoorbellReadDone_data hlive hon hout hepoch l
  · exact adminEntryRetry_fetches hlive hon hdue
  · exact adminEntryReadDone_takes hlive huse hepoch hon hout hlow hhigh l

end Sys2Proof.Machine
end

section
/-!
PROOFS. Admin completions in their slots (R88, R90) and QUERY (R524): the statement CompletionsAndQueries.
-/
namespace Sys2Proof.Machine

/-! ### ADMIN_COMPLETION_WRITE (R88, R90) -/

theorem exec_adminCompletionWrite {s : State} {r : AdminRef} {c : AdminCmd} {st ra r1 r2 r3 : Nat} (hlive : s.live = true)
    (hfirst : s.firstDone r = true) (hcmd : s.cmd r = some c) (hphase : c.phase = .finished st ra r1 r2 r3) :
    exec (.adminCompletionWrite r) s = .next (s.keep (s.writeCompletion r)) := by
  show execAdminCompletionWrite r s = _
  simp [execAdminCompletionWrite, hlive, hfirst, hcmd, hphase]

/-- A completed command leaves its ring, whose completion ring goes on to the next slot. -/
def State.retireCmd (s : State) (r : AdminRef) : State :=
  ((s.openWindow r).modRing r.pav AdminRing.advance).modFront (fun e =>
    { e with cmds := e.cmds.filter (fun c => !c.isRef r), doneQ := e.doneQ.filter (fun x => x != r) })

/-- The write of a completion into the next slot of its ring. -/
def AdminRing.completionWrite (q : AdminRing) (pav : Nat) (c : AdminCmd) (st ra r1 r2 r3 : Nat) : FabRequest :=
  { op := .write, addr := q.cmpl + 32 * q.next, len := 32, pav := pav, data := q.completion c st ra r1 r2 r3, use := .adminCompletion pav }

theorem State.writeCompletion_eq {s : State} {r : AdminRef} {c : AdminCmd} {st ra r1 r2 r3 : Nat} (hcmd : s.cmd r = some c)
    (hphase : c.phase = .finished st ra r1 r2 r3) :
    s.writeCompletion r = (s.retireCmd r).issue ((s.ring r.pav).completionWrite r.pav c st ra r1 r2 r3) := by
  simp only [State.writeCompletion, hcmd, hphase, State.retireCmd, AdminRing.completionWrite]

theorem State.retireCmd_cmd (s : State) (r : AdminRef) : (s.retireCmd r).cmd r = none := by
  simp [State.retireCmd, State.cmd]

theorem State.retireCmd_ring (s : State) (r : AdminRef) : (s.retireCmd r).ring r.pav = (s.ring r.pav).advance :=
  (s.openWindow r).modRing_ring_same r.pav AdminRing.advance

/-! ### QUERY (R524) -/

theorem State.unfinished_of_queryIs {s : State} {r : AdminRef} {subject : Nat} (h : s.queryIs r subject = true) :
    (s.cmd r).any AdminCmd.unfinished = true :=
  State.unfinished_of_cmdIs (Bool.and_eq_true_iff.mp h).1

/-- A QUERY that is finished at once has its result, stands last of those done, and changes nothing else. -/
theorem query_finishes {s : State} {r : AdminRef} {subject : Nat} (h : s.queryIs r subject = true) {c : Instr} {r1 r2 r3 : Nat}
    (hexec : exec c s = act true s (s.finish r asOk r1 r2 r3)) :
    ∃ t, exec c s = .next t ∧ t.phaseOf r = some (.finished 0 0 r1 r2 r3) ∧ t.front.doneQ = s.front.doneQ ++ [r] ∧
      { t with front := { t.front with cmds := s.front.cmds, doneQ := s.front.doneQ }, lodge := { t.lodge with items := s.lodge.items } } = s := by
  have hunfinished := State.unfinished_of_queryIs h
  refine ⟨s.keep (s.finish r asOk r1 r2 r3), hexec, State.finish_phaseOf hunfinished asOk r1 r2 r3 0, ?_⟩
  rw [State.finish, if_pos hunfinished]
  exact ⟨rfl, rfl⟩

theorem State.queryChannel_ok {s : State} {r : AdminRef} {i : Nat} (hzero : (s.cmdD r).zeroArgs [3, 4, 5, 6, 7] = true)
    (hbits : bits ((s.cmdD r).arg 2) 63 24 = 0) (hpav : (s.cmdD r).pav = 0 ∨ bits ((s.cmdD r).arg 2) 15 12 = (s.cmdD r).pav)
    (hchan : s.chanOf (bits ((s.cmdD r).arg 2) 31 0) = some i) :
    s.queryChannel r = s.finish r asOk (s.chan i).statusWord (s.chan i).completed.toNat (s.chan i).head.toNat := by
  have hmine : ((s.cmdD r).pav != 0 && bits ((s.cmdD r).arg 2) 15 12 != (s.cmdD r).pav) = false := by
    rcases hpav with h | h <;> simp [h]
  simp [State.queryChannel, hzero, hbits, hmine, hchan]

theorem State.queryProgram_ok {s : State} {r : AdminRef} (hzero : (s.cmdD r).zeroArgs [3, 4, 5, 6, 7] = true)
    (hbits : bits ((s.cmdD r).arg 2) 63 6 = 0) (hpav : (s.cmdD r).pav = 0) :
    s.queryProgram r = s.finish r asOk (s.gather.progStatus (bits ((s.cmdD r).arg 2) 5 0)) := by
  simp [State.queryProgram, hzero, hbits, hpav]

theorem State.queryPav_ok {s : State} {r : AdminRef} (hzero : (s.cmdD r).zeroArgs [3, 4, 5, 6, 7] = true)
    (hbits : bits ((s.cmdD r).arg 2) 63 4 = 0) (hpav : (s.cmdD r).pav = 0 ∨ bits ((s.cmdD r).arg 2) 3 0 = (s.cmdD r).pav) :
    s.queryPav r = s.finish r asOk (s.pavStatus (bits ((s.cmdD r).arg 2) 3 0)) := by
  have hmine : ((s.cmdD r).pav != 0 && bits ((s.cmdD r).arg 2) 3 0 != (s.cmdD r).pav) = false := by
    rcases hpav with h | h <;> simp [h]
  simp [State.queryPav, hzero, hbits, hmine]

theorem exec_queryChannel (r : AdminRef) (s : State) : exec (.queryChannel r) s = act (s.live && s.queryIs r 1) s (s.queryChannel r) := rfl
theorem exec_queryProgram (r : AdminRef) (s : State) : exec (.queryProgram r) s = act (s.live && s.queryIs r 2) s (s.queryProgram r) := rfl
theorem exec_queryPavilion (r : AdminRef) (s : State) : exec (.queryPavilion r) s = act (s.queryIs r 3 && s.lodgeTurn r) s (s.queryPav r) := rfl
theorem exec_queryLodgeQueues (r : AdminRef) (s : State) : exec (.queryLodgeQueues r) s = act (s.queryIs r 4 && s.lodgeTurn r) s
    (if !(s.cmdD r).zeroArgs [2, 3, 4, 5, 6, 7] then s.finish r asBadCommand
     else s.finish r asOk (s.working r).lodge.queueWord) := rfl

/-- Settles O9: the completion write by its parts, and each QUERY as a command that is finished at once. -/
theorem completionsAndQueries : Obligations.CompletionsAndQueries := by
  unfold Obligations.CompletionsAndQueries
  refine ⟨fun s r c st ra r1 r2 r3 hlive hfirst hcmd hphase => ?_, fun s r hzero => ?_⟩
  · intro q
    have hissues := (s.retireCmd r).issue_issues (q.completionWrite r.pav c st ra r1 r2 r3)
    refine ⟨_, exec_adminCompletionWrite hlive hfirst hcmd hphase, ?_⟩
    rw [State.writeCompletion_eq hcmd hphase]
    refine ⟨?_, ?_, State.issue_asks .., hissues.chans, hissues.ports, State.issue_counters .., hissues.flt⟩
    · exact (State.cmd_congr hissues.cmds r).trans (s.retireCmd_cmd r)
    · exact (hissues.ring r.pav).trans (s.retireCmd_ring r)
  · intro arg onlyAnswers
    refine ⟨fun i hlive hquery hbits hpav hchan => query_finishes hquery ?_, fun hlive hquery hbits hpav => query_finishes hquery ?_,
      fun hquery hturn hbits hpav => query_finishes hquery ?_, fun hquery hturn harg => query_finishes hquery ?_⟩
    · rw [exec_queryChannel, hlive, hquery, State.queryChannel_ok hzero hbits hpav hchan, Bool.and_self]
    · rw [exec_queryProgram, hlive, hquery, State.queryProgram_ok hzero hbits hpav, Bool.and_self]
    · rw [exec_queryPavilion, hquery, hturn, State.queryPav_ok hzero hbits hpav, Bool.and_self]
    · have hzeros : (s.cmdD r).zeroArgs [2, 3, 4, 5, 6, 7] = true := Bool.and_eq_true_iff.mpr ⟨decide_eq_true harg, hzero⟩
      rw [exec_queryLodgeQueues, hquery, hturn, hzeros, Bool.and_self]
      rfl

end Sys2Proof.Machine
end

section
/-!
PROOFS. CREATE, DESTROY and RESET_CHANNEL, draining and retirement (R94 to R97, R118 to R120): the statement ChannelsLiveAndRetire.
-/
namespace Sys2Proof.Machine

/-! ### CREATE_CHANNEL (R94, R95) -/

theorem exec_createChannel (r : AdminRef) (s : State) : exec (.createChannel r) s = act (s.live && s.cmdIs r 0x01) s (s.createChannel r) := rfl

theorem State.readDoorbell_asks (s : State) (i : Nat) (why : DbWhy) : (s.readDoorbell i why).asks
    { op := .read, addr := (s.chan i).doorbell, len := 4, pav := (s.chan i).pav, use := .doorbell i (s.chan i).gen.toNat why } :=
  State.issue_asks ..

theorem State.readDoorbell_issues (s : State) (i : Nat) (why : DbWhy) : s.Issues (s.readDoorbell i why) := State.issue_issues ..

@[simp] theorem State.arm_chan (s : State) (w a p i : Nat) : (s.arm w a p).chan i = s.chan i := State.chan_congr (by simp) i

/-- The channel created at an index, its watch armed and its TAIL read, before the command is answered. -/
def State.openChan (s : State) (i : Nat) (cmd : AdminCmd) : State :=
  ((s.modChan i (fun c => c.create cmd)).arm i (bits (cmd.arg 2) 55 0) cmd.pav).readDoorbell i .normal

theorem State.createChannel_ok {s : State} {r : AdminRef} {i : Nat} (hargs : createArgsOk (s.cmdD r) = true)
    (hfree : s.freeChan (s.cmdD r).pav = some i) :
    s.createChannel r = (s.openChan i (s.cmdD r)).finish r asOk (((s.chan i).create (s.cmdD r)).handle i) := by
  simp only [State.createChannel, hargs, hfree, Bool.not_true, Bool.false_eq_true, if_false, State.modChan_chan_same]
  rfl

theorem State.openChan_chan_same (s : State) (i : Nat) (cmd : AdminCmd) : (s.openChan i cmd).chan i = (s.chan i).create cmd := by
  rw [State.openChan, (State.readDoorbell_issues ..).chan, State.arm_chan, State.modChan_chan_same]

theorem State.openChan_chan_other (s : State) {i j : Nat} (cmd : AdminCmd) (h : j ≠ i) : (s.openChan i cmd).chan j = s.chan j := by
  rw [State.openChan, (State.readDoorbell_issues ..).chan, State.arm_chan, State.modChan_chan_other _ _ h]

theorem State.openChan_asks (s : State) (i : Nat) (cmd : AdminCmd) : (s.openChan i cmd).asks
    { op := .read, addr := bits (cmd.arg 2) 55 0, len := 4, pav := cmd.pav, use := .doorbell i (s.chan i).gen.toNat .normal } := by
  have hasks := ((s.modChan i (fun c => c.create cmd)).arm i (bits (cmd.arg 2) 55 0) cmd.pav).readDoorbell_asks i .normal
  rwa [State.arm_chan, State.modChan_chan_same] at hasks

theorem State.openChan_armed (s : State) (i : Nat) (cmd : AdminCmd) : i ∈ (s.openChan i cmd).watch.armed := by
  rw [State.openChan, (State.readDoorbell_issues ..).watch]
  exact State.arm_armed ..

theorem State.openChan_unfinished {s : State} {r : AdminRef} (h : (s.cmd r).any AdminCmd.unfinished = true) (i : Nat) (cmd : AdminCmd) :
    ((s.openChan i cmd).cmd r).any AdminCmd.unfinished = true := by
  rwa [State.openChan, State.cmd_congr (State.readDoorbell_issues ..).cmds]

theorem createChannel_opens {s : State} {r : AdminRef} {i : Nat} (hlive : s.live = true) (hcmd : s.cmdIs r 0x01 = true)
    (hargs : createArgsOk (s.cmdD r) = true) (hfree : s.freeChan (s.cmdD r).pav = some i) :
    let c := s.cmdD r
    ∃ t, exec (.createChannel r) s = .next t ∧ (t.chan i).state = .active ∧ (t.chan i).pav = c.pav ∧ (t.chan i).gen = (s.chan i).gen ∧
      (t.chan i).ringBase = bits (c.arg 1) 55 0 ∧ (t.chan i).ringLog2 = bits (c.arg 1) 60 56 ∧ (t.chan i).doorbell = bits (c.arg 2) 55 0 ∧
      (t.chan i).typ = bits (c.arg 3) 1 0 ∧ (t.chan i).head = 0 ∧ (t.chan i).completed = 0 ∧ i ∈ t.watch.armed ∧
      t.asks { op := .read, addr := bits (c.arg 2) 55 0, len := 4, pav := c.pav, use := .doorbell i (s.chan i).gen.toNat .normal } ∧
      t.phaseOf r = some (.finished 0 0 (place i 0 12 + place c.pav 12 4 + place (s.chan i).gen.toNat 16 8) 0 0) ∧
      (∀ j, j ≠ i → t.chan j = s.chan j) ∧ t.ports = s.ports ∧ t.gather = s.gather ∧ t.counters = s.counters := by
  have hphase := State.finish_phaseOf (State.openChan_unfinished (State.unfinished_of_cmdIs hcmd) i (s.cmdD r)) asOk
    (((s.chan i).create (s.cmdD r)).handle i) 0 0 0
  refine ⟨s.keep (s.createChannel r), by rw [exec_createChannel, hlive, hcmd]; rfl, ?_⟩
  rw [State.createChannel_ok hargs hfree]
  simp only [State.keep_chan, State.finish_chan, State.openChan_chan_same]
  refine ⟨rfl, rfl, rfl, rfl, rfl, rfl, rfl, rfl, rfl, ?_, State.asks_congr ?_ (s.openChan_asks i (s.cmdD r)), hphase, fun j hj => ?_, ?_, ?_, ?_⟩
  · rw [State.keep_watch, State.finish_watch]
    exact s.openChan_armed i (s.cmdD r)
  · rw [State.keep_fab, State.finish_fab]
  · exact s.openChan_chan_other (s.cmdD r) hj
  all_goals simp [State.openChan, State.readDoorbell]

/-! ### What counting and stopping leave of a channel (R113, R114, R119) -/

/-- A channel without its buffers, their records and counts, and the engines it stops. -/
def Channel.steady (c : Channel) : Channel :=
  { c with completed := 0, head := 0, bufs := [], recs := [], stopping := [], guiltyStop := false }

/-- Between two states buffers are counted, ended or dropped, engines stopped and watches disarmed: of every channel the rest stays, and no watch is
armed. -/
structure State.Winds (s u : State) : Prop where
  steady : ∀ j, (u.chan j).steady = (s.chan j).steady
  armed : ∀ w, w ∈ u.watch.armed → w ∈ s.watch.armed

namespace State.Winds

theorem refl (s : State) : s.Winds s := ⟨fun _ => rfl, fun _ h => h⟩

theorem trans {s u v : State} (h : s.Winds u) (k : u.Winds v) : s.Winds v :=
  ⟨fun j => (k.steady j).trans (h.steady j), fun w hw => h.armed w (k.armed w hw)⟩

theorem of_chans {s u : State} (h : ∀ j, u.chan j = s.chan j) (hw : u.watch = s.watch) : s.Winds u :=
  ⟨fun j => by rw [h], fun w hm => by rwa [hw] at hm⟩

theorem of_modChan (s : State) (i : Nat) {f : Channel → Channel} (hf : (f (s.chan i)).steady = (s.chan i).steady) : s.Winds (s.modChan i f) := by
  refine ⟨fun j => ?_, fun w hw => hw⟩
  by_cases h : j = i
  · subst h; simpa using hf
  · rw [State.modChan_chan_other _ _ h]

variable {s u : State} (h : s.Winds u) (j : Nat)
include h

theorem state : (u.chan j).state = (s.chan j).state := (congrArg Channel.state (h.steady j) :)
theorem cmd : (u.chan j).cmd = (s.chan j).cmd := (congrArg Channel.cmd (h.steady j) :)
theorem drain : (u.chan j).drain = (s.chan j).drain := (congrArg Channel.drain (h.steady j) :)
theorem retire : (u.chan j).retire = (s.chan j).retire := (congrArg Channel.retire (h.steady j) :)

end State.Winds

theorem State.disarm_winds (s : State) (w : Nat) : s.Winds (s.disarm w) := ⟨fun j => by rw [State.disarm_chan], fun _ hv => State.mem_of_mem_disarm hv⟩

theorem State.dropFetch_winds (s : State) (f : FabUse → Bool) : s.Winds (s.dropFetch f) := .of_chans (fun _ => rfl) rfl

@[simp] theorem State.countBuffer_watch (s : State) (i : Nat) (b : Buffer) (st k : Nat) : (s.countBuffer i b st k).watch = s.watch := by
  unfold State.countBuffer
  dsimp only
  repeat' split
  all_goals simp

theorem State.countBuffer_winds (s : State) (i : Nat) (b : Buffer) (st k : Nat) : s.Winds (s.countBuffer i b st k) := by
  obtain ⟨more, hchan⟩ := s.countBuffer_chan i b st k
  exact .trans (.of_modChan s i (f := fun c => c.countedWith b more) rfl) (.of_chans hchan (by simp))

theorem State.countHeads_winds (i n : Nat) (s : State) : s.Winds (s.countHeads i n) := by
  induction n generalizing s with
  | zero => exact .refl s
  | succ n ih =>
    unfold State.countHeads
    split
    · exact .refl s
    · exact (State.countBuffer_winds ..).trans (ih _)

theorem State.unbindSlot_winds (s : State) (m i : Nat) : s.Winds (s.unbindSlot m i) :=
  (State.Winds.of_modChan s i (f := fun c => c.unbind m) rfl).trans (.of_chans (fun _ => rfl) rfl)

theorem State.failSlot_winds (s : State) (m : Nat) : s.Winds (s.failSlot m) := by
  unfold State.failSlot
  dsimp only
  split
  · refine .trans ?_ (State.unbindSlot_winds _ _ _)
    exact .of_chans (fun _ => rfl) rfl
  · exact .refl s

theorem State.failSlots_winds (s : State) (i : Nat) : s.Winds (s.failSlots i) := foldl_keeps .refl .trans (fun p _ t => t.failSlot_winds p.1) s

theorem State.noteEnd_winds (s : State) (pav bin : Nat) (o : OpSlot) : s.Winds (s.noteEnd pav bin o) := by
  have hcount : s.Winds (s.countOpEnd pav bin o.status) := .of_chans (by simp [State.countOpEnd]) (by simp [State.countOpEnd])
  unfold State.noteEnd
  dsimp only
  split
  · split
    · exact hcount
    · exact hcount.trans (State.failSlot_winds ..)
  · exact hcount

theorem State.turnBuf_winds (s : State) (i : Nat) (b : Buffer) (f : Buffer → Buffer) : s.Winds (s.turnBuf i b f) :=
  (State.Winds.of_modChan s i rfl).trans (foldl_keeps .refl .trans (fun _ _ t => t.noteEnd_winds _ _ _) _)

theorem State.dropHeld_winds (s : State) (i : Nat) : s.Winds (s.dropHeld i) :=
  State.Winds.trans (u := s.modXfer (fun x => { x with held := x.held.filter (fun w => w.op.chan != i) })) (.of_chans (fun _ => rfl) rfl)
    (foldl_keeps .refl .trans (fun w _ t => .of_modChan t w.op.chan rfl) _)

theorem State.stopEngines_winds (s : State) (i : Nat) (guilty : Bool) : s.Winds (s.stopEngines i guilty) := by
  have hdisarm : s.Winds ((s.front.waits.filter (fun w => w.2.chan == i)).foldl (fun t w => t.disarm w.1) s) :=
    foldl_keeps .refl .trans (fun w _ t => t.disarm_winds w.1) s
  unfold State.stopEngines
  dsimp only
  refine .trans ?_ (.of_modChan _ i rfl)
  refine .trans ?_ (foldl_keeps .refl .trans (fun b _ t => t.turnBuf_winds i b _) _)
  refine .trans (hdisarm.trans ?_) (State.dropHeld_winds _ i)
  exact .of_chans (fun _ => rfl) rfl

/-! ### Retirement begins (R119) -/

/-- A channel whose retirement begins: what has been fetched is kept, nothing further is. -/
def Channel.retiringWith (c : Channel) (q : Retire) : Channel :=
  { c with state := .retiring, drain := none, watched := false, entry := none, bufs := c.bufs.filter (fun b => b.got), retire := some q }

/-- What the beginning of a retirement says of its channel. -/
structure State.Retires (s u : State) (i status : Nat) (keepFail : Bool) (next : AfterRetire) : Prop where
  state : (u.chan i).state = .retiring
  cmd : (u.chan i).cmd = (s.chan i).cmd
  drain : (u.chan i).drain = none
  retire : (u.chan i).retire = some { status := status, keepFail := keepFail, next := next, stage := .stopping }
  disarmed : i ∉ u.watch.armed

theorem State.startRetire_retires (s : State) (i status : Nat) (keepFail : Bool) (next : AfterRetire) :
    s.Retires (s.startRetire i status keepFail next) i status keepFail next := by
  have hcounted : s.Winds (((s.counted i).dropFetch (ofChan i)).disarm i) :=
    ((State.countHeads_winds i 4 s).trans (State.dropFetch_winds _ _)).trans (State.disarm_winds _ i)
  have hstop : ((((s.counted i).dropFetch (ofChan i)).disarm i).modChan i (fun c =>
      c.retiringWith { status := status, keepFail := keepFail, next := next, stage := .stopping })).Winds (s.startRetire i status keepFail next) :=
    (State.stopEngines_winds _ i false).trans (State.failSlots_winds _ i)
  refine ⟨?_, ?_, ?_, ?_, fun harmed => State.disarm_not_armed _ _ (hstop.armed i harmed)⟩
  · rw [hstop.state, State.modChan_chan_same, Channel.retiringWith]
  · rw [hstop.cmd, State.modChan_chan_same, Channel.retiringWith, hcounted.cmd]
  · rw [hstop.drain, State.modChan_chan_same, Channel.retiringWith]
  · rw [hstop.retire, State.modChan_chan_same, Channel.retiringWith]

/-! ### Draining begins (R118) -/

theorem State.tryFetch_chan_same (s : State) (i : Nat) : ∃ e n, (s.tryFetch i).chan i = { s.chan i with entry := e, entrySeq := n } := by
  unfold State.tryFetch
  dsimp only
  split
  · exact ⟨_, _, by rw [State.readEntry, (State.fetch_issues ..).chan, State.modChan_chan_same]⟩
  · exact ⟨(s.chan i).entry, (s.chan i).entrySeq, rfl⟩

@[simp] theorem State.tryFetch_watch (s : State) (i : Nat) : (s.tryFetch i).watch = s.watch := by
  unfold State.tryFetch
  dsimp only
  split
  · rw [State.readEntry, (State.fetch_issues ..).watch, State.modChan_watch]
  · rfl

/-- A channel that begins to drain. -/
def Channel.drainingFrom (c : Channel) : Channel :=
  { c with state := .retiring, watched := false, drain := some { tail := c.tail.toNat, reading := true }, entry := c.entry.filter (fun e => !e.spec) }

/-- What the beginning of a drain says of its channel. -/
structure State.Drains (s u : State) (i : Nat) : Prop where
  state : (u.chan i).state = .retiring
  cmd : (u.chan i).cmd = (s.chan i).cmd
  drain : (u.chan i).drain.isSome = true
  disarmed : i ∉ u.watch.armed

theorem State.startDrain_drains (s : State) (i : Nat) : s.Drains (s.startDrain i) i := by
  have hcounted : s.Winds ((s.counted i).disarm i) := (State.countHeads_winds i 4 s).trans (State.disarm_winds _ i)
  have hfail := (((s.counted i).disarm i).modChan i Channel.drainingFrom).failSlots_winds i
  have hread := ((((s.counted i).disarm i).modChan i Channel.drainingFrom).failSlots i).readDoorbell_issues i .drain
  have hstart : s.startDrain i =
      (((((s.counted i).disarm i).modChan i Channel.drainingFrom).failSlots i).readDoorbell i .drain).tryFetch i := rfl
  obtain ⟨e, n, hchan⟩ := ((((((s.counted i).disarm i).modChan i Channel.drainingFrom).failSlots i).readDoorbell i .drain)).tryFetch_chan_same i
  rw [← hstart, hread.chan] at hchan
  refine ⟨?_, ?_, ?_, fun harmed => ?_⟩
  · rw [hchan]
    exact (hfail.state i).trans (by rw [State.modChan_chan_same]; rfl)
  · rw [hchan]
    exact (hfail.cmd i).trans (by rw [State.modChan_chan_same]; exact hcounted.cmd i)
  · rw [hchan]
    exact (congrArg Option.isSome (hfail.drain i)).trans (by rw [State.modChan_chan_same]; rfl)
  · rw [hstart, State.tryFetch_watch, hread.watch] at harmed
    exact State.disarm_not_armed _ _ (hfail.armed i harmed)

/-! ### DESTROY_CHANNEL and RESET_CHANNEL (R96, R97) -/

theorem exec_destroyChannel (r : AdminRef) (s : State) : exec (.destroyChannel r) s = act (s.channelCmdDue r 0x02) s (s.destroyChannel r) := rfl
theorem exec_resetChannel (r : AdminRef) (s : State) : exec (.resetChannel r) s = act (s.channelCmdDue r 0x03) s (s.resetChannel r) := rfl

/-- A channel command begun: its index is busy with it. -/
def State.busyWith (s : State) (i : Nat) (r : AdminRef) : State := (s.modChan i (fun c => { c with cmd := some r })).working r

theorem State.busyWith_chan (s : State) (i : Nat) (r : AdminRef) : (s.busyWith i r).chan i = { s.chan i with cmd := some r } :=
  s.modChan_chan_same i (fun c => { c with cmd := some r })

/-- Whether DESTROY_CHANNEL retires a channel at once: ABORT is set, or the channel had failed. -/
def State.aborts (s : State) (r : AdminRef) (i : Nat) : Bool :=
  bit ((s.cmdD r).arg 2) 0 || (s.chan i).state == .guilty || (s.chan i).state == .error

theorem State.destroyChannel_eq {s : State} {r : AdminRef} {i : Nat} (hargs : channelCmdRefused (s.cmdD r) = none)
    (hchan : s.chanOf (bits ((s.cmdD r).arg 1) 31 0) = some i) :
    s.destroyChannel r = if s.aborts r i then (s.busyWith i r).startRetire i stAborted (s.chan i).guiltyStop .free
      else (s.busyWith i r).startDrain i := by
  simp only [State.destroyChannel, hargs, hchan]
  rfl

theorem State.resetChannel_eq {s : State} {r : AdminRef} {i : Nat} (hargs : channelCmdRefused (s.cmdD r) = none)
    (hchan : s.chanOf (bits ((s.cmdD r).arg 1) 31 0) = some i) :
    s.resetChannel r = (s.busyWith i r).startRetire i stAborted (s.chan i).guiltyStop (.reset (bit ((s.cmdD r).arg 2) 0)) := by
  simp only [State.resetChannel, hargs, hchan]
  rfl

theorem destroyChannel_retires {s : State} {r : AdminRef} {i : Nat} (hargs : channelCmdRefused (s.cmdD r) = none)
    (hchan : s.chanOf (bits ((s.cmdD r).arg 1) 31 0) = some i) (hdue : s.channelCmdDue r 0x02 = true) :
    ∃ t, exec (.destroyChannel r) s = .next t ∧ (t.chan i).state = .retiring ∧ (t.chan i).cmd = some r ∧ i ∉ t.watch.armed ∧
      ((bit ((s.cmdD r).arg 2) 0 = true ∨ (s.chan i).state = .guilty ∨ (s.chan i).state = .error) → (t.chan i).retire.isSome = true) ∧
      (bit ((s.cmdD r).arg 2) 0 = false → (s.chan i).state = .active → (t.chan i).drain.isSome = true) := by
  refine ⟨s.keep (s.destroyChannel r), by rw [exec_destroyChannel, hdue, act_due], ?_⟩
  rw [State.keep_chan, State.keep_watch, State.destroyChannel_eq hargs hchan]
  cases haborts : s.aborts r i with
  | true =>
    have hretires := (s.busyWith i r).startRetire_retires i stAborted (s.chan i).guiltyStop .free
    rw [if_pos rfl]
    refine ⟨hretires.state, hretires.cmd.trans (by rw [State.busyWith_chan]), hretires.disarmed, fun _ => ?_, fun habort hactive => ?_⟩
    · rw [hretires.retire]
      rfl
    · simp [State.aborts, habort, hactive] at haborts
  | false =>
    have hdrains := (s.busyWith i r).startDrain_drains i
    rw [if_neg Bool.false_ne_true]
    refine ⟨hdrains.state, hdrains.cmd.trans (by rw [State.busyWith_chan]), hdrains.disarmed, fun hfailed => ?_, fun _ _ => hdrains.drain⟩
    rcases hfailed with h | h | h <;> simp [State.aborts, h] at haborts

theorem resetChannel_retires {s : State} {r : AdminRef} {i : Nat} (hargs : channelCmdRefused (s.cmdD r) = none)
    (hchan : s.chanOf (bits ((s.cmdD r).arg 1) 31 0) = some i) (hdue : s.channelCmdDue r 0x03 = true) :
    ∃ t, exec (.resetChannel r) s = .next t ∧ (t.chan i).state = .retiring ∧ (t.chan i).cmd = some r ∧ i ∉ t.watch.armed ∧
      (t.chan i).retire.map Retire.next = some (.reset (bit ((s.cmdD r).arg 2) 0)) := by
  have hretires := (s.busyWith i r).startRetire_retires i stAborted (s.chan i).guiltyStop (.reset (bit ((s.cmdD r).arg 2) 0))
  refine ⟨s.keep (s.resetChannel r), by rw [exec_resetChannel, hdue, act_due], ?_⟩
  rw [State.keep_chan, State.keep_watch, State.resetChannel_eq hargs hchan]
  exact ⟨hretires.state, hretires.cmd.trans (by rw [State.busyWith_chan]), hretires.disarmed, by rw [hretires.retire]; rfl⟩

/-! ### Engines at their safe points, drained channels, retirements that end (R118 to R120) -/

theorem exec_engineStopped (ch : Nat) (e : EngineKind) (s : State) :
    exec (.engineStopped ch e) s = act (s.live && decide (e ∈ (s.chan ch).stopping) && s.engineIdle ch e) s (s.engineStopped ch e) := rfl
theorem exec_drainComplete (ch : Nat) (s : State) :
    exec (.drainComplete ch) s = act (s.live && (s.chan ch).drained) s (s.startRetire ch stAborted false .free) := rfl
theorem exec_channelRetireComplete (ch : Nat) (s : State) :
    exec (.channelRetireComplete ch) s = act (s.live && s.retireDue ch) s (s.retireComplete ch) := rfl

theorem engineStopped_leaves {s : State} {ch : Nat} {e : EngineKind} (hlive : s.live = true) (hmem : e ∈ (s.chan ch).stopping)
    (hidle : s.engineIdle ch e = true) : ∃ t, exec (.engineStopped ch e) s = .next t ∧ e ∉ (t.chan ch).stopping := by
  refine ⟨s.keep (s.engineStopped ch e), by rw [exec_engineStopped, hlive, hidle, decide_eq_true hmem]; rfl, ?_⟩
  unfold State.engineStopped
  dsimp only
  rw [State.keep_chan, State.modChan_chan_same]
  simp

theorem drainComplete_retires {s : State} {ch : Nat} (hlive : s.live = true) (hdrained : (s.chan ch).drained = true) :
    ∃ t, exec (.drainComplete ch) s = .next t ∧ (t.chan ch).state = .retiring ∧ (t.chan ch).drain = none ∧
      (t.chan ch).retire.map Retire.next = some .free := by
  have hretires := s.startRetire_retires ch stAborted false .free
  refine ⟨s.keep (s.startRetire ch stAborted false .free), by rw [exec_drainComplete, hlive, hdrained]; rfl, ?_⟩
  rw [State.keep_chan]
  exact ⟨hretires.state, hretires.drain, by rw [hretires.retire]; rfl⟩

/-- A channel whose retirement has ended: its index is free under the next generation. -/
def Channel.freed (c : Channel) : Channel :=
  { state := .free, gen := c.gen + 1, typ := c.typ, pav := c.pav, head := c.head, completed := c.completed, failOp := c.failOp,
    failStatus := c.failStatus, cause := c.cause }

/-- Between two states a retirement goes on, and of its channel only where it stands changes. -/
structure State.RetireSteps (s u : State) (i : Nat) : Prop where
  chan : ∃ q, u.chan i = { s.chan i with retire := q }
  others : ∀ j, j ≠ i → u.chan j = s.chan j
  cmds : u.front.cmds = s.front.cmds
  ports : u.ports = s.ports

/-- With no buffer and no record left a retirement ends in one step. -/
theorem State.retireComplete_ends {s : State} {i : Nat} {q : Retire} (hq : (s.chan i).retire = some q) (hbufs : (s.chan i).bufs = [])
    (hrecs : (s.chan i).recs = []) : ∃ u, s.RetireSteps u i ∧ s.retireComplete i = u.endRetire i q := by
  have hclose : s.closeBuffers i q = s := by simp [State.closeBuffers, hbufs]
  simp only [State.retireComplete, hq, hclose]
  split
  · refine ⟨s.modChan i (fun c => { c with retire := some { q with stage := .records } }), ?_, ?_⟩
    · exact ⟨⟨_, s.modChan_chan_same i _⟩, fun j hj => State.modChan_chan_other _ _ hj, rfl, rfl⟩
    · rw [if_pos (by simp [hrecs])]
  · refine ⟨s, ⟨⟨(s.chan i).retire, rfl⟩, fun _ _ => rfl, rfl, rfl⟩, ?_⟩
    rw [if_pos (by simp [hrecs])]

theorem State.endRetire_free {s : State} {i : Nat} {q : Retire} {r : AdminRef} (hnext : q.next = .free) (hcmd : (s.chan i).cmd = some r) :
    s.endRetire i q = ((s.activity (s.chan i).pav).modChan i Channel.freed).finish r asOk (s.chan i).completed.toNat := by
  simp only [State.endRetire, hnext, hcmd]
  rfl

theorem channelRetireComplete_frees {s : State} {ch : Nat} {q : Retire} {r : AdminRef} (hlive : s.live = true) (hdue : s.retireDue ch = true)
    (hq : (s.chan ch).retire = some q) (hnext : q.next = .free) (hbufs : (s.chan ch).bufs = []) (hrecs : (s.chan ch).recs = [])
    (hcmd : (s.chan ch).cmd = some r) (hunfinished : (s.cmd r).any AdminCmd.unfinished = true) :
    ∃ t, exec (.channelRetireComplete ch) s = .next t ∧ (t.chan ch).state = .free ∧ (t.chan ch).gen = (s.chan ch).gen + 1 ∧
      t.phaseOf r = some (.finished 0 0 (s.chan ch).completed.toNat 0 0) ∧ (∀ j, j ≠ ch → t.chan j = s.chan j) ∧ t.ports = s.ports := by
  obtain ⟨u, hsteps, hend⟩ := State.retireComplete_ends hq hbufs hrecs
  obtain ⟨q', hchan⟩ := hsteps.chan
  have hfree := State.endRetire_free (s := u) (i := ch) hnext (by rw [hchan]; exact hcmd)
  refine ⟨s.keep (s.retireComplete ch), by rw [exec_channelRetireComplete, hlive, hdue]; rfl, ?_⟩
  rw [hend, hfree]
  refine ⟨?_, ?_, ?_, fun j hj => ?_, ?_⟩
  · rw [State.keep_chan, State.finish_chan, State.modChan_chan_same]
    rfl
  · rw [State.keep_chan, State.finish_chan, State.modChan_chan_same, State.activity_chan, hchan]
    rfl
  · have hphase := State.finish_phaseOf (s := (u.activity (u.chan ch).pav).modChan ch Channel.freed) (r := r)
      (by rwa [State.cmd_congr (t := (u.activity (u.chan ch).pav).modChan ch Channel.freed) hsteps.cmds]) asOk (u.chan ch).completed.toNat 0 0 0
    have hcompleted : (u.chan ch).completed = (s.chan ch).completed := by rw [hchan]
    rw [hcompleted] at hphase ⊢
    exact hphase
  · rw [State.keep_chan, State.finish_chan, State.modChan_chan_other _ _ hj, State.activity_chan, hsteps.others j hj]
  · simp [hsteps.ports]

/-- Settles O10: creation by `openChan`, the beginnings of a retirement and a drain by `Retires` and `Drains`, the end by `freed`. -/
theorem channelsLiveAndRetire : Obligations.ChannelsLiveAndRetire := by
  unfold Obligations.ChannelsLiveAndRetire
  refine ⟨fun s r i hlive hcmd hargs hfree => ?_, fun s r i hargs hchan => ⟨fun hdue => ?_, fun hdue => ?_⟩,
    fun s ch hlive => ⟨fun e hmem hidle => ?_, fun hdrained => ?_, fun q r hdue hq hnext hbufs hrecs hcmd hunfinished => ?_⟩⟩
  · exact createChannel_opens hlive hcmd hargs hfree
  · exact destroyChannel_retires hargs hchan hdue
  · exact resetChannel_retires hargs hchan hdue
  · exact engineStopped_leaves hlive hmem hidle
  · exact drainComplete_retires hlive hdrained
  · exact channelRetireComplete_frees hlive hdue hq hnext hbufs hrecs hcmd hunfinished

end Sys2Proof.Machine
end

section
/-!
PROOFS. The statement BuffersAreFetched fails: a buffer under read that is marked faulty is counted at once (R99, R108, R113).
-/
namespace Sys2Proof.Machine

/-- A buffer whose read is outstanding although it is marked faulty, which no run from reset leads to: the mark comes with the end of the fetch. -/
def faultyRead : Buffer := { ring := 9, lines := 2, read := 2, reading := true, faulty := true }

/-- The ACTIVE channel 0 reads that buffer. -/
def faultyReadState : State :=
  { front := { chans := [(0, { state := .active, gen := 7, txn := 64, bufs := [faultyRead] })] },
    fab := { out := [{ fport := 0, txid := 0, op := .read, addr := 0, len := 128, pav := 0, use := .buffer 0 7 9 0 }] } }

/-- A sound header for one operation, and a NOP. -/
def soundLines : List Byte := leBytes 8 0x01000001 ++ List.replicate 120 0

/-- What the header of those lines says. -/
def soundHeader : BufHeader :=
  { opCount := 1, recordEn := false, sigwordEn := false, fenceEntry := false, layerId := 0, operatorId := 0, recordAddr := 0, sigOffset := 0,
    sigWindow := 0, sigNode := 0, sigValue := 0, attrBin := 0, userTag := 0 }

theorem exec_bufferReadDone {s : State} {ch ring : Nat} (hlive : s.live = true)
    (hout : s.hasUse (isBuffer ch (s.chan ch).gen.toNat ring) = true) (res : ReadResult) :
    exec (.bufferReadDone ch ring res) s = .next (s.keep (s.answer (isBuffer ch (s.chan ch).gen.toNat ring)
      (fun t => t.bufferAnswer ch (s.chan ch).gen.toNat ring (.ofRead res)))) := by
  show act (s.live && s.hasUse (isBuffer ch (s.chan ch).gen.toNat ring)) s _ = _
  rw [hlive, hout]
  rfl

/-- The buffer begins and fails as faulty (R99), which makes the channel GUILTY; counting what has completed then takes it out of the channel (R113). -/
theorem faultyRead_counted :
    ((faultyReadState.answer (isBuffer 0 7 9) (fun t => t.bufferAnswer 0 7 9 (.data soundLines))).chan 0).bufs = [] := by decide +kernel

/-- Refutes O11. The clause of BUFFER_READ_DONE for a sound header says that the buffer is still there afterwards with its header and operations, and
no premise of it excludes a buffer that is marked faulty while it is read: in `faultyReadState` such a buffer is counted at once, and channel 0 holds no
buffer any more. With the premise `b.faulty = false` the counterexample goes. -/
theorem not_buffersAreFetched : ¬ Obligations.BuffersAreFetched := by
  unfold Obligations.BuffersAreFetched
  rintro ⟨-, hfetch⟩
  obtain ⟨-, -, hbuffer, -⟩ := hfetch faultyReadState (by decide +kernel)
  obtain ⟨hsound, -⟩ := hbuffer 0 9 soundLines faultyRead (by decide +kernel) (by decide +kernel) rfl rfl (by decide +kernel) rfl (by decide)
  obtain ⟨t, hexec, x, hx, -⟩ := hsound soundHeader (by decide +kernel) rfl (by decide +kernel)
  rw [exec_bufferReadDone (by decide +kernel) (by decide +kernel)] at hexec
  rw [← Host.Outcome.next.inj hexec, State.keep_chan] at hx
  exact absurd (faultyRead_counted ▸ hx) List.not_mem_nil

end Sys2Proof.Machine
end

section
/-!
PROOFS. Registers at reset and read back (R122, R123, R363, R425, R462, R519, R570, R572): the statements RegistersReadTheirResetValues,
RegisterWritesReadBack and AdminRingRegistersHold.
-/
namespace Sys2Proof.Machine

/-- Settles O3: the reset state is one state, and each register of it is read. -/
theorem registersReadTheirResetValues : Obligations.RegistersReadTheirResetValues := by
  unfold Obligations.RegistersReadTheirResetValues
  decide +kernel

/-! ### Fields as numbers (R8) -/

/-- `n` bits kept from bit `k` on. -/
theorem and_mask_shiftLeft (x n k : Nat) : x &&& ((2 ^ n - 1) <<< k) = x / 2 ^ k % 2 ^ n * 2 ^ k := by
  refine Nat.eq_of_testBit_eq fun i => ?_
  simp only [Nat.testBit_and, Nat.testBit_shiftLeft, Nat.testBit_two_pow_sub_one, Nat.testBit_mul_two_pow, Nat.testBit_mod_two_pow,
    Nat.testBit_div_two_pow]
  by_cases hk : k ≤ i
  · simp [hk, Bool.and_comm]
  · simp [hk]

theorem keepBits_toNat (v : Word) {mask : Nat} (n k : Nat) (hmask : mask = (2 ^ n - 1) <<< k) (hfits : mask < 2 ^ 64) :
    (keepBits v mask).toNat = v.toNat / 2 ^ k % 2 ^ n * 2 ^ k := by
  rw [keepBits, BitVec.toNat_and, BitVec.toNat_ofNat, Nat.mod_eq_of_lt hfits, hmask, and_mask_shiftLeft]

theorem bits_eq {n : Nat} (v : BitVec n) (hi lo : Nat) : bits v hi lo = v.toNat / 2 ^ lo % 2 ^ (hi + 1 - lo) := by
  rw [bits, Nat.shiftRight_eq_div_pow]

/-- A value held to a range. -/
theorem clampNat_eq {lo hi : Nat} (h : lo ≤ hi) (v : Nat) : clampNat lo hi v = max lo (min hi v) := by
  unfold clampNat
  split
  · omega
  · split <;> omega

/-- A field clamped to a range that fits it stands at its place. -/
theorem clampField_eq (v : Word) {hi lo least most : Nat} (h : least ≤ most) (hfits : most < 2 ^ (hi + 1 - lo)) :
    clampField v hi lo least most = max least (min most (v.toNat / 2 ^ lo % 2 ^ (hi + 1 - lo))) * 2 ^ lo := by
  rw [clampField, place, clampNat_eq h, bits_eq, Nat.mod_eq_of_lt (by omega), Nat.shiftLeft_eq]

/-! ### Writes and reads of the registers (R558, R570) -/

theorem exec_registerWrite (offset : BitVec 20) (v : Word) (s : State) :
    exec (.registerWrite offset v) s = actAll s.regsOpen s (s.regWrite offset.toNat v) := rfl

/-- While the registers are reached a write of one takes effect. -/
theorem registerWrite_lands {s : State} (hopen : s.regsOpen = true) (offset : BitVec 20) (v : Word) :
    exec (.registerWrite offset v) s = .next (s.regWrite offset.toNat v) := by
  rw [exec_registerWrite, hopen, actAll_due]

/-- A write that changes nothing leaves the state, whether the registers are reached or not. -/
theorem registerWrite_ignored {s : State} {offset : BitVec 20} {v : Word} (h : s.regWrite offset.toNat v = s) :
    exec (.registerWrite offset v) s = .next s := by
  rw [exec_registerWrite, h]
  cases s.regsOpen <;> rfl

section
variable (s : State) (v : Word)

theorem regRead_globalCtl_regWrite : (s.regWrite 0x00018 v).regRead 0x00018 = (keepBits v 0x1FFFF).toNat := rfl
theorem regRead_sweep_regWrite : (s.regWrite 0x10020 v).regRead 0x10020 = (sweepWord v).toNat := rfl
theorem regRead_plCtl_regWrite : (s.regWrite 0x50000 v).regRead 0x50000 =
    (BitVec.ofNat 64 (clampField v 47 32 2 200 + clampField v 15 0 500 20000)).toNat := by
  have hwrite : s.regWrite 0x50000 v =
      s.modPane 0 (fun q => { q with ctl := BitVec.ofNat 64 (clampField v 47 32 2 200 + clampField v 15 0 500 20000) }) := rfl
  have hread (t : State) : t.regRead 0x50000 = (t.port 0).pane.ctl.toNat := rfl
  rw [hread, hwrite, State.modPane_port_same]
theorem regRead_pavSel_regWrite : (s.regWrite 0xB0018 v).regRead 0xB0018 = (keepBits v 0xF).toNat := rfl
theorem regRead_hangCtl_regWrite : (s.regWrite 0xD0028 v).regRead 0xD0028 = (hangWord v).toNat := rfl
theorem regRead_topoSel_regWrite : (s.regWrite 0xF8040 v).regRead 0xF8040 = (keepBits v 0x1FFFF).toNat := rfl

theorem regRead_admin0Cmpl_regWrite (hoff : s.front.admin0En = false) :
    (s.regWrite 0x10010 v).regRead 0x10010 = (keepBits v 0xFFFFFFFFFFF000).toNat := by
  have hwrite : s.regWrite 0x10010 v = if s.front.admin0En then s else
      s.modFront (fun e => { e with admin0Cmpl := keepBits v 0xFFFFFFFFFFF000 }) := rfl
  rw [hwrite, hoff]
  rfl

/-- While ADMIN0_EN is 1 the registers of the Pavilion 0 ring ignore writes (R123). -/
theorem regWrite_admin0_ignored (hon : s.front.admin0En = true) :
    s.regWrite 0x10008 v = s ∧ s.regWrite 0x10010 v = s ∧ s.regWrite 0x10018 v = s := by
  have hheld (f : FrontEnd → FrontEnd) : (if s.front.admin0En then s else s.modFront f) = s := if_pos hon
  exact ⟨hheld _, hheld _, hheld _⟩

end

/-- A period that is off at 0 and held to a range otherwise. -/
theorem period_toNat {x lo hi : Nat} (h : lo ≤ hi) (hfits : hi < 2 ^ 64) :
    (BitVec.ofNat 64 (if x = 0 then 0 else clampNat lo hi x)).toNat = if x = 0 then 0 else max lo (min hi x) := by
  rw [clampNat_eq h, BitVec.toNat_ofNat]
  split
  · rfl
  · exact Nat.mod_eq_of_lt (by omega)

/-- Settles O58. -/
theorem adminRingRegistersHold : Obligations.AdminRingRegistersHold := by
  unfold Obligations.AdminRingRegistersHold
  intro s v hon
  obtain ⟨hring, hcmpl, hdb⟩ := regWrite_admin0_ignored s v hon
  exact ⟨registerWrite_ignored hring, registerWrite_ignored hcmpl, registerWrite_ignored hdb⟩

/-- Settles O5: what each register reads after its write is the word written, cut to the field and held to its range. -/
theorem registerWritesReadBack : Obligations.RegisterWritesReadBack := by
  unfold Obligations.RegisterWritesReadBack
  intro s v hopen
  refine ⟨⟨_, registerWrite_lands hopen .., ?_⟩, ⟨_, registerWrite_lands hopen .., ?_⟩, fun hoff => ⟨_, registerWrite_lands hopen .., ?_⟩,
    fun hon => ?_, ⟨_, registerWrite_lands hopen .., ?_⟩,
    ⟨_, registerWrite_lands hopen .., ?_⟩, ⟨_, registerWrite_lands hopen .., ?_⟩, ⟨_, registerWrite_lands hopen .., ?_⟩⟩
  · refine (regRead_globalCtl_regWrite s v).trans ?_
    rw [keepBits_toNat v 17 0 (by decide) (by decide)]
    simp
  · refine (regRead_sweep_regWrite s v).trans ?_
    rw [sweepWord, period_toNat (by decide) (by decide), bits_eq]
    simp
  · refine (regRead_admin0Cmpl_regWrite s v hoff).trans ?_
    rw [keepBits_toNat v 44 12 (by decide) (by decide)]
    omega
  · obtain ⟨-, hcmpl, -⟩ := regWrite_admin0_ignored s v hon
    exact registerWrite_ignored hcmpl
  · refine (regRead_plCtl_regWrite s v).trans ?_
    rw [clampField_eq v (by decide) (by decide), clampField_eq v (by decide) (by decide), BitVec.toNat_ofNat]
    simp only [Nat.reducePow, Nat.reduceAdd, Nat.reduceSub, Nat.div_one, Nat.mul_one, Nat.pow_zero]
    omega
  · refine (regRead_pavSel_regWrite s v).trans ?_
    rw [keepBits_toNat v 4 0 (by decide) (by decide)]
    simp
  · refine (regRead_hangCtl_regWrite s v).trans ?_
    rw [hangWord, period_toNat (by decide) (by decide), bits_eq]
    simp
  · refine (regRead_topoSel_regWrite s v).trans ?_
    rw [keepBits_toNat v 17 0 (by decide) (by decide)]
    simp

end Sys2Proof.Machine
end

section
/-!
PROOFS. Operations taken by their engines (R145, R158, R184, R190): the statement OperationsAreTaken.
-/
namespace Sys2Proof.Machine

/-- Taking an operation that its engine can take is due when its body is of the command's kind. -/
theorem act_takes {s : State} {o : OpRef} {p : Operation} (htake : s.takeable o = some p) {kind : OpBody → Bool} (hkind : kind p.body = true)
    (t : State) : act (s.takes o kind) s t = .next (s.keep t) := by
  rw [State.takes, htake, Option.any_some, hkind, act_due]

/-- Between two states an operation is taken: it alone of its channel changes, no other channel does, and nothing has been sent. -/
def State.Took (s t : State) (o : OpRef) (q : OpSlot) : Prop :=
  t.opOf o = some q ∧ (∀ j, j ≠ o.chan → t.chan j = s.chan j) ∧ t.xfer = s.xfer ∧ t.fab = s.fab ∧ t.watch = s.watch ∧ t.ports = s.ports ∧
    t.gather = s.gather ∧ t.counters = s.counters ∧ t.belv = s.belv ∧ t.lodge = s.lodge

theorem State.modOp_took {s : State} {o : OpRef} {q : OpSlot} (hq : s.opOf o = some q) (f : OpSlot → OpSlot) (pav : Nat) :
    s.Took (s.keep ((s.modOp o f).activity pav)) o (f q) := by
  refine ⟨?_, fun j hj => ?_, rfl, rfl, rfl, rfl, rfl, rfl, rfl, rfl⟩
  · rw [State.opOf_congr (State.keep_chan ..), State.opOf_congr (State.activity_chan ..), State.modOp_opOf_same, hq, Option.map_some]
  · rw [State.keep_chan, State.activity_chan, State.modOp_chan_other _ _ _ hj]

theorem State.takeCopy_took {s : State} {o : OpRef} {q : OpSlot} (hq : s.opOf o = some q) :
    s.Took (s.keep (s.takeCopy o)) o { q with phase := .running, cluster := s.pickCluster (s.chan o.chan).pav } := State.modOp_took hq _ _

theorem State.takeAtomic_took {s : State} {o : OpRef} {q : OpSlot} (hq : s.opOf o = some q) :
    s.Took (s.keep (s.takeAtomic o)) o { q with phase := .running } := State.modOp_took hq _ _

/-- A KVMOVE of another node's pages is taken as any operation of a copy engine (R190). -/
theorem State.takeKv_remote {s : State} {o : OpRef} {p : Operation} {k : KvMove} (htake : s.takeable o = some p) (hbody : p.body = .kvmove k)
    (hsrc : k.srcNode ≠ s.topo.node) : s.takeKv o = s.takeCopy o := by
  simp only [State.takeKv, htake, hbody, if_neg hsrc]

section
variable {s : State} {o : OpRef} {p : Operation} {r : Remote} {mode : Nat} {v : Word} (htake : s.takeable o = some p)
  (hbody : p.body = .signal (.remote r) mode v)
include htake hbody

theorem State.takeSignal_remote : s.takeSignal o = s.takeAtomic o := by simp only [State.takeSignal, htake, hbody]

/-- A SIGNAL of a remote semaphore waits for the operations before it alone (R43). -/
theorem State.signalDue_remote {q : OpSlot} (hq : s.opOf o = some q) (hfirst : s.earlierOpen o q = []) : s.signalDue o = true := by
  simp only [State.signalDue, State.takes, hq, htake, hfirst, hbody, Option.any_some, List.isEmpty_nil, Bool.and_self]

end

theorem exec_kvmove_remote {s : State} {o : OpRef} {p : Operation} {k : KvMove} (htake : s.takeable o = some p) (hbody : p.body = .kvmove k)
    (hsrc : k.srcNode ≠ s.topo.node) : exec (.kvmove o) s = .next (s.keep (s.takeCopy o)) := by
  rw [← State.takeKv_remote htake hbody hsrc]
  exact act_takes htake (by rw [hbody]) _

theorem exec_signal_remote {s : State} {o : OpRef} {p : Operation} {q : OpSlot} {r : Remote} {mode : Nat} {v : Word}
    (htake : s.takeable o = some p) (hbody : p.body = .signal (.remote r) mode v) (hq : s.opOf o = some q) (hfirst : s.earlierOpen o q = []) :
    exec (.signal o) s = .next (s.keep (s.takeAtomic o)) := by
  show act (s.signalDue o) s (s.takeSignal o) = _
  rw [State.signalDue_remote htake hbody hq hfirst, State.takeSignal_remote htake hbody, act_due]

/-- Settles O13: what is said of every engine is `Took`; a copy engine takes by `takeCopy`, the atomic unit by `takeAtomic`. -/
theorem operationsAreTaken : Obligations.OperationsAreTaken := by
  unfold Obligations.OperationsAreTaken
  intro s o p q htake hq
  have hcopy := State.takeCopy_took hq
  have hatomic := State.takeAtomic_took hq
  exact ⟨fun _ _ _ _ hput => ⟨_, act_takes htake (by rw [hput]) _, hcopy⟩,
    fun _ _ _ hinline => ⟨_, act_takes htake (by rw [hinline]) _, hcopy⟩,
    fun _ _ _ _ hget => ⟨_, act_takes htake (by rw [hget]) _, hcopy⟩,
    fun _ _ _ _ hmove => ⟨_, act_takes htake (by rw [hmove]) _, hcopy⟩,
    fun _ hkv hsrc => ⟨_, exec_kvmove_remote htake hkv hsrc, hcopy⟩,
    fun _ hatom => ⟨_, act_takes htake (by rw [hatom]) _, hatomic⟩,
    fun _ _ _ hsignal hfirst => ⟨_, exec_signal_remote htake hsignal hq hfirst, hatomic⟩⟩

end Sys2Proof.Machine
end

section
/-!
SUPPORT. What reading a program slot, a counter or an access gives after each shared update, said once (R285, R289, R518, R551).
-/
namespace Sys2Proof.Machine

/-! ### Program slots read back -/

/-- A program slot is read from the Gather engine alone. -/
theorem State.gslot_congr {s t : State} (h : t.gather = s.gather) (i : Nat) : t.gslot i = s.gslot i := by
  simp [State.gslot, h]

@[simp] theorem State.keep_gslot (s t : State) (i : Nat) : (s.keep t).gslot i = t.gslot i := rfl
@[simp] theorem State.modFab_gslot (s : State) (g : Fabric → Fabric) (i : Nat) : (s.modFab g).gslot i = s.gslot i := rfl
@[simp] theorem State.modOp_gslot (s : State) (o : OpRef) (f : OpSlot → OpSlot) (i : Nat) : (s.modOp o f).gslot i = s.gslot i := rfl
@[simp] theorem State.belvAdd_gslot (s : State) (a b n i : Nat) : (s.belvAdd a b n).gslot i = s.gslot i := rfl
@[simp] theorem State.activity_gslot (s : State) (n i : Nat) : (s.activity n).gslot i = s.gslot i := rfl
@[simp] theorem State.bump_gslot (s : State) (off i : Nat) : (s.bump off).gslot i = s.gslot i := State.gslot_congr (by simp) i
@[simp] theorem State.issue_gslot (s : State) (q : FabRequest) (i : Nat) : (s.issue q).gslot i = s.gslot i := State.gslot_congr (by simp) i
@[simp] theorem State.issueAll_gslot (s : State) (l : List FabRequest) (i : Nat) : (s.issueAll l).gslot i = s.gslot i :=
  State.gslot_congr (by simp) i

section
variable (s : State) (i : Nat) (f : GSlot → GSlot) (g : Run → Run)

@[simp] theorem State.modGslot_fab : (s.modGslot i f).fab = s.fab := rfl
@[simp] theorem State.modGslot_front : (s.modGslot i f).front = s.front := rfl
@[simp] theorem State.modGslot_ports : (s.modGslot i f).ports = s.ports := rfl
@[simp] theorem State.modGslot_counters : (s.modGslot i f).counters = s.counters := rfl
@[simp] theorem State.modGslot_chan (j : Nat) : (s.modGslot i f).chan j = s.chan j := rfl

@[simp] theorem State.modGslot_gslot_same : (s.modGslot i f).gslot i = (s.gslot i).map f := by
  simp [State.modGslot, State.setGslot, State.gslot, Gather.slot]

theorem State.modGslot_gslot_other {j : Nat} (h : j ≠ i) : (s.modGslot i f).gslot j = s.gslot j := by
  simp [State.modGslot, State.setGslot, State.gslot, Gather.slot, Table.get_put_other _ _ _ h]

@[simp] theorem State.modRun_fab : (s.modRun i g).fab = s.fab := rfl
@[simp] theorem State.modRun_front : (s.modRun i g).front = s.front := rfl
@[simp] theorem State.modRun_ports : (s.modRun i g).ports = s.ports := rfl
@[simp] theorem State.modRun_counters : (s.modRun i g).counters = s.counters := rfl

theorem State.modRun_gslot_other {j : Nat} (h : j ≠ i) : (s.modRun i g).gslot j = s.gslot j := s.modGslot_gslot_other i _ h

end

/-- A run changed in its slot. -/
theorem State.modRun_gslot {s : State} {i : Nat} {q : GSlot} {r : Run} (hslot : s.gslot i = some q) (hrun : q.run = some r) (g : Run → Run) :
    (s.modRun i g).gslot i = some { q with run := some (g r) } := by
  rw [State.modRun, State.modGslot_gslot_same, hslot, Option.map_some, hrun, Option.map_some]

/-- A run in progress is the run of its slot, and has not failed. -/
theorem State.running_eq_some {s : State} {i : Nat} {q : GSlot} {r : Run} (h : s.running i = some (q, r)) :
    s.gslot i = some q ∧ q.run = some r ∧ r.failed = none ∧ r.phase = .running := by
  unfold State.running at h
  split at h
  case h_1 => cases h
  case h_2 q' hslot =>
    split at h
    case h_1 => cases h
    case h_2 r' hrun =>
      split at h
      case isTrue hok =>
        cases h
        simpa [hslot, hrun] using hok
      case isFalse => cases h

/-! ### Counters read back (R518) -/

@[simp] theorem State.bumpRaw_counter_same (s : State) (off : Nat) : (s.bumpRaw off).counter off = (s.counter off).bump.1 := by
  simp [State.bumpRaw, State.counter]

/-- A counter below its last values counts one more, and nothing is reported. -/
theorem State.bump_count {s : State} {off : Nat} (h : (s.counter off).count < 0xFFFFFFFE) :
    ((s.bump off).counter off).count = (s.counter off).count + 1 := by
  have hbump : (s.counter off).bump = ({ s.counter off with count := (s.counter off).count + 1 }, false) := by
    rw [Counter.bump, if_neg (by bv_omega), if_neg (by bv_omega)]
  rw [State.bump, if_neg (by simp [hbump]), State.bumpRaw_counter_same, hbump]

/-! ### Accesses asked for (R551) -/

/-- Of several accesses issued each is asked for. -/
theorem State.issueAll_asks {r : FabRequest} {l : List FabRequest} (h : r ∈ l) (s : State) : (s.issueAll l).asks r := by
  induction l generalizing s with
  | nil => cases h
  | cons q l ih =>
    rcases List.mem_cons.mp h with rfl | hr
    · exact State.asks_issueAll l (s.issue_asks r)
    · exact ih hr (s.issue q)

/-! ### Messages sent leave the programs -/

@[simp] theorem State.sendVia_gather (s : State) (p cls key : Nat) (m : Msg) (ready : Bool) (stream : Nat) (tag : Option Nat) :
    (s.sendVia p cls key m ready stream tag).gather = s.gather := by
  unfold State.sendVia; repeat' split
  all_goals rfl

@[simp] theorem State.sendMsg_gather (s : State) (cls key dest : Nat) (m : Msg) (ready : Bool) (stream : Nat) (tag : Option Nat) :
    (s.sendMsg cls key dest m ready stream tag).gather = s.gather := s.sendVia_gather ..

end Sys2Proof.Machine
end

section
/-!
PROOFS. Runs of the Gather engine taken, begun, timed out and ended (R148, R156, R274, R284, R289 to R293): the statement GatherRunsGoThrough.
-/
namespace Sys2Proof.Machine

/-! ### GATHER_RUN (R156, R289) -/

/-- An operation taken has the body its engine was given. -/
theorem State.body_of_takeable {s : State} {o : OpRef} {p : Operation} {x : OpSlot} (htake : s.takeable o = some p) (hx : s.opOf o = some x) :
    x.body = p.body := by
  cases hoper : x.oper with
  | none => simp [State.takeable, hx, hoper] at htake
  | some p' =>
    simp only [State.takeable, hx, hoper] at htake
    obtain ⟨-, ⟨⟩⟩ := Option.ite_none_right_eq_some.mp htake
    simp only [OpSlot.body, hoper]

theorem State.gatherOp_of_takeable {s : State} {o : OpRef} {p : Operation} {x : OpSlot} {g : GatherRunOp} (htake : s.takeable o = some p)
    (hx : s.opOf o = some x) (hbody : p.body = .gatherRun g) : s.gatherOp o = some g := by
  rw [State.gatherOp, hx, Option.map_some, State.body_of_takeable htake hx, hbody]

section
variable {s : State} {o : OpRef} {g : GatherRunOp} {q : GSlot} (hg : s.gatherOp o = some g)
include hg

theorem State.takeGather_absent (hslot : s.gslot g.program = none) : s.takeGather o = s.endOp o stMalformed 0 := by
  simp only [State.takeGather, hg, hslot]

theorem State.takeGather_other_program (hslot : s.gslot g.program = some q) (hother : q.tag ≠ g.progTag ∨ q.prog.persistent = true) :
    s.takeGather o = s.endOp o stMalformed 0 := by
  have hcond : (decide (q.tag ≠ g.progTag) || q.prog.persistent) = true := by simpa using hother
  simp only [State.takeGather, hg, hslot, if_pos hcond]

variable (hslot : s.gslot g.program = some q) (htag : q.tag = g.progTag) (hplain : q.prog.persistent = false)
include hslot htag hplain

theorem State.takeGather_other_pavilion (hpav : q.pav ≠ (s.chan o.chan).pav) : s.takeGather o = s.endOp o stPermission 0 := by
  simp [State.takeGather, hg, hslot, htag, hplain, hpav]

theorem State.takeGather_joins (hpav : q.pav = (s.chan o.chan).pav) :
    s.takeGather o = ((s.modOp o (fun x => { x with phase := .running, out := 1 })).modGslot g.program
      (fun q => { q with queue := q.queue ++ [o] })).activity q.pav := by
  simp [State.takeGather, hg, hslot, htag, hplain, hpav]

end

/-- An operation of an active channel that ends with a status of R114 makes the channel GUILTY. -/
theorem State.endOp_guilty {s : State} {o : OpRef} {x : OpSlot} (hx : s.opOf o = some x) (hactive : (s.chan o.chan).state = .active) {st : Nat}
    (hst : guiltyStatus st = true) (fl : Nat) :
    ((s.endOp o st fl).chan o.chan).standing = (.guilty, st, o.op) ∧ (s.endOp o st fl).ports = s.ports ∧
      (s.NoneOpen → ∀ j, j ≠ o.chan → (s.endOp o st fl).chan j = s.chan j) := by
  obtain ⟨b, hb, -⟩ := State.buf_of_opOf hx
  have hhalts := s.endedIn_halts o b st fl true
  have hstate : ((s.endedIn o b st fl true).chan o.chan).state = .active := (congrArg Prod.fst (hhalts.standing o.chan)).trans hactive
  rw [State.endOp_eq hb, hst, Bool.and_true, if_pos rfl]
  refine ⟨State.guilty_standing hstate _ _, (State.guilty_ports hstate _ _).trans hhalts.ports, fun hnone j hj => ?_⟩
  obtain ⟨hmeas, hothers⟩ := hhalts.closed hnone
  exact (State.guilty_others hstate (hnone.of_meas hmeas) _ _ hj).trans (hothers j hj)

section
variable {s : State} {o : OpRef} {p : Operation} {x : OpSlot} {g : GatherRunOp} (htake : s.takeable o = some p) (hx : s.opOf o = some x)
  (hbody : p.body = .gatherRun g)
include htake hbody

theorem exec_gatherRun_taken : exec (.gatherRun o) s = .next (s.keep (s.takeGather o)) := act_takes htake (by rw [hbody]) _

include hx

/-- A GATHER_RUN that is refused fails its channel (R114, R156). -/
theorem gatherRun_refused {st : Nat} (hend : s.takeGather o = s.endOp o st 0) (hst : guiltyStatus st = true)
    (hactive : (s.chan o.chan).state = .active) :
    ∃ t, exec (.gatherRun o) s = .next t ∧ (t.chan o.chan).state = .guilty ∧ (t.chan o.chan).failStatus = st ∧ (t.chan o.chan).failOp = o.op ∧
      t.ports = s.ports ∧ (s.NoneOpen → ∀ j, j ≠ o.chan → t.chan j = s.chan j) := by
  obtain ⟨hstanding, hports, hothers⟩ := State.endOp_guilty hx hactive hst 0
  rw [← hend] at hstanding hports hothers
  simp only [Channel.standing, Prod.mk.injEq] at hstanding
  obtain ⟨hstate, hstatus, hop⟩ := hstanding
  exact ⟨_, exec_gatherRun_taken htake hbody, hstate, hstatus, hop, hports, hothers⟩

/-- A GATHER_RUN of a program of its Pavilion waits behind the runs before it (R289). -/
theorem gatherRun_joins {q : GSlot} (hslot : s.gslot g.program = some q) (htag : q.tag = g.progTag) (hplain : q.prog.persistent = false)
    (hpav : q.pav = (s.chan o.chan).pav) :
    ∃ t, exec (.gatherRun o) s = .next t ∧ t.gslot g.program = some { q with queue := q.queue ++ [o] } ∧
      t.opOf o = some { x with phase := .running, out := 1 } ∧ (∀ j, j ≠ g.program → t.gslot j = s.gslot j) ∧
      (∀ j, j ≠ o.chan → t.chan j = s.chan j) ∧ t.ports = s.ports ∧ t.fab = s.fab := by
  refine ⟨_, exec_gatherRun_taken htake hbody, ?_⟩
  rw [State.takeGather_joins (State.gatherOp_of_takeable htake hx hbody) hslot htag hplain hpav]
  refine ⟨by simp [hslot], ?_, fun j hj => ?_, fun j hj => ?_, rfl, rfl⟩
  · have hop := s.modOp_opOf_same o (fun x => { x with phase := .running, out := 1 })
    rw [hx, Option.map_some] at hop
    exact (State.opOf_congr rfl).trans hop
  · exact State.modGslot_gslot_other _ _ _ hj
  · exact State.modOp_chan_other _ _ _ hj

end

/-! ### The steps of a run looked at again (R27, R291, R293) -/

/-- Between two states the steps of the run of a slot advance: of the programs that run alone changes, and neither the front end nor a port does. -/
structure State.Pumps (i : Nat) (s u : State) : Prop where
  front : u.front = s.front
  ports : u.ports = s.ports
  others : ∀ j, j ≠ i → u.gslot j = s.gslot j
  slot : ∀ q r, s.gslot i = some q → q.run = some r → ∃ steps, u.gslot i = some { q with run := some { r with steps := steps } }

namespace State.Pumps

variable {i : Nat} {s u v : State}

theorem refl (s : State) : s.Pumps i s := ⟨rfl, rfl, fun _ _ => rfl, fun _ r hslot hrun => ⟨r.steps, by rw [hslot, ← hrun]⟩⟩

theorem trans (h : s.Pumps i u) (k : u.Pumps i v) : s.Pumps i v where
  front := k.front.trans h.front
  ports := k.ports.trans h.ports
  others j hj := (k.others j hj).trans (h.others j hj)
  slot q r hslot hrun := by
    obtain ⟨steps, hu⟩ := h.slot q r hslot hrun
    obtain ⟨steps', hv⟩ := k.slot _ _ hu rfl
    exact ⟨steps', hv⟩

theorem of_modStep (s : State) (i k : Nat) (f : StepState → StepState) : s.Pumps i (s.modRun i (fun r => r.modStep k f)) :=
  ⟨rfl, rfl, fun _ hj => State.modRun_gslot_other _ _ _ hj, fun _ _ hslot hrun => ⟨_, State.modRun_gslot hslot hrun _⟩⟩

theorem of_issueAll (s : State) (i : Nat) (l : List FabRequest) : s.Pumps i (s.issueAll l) :=
  ⟨by simp, by simp, by simp, fun _ r hslot hrun => ⟨r.steps, by rw [State.issueAll_gslot, hslot, ← hrun]⟩⟩

end State.Pumps

theorem State.askLane_pumps (i k : Nat) (w : WorkLane) (n : Nat) (s : State) : s.Pumps i (s.askLane i k w n) := by
  induction n generalizing s with
  | zero => exact .refl s
  | succ n ih =>
    unfold State.askLane
    split
    · exact .refl s
    · split
      · exact ((State.Pumps.of_modStep ..).trans (.of_issueAll ..)).trans (ih _)
      · exact .refl s

theorem State.timeLane_pumps (s : State) (i k : Nat) (w : WorkLane) : s.Pumps i (s.timeLane i k w) := by
  unfold State.timeLane
  split
  · exact .refl s
  · dsimp only
    split
    · exact .refl s
    · exact .of_modStep ..

theorem State.pumpRun_pumps (s : State) (i : Nat) : s.Pumps i (s.pumpRun i) := by
  unfold State.pumpRun
  split
  · exact .refl s
  · exact foldl_keeps .refl .trans
      (fun y _ t => foldl_keeps .refl .trans (fun w _ t => (State.askLane_pumps i y.2 w _ t).trans (State.timeLane_pumps _ i y.2 w)) t) s

/-! ### RUN_START (R284, R289, R291) -/

theorem exec_runStart (i : Nat) (s : State) : exec (.runStart i) s = act (s.live && s.runDue i) s (s.startRun i) := rfl

/-- The next run of a slot as it begins: failed where its accesses cannot fit (R148, R284). -/
def State.firstRun (s : State) (q : GSlot) : Run :=
  { s.newRun q with failed := if accFits q.prog (s.newRun q) && addressesFit q.prog (s.newRun q) then none else some (stMalformed, 0) }

/-- A run takes the number after those begun. -/
theorem State.newRun_num (s : State) (q : GSlot) : (s.newRun q).num = q.runs + 1 := by
  unfold State.newRun
  dsimp only
  split <;> rfl

/-- The state with the run begun, before its first operands are asked for. -/
def State.beganRun (s : State) (i : Nat) (q : GSlot) : State :=
  ((s.modGslot i (fun x => { x with run := some (s.firstRun q), runs := x.runs + 1, queue := x.queue.drop 1 })).activity q.pav).belvAdd q.pav
    (belvId 0x10 7) 1

theorem State.startRun_eq {s : State} {i : Nat} {q : GSlot} (hslot : s.gslot i = some q) : s.startRun i = (s.beganRun i q).pumpRun i := by
  simp only [State.startRun, hslot]
  rfl

theorem runStart_begins {s : State} {i : Nat} {q : GSlot} (hlive : s.live = true) (hslot : s.gslot i = some q) (hdue : s.runDue i = true) :
    ∃ t steps, exec (.runStart i) s = .next t ∧
      t.gslot i = some { q with run := some { s.firstRun q with steps := steps }, runs := q.runs + 1, queue := q.queue.drop 1 } ∧
      (∀ j, j ≠ i → t.gslot j = s.gslot j) ∧ t.front = s.front ∧ t.ports = s.ports := by
  have hbegan : (s.beganRun i q).gslot i = some { q with run := some (s.firstRun q), runs := q.runs + 1, queue := q.queue.drop 1 } := by
    simp [State.beganRun, hslot]
  have hpumps := (s.beganRun i q).pumpRun_pumps i
  obtain ⟨steps, hpumped⟩ := hpumps.slot _ _ hbegan rfl
  refine ⟨s.keep (s.startRun i), steps, by rw [exec_runStart, hlive, hdue]; rfl, ?_⟩
  rw [State.startRun_eq hslot]
  exact ⟨hpumped, fun j hj => (hpumps.others j hj).trans (State.modGslot_gslot_other _ _ _ hj), hpumps.front, hpumps.ports⟩

/-! ### STEP_TIMEOUT (R274, R293) -/

theorem exec_stepTimeout (i k : Nat) (s : State) :
    exec (.stepTimeout i k) s = act (s.live && s.stepTimedOut i k) s ((s.bump ctrTimeout).failRun i stPeerTimeout (s.stepPlace i k)) := rfl

/-- A step that has timed out is a step of a run in progress. -/
theorem State.running_of_stepTimedOut {s : State} {i k : Nat} (h : s.stepTimedOut i k = true) :
    ∃ q r, s.running i = some (q, r) ∧ q.prog.atNum k ≠ [] := by
  unfold State.stepTimedOut at h
  split at h
  case h_1 => cases h
  case h_2 q r hrunning => exact ⟨q, r, hrunning, fun hnil => by simp [hnil] at h⟩

/-- The place found for a step number holds a step of that number. -/
theorem State.numOf_stepPlace {s : State} {i k : Nat} {q : GSlot} (hslot : s.gslot i = some q) (hstep : q.prog.atNum k ≠ []) :
    q.prog.numOf (s.stepPlace i k) = k := by
  obtain ⟨y, l, hl⟩ := List.exists_cons_of_ne_nil hstep
  have hmem : y ∈ q.prog.atNum k := hl ▸ List.mem_cons_self
  obtain ⟨hzip, hnum⟩ := List.mem_filter.mp hmem
  have hplace : s.stepPlace i k = y.2 := by simp [State.stepPlace, hslot, hl]
  have hget : q.prog.steps[y.2]? = some y.1 := List.mem_zipIdx_iff_getElem?.mp hzip
  rw [hplace, Program.numOf, hget, Option.map_some, Option.getD_some]
  exact beq_iff_eq.mp hnum

/-- What a run's failure does (R274). -/
theorem State.failRun_eq {s : State} {i : Nat} {q : GSlot} (hslot : s.gslot i = some q) (st k : Nat) :
    s.failRun i st k = (s.modFab (fun f => { f with waiting := f.waiting.filter (fun a => !isResultWrite i q.tag a.use) })).modRun i
      (fun r => if r.failed.isSome then r else { r with failed := some (st, q.prog.numOf k) }) := by
  simp only [State.failRun, hslot]

theorem stepTimeout_fails {s : State} {i k : Nat} {q : GSlot} {r : Run} (hlive : s.live = true) (hslot : s.gslot i = some q)
    (hrun : q.run = some r) (hdue : s.stepTimedOut i k = true) (hcount : (s.counter ctrTimeout).count < 0xFFFFFFFE) :
    ∃ t, exec (.stepTimeout i k) s = .next t ∧ t.gslot i = some { q with run := some { r with failed := some (0x21, k) } } ∧
      (t.counter ctrTimeout).count = (s.counter ctrTimeout).count + 1 ∧ (∀ j, j ≠ i → t.gslot j = s.gslot j) ∧ t.front = s.front ∧
      t.fab.out = s.fab.out ∧ (∀ a ∈ t.fab.waiting, a ∈ s.fab.waiting ∧ isResultWrite i q.tag a.use = false) := by
  obtain ⟨q', r', hrunning, hstep⟩ := State.running_of_stepTimedOut hdue
  obtain ⟨hslot', hrun', hfailed, -⟩ := State.running_eq_some hrunning
  obtain rfl : q = q' := Option.some.inj (hslot.symm.trans hslot')
  obtain rfl : r = r' := Option.some.inj (hrun.symm.trans hrun')
  have hbumped : (s.bump ctrTimeout).gslot i = some q := (s.bump_gslot ctrTimeout i).trans hslot
  refine ⟨s.keep ((s.bump ctrTimeout).failRun i stPeerTimeout (s.stepPlace i k)), by rw [exec_stepTimeout, hlive, hdue]; rfl, ?_⟩
  rw [State.failRun_eq hbumped, State.numOf_stepPlace hslot hstep]
  refine ⟨?_, State.bump_count hcount, fun j hj => ?_, State.bump_front .., ?_, fun a ha => ?_⟩
  · rw [State.keep_gslot, State.modRun_gslot ((State.modFab_gslot ..).trans hbumped) hrun, hfailed]
    rfl
  · rw [State.keep_gslot, State.modRun_gslot_other _ _ _ hj, State.modFab_gslot, State.bump_gslot]
  · simp
  · simpa using ha

/-! ### RUN_END (R292) -/

theorem exec_runEnd (i : Nat) (s : State) : exec (.runEnd i) s = act (s.live && s.runOver i) s (s.endRun i) := rfl

/-- Between two states messages are sent: the front end, the fabric and the programs stay. -/
structure State.Messages (s u : State) : Prop where
  front : u.front = s.front
  fab : u.fab = s.fab
  gather : u.gather = s.gather

theorem State.discardChunk_messages (s : State) (i pav : Nat) (c : HeldChunk) : s.Messages (s.discardChunk i pav c) := by
  refine ⟨?_, ?_, ?_⟩ <;> simp [State.discardChunk, State.returnCredit]

/-- The slot with the chunks held for a run gone (R292). -/
def GSlot.discarded (q : GSlot) (num : Nat) : GSlot := { q with held := q.held.filter (fun c => c.run != num % 256) }

/-- The chunks of a run that is over are discarded: of the slot what is held alone changes, and nothing of the front end or the fabric. -/
theorem State.discardRun_messages {s : State} {i : Nat} {q : GSlot} (hslot : s.gslot i = some q) (num : Nat) :
    (s.modGslot i (fun q => q.discarded num)).Messages (s.discardRun i num) := by
  simp only [State.discardRun, hslot]
  exact foldl_keeps (R := State.Messages) (fun _ => ⟨rfl, rfl, rfl⟩)
    (fun h k => ⟨k.front.trans h.front, k.fab.trans h.fab, k.gather.trans h.gather⟩) (fun c _ t => t.discardChunk_messages i q.pav c) _

section
variable {s : State} {i : Nat} {q : GSlot} {r : Run} (hslot : s.gslot i = some q) (hrun : q.run = some r)
include hslot hrun

/-- The run of a slot moved to a phase of its end, its chunks discarded. -/
theorem State.discardRun_modRun_gslot (f : Run → Run) :
    ((s.discardRun i r.num).modRun i f).gslot i = some { q.discarded r.num with run := some (f r) } := by
  have hdiscarded : (s.discardRun i r.num).gslot i = some (q.discarded r.num) := by
    rw [State.gslot_congr (State.discardRun_messages hslot r.num).gather, State.modGslot_gslot_same, hslot, Option.map_some]
  exact State.modRun_gslot hdiscarded hrun f

theorem State.endRun_persistent (hpers : q.prog.persistent = true) :
    s.endRun i = ((s.discardRun i r.num).modRun i (fun r => { r with phase := .record })).issueAll
      (writePieces q.prog.status (runRecord i r s.podTime) q.pav (fun _ => .runStatus i q.tag)) := by
  simp only [State.endRun, hslot, hrun, hpers, if_true]

theorem State.endRun_plain (hplain : q.prog.persistent = false) : s.endRun i = (s.discardRun i r.num).bumpSem i q r := by
  simp only [State.endRun, hslot, hrun, hplain, Bool.false_eq_true, if_false]

variable (hlive : s.live = true) (hover : s.runOver i = true)
include hlive hover

theorem runEnd_records (hpers : q.prog.persistent = true) :
    ∃ t x y, exec (.runEnd i) s = .next t ∧ t.gslot i = some x ∧ x.run = some y ∧ y.phase = .record ∧ y.num = r.num ∧
      (∀ w ∈ writePieces q.prog.status (runRecord i r s.podTime) q.pav (fun _ => .runStatus i q.tag), t.asks w) ∧ t.front = s.front := by
  refine ⟨s.keep (s.endRun i), { q.discarded r.num with run := some { r with phase := .record } }, { r with phase := .record },
    by rw [exec_runEnd, hlive, hover]; rfl, ?_⟩
  rw [State.endRun_persistent hslot hrun hpers]
  refine ⟨(State.issueAll_gslot ..).trans (State.discardRun_modRun_gslot hslot hrun _), rfl, rfl, rfl, fun w hw => ?_, ?_⟩
  · exact State.asks_congr (State.keep_fab ..) (State.issueAll_asks hw _)
  · rw [State.keep_front, State.issueAll_front, State.modRun_front, (State.discardRun_messages hslot r.num).front, State.modGslot_front]

theorem runEnd_updates_semaphore (hplain : q.prog.persistent = false) :
    ∃ t x y, exec (.runEnd i) s = .next t ∧ t.gslot i = some x ∧ x.run = some y ∧ y.phase = .semaphore ∧ y.num = r.num ∧ t.front = s.front ∧
      t.asks { op := .atomic, addr := r.done, len := 8, pav := q.pav, data := leBytes 8 1, subop := 0x80, fmt := 5, use := .doneSem i q.tag } := by
  refine ⟨s.keep (s.endRun i), { q.discarded r.num with run := some { r with phase := .semaphore } }, { r with phase := .semaphore },
    by rw [exec_runEnd, hlive, hover]; rfl, ?_⟩
  rw [State.endRun_plain hslot hrun hplain, State.bumpSem]
  refine ⟨(State.issue_gslot ..).trans (State.discardRun_modRun_gslot hslot hrun _), rfl, rfl, rfl, ?_,
    State.asks_congr (State.keep_fab ..) (State.issue_asks ..)⟩
  rw [State.keep_front, State.issue_front, State.modRun_front, (State.discardRun_messages hslot r.num).front, State.modGslot_front]

end

/-- Settles O22, command by command: a GATHER_RUN is refused or joins the runs that wait, a run begins and its operands are asked for (`Pumps`), a step
that timed out fails it, and its end is written. -/
theorem gatherRunsGoThrough : Obligations.GatherRunsGoThrough := by
  unfold Obligations.GatherRunsGoThrough
  refine ⟨fun s o p x g htake hx hbody => ?_, fun s i q hlive hslot => ?_⟩
  · have hg := State.gatherOp_of_takeable htake hx hbody
    refine ⟨fun habsent => gatherRun_refused htake hx hbody (State.takeGather_absent hg habsent) rfl, fun q hslot => ⟨fun hother => ?_,
      fun htag hplain hpav => ?_, gatherRun_joins htake hx hbody hslot⟩⟩
    · exact gatherRun_refused htake hx hbody (State.takeGather_other_program hg hslot hother) rfl
    · exact gatherRun_refused htake hx hbody (State.takeGather_other_pavilion hg hslot htag hplain hpav) rfl
  · refine ⟨fun hdue => ?_, fun r k hrun => ⟨stepTimeout_fails hlive hslot hrun, runEnd_records hslot hrun hlive,
      runEnd_updates_semaphore hslot hrun hlive⟩⟩
    obtain ⟨t, steps, hexec, hbegun, hothers, hfront, hports⟩ := runStart_begins hlive hslot hdue
    exact ⟨t, _, _, hexec, hbegun, rfl, rfl, rfl, s.newRun_num q, rfl, rfl, rfl, rfl, rfl, hothers, hfront, hports⟩

end Sys2Proof.Machine
end

section
/-!
PROOFS. The register writes that do something (R207, R208, R303, R493, R495, R499, R518, R522, R530): the statement RegisterCommandsComplete.
-/
namespace Sys2Proof.Machine

theorem exec_watchdogKick (s : State) : exec .watchdogKick s = act s.regsOpen s s.kickWatchdog := rfl
theorem exec_noticeConsumedWrite (n : BitVec 56) (s : State) : exec (.noticeConsumedWrite n) s = act s.regsOpen s (s.consumeNotices n) := rfl
theorem exec_timeSyncEnWrite (en : Bool) (s : State) :
    exec (.timeSyncEnWrite en) s = act s.regsOpen s (s.modTime (fun t => { t with syncEn := en })) := rfl
theorem exec_pwcFlush (s : State) : exec .pwcFlush s = act s.regsOpen s s.flushPwc := rfl
theorem exec_pwcEnWrite (en : Bool) (s : State) : exec (.pwcEnWrite en) s = act s.regsOpen s (s.setPwcEn en) := rfl
theorem exec_faultInjectionArm (m : BitVec 2) (c : BitVec 10) (s : State) :
    exec (.faultInjectionArm m c) s = act s.regsOpen s (s.armInjection m c) := rfl
theorem exec_containedAcknowledge (s : State) : exec .containedAcknowledge s = act s.regsOpen s s.acknowledge := rfl
theorem exec_captureRelease (fatal : Bool) (s : State) : exec (.captureRelease fatal) s = act s.regsOpen s (s.releaseCapture fatal) := rfl
theorem exec_counterSatClear (off : BitVec 20) (s : State) :
    exec (.counterSatClear off) s = act (s.regsOpen && isCounter off.toNat) s (s.clearCounter off.toNat) := rfl

/-! ### Captures released (R493, R495) -/

/-- A release empties a capture of its class and no other. -/
theorem Flt.release_cls {f : Flt} {cls : ErrClass} {k : Capture} (h : k ∈ (f.release cls).capture) : k.cls ≠ cls := by
  unfold Flt.release at h
  split at h
  · split at h
    · cases h
    · next hne => cases h; exact hne
  · cases h

theorem Flt.release_other {f : Flt} {cls : ErrClass} {k : Capture} (hk : k ∈ f.capture) (hne : k.cls ≠ cls) :
    (f.release cls).capture = f.capture := by
  have hcap : f.capture = some k := hk
  simp only [Flt.release, hcap, if_neg hne]

/-! ### Each write -/

section
variable {s : State} (hopen : s.regsOpen = true)
include hopen

theorem pwcEnWrite_sets (en : Bool) : ∃ t, exec (.pwcEnWrite en) s = .next t ∧ t.xfer.winCtl = en ∧ { t with xfer := s.xfer } = s := by
  refine ⟨s.keep (s.setPwcEn en), by rw [exec_pwcEnWrite, hopen, act_due], ?_⟩
  unfold State.setPwcEn
  split
  · next hsame => exact ⟨hsame.symm, rfl⟩
  · exact ⟨rfl, rfl⟩

theorem faultInjectionArm_arms (m : BitVec 2) (c : BitVec 10) :
    ∃ t, exec (.faultInjectionArm m c) s = .next t ∧ t.flt.injArmed = true ∧
      (s.flt.injArmed = false → t.flt.injChecker = c ∧ (m ≠ 3 → t.flt.injMode = m)) ∧
      (s.flt.injArmed = true → t.flt.injChecker = s.flt.injChecker ∧ t.flt.injMode = s.flt.injMode) ∧ { t with flt := s.flt } = s := by
  refine ⟨s.keep (s.armInjection m c), by rw [exec_faultInjectionArm, hopen, act_due], ?_⟩
  unfold State.armInjection
  split
  · next harmed => exact ⟨harmed, fun hfree => absurd (harmed.symm.trans hfree) (by decide), fun _ => ⟨rfl, rfl⟩, rfl⟩
  · next hfree => exact ⟨rfl, fun _ => ⟨rfl, fun hm => if_neg hm⟩, fun harmed => absurd harmed hfree, rfl⟩

theorem containedAcknowledge_releases :
    ∃ t, exec .containedAcknowledge s = .next t ∧ t.flt.contained = false ∧ (∀ k ∈ t.flt.capture, k.cls ≠ .contained) ∧
      (∀ k ∈ s.flt.capture, k.cls ≠ .contained → t.flt.capture = s.flt.capture) ∧ { t with flt := s.flt } = s :=
  ⟨s.keep s.acknowledge, by rw [exec_containedAcknowledge, hopen, act_due], rfl, fun _ => Flt.release_cls, fun _ => Flt.release_other, rfl⟩

theorem captureRelease_releases (fatal : Bool) :
    ∃ t, exec (.captureRelease fatal) s = .next t ∧ (∀ k ∈ t.flt.capture, k.cls ≠ if fatal then .fatal else .corrected) ∧
      (fatal = false → t.flt.corrected = false) ∧ (fatal = true → t.flt.corrected = s.flt.corrected) ∧ { t with flt := s.flt } = s := by
  refine ⟨s.keep (s.releaseCapture fatal), by rw [exec_captureRelease, hopen, act_due], ?_⟩
  cases fatal with
  | true => exact ⟨fun _ => Flt.release_cls, fun h => (nomatch h), fun _ => rfl, rfl⟩
  | false => exact ⟨fun _ => Flt.release_cls, fun _ => rfl, fun h => (nomatch h), rfl⟩

theorem counterSatClear_clears {off : BitVec 20} (hcounter : isCounter off.toNat = true) :
    ∃ t, exec (.counterSatClear off) s = .next t ∧ t.counter off.toNat = {} ∧ (∀ o, o ≠ off.toNat → t.counter o = s.counter o) ∧
      { t with counters := s.counters } = s :=
  ⟨s.keep (s.clearCounter off.toNat), by rw [exec_counterSatClear, hopen, hcounter]; rfl, Table.get_erase_same ..,
    fun _ ho => Table.get_erase_other _ _ ho, rfl⟩

end

/-- Settles O6: each write is due while the registers are reached, and its effect is one record update. -/
theorem registerCommandsComplete : Obligations.RegisterCommandsComplete := by
  unfold Obligations.RegisterCommandsComplete
  intro s hopen
  refine ⟨?_, fun n => ?_, fun en => ?_, ?_, pwcEnWrite_sets hopen, faultInjectionArm_arms hopen, containedAcknowledge_releases hopen,
    captureRelease_releases hopen, fun off hcounter => counterSatClear_clears hopen hcounter⟩
  · rw [exec_watchdogKick, hopen]
    rfl
  · rw [exec_noticeConsumedWrite, hopen]
    rfl
  · rw [exec_timeSyncEnWrite, hopen]
    rfl
  · rw [exec_pwcFlush, hopen]
    rfl

end Sys2Proof.Machine
end

section
/-!
SUPPORT. What reading a window or a command gives after each shared update, said once (R88, R166, R177, R178).
-/
namespace Sys2Proof.Machine

/-! ### Sparse tables -/

/-- What a table reads other than its default stands in it. -/
theorem Table.mem_of_get {α : Type} {d v : α} {t : Table α} {i : Nat} (h : Table.get d t i = v) (hv : v ≠ d) : (i, v) ∈ t := by
  induction t with
  | nil => exact absurd h.symm hv
  | cons p r ih =>
    obtain ⟨k, w⟩ := p
    rw [Table.get] at h
    split at h
    · next hk => subst hk h; exact List.mem_cons_self
    · exact List.mem_cons_of_mem _ (ih h)

/-- Values changed at their keys, the default kept, read back changed. -/
theorem Table.get_map {α : Type} {d : α} {f : α → α} (hd : f d = d) (t : Table α) (i : Nat) :
    Table.get d (t.map (fun p => (p.1, f p.2))) i = f (Table.get d t i) := by
  induction t with
  | nil => exact hd.symm
  | cons p r ih =>
    rw [List.map_cons, Table.get, Table.get, ih]
    split <;> rfl

/-! ### Windows read back -/

/-- A window is read from the registered windows alone. -/
theorem State.win_congr {s t : State} (h : t.xfer.wins = s.xfer.wins) (w : Nat) : t.win w = s.win w := by
  simp [State.win, h]

@[simp] theorem State.keep_win (s t : State) (w : Nat) : (s.keep t).win w = t.win w := rfl
@[simp] theorem State.finish_win (s : State) (r : AdminRef) (st a b c d w : Nat) : (s.finish r st a b c d).win w = s.win w :=
  State.win_congr (by simp) w
@[simp] theorem State.issue_win (s : State) (q : FabRequest) (w : Nat) : (s.issue q).win w = s.win w := State.win_congr (by simp) w

/-- The entry of one window replaced. -/
def State.setWin (s : State) (w : Nat) (e : Option WinEntry) : State := s.modXfer (fun x => { x with wins := Table.put none x.wins w e })

@[simp] theorem State.setWin_win_same (s : State) (w : Nat) (e : Option WinEntry) : (s.setWin w e).win w = e := by
  simp [State.setWin, State.win]

theorem State.setWin_win_other (s : State) {w v : Nat} (e : Option WinEntry) (h : v ≠ w) : (s.setWin w e).win v = s.win v := by
  simp [State.setWin, State.win, Table.get_put_other _ _ _ h]

/-- Whether a window is in use is read from the requests, the jobs and the tags alone. -/
theorem State.ReleasesOnly.winBusy {s u : State} (h : s.ReleasesOnly u) (w : Nat) : u.winBusy w = s.winBusy w := by
  obtain ⟨ws, p, hx⟩ := h.xfer
  simp only [State.winBusy, State.jobUses, State.reading, hx]

theorem State.setWin_releasesOnly (s : State) (w : Nat) (e : Option WinEntry) : s.ReleasesOnly (s.setWin w e) := ⟨rfl, rfl, rfl, _, _, rfl⟩

theorem State.working_releasesOnly (s : State) (r : AdminRef) : s.ReleasesOnly (s.working r) := ⟨rfl, rfl, rfl, _, _, rfl⟩

/-! ### Phases of commands read back -/

theorem State.phaseOf_congr {s t : State} (h : t.front.cmds = s.front.cmds) (r : AdminRef) : t.phaseOf r = s.phaseOf r := by
  simp [State.phaseOf, State.cmd_congr h]

/-- A command whose phase is changed is the one named. -/
theorem State.setCmdPhase_phaseOf (s : State) (r q : AdminRef) (p : CmdPhase) :
    (s.setCmdPhase r p).phaseOf q = s.phaseOf q ∨ (s.setCmdPhase r p).phaseOf q = some p := by
  have hname : (fun c : AdminCmd => c.isRef q) ∘ (fun c : AdminCmd => if c.isRef r then { c with phase := p } else c) = fun c => c.isRef q := by
    funext c
    simp only [Function.comp_apply]
    split <;> rfl
  have hcmd : (s.setCmdPhase r p).cmd q = (s.cmd q).map (fun c => if c.isRef r then { c with phase := p } else c) := by
    simp only [State.cmd, State.setCmdPhase, State.modLodge_front, State.modFront_front, List.find?_map, hname]
  rw [State.phaseOf, State.phaseOf, hcmd]
  cases s.cmd q with
  | none => exact .inl rfl
  | some c =>
    rw [Option.map_some, Option.map_some, Option.map_some]
    split
    · exact .inr rfl
    · exact .inl rfl

theorem State.finish_phaseOf_or (s : State) (r q : AdminRef) (st r1 r2 r3 ra : Nat) :
    (s.finish r st r1 r2 r3 ra).phaseOf q = s.phaseOf q ∨ (s.finish r st r1 r2 r3 ra).phaseOf q = some (.finished st ra r1 r2 r3) := by
  unfold State.finish
  split
  · exact s.setCmdPhase_phaseOf r q _
  · exact .inl rfl

/-- A command in work has the phase of one in work, and has no result. -/
theorem State.working_phaseOf {s : State} {r : AdminRef} (h : (s.cmd r).any AdminCmd.unfinished = true) :
    (s.working r).phaseOf r = some .working := by
  rw [State.phaseOf, State.working, State.setCmdPhase_cmd]
  cases hc : s.cmd r with
  | none => simp [hc] at h
  | some c => rfl

theorem State.unfinished_of_working {s : State} {r : AdminRef} (h : s.phaseOf r = some .working) : (s.cmd r).any AdminCmd.unfinished = true := by
  rw [State.phaseOf] at h
  obtain ⟨c, hc, hphase⟩ := Option.map_eq_some_iff.mp h
  simp [hc, AdminCmd.unfinished, hphase]

end Sys2Proof.Machine
end

section
/-!
PROOFS. REGISTER_WINDOW and RELEASE_WINDOW (R176 to R178, R449): what the end of releases does to the windows and their commands, and the statement
WindowsAreRegisteredAndReleased.
-/
namespace Sys2Proof.Machine

/-! ### Releases that end (R178) -/

/-- Between two states releases end: windows that nothing uses come free, and the commands that asked for it complete. -/
structure State.Frees (s u : State) : Prop where
  only : s.ReleasesOnly u
  win : ∀ w, u.win w = s.win w ∨ (u.win w = none ∧ s.winBusy w = false)
  phase : ∀ r, u.phaseOf r = s.phaseOf r ∨ u.phaseOf r = some (.finished 0 0 0 0 0)

namespace State.Frees

theorem refl (s : State) : s.Frees s := ⟨.refl s, fun _ => .inl rfl, fun _ => .inl rfl⟩

theorem trans {s u v : State} (h : s.Frees u) (k : u.Frees v) : s.Frees v where
  only := h.only.trans k.only
  win w := by
    rcases k.win w with hk | ⟨hk, hbusy⟩
    · rw [hk]
      exact h.win w
    · exact .inr ⟨hk, (h.only.winBusy w).symm.trans hbusy⟩
  phase r := by
    rcases k.phase r with hk | hk
    · rw [hk]
      exact h.phase r
    · exact .inr hk

/-- A window once free stays free. -/
theorem win_none {s u : State} (h : s.Frees u) {w : Nat} (hw : s.win w = none) : u.win w = none := by
  rcases h.win w with hu | ⟨hu, -⟩
  · exact hu.trans hw
  · exact hu

end State.Frees

/-- The index of a window free, its translations gone. -/
def State.freeIndex (s : State) (w : Nat) : State :=
  s.modXfer (fun x => { x with wins := Table.put none x.wins w none, pwc := x.pwc.filter (fun f => f.win != w) })

/-- The index of a window free, and the command that asked for it completed. -/
def State.freeWindow (s : State) (w : Nat) (cmd : Option AdminRef) : State :=
  match cmd with
  | some r => (s.freeIndex w).finish r asOk
  | none => s.freeIndex w

/-- What `endReleases` does for one window. -/
def State.endRelease (s : State) (p : Nat × Option WinEntry) : State :=
  match p.2 with
  | some e => if e.releasing && !s.winBusy p.1 then s.freeWindow p.1 e.releaseCmd else s
  | none => s

theorem State.endReleases_eq (s : State) : s.endReleases = s.xfer.wins.foldl State.endRelease s := rfl

theorem State.freeWindow_win (s : State) (w : Nat) (cmd : Option AdminRef) : (s.freeWindow w cmd).win w = none := by
  cases cmd <;> simp [State.freeWindow, State.freeIndex, State.win]

theorem State.freeIndex_releasesOnly (s : State) (w : Nat) : s.ReleasesOnly (s.freeIndex w) := ⟨rfl, rfl, rfl, _, _, rfl⟩

theorem State.freeWindow_frees {s : State} {w : Nat} (hfree : s.winBusy w = false) (cmd : Option AdminRef) : s.Frees (s.freeWindow w cmd) := by
  have hwins : (s.freeWindow w cmd).xfer.wins = Table.put none s.xfer.wins w none := by
    cases cmd <;> simp [State.freeWindow, State.freeIndex]
  refine ⟨?_, fun v => ?_, fun r => ?_⟩
  · cases cmd with
    | none => exact s.freeIndex_releasesOnly w
    | some r => exact (s.freeIndex_releasesOnly w).trans (State.finish_releasesOnly ..)
  · by_cases h : v = w
    · exact .inr ⟨h ▸ s.freeWindow_win w cmd, h ▸ hfree⟩
    · exact .inl (by simp [State.win, hwins, Table.get_put_other _ _ _ h])
  · cases cmd with
    | none => exact .inl rfl
    | some q => exact State.finish_phaseOf_or _ q r asOk 0 0 0 0

theorem State.endRelease_frees (s : State) (p : Nat × Option WinEntry) : s.Frees (s.endRelease p) := by
  unfold State.endRelease
  split
  · split
    · next hdue => exact State.freeWindow_frees (by simpa using (Bool.and_eq_true_iff.mp hdue).2) _
    · exact .refl s
  · exact .refl s

theorem State.endReleases_frees_of (l : List (Nat × Option WinEntry)) (s : State) : s.Frees (l.foldl State.endRelease s) :=
  foldl_keeps .refl .trans (fun p _ t => t.endRelease_frees p) s

/-- A release that nothing holds back frees its index and completes its command. -/
theorem State.endReleases_ends {s : State} {w : Nat} {e : WinEntry} {r : AdminRef} (hwin : s.win w = some e) (hrel : e.releasing = true)
    (hcmd : e.releaseCmd = some r) (hfree : s.winBusy w = false) (hwork : s.phaseOf r = some .working) :
    s.endReleases.win w = none ∧ s.endReleases.phaseOf r = some (.finished 0 0 0 0 0) := by
  obtain ⟨l, m, hsplit⟩ := List.append_of_mem (Table.mem_of_get hwin (Option.some_ne_none e))
  have hbefore := State.endReleases_frees_of l s
  have hrest := State.endReleases_frees_of m ((l.foldl State.endRelease s).endRelease (w, some e))
  have hbusy : (l.foldl State.endRelease s).winBusy w = false := (hbefore.only.winBusy w).trans hfree
  have hstep : (l.foldl State.endRelease s).endRelease (w, some e) = (l.foldl State.endRelease s).freeWindow w (some r) := by
    simp only [State.endRelease, hrel, hbusy, hcmd, Bool.not_false, Bool.and_self, if_true]
  rw [State.endReleases_eq, hsplit, List.foldl_append, List.foldl_cons]
  refine ⟨hrest.win_none (by rw [hstep, State.freeWindow_win]), ?_⟩
  rcases hrest.phase r with hsame | hdone
  case inr => exact hdone
  rw [hsame, hstep]
  rcases hbefore.phase r with hworking | hdone
  · exact State.finish_phaseOf (State.unfinished_of_working (s := (l.foldl State.endRelease s).freeIndex w) (hworking.trans hwork)) asOk 0 0 0 0
  · rcases (State.freeWindow_frees hbusy (some r)).phase r with h | h
    · exact h.trans hdone
    · exact h

/-! ### RELEASE_WINDOW (R178) -/

theorem exec_releaseWindow (r : AdminRef) (s : State) :
    exec (.releaseWindow r) s = act (s.live && s.cmdIs r 0x11 && !s.winTaken (bits ((s.cmdD r).arg 1) 15 0)) s (s.releaseWindow r) := rfl

/-- The state in which a release has begun. -/
def State.releasing (s : State) (w : Nat) (e : WinEntry) (r : AdminRef) : State :=
  (s.working r).setWin w (some { e with releasing := true, releaseCmd := some r })

theorem State.releasing_releasesOnly (s : State) (w : Nat) (e : WinEntry) (r : AdminRef) : s.ReleasesOnly (s.releasing w e r) :=
  (s.working_releasesOnly r).trans (State.setWin_releasesOnly _ w _)

section
variable {s : State} {r : AdminRef} (hlive : s.live = true) (hcmd : s.cmdIs r 0x11 = true) (hhigh : bits ((s.cmdD r).arg 1) 63 16 = 0)
  (hzero : (s.cmdD r).zeroArgs [2, 3, 4, 5, 6, 7] = true)
include hlive hcmd hhigh hzero

theorem releaseWindow_absent (hwin : s.win (bits ((s.cmdD r).arg 1) 15 0) = none) :
    ∃ t, exec (.releaseWindow r) s = .next t ∧ t.phaseOf r = some (.finished 5 0 0 0 0) ∧ t.xfer = s.xfer := by
  have heq : s.releaseWindow r = s.finish r asBadState := by simp [State.releaseWindow, hhigh, hzero, hwin]
  refine ⟨s.keep (s.releaseWindow r), by rw [exec_releaseWindow, hlive, hcmd, State.winTaken, hwin]; rfl, ?_⟩
  rw [heq]
  exact ⟨State.finish_phaseOf (State.unfinished_of_cmdIs hcmd) asBadState 0 0 0 0, by simp⟩

/-- A release of a window of the caller begins, and ends with those that can end. -/
theorem exec_releaseWindow_begins {e : WinEntry} (hwin : s.win (bits ((s.cmdD r).arg 1) 15 0) = some e) (hrel : e.releasing = false)
    (hopen : e.opening = none) (hmine : (s.cmdD r).pav = 0 ∨ e.desc.pav = (s.cmdD r).pav) :
    exec (.releaseWindow r) s = .next (s.keep (s.releasing (bits ((s.cmdD r).arg 1) 15 0) e r).endReleases) := by
  have hdenied : ((s.cmdD r).pav != 0 && e.desc.pav != (s.cmdD r).pav) = false := by rcases hmine with h | h <;> simp [h]
  have hwin' : (s.working r).win (bits ((s.cmdD r).arg 1) 15 0) = some e := hwin
  have heq : s.releaseWindow r = (s.releasing (bits ((s.cmdD r).arg 1) 15 0) e r).endReleases := by
    simp [State.releaseWindow, hhigh, hzero, hwin, hdenied, State.startRelease, hwin', State.releasing, State.setWin]
  rw [exec_releaseWindow, hlive, hcmd, State.winTaken, hwin, heq]
  simp [hrel, hopen]

end

theorem State.releasing_phaseOf {s : State} {r : AdminRef} (h : (s.cmd r).any AdminCmd.unfinished = true) (w : Nat) (e : WinEntry) :
    (s.releasing w e r).phaseOf r = some .working := State.working_phaseOf h

/-! ### REGISTER_WINDOW (R177, R449) -/

theorem exec_registerWindow (r : AdminRef) (s : State) : exec (.registerWindow r) s = act (s.registerDue r) s (s.registerWindow r) := rfl

/-- A registration that names no window in use is due. -/
theorem State.registerDue_of {s : State} {r : AdminRef} (hlive : s.live = true) (hcmd : s.cmdIs r 0x10 = true)
    (hindex : bit ((s.cmdD r).arg 5) 16 = true ∨ s.win (bits ((s.cmdD r).arg 5) 15 0) = none) : s.registerDue r = true := by
  rw [State.registerDue, hlive, hcmd]
  rcases hindex with h | h
  · simp [h]
  · simp [State.winTaken, h]

/-- Every registration ends at once: refused with a status, or with the window it was given. -/
theorem State.registerWindow_cases (s : State) (r : AdminRef) :
    (∃ st, st ≠ 0 ∧ s.registerWindow r = s.finish r st) ∨
      ∃ d w, s.registerWindow r = (s.setWin w (some { desc := d, opening := some r })).finish r asOk w := by
  unfold State.registerWindow
  dsimp only
  split
  · exact .inl ⟨_, by decide, rfl⟩
  split
  · exact .inl ⟨_, by decide, rfl⟩
  split
  · exact .inl ⟨_, by decide, rfl⟩
  split
  · exact .inl ⟨_, by decide, rfl⟩
  split
  · exact .inl ⟨_, by decide, rfl⟩
  · exact .inr ⟨_, _, rfl⟩

/-- The free window found in the range of a Pavilion is free. -/
theorem State.freeWin_free {s : State} {pav w : Nat} (h : s.freeWin pav = some w) : s.win w = none := by
  have hfound := List.find?_some h
  simpa using (Bool.and_eq_true_iff.mp hfound).2

/-- A descriptor of the caller's Pavilion goes to the index given, or to the lowest free one of its range. -/
theorem State.registerWindow_registers {s : State} {r : AdminRef} {d : WinDesc} {w : Nat} (hdesc : (s.cmdD r).descriptor = some d)
    (hhigh : bits ((s.cmdD r).arg 5) 63 17 = 0) (hzero : (s.cmdD r).zeroArgs [6, 7] = true) (hwin : s.win w = none)
    (hauto : bit ((s.cmdD r).arg 5) 16 = true → s.freeWin d.pav = some w ∧ ((s.cmdD r).pav = 0 ∨ d.pav = (s.cmdD r).pav))
    (hgiven : bit ((s.cmdD r).arg 5) 16 = false →
      w = bits ((s.cmdD r).arg 5) 15 0 ∧ ((s.cmdD r).pav = 0 ∨ (d.pav = (s.cmdD r).pav ∧ s.winInRange (s.cmdD r).pav w = true))) :
    s.registerWindow r = (s.setWin w (some { desc := d, opening := some r })).finish r asOk w := by
  cases hbit : bit ((s.cmdD r).arg 5) 16 with
  | true =>
    obtain ⟨hfree, hmine⟩ := hauto hbit
    have hallowed : ((s.cmdD r).pav != 0 && d.pav != (s.cmdD r).pav) = false := by rcases hmine with h | h <;> simp [h]
    simp [State.registerWindow, hdesc, hhigh, hzero, hbit, hfree, hallowed, hwin, State.setWin]
  | false =>
    obtain ⟨rfl, hmine⟩ := hgiven hbit
    rcases hmine with hmine | ⟨hmine, hrange⟩
    · simp [State.registerWindow, hdesc, hhigh, hzero, hbit, hmine, hwin, State.setWin]
    · simp [State.registerWindow, hdesc, hhigh, hzero, hbit, hmine, hrange, hwin, State.setWin]

/-! ### The completion of a registration (R177) -/

theorem State.openWindow_win (s : State) (r : AdminRef) (w : Nat) :
    (s.openWindow r).win w = (s.win w).map (fun e => if e.opening = some r then { e with opening := none } else e) :=
  Table.get_map (d := (none : Option WinEntry)) rfl s.xfer.wins w

theorem State.retireCmd_win (s : State) (r : AdminRef) (w : Nat) : (s.retireCmd r).win w = (s.openWindow r).win w := rfl

/-- Settles O20: a registration by `registerWindow_cases`, a release by what ends with it (`Frees`), and the completion by `openWindow`. -/
theorem windowsAreRegisteredAndReleased : Obligations.WindowsAreRegisteredAndReleased := by
  unfold Obligations.WindowsAreRegisteredAndReleased
  intro s r hlive
  refine ⟨fun d w hcmd hdesc hhigh hzero hwin hauto hgiven => ?_, fun e hcmd hhigh hzero hwin hrel hopen hmine => ?_, fun hcmd hindex => ?_,
    fun hcmd hwin hhigh hzero => releaseWindow_absent hlive hcmd hhigh hzero hwin, fun w x q st ra r1 r2 r3 hfirst hcmd hphase hwin hopen => ?_⟩
  · have hindex : bit ((s.cmdD r).arg 5) 16 = true ∨ s.win (bits ((s.cmdD r).arg 5) 15 0) = none := by
      cases hbit : bit ((s.cmdD r).arg 5) 16 with
      | true => exact .inl rfl
      | false => exact .inr ((hgiven hbit).1 ▸ hwin)
    refine ⟨s.keep (s.registerWindow r), by rw [exec_registerWindow, State.registerDue_of hlive hcmd hindex, act_due], ?_⟩
    rw [State.registerWindow_registers hdesc hhigh hzero hwin hauto hgiven]
    refine ⟨by simp, fun v hv => ?_, ?_, State.finish_chans .., by simp [State.setWin]⟩
    · rw [State.keep_win, State.finish_win, State.setWin_win_other _ _ hv]
    · exact State.finish_phaseOf (s := s.setWin w _) (State.unfinished_of_cmdIs hcmd) asOk w 0 0 0
  · have hbegun := s.releasing_releasesOnly (bits ((s.cmdD r).arg 1) 15 0) e r
    have hends := (s.releasing (bits ((s.cmdD r).arg 1) 15 0) e r).endReleases_releasesOnly
    have hexec := exec_releaseWindow_begins hlive hcmd hhigh hzero hwin hrel hopen hmine
    have hphase := State.releasing_phaseOf (State.unfinished_of_cmdIs hcmd) (bits ((s.cmdD r).arg 1) 15 0) e
    have hset : (s.releasing (bits ((s.cmdD r).arg 1) 15 0) e r).win (bits ((s.cmdD r).arg 1) 15 0) = _ := State.setWin_win_same ..
    refine ⟨fun hfree => ?_, fun hbusy => ?_⟩
    · obtain ⟨hnone, hdone⟩ := State.endReleases_ends hset rfl rfl ((hbegun.winBusy _).trans hfree) hphase
      exact ⟨_, hexec, hnone, hdone, hends.chans.trans hbegun.chans, hends.ports.trans hbegun.ports⟩
    · refine ⟨_, { e with releasing := true, releaseCmd := some r }, hexec, ?_, rfl, hends.chans.trans hbegun.chans, hends.ports.trans hbegun.ports⟩
      rcases (State.endReleases_frees_of _ (s.releasing (bits ((s.cmdD r).arg 1) 15 0) e r)).win (bits ((s.cmdD r).arg 1) 15 0) with h | ⟨-, h⟩
      · exact h.trans hset
      · rw [hbegun.winBusy, hbusy] at h
        cases h
  · have hunfinished := State.unfinished_of_cmdIs hcmd
    have hexec : exec (.registerWindow r) s = .next (s.keep (s.registerWindow r)) := by
      rw [exec_registerWindow, State.registerDue_of hlive hcmd hindex, act_due]
    rcases s.registerWindow_cases r with ⟨st, hst, heq⟩ | ⟨d, w, heq⟩
    · rw [heq] at hexec
      exact ⟨_, st, 0, hexec, State.finish_phaseOf hunfinished st 0 0 0 0, fun _ => by simp⟩
    · rw [heq] at hexec
      exact ⟨_, 0, w, hexec, State.finish_phaseOf (s := s.setWin w _) hunfinished asOk w 0 0 0, fun h => absurd rfl h⟩
  · refine ⟨_, exec_adminCompletionWrite hlive hfirst hcmd hphase, ?_⟩
    rw [State.writeCompletion_eq hcmd hphase, State.keep_win, State.issue_win, State.retireCmd_win, State.openWindow_win, hwin, Option.map_some,
      if_pos hopen]

end Sys2Proof.Machine
end

section
/-!
PROOFS. The measurement path (R201 to R206, R433): what a leaf hashed and a staging grant leave, and the statement MeasurementSlotsOpenHashAndSeal.
-/
namespace Sys2Proof.Machine

/-! ### Slots read back -/

@[simp] theorem State.setMeas_meas_same (s : State) (k : Nat) (m : MeasSlot) : (s.setMeas k m).meas k = m := by
  simp [State.setMeas, State.meas]

theorem State.setMeas_meas_other (s : State) {k j : Nat} (m : MeasSlot) (h : j ≠ k) : (s.setMeas k m).meas j = s.meas j := by
  simp [State.setMeas, State.meas, Table.get_put_other _ _ _ h]

@[simp] theorem State.keep_meas (s t : State) (k : Nat) : (s.keep t).meas k = t.meas k := rfl
@[simp] theorem State.belvAdd_meas (s : State) (a b n k : Nat) : (s.belvAdd a b n).meas k = s.meas k := rfl
@[simp] theorem State.freeStaging_meas (s : State) (k : Nat) : s.freeStaging.meas k = s.meas k := rfl
@[simp] theorem State.finish_meas (s : State) (r : AdminRef) (st a b c d k : Nat) : (s.finish r st a b c d).meas k = s.meas k := by
  simp [State.meas]

/-! ### MGMT commands (R523, R525) -/

theorem State.unfinished_of_mgmtIs {s : State} {r : AdminRef} {fn : Nat} (h : s.mgmtIs r fn = true) :
    (s.cmd r).any AdminCmd.unfinished = true := by
  unfold State.mgmtIs at h
  split at h
  case h_1 c hc =>
    have hphase : c.phase = .taken := by simpa using (Bool.and_eq_true_iff.mp h).2
    simp [hc, AdminCmd.unfinished, hphase]
  case h_2 => cases h

/-! ### MEAS_OPEN (R201) -/

theorem exec_measOpen (r : AdminRef) (s : State) : exec (.measOpen r) s = act (s.mgmtIs r 0x0101 && s.lodgeTurn r) s (s.measOpen r) := rfl

/-- A length of at most 2^40 stands in the low 41 bits of its word. -/
theorem bits_of_length_fits {w : Word} (h : bits w 63 0 ≤ 2 ^ 40) : bits w 63 41 = 0 ∧ bits w 40 0 = bits w 63 0 := by
  simp only [bits_eq, Nat.reduceAdd, Nat.reduceSub, Nat.reducePow, Nat.pow_zero, Nat.div_one] at h ⊢
  omega

theorem handle_toNat (w : Word) : (BitVec.ofNat 32 (bits w 31 0)).toNat = bits w 31 0 := by
  rw [BitVec.toNat_ofNat, bits_eq]
  exact Nat.mod_mod _ _

/-- A measurement slot as MEAS_OPEN opens it. -/
def AdminCmd.openedSlot (c : AdminCmd) : MeasSlot :=
  { state := .opened, handle := BitVec.ofNat 32 (bits (c.arg 3) 31 0), objLen := bits (c.arg 4) 63 0, label := bits (c.arg 5) 15 0 }

theorem State.measOpen_opens {s : State} {r : AdminRef} {i : Nat} (hslot : bits ((s.cmdD r).arg 2) 63 8 = 0)
    (hhandle : bits ((s.cmdD r).arg 3) 63 24 = 0) (hlow : 1 ≤ bits ((s.cmdD r).arg 4) 63 0) (hhigh : bits ((s.cmdD r).arg 4) 63 0 ≤ 2 ^ 40)
    (hlabel : bits ((s.cmdD r).arg 5) 63 16 = 0) (hzero : (s.cmdD r).zeroArgs [6, 7] = true)
    (hclosed : (s.meas (bits ((s.cmdD r).arg 2) 7 0)).state = .closed) (hchan : s.chanOf (bits ((s.cmdD r).arg 3) 31 0) = some i)
    (hpav : (s.chan i).pav = (s.cmdD r).pav) :
    s.measOpen r = (s.setMeas (bits ((s.cmdD r).arg 2) 7 0) (s.cmdD r).openedSlot).finish r asOk := by
  obtain ⟨hrest, hlen⟩ := bits_of_length_fits hhigh
  have hsome : ¬ bits ((s.cmdD r).arg 4) 63 0 = 0 := by omega
  have hfits : ¬ 1099511627776 < bits ((s.cmdD r).arg 4) 63 0 := by omega
  simp [State.measOpen, hslot, hhandle, hrest, hlen, hsome, hfits, hlabel, hzero, hclosed, hchan, hpav, AdminCmd.openedSlot]

/-! ### MEAS_SEAL (R201, R433) -/

theorem exec_measSeal {s : State} {r : AdminRef} (hcmd : s.mgmtIs r 0x0102 = true) (hturn : s.lodgeTurn r = true) :
    exec (.measSeal r) s = .next (s.keep (s.measSeal r)) := by
  show act (s.mgmtIs r 0x0102 && s.lodgeTurn r) s _ = _
  rw [hcmd, hturn, Bool.and_self, act_due]

section
variable {s : State} {r : AdminRef} (hslot : bits ((s.cmdD r).arg 2) 63 8 = 0) (hhigh : bits ((s.cmdD r).arg 3) 63 56 = 0)
  (hlow : bits ((s.cmdD r).arg 3) 5 0 = 0) (hzero : (s.cmdD r).zeroArgs [4, 5, 6, 7] = true)
include hslot hhigh hlow hzero

theorem State.measSeal_closed (h : (s.meas (bits ((s.cmdD r).arg 2) 7 0)).state = .closed) : s.measSeal r = s.finish r asBadState := by
  simp [State.measSeal, hslot, hhigh, hlow, hzero, h]

theorem State.measSeal_failed (h : (s.meas (bits ((s.cmdD r).arg 2) 7 0)).state = .failed) :
    s.measSeal r = (s.setMeas (bits ((s.cmdD r).arg 2) 7 0) {}).finish r asBadState 2 := by
  simp [State.measSeal, hslot, hhigh, hlow, hzero, h]

variable (hopened : (s.meas (bits ((s.cmdD r).arg 2) 7 0)).state = .opened)
include hopened

theorem State.measSeal_incomplete (h : (s.meas (bits ((s.cmdD r).arg 2) 7 0)).sealable = false) : s.measSeal r = s.finish r asBadState 1 := by
  simp [State.measSeal, hslot, hhigh, hlow, hzero, hopened, h]

theorem State.measSeal_extends (h : (s.meas (bits ((s.cmdD r).arg 2) 7 0)).sealable = true) {i : Nat}
    (hrecord : s.gate.recordFor (s.meas (bits ((s.cmdD r).arg 2) 7 0)).label (bits (s.meas (bits ((s.cmdD r).arg 2) 7 0)).handle 15 12) = some i) :
    s.measSeal r = (s.working r).extend (0x80 + i) (s.meas (bits ((s.cmdD r).arg 2) 7 0)).digest (some r) (some (bits ((s.cmdD r).arg 2) 7 0)) := by
  simp [State.measSeal, hslot, hhigh, hlow, hzero, hopened, h, hrecord]

end

/-! ### Leaves (R205) -/

/-- Leaves changed in place are found by their index as before. -/
theorem find_leaf_map {f : Leaf → Leaf} (hf : ∀ l, (f l).index = l.index) (leaves : List Leaf) (i : Nat) :
    (leaves.map f).find? (fun l => l.index == i) = (leaves.find? (fun l => l.index == i)).map f := by
  rw [List.find?_map]
  congr 2
  funext l
  rw [Function.comp_apply, hf]

/-- A leaf placed among others leaves what is found by another index. -/
theorem find_insertLeaf (leaves : List Leaf) {l : Leaf} {i : Nat} (h : l.index ≠ i) :
    (insertLeaf leaves l).find? (fun l => l.index == i) = leaves.find? (fun l => l.index == i) := by
  induction leaves with
  | nil => simp [insertLeaf, h]
  | cons x r ih =>
    unfold insertLeaf
    split
    · simp [h]
    · rw [List.find?_cons, List.find?_cons, ih]

theorem MeasSlot.leaf_index {m : MeasSlot} {i : Nat} {l : Leaf} (h : m.leaf i = some l) : l.index = i := by
  simpa using List.find?_some h

/-- Bytes that enter a leaf change no other leaf. -/
theorem MeasSlot.enter_leaf (m : MeasSlot) (p : Nat × List Byte) {i : Nat} (h : p.1 / leafBytes ≠ i) : (m.enter p).leaf i = m.leaf i := by
  unfold MeasSlot.enter
  dsimp only
  split
  · exact find_insertLeaf m.leaves h
  · refine (find_leaf_map (fun l => by split <;> rfl) m.leaves i).trans ?_
    show (m.leaf i).map _ = m.leaf i
    cases hl : m.leaf i with
    | none => rfl
    | some l => rw [Option.map_some, if_neg (by rw [MeasSlot.leaf_index hl]; exact Ne.symm h)]

/-- No byte enters a leaf that is hashed. -/
theorem State.canEnter_other {s : State} {m : MeasSlot} {p : Nat × List Byte} {i : Nat} {l : Leaf} (h : s.canEnter m p = true)
    (hl : m.leaf i = some l) (hd : l.digest.isSome = true) : p.1 / leafBytes ≠ i := by
  rintro rfl
  obtain ⟨-, hleaf⟩ := Bool.and_eq_true_iff.mp h
  rw [hl] at hleaf
  simp [Option.isNone_eq_false_iff.mpr hd] at hleaf

/-- Between two states staged bytes enter their leaves: the hashed leaves stay, and so do the front end and the ports. -/
structure State.Enters (s u : State) : Prop where
  front : u.front = s.front
  ports : u.ports = s.ports
  hashed : ∀ k i l, (s.meas k).leaf i = some l → l.digest.isSome = true → (u.meas k).leaf i = some l

namespace State.Enters

theorem refl (s : State) : s.Enters s := ⟨rfl, rfl, fun _ _ _ hl _ => hl⟩

theorem trans {s u v : State} (h : s.Enters u) (k : u.Enters v) : s.Enters v :=
  ⟨k.front.trans h.front, k.ports.trans h.ports, fun j i l hl hd => k.hashed j i l (h.hashed j i l hl hd) hd⟩

end State.Enters

theorem State.enter_enters {s : State} {k : Nat} {p : Nat × List Byte} (h : s.canEnter (s.meas k) p = true) :
    s.Enters (s.setMeas k ((s.meas k).enter p)) := by
  refine ⟨rfl, rfl, fun j i l hl hd => ?_⟩
  by_cases hj : j = k
  · subst hj
    rw [State.setMeas_meas_same, MeasSlot.enter_leaf _ _ (State.canEnter_other h hl hd), hl]
  · rw [State.setMeas_meas_other _ _ hj, hl]

theorem State.drainMeas_enters (k n : Nat) (s : State) : s.Enters (s.drainMeas k n) := by
  induction n generalizing s with
  | zero => exact .refl s
  | succ n ih =>
    unfold State.drainMeas
    split
    · exact .refl s
    · next p hp =>
      have hcount : (s.setMeas k ((s.meas k).enter p)).Enters ((s.setMeas k ((s.meas k).enter p)).belvAdd 16 (belvId 0x08 23) p.2.length) :=
        ⟨rfl, rfl, fun _ _ _ hl _ => hl⟩
      exact ((State.enter_enters (List.find?_some hp)).trans hcount).trans (ih _)

theorem State.drainAll_enters (s : State) : s.Enters s.drainAll :=
  foldl_keeps .refl .trans (fun k _ t => (t.drainMeas_enters k _).trans ⟨rfl, rfl, fun _ _ _ hl _ => hl⟩) s

/-! ### MEASURE_LEAF_HASHED (R205) -/

theorem exec_measureLeafHashed (k i : Nat) (s : State) :
    exec (.measureLeafHashed k i) s = act (s.live && (s.meas k).state == .opened && (s.meas k).leafFull i) s (s.leafHashed k i) := rfl

/-- A leaf with its hash. -/
def Leaf.hashed (i : Nat) (l : Leaf) : Leaf := { l with entered := [], digest := some (leafHash i l.entered) }

/-- The slot with one of its leaves hashed. -/
def MeasSlot.hashed (m : MeasSlot) (i : Nat) : MeasSlot := { m with leaves := m.leaves.map (fun l => if l.index = i then l.hashed i else l) }

theorem MeasSlot.hashed_leaf {m : MeasSlot} {i : Nat} {l : Leaf} (h : m.leaf i = some l) : (m.hashed i).leaf i = some (l.hashed i) := by
  refine (find_leaf_map (fun l => by split <;> rfl) m.leaves i).trans ?_
  show (m.leaf i).map _ = _
  rw [h, Option.map_some, if_pos (MeasSlot.leaf_index h)]

theorem State.leafHashed_eq (s : State) (k i : Nat) : s.leafHashed k i = (s.setMeas k ((s.meas k).hashed i)).drainAll := rfl

theorem measureLeafHashed_hashes {s : State} {k i : Nat} {l : Leaf} (hlive : s.live = true) (hopened : (s.meas k).state = .opened)
    (hl : (s.meas k).leaf i = some l) (hdigest : l.digest = none) (hfull : l.entered.length = (s.meas k).leafLen i) :
    ∃ t, exec (.measureLeafHashed k i) s = .next t ∧
      (t.meas k).leaf i = some { l with entered := [], digest := some (leafHash i l.entered) } ∧ t.front = s.front ∧ t.ports = s.ports := by
  have hdue : (s.meas k).leafFull i = true := by simp [MeasSlot.leafFull, hl, hdigest, hfull]
  have hdrain := (s.setMeas k ((s.meas k).hashed i)).drainAll_enters
  refine ⟨s.keep (s.leafHashed k i), by rw [exec_measureLeafHashed, hlive, hopened, hdue]; rfl, ?_, hdrain.front, hdrain.ports⟩
  refine hdrain.hashed k i _ ?_ rfl
  rw [State.setMeas_meas_same]
  exact MeasSlot.hashed_leaf hl

/-! ### MEASURE_STAGING_GRANT (R205) -/

theorem exec_measureStagingGrant (k : Nat) (s : State) :
    exec (.measureStagingGrant k) s = act (s.live && (s.stagingNext k).any (fun e => s.stagingFree k e.2.1 e.2.2 && s.measWindow k e.2.1 e.2.2 &&
      s.waiterOk ((s.chan e.1.chan).pav, .op e.1))) s (s.stagingGrant k) := rfl

/-- Between two states requests are formed: the staging held stays, and nothing more waits for staging. -/
structure State.StagingKept (s u : State) : Prop where
  held : u.xfer.staging = s.xfer.staging
  waits : ∀ w ∈ u.xfer.stagingWait, w ∈ s.xfer.stagingWait

namespace State.StagingKept

theorem refl (s : State) : s.StagingKept s := ⟨rfl, fun _ h => h⟩

theorem trans {s u v : State} (h : s.StagingKept u) (k : u.StagingKept v) : s.StagingKept v :=
  ⟨k.held.trans h.held, fun w hw => h.waits w (k.waits w hw)⟩

theorem of_eq {s u : State} (hheld : u.xfer.staging = s.xfer.staging) (hwaits : u.xfer.stagingWait = s.xfer.stagingWait) : s.StagingKept u :=
  ⟨hheld, fun _ hw => hwaits ▸ hw⟩

theorem of_issueAll (s : State) (l : List FabRequest) : s.StagingKept (s.issueAll l) := .of_eq (by simp) (by simp)

end State.StagingKept

theorem State.sendMsg_stagingKept (s : State) (cls key dest : Nat) (m : Msg) (ready : Bool) (stream : Nat) (tag : Option Nat) :
    s.StagingKept (s.sendMsg cls key dest m ready stream tag) := by
  obtain ⟨l, h⟩ := s.sendMsg_xfer cls key dest m ready stream tag
  exact .of_eq (by rw [h]) (by rw [h])

theorem State.opFail_stagingKept (s : State) (o : OpRef) (st n : Nat) : s.StagingKept (s.opFail o st n) :=
  ⟨rfl, fun _ hw => (List.mem_filter.mp hw).1⟩

theorem State.waitTag_stagingKept (s : State) (pav : Nat) (w : TagOwner) : s.StagingKept (s.waitTag pav w) := by
  unfold State.waitTag
  split
  · exact .refl s
  · exact .of_eq rfl rfl

theorem State.pwcUse_stagingKept (s : State) (w page : Nat) (job : Option Nat) (user : Nat) : s.StagingKept (s.pwcUse w page job user) := by
  unfold State.pwcUse
  refine .of_eq ?_ ?_ <;> rw [State.modXfer_xfer] <;> split <;> rfl

theorem State.jobWalk_stagingKept (s : State) (id : Nat) : s.StagingKept (s.jobWalk id) := by
  unfold State.jobWalk
  split
  · exact .refl s
  split
  · exact .refl s
  split
  · exact .refl s
  · exact .of_eq (by simp [State.walk, State.modJob]) (by simp [State.walk, State.modJob])

/-- A request formed by its operation. -/
theorem State.formRequest_stagingKept (s : State) (o : OpRef) : s.StagingKept (s.formRequest o) := by
  have hsent (a : TagAlloc) (f : OpSlot → OpSlot) (cls key dest : Nat) (m : Msg) (ready : Bool) (stream : Nat) (tag : Option Nat) :
      s.StagingKept (((s.takeTag a).modOp o f).sendMsg cls key dest m ready stream tag) :=
    .trans (u := (s.takeTag a).modOp o f) (.of_eq rfl rfl) (State.sendMsg_stagingKept ..)
  have hcounted (a : TagAlloc) (f : OpSlot → OpSlot) (scope bin n cls key dest : Nat) (m : Msg) (ready : Bool) (stream : Nat) (tag : Option Nat) :
      s.StagingKept ((((s.takeTag a).modOp o f).belvAdd scope bin n).sendMsg cls key dest m ready stream tag) :=
    .trans (u := ((s.takeTag a).modOp o f).belvAdd scope bin n) (.of_eq rfl rfl) (State.sendMsg_stagingKept ..)
  unfold State.formRequest
  split
  · exact .refl s
  split
  · exact .refl s
  dsimp only
  split
  · exact s.opFail_stagingKept ..
  split
  · exact (hsent ..).trans (.of_issueAll ..)
  · exact hsent ..
  · exact hsent ..
  · exact (hsent ..).trans (.of_issueAll ..)
  · split
    · exact s.opFail_stagingKept ..
    split
    · exact hsent ..
    · exact hsent ..
  · exact hsent ..
  · exact hcounted ..
  · exact hcounted ..
  · exact .refl s

/-- A KV write request formed by its job. -/
theorem State.formKv_stagingKept (s : State) (id : Nat) : s.StagingKept (s.formKv id) := by
  unfold State.formKv
  split
  · exact .refl s
  split
  · exact .refl s
  split
  · exact .refl s
  dsimp only
  refine .trans (.trans (.trans ?_ (State.sendMsg_stagingKept ..)) (.of_issueAll ..)) (State.jobWalk_stagingKept ..)
  split
  · exact (s.pwcUse_stagingKept ..).trans (.of_eq rfl rfl)
  · exact (s.pwcUse_stagingKept ..).trans (.of_eq rfl rfl)

theorem State.formOrWait_stagingKept (s : State) (o : OpRef) : s.StagingKept (s.formOrWait o) := by
  unfold State.formOrWait State.formFor
  split
  · split
    · exact s.formKv_stagingKept _
    · exact s.formRequest_stagingKept o
  · exact s.waitTag_stagingKept _ _

theorem measureStagingGrant_grants {s : State} {k pos len : Nat} {o : OpRef} (hlive : s.live = true) (hnext : s.stagingNext k = some (o, pos, len))
    (hfree : s.stagingFree k pos len = true) (hwindow : s.measWindow k pos len = true)
    (hok : s.waiterOk ((s.chan o.chan).pav, .op o) = true) :
    ∃ t, exec (.measureStagingGrant k) s = .next t ∧
      t.xfer.staging = s.xfer.staging ++ [{ slot := k, pos := pos, len := len, fromReserve := s.inLowest k pos len }] ∧
      (∀ w ∈ t.xfer.stagingWait, w.2 ≠ o) := by
  have hgrant : s.stagingGrant k = ((s.modXfer (fun x => { x with stagingWait := x.stagingWait.filter (fun w => w.2 != o) })).takeStaging
      k pos len).formOrWait o := by simp only [State.stagingGrant, hnext]
  have hkept := ((s.modXfer (fun x => { x with stagingWait := x.stagingWait.filter (fun w => w.2 != o) })).takeStaging
    k pos len).formOrWait_stagingKept o
  rw [← hgrant] at hkept
  refine ⟨s.keep (s.stagingGrant k), ?_, hkept.held, fun w hw => ?_⟩
  · rw [exec_measureStagingGrant, hlive, hnext]
    simp [hfree, hwindow, hok]
  · have hmem : w ∈ s.xfer.stagingWait.filter (fun w => w.2 != o) := hkept.waits w hw
    exact bne_iff_ne.mp (List.mem_filter.mp hmem).2

/-- Settles O17: MEAS_OPEN and MEAS_SEAL case by case, the hash of a leaf by what stays of hashed leaves (`Enters`), a grant by what it leaves of
the staging (`StagingKept`). -/
theorem measurementSlotsOpenHashAndSeal : Obligations.MeasurementSlotsOpenHashAndSeal := by
  unfold Obligations.MeasurementSlotsOpenHashAndSeal
  intro s r
  refine ⟨fun hcmd hturn hslot hhandle hlow hhigh hlabel hzero hclosed hchan => ?_, fun hcmd hturn hslot hhigh hlow hzero => ?_,
    fun k i l => measureLeafHashed_hashes, fun k o pos len => measureStagingGrant_grants⟩
  · obtain ⟨i, hchan, hpav⟩ := hchan
    refine ⟨s.keep (s.measOpen r), by rw [exec_measOpen, hcmd, hturn]; rfl, ?_⟩
    rw [State.measOpen_opens hslot hhandle hlow hhigh hlabel hzero hclosed hchan hpav]
    simp only [State.keep_meas, State.finish_meas, State.setMeas_meas_same]
    refine ⟨rfl, handle_toNat _, rfl, rfl, fun j hj => State.setMeas_meas_other _ _ hj, ?_, State.finish_chans .., by simp [State.setMeas]⟩
    exact State.finish_phaseOf (s := s.setMeas _ _) (State.unfinished_of_mgmtIs hcmd) asOk 0 0 0 0
  · have hexec := exec_measSeal hcmd hturn
    have hunfinished := State.unfinished_of_mgmtIs hcmd
    refine ⟨fun hclosed => ⟨_, hexec, ?_⟩, fun hfailed => ⟨_, hexec, ?_⟩, fun hopened hopen => ⟨_, hexec, ?_⟩,
      fun i hopened hseal hrecord => ⟨_, hexec, ?_⟩⟩
    · rw [State.measSeal_closed hslot hhigh hlow hzero hclosed]
      exact ⟨State.finish_phaseOf hunfinished asBadState 0 0 0 0, by simp⟩
    · rw [State.measSeal_failed hslot hhigh hlow hzero hfailed]
      exact ⟨State.finish_phaseOf (s := s.setMeas _ _) hunfinished asBadState 2 0 0 0, by simp⟩
    · rw [State.measSeal_incomplete hslot hhigh hlow hzero hopened hopen]
      exact ⟨State.finish_phaseOf hunfinished asBadState 1 0 0 0, by simp⟩
    · rw [State.measSeal_extends hslot hhigh hlow hzero hopened hseal hrecord]
      exact ⟨State.working_phaseOf hunfinished, rfl, rfl⟩

end Sys2Proof.Machine
end

section
/-!
PROOFS. The statement RequestsAreServed fails: a signal word waits while the atomic unit sleeps (R135, R197, R469).
-/
namespace Sys2Proof.Machine

/-- A signal word (R135) for window 5: an ORDERED WRITE_S of 8 bytes at offset 0. -/
def strayWord : Msg := { hdr := mkReqHdr kWriteS true 0 0 3 1 0 7 5 0 7, body := [0, 0] }

/-- That signal word has come at the node's own completer, which has no window 5, and the atomic unit sleeps in E2. -/
def sleepingAtomicState : State :=
  { xfer := { localQ := [{ msg := strayWord, vc := 2 * clsReq, key := 0, sub := 0, ready := true }] },
    power := { engines := [(10, { state := 2 })] } }

/-- A signal word is taken only when the atomic unit is awake: in that state WRITE_S changes nothing. -/
theorem strayWord_waits : exec (.writeS .sameNode) sleepingAtomicState = .next sleepingAtomicState := by
  have hdue : (sleepingAtomicState.takesMsg .sameNode kWriteS &&
      (sleepingAtomicState.awake 10 || (sleepingAtomicState.arrived .sameNode).all (fun a => !a.isSigWord))) = false := by decide +kernel
  show act (sleepingAtomicState.takesMsg .sameNode kWriteS &&
      (sleepingAtomicState.awake 10 || (sleepingAtomicState.arrived .sameNode).all (fun a => !a.isSigWord))) sleepingAtomicState _ = _
  rw [hdue, act_idle]

/-- No answer to the signal word stands at the node's own completer, its first hop. -/
theorem strayWord_unanswered (m : Msg) (h : m.kind = kResponse) :
    ¬ sleepingAtomicState.queues (sleepingAtomicState.firstHop (hdrSrc strayWord.hdr)) m := by
  rintro ⟨hlocal, -⟩
  obtain ⟨item, hitem, rfl, -⟩ := hlocal (by decide +kernel)
  rw [List.mem_singleton.mp hitem] at h
  exact absurd h (by decide +kernel)

/-- Refutes O18. A write request that fails a check of R181 is said to be answered by the WRITE_S that takes it, whatever the atomic unit does. A signal
word has the form of a WRITE_S and goes to the atomic unit (R135, R197), and while that unit sleeps WRITE_S does not take it: in
`sleepingAtomicState` the word for a window that is not registered stays where it is and has no answer. With the premise `s.awake 10 = true`, or one
that the message is no signal word, the counterexample goes. -/
theorem not_requestsAreServed : ¬ Obligations.RequestsAreServed := by
  unfold Obligations.RequestsAreServed
  rintro ⟨-, hchecks⟩
  obtain ⟨-, hwriteS, -⟩ := hchecks sleepingAtomicState .sameNode { msg := strayWord, key := 0, vc := 2 * clsReq, port := none, slots := [] } 0x11
    (by decide +kernel) (by decide +kernel)
  obtain ⟨hanswered, -⟩ := hwriteS (by decide +kernel)
  obtain ⟨t, hexec, -, -, -, hqueued⟩ := hanswered (.inl rfl) rfl
  rw [strayWord_waits] at hexec
  rw [← Host.Outcome.next.inj hexec] at hqueued
  exact strayWord_unanswered _ (by decide +kernel) hqueued

end Sys2Proof.Machine
end

section
/-!
SUPPORT. What the work of the completer leaves of the rest of the block: messages taken and sent, requests that go on and end, page walks and the
jobs of KVMOVE (R20, R36, R174, R175, R178, R188, R190).
-/
namespace Sys2Proof.Machine

/-! ### The rest of the block -/

/-- Between two states the programs, the Gatehouse, the torus, pod time and the watches stay. -/
structure State.Stays (s u : State) : Prop where
  gather : u.gather = s.gather
  gate : u.gate = s.gate
  topo : u.topo = s.topo
  time : u.time = s.time
  watch : u.watch = s.watch

namespace State.Stays

theorem refl (s : State) : s.Stays s := ⟨rfl, rfl, rfl, rfl, rfl⟩

theorem trans {s u v : State} (h : s.Stays u) (k : u.Stays v) : s.Stays v :=
  ⟨k.gather.trans h.gather, k.gate.trans h.gate, k.topo.trans h.topo, k.time.trans h.time, k.watch.trans h.watch⟩

end State.Stays

section
variable (s : State)

theorem State.modXfer_stays (g : Xfer → Xfer) : s.Stays (s.modXfer g) := ⟨rfl, rfl, rfl, rfl, rfl⟩
theorem State.modFab_stays (g : Fabric → Fabric) : s.Stays (s.modFab g) := ⟨rfl, rfl, rfl, rfl, rfl⟩
theorem State.modPane_stays (p : PortIx) (g : Pane → Pane) : s.Stays (s.modPane p g) := ⟨rfl, rfl, rfl, rfl, rfl⟩
theorem State.modOp_stays (o : OpRef) (f : OpSlot → OpSlot) : s.Stays (s.modOp o f) := ⟨rfl, rfl, rfl, rfl, rfl⟩
theorem State.modCreq_stays (id : Nat) (f : CReq → CReq) : s.Stays (s.modCreq id f) := s.modXfer_stays _
theorem State.modJob_stays (id : Nat) (f : KvJob → KvJob) : s.Stays (s.modJob id f) := s.modXfer_stays _
theorem State.belvAdd_stays (a b n : Nat) : s.Stays (s.belvAdd a b n) := ⟨rfl, rfl, rfl, rfl, rfl⟩
theorem State.activity_stays (pav : Nat) : s.Stays (s.activity pav) := ⟨rfl, rfl, rfl, rfl, rfl⟩
theorem State.takeTag_stays (a : TagAlloc) : s.Stays (s.takeTag a) := ⟨rfl, rfl, rfl, rfl, rfl⟩
theorem State.issue_stays (q : FabRequest) : s.Stays (s.issue q) := ⟨by simp, by simp, by simp, by simp, by simp⟩
theorem State.issueAll_stays (l : List FabRequest) : s.Stays (s.issueAll l) := ⟨by simp, by simp, by simp, by simp, by simp⟩
theorem State.issueWaiting_stays : s.Stays s.issueWaiting := ⟨by simp, by simp, by simp, by simp, by simp⟩
theorem State.walk_stays (id addr len pav : Nat) : s.Stays (s.walk id addr len pav) := s.issue_stays _
theorem State.finish_stays (r : AdminRef) (st a b c d : Nat) : s.Stays (s.finish r st a b c d) := ⟨by simp, by simp, by simp, by simp, by simp⟩

theorem State.accessFault_stays (res : FabResult) (pav channel access addr unit engine : Nat) :
    s.Stays (s.accessFault res pav channel access addr unit engine) := by
  refine ⟨?_, ?_, ?_, ?_, ?_⟩ <;> simp [State.accessFault]

theorem State.sendMsg_stays (cls key dest : Nat) (m : Msg) (ready : Bool) (stream : Nat) (tag : Option Nat) :
    s.Stays (s.sendMsg cls key dest m ready stream tag) := by
  unfold State.sendMsg State.sendVia
  split
  · exact s.modXfer_stays _
  split
  · exact s.modPane_stays _ _
  · exact .refl s

theorem State.releaseSlots_stays (p : Option PortIx) (l : List Nat) : s.Stays (s.releaseSlots p l) := by
  unfold State.releaseSlots
  split
  · exact .refl s
  · exact s.modPane_stays _ _

theorem State.waitTag_stays (pav : Nat) (o : TagOwner) : s.Stays (s.waitTag pav o) := by
  unfold State.waitTag
  split
  · exact .refl s
  · exact s.modXfer_stays _

theorem State.pwcUse_stays (w page : Nat) (job : Option Nat) (user : Nat) : s.Stays (s.pwcUse w page job user) := s.modXfer_stays _

/-- A translation read changes the page-walk cache alone. -/
theorem State.pwcPut_eq (e : PwcEntry) : ∃ p, s.pwcPut e = s.modXfer (fun x => { x with pwc := p }) := by
  unfold State.pwcPut
  split
  · exact ⟨s.xfer.pwc, rfl⟩
  split
  · exact ⟨_, rfl⟩
  split
  · exact ⟨s.xfer.pwc, rfl⟩
  · exact ⟨_, rfl⟩

theorem State.pwcPut_stays (e : PwcEntry) : s.Stays (s.pwcPut e) := by
  obtain ⟨p, h⟩ := s.pwcPut_eq e
  exact h ▸ s.modXfer_stays _

theorem State.opFail_stays (o : OpRef) (st n : Nat) : s.Stays (s.opFail o st n) := ⟨rfl, rfl, rfl, rfl, rfl⟩

theorem State.endRelease_stays (p : Nat × Option WinEntry) : s.Stays (s.endRelease p) := by
  unfold State.endRelease
  split
  · split
    · unfold State.freeWindow
      split
      · exact (s.modXfer_stays _).trans (State.finish_stays ..)
      · exact s.modXfer_stays _
    · exact .refl s
  · exact .refl s

theorem State.endReleases_stays : s.Stays s.endReleases := foldl_keeps .refl .trans (fun p _ t => t.endRelease_stays p) s

/-! ### Requests at the completer -/

theorem State.dropCreq_stays (r : CReq) : s.Stays (s.dropCreq r) := by
  unfold State.dropCreq
  obtain ⟨d, p, hend⟩ := State.endDest_eq ((((s.modXfer (fun x => { x with creqs := x.creqs.filter (fun q => q.id != r.id) })).releaseSlots
    r.port r.slots).pwcLeave (userReq r.id))) r.move
  rw [hend]
  exact (((s.modXfer_stays _).trans (State.releaseSlots_stays ..)).trans (State.modXfer_stays ..)).trans (State.modXfer_stays ..)

theorem State.endCreq_stays (r : CReq) (st fl : Nat) (data : List Byte) : s.Stays (s.endCreq r st fl data) :=
  (s.dropCreq_stays r).trans (State.sendMsg_stays ..)

theorem State.issueCreq_stays (r : CReq) (d : WinDesc) : s.Stays (s.issueCreq r d) := by
  unfold State.issueCreq
  refine .trans ?_ (State.issueAll_stays ..)
  have hissued (f : CReq → CReq) : s.Stays ((s.modCreq r.id f).releaseSlots r.port r.slots) :=
    (s.modCreq_stays r.id f).trans (State.releaseSlots_stays ..)
  split
  · exact hissued _
  · exact hissued _
  · exact (hissued _).trans (State.belvAdd_stays ..)

theorem State.startRelay_stays (r : CReq) (d : WinDesc) (dst : Remote) (us : Nat) : s.Stays (s.startRelay r d dst us) :=
  ((((s.takeTag_stays _).trans (State.modCreq_stays ..)).trans (State.releaseSlots_stays ..)).trans (State.sendMsg_stays ..)).trans
    (State.issueAll_stays ..)

/-! ### Jobs -/

theorem State.jobWalk_stays (id : Nat) : s.Stays (s.jobWalk id) := by
  unfold State.jobWalk
  split
  · exact .refl s
  split
  · exact .refl s
  split
  · exact .refl s
  · exact (s.modJob_stays ..).trans (State.walk_stays ..)

theorem State.formKv_stays (id : Nat) : s.Stays (s.formKv id) := by
  unfold State.formKv
  split
  · exact .refl s
  split
  · exact .refl s
  split
  · exact .refl s
  dsimp only
  refine .trans (.trans (.trans ?_ (State.sendMsg_stays ..)) (State.issueAll_stays ..)) (State.jobWalk_stays ..)
  have hformed (w page : Nat) (job : Option Nat) (user : Nat) (a : TagAlloc) (f : KvJob → KvJob) :
      s.Stays (((s.pwcUse w page job user).takeTag a).modJob id f) :=
    ((s.pwcUse_stays ..).trans (State.takeTag_stays ..)).trans (State.modJob_stays ..)
  split
  · exact (hformed ..).trans (State.modOp_stays ..)
  · exact hformed ..

theorem State.endJob_stays (j : KvJob) : s.Stays (s.endJob j) := by
  have hdropped : s.Stays ((s.modXfer (fun x => { x with jobs := x.jobs.filter (fun k => k.id != j.id) })).pwcDropJob j.id) :=
    (s.modXfer_stays _).trans (State.modXfer_stays _ _)
  unfold State.endJob
  dsimp only
  split
  · exact hdropped.trans (State.endReleases_stays _)
  · refine hdropped.trans (.trans ?_ (State.endReleases_stays _))
    split
    · exact State.dropCreq_stays ..
    · exact State.endCreq_stays ..

end

theorem State.pumpJob_stays (id n : Nat) (s : State) : s.Stays (s.pumpJob id n) := by
  induction n generalizing s with
  | zero => exact .refl s
  | succ n ih =>
    unfold State.pumpJob
    split
    · exact .refl s
    split
    · exact .refl s
    split
    · split
      · exact s.endJob_stays _
      · exact .refl s
    split
    · exact .refl s
    split
    · exact .refl s
    split
    · exact s.jobWalk_stays id
    split
    · exact (s.formKv_stays id).trans (ih _)
    · exact s.waitTag_stays _ _

theorem State.failJob_stays (s : State) (id st : Nat) : s.Stays (s.failJob id st) := by
  unfold State.failJob
  split
  · exact .refl s
  split
  · exact (s.modJob_stays ..).trans (State.opFail_stays ..)
  · exact (s.modJob_stays ..).trans (State.pumpJob_stays ..)

theorem State.checkJob_stays (s : State) (id : Nat) (d : WinDesc) : s.Stays (s.checkJob id d) := by
  unfold State.checkJob
  split
  · exact .refl s
  split
  · exact s.failJob_stays _ _
  · exact s.walk_stays ..

/-! ### Requests that go on and end -/

theorem State.advanceCreq_stays (id n : Nat) (s : State) : s.Stays (s.advanceCreq id n) := by
  induction n generalizing s with
  | zero => exact .refl s
  | succ n ih =>
    unfold State.advanceCreq
    split
    · exact .refl s
    split
    · exact .refl s
    split
    · exact .refl s
    dsimp only
    split
    · split
      · exact ((s.pwcUse_stays ..).trans (State.modCreq_stays ..)).trans (ih _)
      · exact (s.modCreq_stays ..).trans (State.walk_stays ..)
    split
    · exact .refl s
    split
    · split
      · exact s.issueCreq_stays _ _
      · exact .refl s
    · split
      · exact s.startRelay_stays ..
      · exact s.waitTag_stays _ _
    · split
      · exact .refl s
      · exact (((s.modCreq_stays ..).trans (State.releaseSlots_stays ..)).trans (State.modXfer_stays ..)).trans (State.checkJob_stays ..)
    · split
      · exact s.issueCreq_stays _ _
      · exact .refl s
    · split
      · exact .refl s
      split
      · exact s.issueCreq_stays _ _
      · exact .refl s
      split
      · exact ((s.pwcUse_stays ..).trans (State.modCreq_stays ..)).trans (ih _)
      · exact (s.modCreq_stays ..).trans (State.walk_stays ..)
    · exact s.issueCreq_stays _ _

theorem State.kick_stays (s : State) : s.Stays s.kick := foldl_keeps .refl .trans (fun _ _ t => State.advanceCreq_stays _ _ t) s

theorem State.finishCreq_stays (s : State) (r : CReq) (st fl : Nat) (data : List Byte) : s.Stays (s.finishCreq r st fl data) :=
  ((s.endCreq_stays r st fl data).trans (State.kick_stays _)).trans (State.endReleases_stays _)

/-! ### Answers to walks (R175) -/

theorem State.destWalked_stays (s : State) (m : KvDest) (addr : Nat) (res : FabResult) : s.Stays (s.destWalked m addr res) := by
  have hfail (ids : List Nat) (st : Nat) (u : State) : u.Stays (ids.foldl (fun t id => match t.creq id with
      | some r => t.finishCreq r st 0 []
      | none => t) u) := by
    refine foldl_keeps .refl .trans (fun id _ t => ?_) u
    split
    · exact t.finishCreq_stays ..
    · exact .refl t
  unfold State.destWalked
  dsimp only
  split
  · split
    · exact (s.modXfer_stays _).trans (foldl_keeps .refl .trans (fun id _ t => State.advanceCreq_stays id 3 t) _)
    · exact hfail ..
  · split
    · exact .refl s
    · exact (s.accessFault_stays ..).trans (hfail ..)

theorem State.creqWalked_stays (s : State) (r : CReq) (addr : Nat) (res : FabResult) : s.Stays (s.creqWalked r addr res) := by
  have hgoesOn (e : PwcEntry) (f : CReq → CReq) (n : Nat) : s.Stays (((s.pwcPut e).modCreq r.id f).advanceCreq r.id n) :=
    ((s.pwcPut_stays e).trans (State.modCreq_stays ..)).trans (State.advanceCreq_stays ..)
  unfold State.creqWalked
  split
  · exact .refl s
  dsimp only
  split
  · split
    · split
      · exact s.finishCreq_stays ..
      · exact hgoesOn ..
    · split
      · exact .refl s
      split
      · exact s.finishCreq_stays ..
      · exact hgoesOn ..
  · exact (s.accessFault_stays ..).trans (State.finishCreq_stays ..)

theorem State.jobWalked_stays (s : State) (j : KvJob) (addr : Nat) (res : FabResult) : s.Stays (s.jobWalked j addr res) := by
  unfold State.jobWalked
  split
  · exact s.failJob_stays _ _
  dsimp only
  split
  · split
    · split
      · exact (s.modJob_stays ..).trans (State.failJob_stays ..)
      split
      · exact (s.modJob_stays ..).trans (State.jobWalk_stays ..)
      · exact (s.modJob_stays ..).trans (State.pumpJob_stays ..)
    split
    · exact .refl s
    split
    · exact (s.modJob_stays ..).trans (State.failJob_stays ..)
    split
    · exact (s.modJob_stays ..).trans (State.pwcPut_stays ..)
    · exact ((s.modJob_stays ..).trans (State.pwcPut_stays ..)).trans (State.pumpJob_stays ..)
  · exact ((s.accessFault_stays ..).trans (State.modJob_stays ..)).trans (State.failJob_stays ..)

theorem State.walkAnswer_stays (s : State) (id addr : Nat) (res : FabResult) : s.Stays (s.walkAnswer id addr res) := by
  unfold State.walkAnswer
  split
  · exact s.jobWalked_stays ..
  · split
    · exact s.creqWalked_stays ..
    · exact .refl s
  · exact s.destWalked_stays ..
  · exact .refl s

end Sys2Proof.Machine
end

section
/-!
PROOFS. KV windows and page walks (R167, R170, R172, R175, R190, R191): what the completer reads for a request it has taken, how an answered walk goes
on, and the statement WindowsTranslate.
-/
namespace Sys2Proof.Machine

/-! ### A message taken -/

/-- Between two states messages move: the queues change, and of the rest of the block nothing but what the hang detector has seen. -/
structure State.MsgsMove (s u : State) : Prop where
  queues : s.QueuesOnly u
  stays : s.Stays u
  counters : u.counters = s.counters
  live : u.live = s.live

namespace State.MsgsMove

theorem refl (s : State) : s.MsgsMove s := ⟨.refl s, .refl s, rfl, rfl⟩

theorem trans {s u v : State} (h : s.MsgsMove u) (k : u.MsgsMove v) : s.MsgsMove v :=
  ⟨h.queues.trans k.queues, h.stays.trans k.stays, k.counters.trans h.counters, k.live.trans h.live⟩

end State.MsgsMove

theorem State.modPane_msgsMove (s : State) (p : PortIx) (g : Pane → Pane) : s.MsgsMove (s.modPane p g) :=
  ⟨s.modPane_queuesOnly p g, s.modPane_stays p g, rfl, rfl⟩

theorem State.activity_msgsMove (s : State) (pav : Nat) : s.MsgsMove (s.activity pav) :=
  ⟨s.activity_queuesOnly pav, s.activity_stays pav, rfl, rfl⟩

theorem State.sendMsg_msgsMove (s : State) (cls key dest : Nat) (m : Msg) (ready : Bool) (stream : Nat) (tag : Option Nat) :
    s.MsgsMove (s.sendMsg cls key dest m ready stream tag) := by
  refine ⟨State.sendMsg_queuesOnly .., State.sendMsg_stays .., ?_, ?_⟩ <;>
  · unfold State.sendMsg State.sendVia
    split
    · rfl
    split
    · rfl
    · rfl

theorem State.releaseSlots_msgsMove (s : State) (p : Option PortIx) (l : List Nat) : s.MsgsMove (s.releaseSlots p l) := by
  unfold State.releaseSlots
  split
  · exact .refl s
  · exact s.modPane_msgsMove _ _

theorem State.retiredMsg_msgsMove (s : State) (p : PortIx) (hdr : LinkUnit) (slots : List Nat) : s.MsgsMove (s.retiredMsg p hdr slots) := by
  unfold State.retiredMsg
  dsimp only
  split
  · exact (s.modPane_msgsMove p _).trans (State.sendMsg_msgsMove ..)
  · exact s.modPane_msgsMove p _

theorem State.sweepPool_msgsMove (p : PortIx) (n : Nat) (s : State) : s.MsgsMove (State.sweepPool p n s) := by
  induction n generalizing s with
  | zero => exact .refl s
  | succ n ih =>
    unfold State.sweepPool
    split
    · exact .refl s
    · exact ((s.modPane_msgsMove p _).trans (State.retiredMsg_msgsMove ..)).trans (ih _)

theorem State.consumed_msgsMove (s : State) (src : MsgSource) : s.MsgsMove (s.consumed src) := by
  unfold State.consumed
  split
  · exact .refl s
  · refine .trans ?_ (State.activity_msgsMove ..)
    cases src with
    | port p vc => exact (s.modPane_msgsMove p _).trans (State.sweepPool_msgsMove ..)
    | sameNode =>
      dsimp only
      split
      · exact .refl s
      · exact ⟨⟨rfl, rfl, rfl, _, rfl⟩, s.modXfer_stays _, rfl, rfl⟩

theorem State.walk_xfer (s : State) (id addr len pav : Nat) : (s.walk id addr len pav).xfer = s.xfer := s.issue_xfer _
theorem State.walk_front (s : State) (id addr len pav : Nat) : (s.walk id addr len pav).front = s.front := s.issue_front _
theorem State.walk_counters (s : State) (id addr len pav : Nat) : (s.walk id addr len pav).counters = s.counters := s.issue_counters _
theorem State.walk_live (s : State) (id addr len pav : Nat) : (s.walk id addr len pav).live = s.live := by
  simp [State.walk, State.live, State.clocked]

/-! ### Requests, jobs and destinations read back -/

theorem State.creq_congr {s t : State} (h : t.xfer.creqs = s.xfer.creqs) (id : Nat) : t.creq id = s.creq id := by
  simp [State.creq, h]

theorem State.job_congr {s t : State} (h : t.xfer.jobs = s.xfer.jobs) (id : Nat) : t.job id = s.job id := by
  simp [State.job, h]

theorem State.dest_congr {s t : State} (h : t.xfer.dests = s.xfer.dests) (id : Nat) : t.dest id = s.dest id := by
  simp [State.dest, h]

theorem State.pwcFind_congr {s t : State} (hctl : t.xfer.winCtl = s.xfer.winCtl) (hpwc : t.xfer.pwc = s.xfer.pwc) (w page : Nat) (job : Option Nat) :
    t.pwcFind w page job = s.pwcFind w page job := by
  simp [State.pwcFind, hctl, hpwc]

section
variable (s : State) (id addr len pav : Nat)

theorem State.walk_creq (k : Nat) : (s.walk id addr len pav).creq k = s.creq k := State.creq_congr (by rw [State.walk_xfer]) k
theorem State.walk_job (k : Nat) : (s.walk id addr len pav).job k = s.job k := State.job_congr (by rw [State.walk_xfer]) k
theorem State.walk_dest (k : Nat) : (s.walk id addr len pav).dest k = s.dest k := State.dest_congr (by rw [State.walk_xfer]) k
theorem State.walk_win (w : Nat) : (s.walk id addr len pav).win w = s.win w := State.win_congr (by rw [State.walk_xfer]) w

end

/-- A request changed under its own number reads back changed. -/
theorem State.modCreq_creq (s : State) (id : Nat) {f : CReq → CReq} (hf : ∀ r, (f r).id = r.id) :
    (s.modCreq id f).creq id = (s.creq id).map f := by
  have hname : (fun r : CReq => r.id == id) ∘ (fun r : CReq => if r.id = id then f r else r) = fun r => r.id == id := by
    funext r
    rw [Function.comp_apply]
    split
    · rw [hf]
    · rfl
  rw [State.creq, State.modCreq, State.modXfer_xfer, List.find?_map, hname]
  show (s.creq id).map _ = _
  cases hr : s.creq id with
  | none => rfl
  | some r => rw [Option.map_some, Option.map_some, if_pos (State.creq_id hr)]

theorem State.modCreq_creq_some {s : State} {id : Nat} {f : CReq → CReq} (hf : ∀ r, (f r).id = r.id) {r : CReq} (hr : s.creq id = some r) :
    (s.modCreq id f).creq id = some (f r) := by
  rw [State.modCreq_creq s id hf, hr, Option.map_some]

/-- A request taken by the completer, under the next number. -/
def State.enroll (s : State) (r : CReq) : State := s.modXfer (fun x => { x with creqs := x.creqs ++ [r], nextId := x.nextId + 1 })

theorem State.enroll_creq {s : State} {r : CReq} (h : s.creq r.id = none) : (s.enroll r).creq r.id = some r := by
  have hnone : s.xfer.creqs.find? (fun q => q.id == r.id) = none := h
  simp [State.creq, State.enroll, List.find?_append, hnone]

/-- A job begun. -/
def State.addJob (s : State) (j : KvJob) : State := s.modXfer (fun x => { x with jobs := x.jobs ++ [j] })

theorem State.addJob_job {s : State} {j : KvJob} (h : s.job j.id = none) : (s.addJob j).job j.id = some j := by
  have hnone : s.xfer.jobs.find? (fun q => q.id == j.id) = none := h
  simp [State.job, State.addJob, List.find?_append, hnone]

/-- The part at its destination of the KVMOVE that a KV write request names. -/
def CReq.part (r : CReq) (id slot : Nat) : KvDest :=
  { id := id, src := hdrSrc r.hdr, pav := r.pav, cgen := hdrCgen r.hdr, win := r.win, slot := slot }

/-- A KV write request joins a part that it begins. -/
def State.beginPart (s : State) (r : CReq) (slot : Nat) : State :=
  (s.modXfer (fun x => { x with nextId := s.xfer.nextId + 1, dests := x.dests ++ [r.part s.xfer.nextId slot] })).modCreq r.id
    (fun q => { q with move := s.xfer.nextId })

theorem State.beginPart_dest {s : State} (r : CReq) (slot : Nat) (h : s.dest s.xfer.nextId = none) :
    (s.beginPart r slot).dest s.xfer.nextId = some (r.part s.xfer.nextId slot) := by
  have hnone : s.xfer.dests.find? (fun d => d.id == s.xfer.nextId) = none := h
  simp [State.dest, State.beginPart, State.modCreq, List.find?_append, hnone, CReq.part]

theorem State.beginPart_creq (s : State) (r : CReq) (slot : Nat) :
    (s.beginPart r slot).creq r.id = (s.creq r.id).map (fun q => { q with move := s.xfer.nextId }) := State.modCreq_creq _ _ (fun _ => rfl)

theorem State.joinDest_begins {s : State} {r : CReq} {slot : Nat}
    (h : s.xfer.dests.find? (fun d => (d.src, d.pav, d.cgen) == r.handle && d.win == r.win && d.slot == slot) = none) (d : WinDesc) :
    s.joinDest r slot d = (s.beginPart r slot).walk s.xfer.nextId (d.base + 16 * slot) 16 d.pav := by
  simp only [State.joinDest, h, State.beginPart, CReq.part]

theorem State.joinDest_joins {s : State} {r : CReq} {slot : Nat} {m : KvDest}
    (h : s.xfer.dests.find? (fun d => (d.src, d.pav, d.cgen) == r.handle && d.win == r.win && d.slot == slot) = some m) (d : WinDesc) :
    s.joinDest r slot d = s.modCreq r.id (fun q => { q with move := m.id }) := by
  simp only [State.joinDest, h]

/-! ### A request goes on (R175, R181) -/

/-- The job a KV_CMD begins at its source node. -/
def CReq.jobFor (r : CReq) (us : Nat) (k : KvMove) (cluster : Nat) : KvJob :=
  { id := r.id, op := none, hdr := r.hdr, chan := 0, cgen := hdrCgen r.hdr, pav := r.pav, move := k, timeoutUs := us, ordered := r.ordered,
    cluster := cluster }

/-- The state in which a KV_CMD has begun its job. -/
def State.beginJob (s : State) (r : CReq) (us : Nat) (k : KvMove) : State :=
  ((s.modCreq r.id (fun q => { q with issued := true, slots := [] })).releaseSlots r.port r.slots).addJob
    (r.jobFor us k (s.pickCluster r.pav))

theorem State.beginJob_front (s : State) (r : CReq) (us : Nat) (k : KvMove) : (s.beginJob r us k).front = s.front :=
  (State.releaseSlots_msgsMove ..).queues.front

theorem State.beginJob_counters (s : State) (r : CReq) (us : Nat) (k : KvMove) : (s.beginJob r us k).counters = s.counters :=
  (State.releaseSlots_msgsMove ..).counters

theorem State.beginJob_job {s : State} {r : CReq} (h : s.job r.id = none) (us : Nat) (k : KvMove) :
    (s.beginJob r us k).job r.id = some (r.jobFor us k (s.pickCluster r.pav)) := by
  refine State.addJob_job (j := r.jobFor us k (s.pickCluster r.pav)) ((State.job_congr ?_ _).trans h)
  rw [State.releaseSlots_xfer]
  rfl

section
variable {s : State} {id : Nat} {r : CReq} {e : WinEntry} (hr : s.creq id = some r) (hissued : r.issued = false) (hwalking : r.walking = false)
  (hwin : s.win r.win = some e) (hpages : r.pages = []) (hord : r.ordered = false) (hlive : s.live = true)
include hr hissued hwalking hwin hpages hord hlive

/-- An unordered read without pages to walk is issued. -/
theorem State.advanceCreq_read (hkind : r.kind = .read) (n : Nat) : s.advanceCreq id (n + 1) = s.issueCreq r e.desc := by
  simp [State.advanceCreq, hr, hissued, hwalking, hwin, hpages, State.orderReady, hord, hlive, hkind]

/-- A KV write request whose part has no page list yet waits. -/
theorem State.advanceCreq_kvWrite_waits {slot layer hg first count entry16 skip16 : Nat}
    (hkind : r.kind = .kvWrite slot layer hg first count entry16 skip16) (htrans : r.trans = []) {m : KvDest} (hm : s.dest r.move = some m)
    (hlist : m.list = none) (n : Nat) : s.advanceCreq id (n + 1) = s := by
  simp [State.advanceCreq, hr, hissued, hwalking, hwin, hpages, State.orderReady, hord, hlive, hkind, htrans, hm, hlist]

/-- A KV write request whose part has a page list walks to the entry it holds no translation of. -/
theorem State.advanceCreq_kvWrite_walks {slot layer hg first count entry16 skip16 : Nat}
    (hkind : r.kind = .kvWrite slot layer hg first count entry16 skip16) (htrans : r.trans = []) {m : KvDest} (hm : s.dest r.move = some m)
    {list : Nat} (hlist : m.list = some list) (hmiss : s.pwcFind r.win (kvPlace e.desc layer hg first skip16).1 (some m.id) = none) (n : Nat) :
    s.advanceCreq id (n + 1) = (s.modCreq id (fun q => { q with walking := true })).walk id
      (list + 8 * (kvPlace e.desc layer hg first skip16).1) 8 e.desc.pav := by
  simp [State.advanceCreq, hr, hissued, hwalking, hwin, hpages, State.orderReady, hord, hlive, hkind, htrans, hm, hlist, CReq.place, hmiss]

/-- A KV_CMD begins its job, whose source ranges are checked. -/
theorem State.advanceCreq_kvCmd {us : Nat} {k : KvMove} (hkind : r.kind = .kvCmd us k) (hclusters : s.clustersOf r.pav ≠ []) (n : Nat) :
    s.advanceCreq id (n + 1) = (s.beginJob r us k).checkJob id e.desc := by
  have hsome : (s.clustersOf r.pav).isEmpty = false := by simpa using hclusters
  have hid : r.id = id := State.creq_id hr
  simp [State.advanceCreq, hr, hissued, hwalking, hwin, hpages, State.orderReady, hord, hlive, hkind, hsome, State.beginJob, State.addJob,
    CReq.jobFor, hid]

end

/-- A job whose ranges lie in its window reads its sequence entry. -/
theorem State.checkJob_walks {s : State} {id : Nat} {j : KvJob} {d : WinDesc} (hj : s.job id = some j) (hseq : j.move.srcSeq < d.seqCount)
    (hlayers : j.move.layerFirst + j.move.layerCount ≤ d.layers) (hhg : j.move.hgFirst + j.move.hgCount ≤ d.hgTotal) :
    s.checkJob id d = s.walk id (d.base + 16 * j.move.srcSeq) 16 d.pav := by
  simp [State.checkJob, hj, Nat.not_le.mpr hseq, Nat.not_lt.mpr hlayers, Nat.not_lt.mpr hhg]

/-! ### A KV request taken (R20, R181) -/

/-- A KV request as the completer holds it: it walks pages of its own later. -/
def CReq.held (r : CReq) (entry : Bool) : CReq := { r with hasEntry := entry, pages := [] }

/-- Between two states a message leaves its queue and the completer takes its request. -/
structure State.Enrolls (s u : State) (r : CReq) : Prop where
  creq : u.creq s.xfer.nextId = some r
  xfer : ∃ l, u.xfer = { s.xfer with localQ := l, creqs := s.xfer.creqs ++ [r], nextId := s.xfer.nextId + 1 }
  stays : s.Stays u
  front : u.front = s.front
  counters : u.counters = s.counters
  live : u.live = s.live

theorem State.Enrolls.win {s u : State} {r : CReq} (h : s.Enrolls u r) (w : Nat) : u.win w = s.win w := by
  obtain ⟨l, hxfer⟩ := h.xfer
  exact State.win_congr (by rw [hxfer]) w

theorem State.Enrolls.job {s u : State} {r : CReq} (h : s.Enrolls u r) (id : Nat) : u.job id = s.job id := by
  obtain ⟨l, hxfer⟩ := h.xfer
  exact State.job_congr (by rw [hxfer]) id

theorem State.Enrolls.dest {s u : State} {r : CReq} (h : s.Enrolls u r) (id : Nat) : u.dest id = s.dest id := by
  obtain ⟨l, hxfer⟩ := h.xfer
  exact State.dest_congr (by rw [hxfer]) id

theorem State.Enrolls.dests {s u : State} {r : CReq} (h : s.Enrolls u r) : u.xfer.dests = s.xfer.dests := by
  obtain ⟨l, hxfer⟩ := h.xfer
  rw [hxfer]

theorem State.Enrolls.nextId {s u : State} {r : CReq} (h : s.Enrolls u r) : u.xfer.nextId = s.xfer.nextId + 1 := by
  obtain ⟨l, hxfer⟩ := h.xfer
  rw [hxfer]

theorem State.Enrolls.pwcFind {s u : State} {r : CReq} (h : s.Enrolls u r) (w page : Nat) (job : Option Nat) :
    u.pwcFind w page job = s.pwcFind w page job := by
  obtain ⟨l, hxfer⟩ := h.xfer
  exact State.pwcFind_congr (by rw [hxfer]) (by rw [hxfer]) w page job

/-- A KV_CMD taken reads the sequence entry of its source window. -/
theorem State.Enrolls.kvCmd_walks {s u : State} {r : CReq} {e : WinEntry} {us : Nat} {k : KvMove} (h : s.Enrolls u r) (hwin : s.win r.win = some e)
    (hissued : r.issued = false) (hwalking : r.walking = false) (hpages : r.pages = []) (hord : r.ordered = false) (hlive : s.live = true)
    (hkind : r.kind = .kvCmd us k) (hclusters : s.clustersOf r.pav ≠ []) (hnojob : s.job s.xfer.nextId = none) (hseq : k.srcSeq < e.desc.seqCount)
    (hlayers : k.layerFirst + k.layerCount ≤ e.desc.layers) (hhg : k.hgFirst + k.hgCount ≤ e.desc.hgTotal) (n : Nat) :
    u.advanceCreq s.xfer.nextId (n + 1) = (u.beginJob r us k).walk s.xfer.nextId (e.desc.base + 16 * k.srcSeq) 16 e.desc.pav ∧
      (u.beginJob r us k).job s.xfer.nextId = some (r.jobFor us k (u.pickCluster r.pav)) := by
  have hid : r.id = s.xfer.nextId := State.creq_id h.creq
  have hjob : (u.beginJob r us k).job s.xfer.nextId = some (r.jobFor us k (u.pickCluster r.pav)) := by
    rw [← hid]
    exact State.beginJob_job ((h.job _).trans (hid ▸ hnojob)) us k
  have hclusters' : u.clustersOf r.pav ≠ [] := by simpa only [State.clustersOf, h.stays.gate] using hclusters
  refine ⟨?_, hjob⟩
  rw [State.advanceCreq_kvCmd h.creq hissued hwalking ((h.win _).trans hwin) hpages hord (h.live.trans hlive) hkind hclusters']
  exact State.checkJob_walks hjob hseq hlayers hhg

section
variable {s u : State} {r : CReq} {e : WinEntry} {slot layer hg first count entry16 skip16 : Nat} (h : s.Enrolls u r)
  (hwin : s.win r.win = some e) (hissued : r.issued = false) (hwalking : r.walking = false) (hpages : r.pages = []) (hord : r.ordered = false)
  (hlive : s.live = true) (hkind : r.kind = .kvWrite slot layer hg first count entry16 skip16) (htrans : r.trans = [])
include h hwin hissued hwalking hpages hord hlive hkind htrans

/-- The first KV_WRITE of a move reads the sequence entry of its destination. -/
theorem State.Enrolls.kvWrite_begins
    (hnew : s.xfer.dests.find? (fun d => (d.src, d.pav, d.cgen) == r.handle && d.win == r.win && d.slot == slot) = none)
    (hfree : s.dest (s.xfer.nextId + 1) = none) (n : Nat) :
    (u.joinDest r slot e.desc).advanceCreq s.xfer.nextId (n + 1) =
        (u.beginPart r slot).walk (s.xfer.nextId + 1) (e.desc.base + 16 * slot) 16 e.desc.pav ∧
      (u.beginPart r slot).creq s.xfer.nextId = some { r with move := s.xfer.nextId + 1 } := by
  have hid : r.id = s.xfer.nextId := State.creq_id h.creq
  have hcreq := State.beginPart_creq u r slot
  rw [hid, h.creq, h.nextId, Option.map_some] at hcreq
  have hdest := State.beginPart_dest r slot ((h.dest u.xfer.nextId).trans (h.nextId ▸ hfree))
  have hjoin := State.joinDest_begins (s := u) (r := r) (slot := slot) (by rw [h.dests]; exact hnew) e.desc
  rw [h.nextId] at hdest hjoin
  refine ⟨?_, hcreq⟩
  rw [hjoin]
  exact State.advanceCreq_kvWrite_waits ((State.walk_creq ..).trans hcreq) hissued hwalking ((State.walk_win ..).trans ((h.win _).trans hwin))
    hpages hord ((State.walk_live ..).trans (h.live.trans hlive)) hkind htrans ((State.walk_dest ..).trans hdest) rfl n

/-- A later KV_WRITE of the move reads the page-list entry it has no translation of. -/
theorem State.Enrolls.kvWrite_joins {x : KvDest} {list : Nat}
    (hfound : s.xfer.dests.find? (fun d => (d.src, d.pav, d.cgen) == r.handle && d.win == r.win && d.slot == slot) = some x)
    (hx : s.dest x.id = some x) (hlist : x.list = some list)
    (hmiss : s.pwcFind r.win (kvPlace e.desc layer hg first skip16).1 (some x.id) = none) (n : Nat) :
    (u.joinDest r slot e.desc).advanceCreq s.xfer.nextId (n + 1) =
        ((u.modCreq s.xfer.nextId (fun q => { q with move := x.id })).modCreq s.xfer.nextId (fun q => { q with walking := true })).walk s.xfer.nextId
          (list + 8 * (kvPlace e.desc layer hg first skip16).1) 8 e.desc.pav ∧
      ((u.modCreq s.xfer.nextId (fun q => { q with move := x.id })).modCreq s.xfer.nextId (fun q => { q with walking := true })).creq s.xfer.nextId =
        some { r with move := x.id, walking := true } := by
  have hid : r.id = s.xfer.nextId := State.creq_id h.creq
  have hcreq := State.modCreq_creq_some (f := fun q => { q with move := x.id }) (fun _ => rfl) h.creq
  refine ⟨?_, State.modCreq_creq_some (f := fun q => { q with walking := true }) (fun _ => rfl) hcreq⟩
  rw [State.joinDest_joins (by rw [h.dests]; exact hfound), hid]
  exact State.advanceCreq_kvWrite_walks hcreq hissued hwalking ((h.win _).trans hwin) hpages hord (h.live.trans hlive) hkind htrans
    ((h.dest x.id).trans hx) hlist ((h.pwcFind ..).trans hmiss) n

end

theorem State.consumed_enrolls {s : State} (src : MsgSource) {r : CReq} (hid : r.id = s.xfer.nextId) (hfresh : s.creq s.xfer.nextId = none) :
    s.Enrolls ((s.consumed src).enroll r) r := by
  have hmoved := s.consumed_msgsMove src
  obtain ⟨l, hxfer⟩ := hmoved.queues.xfer
  refine ⟨?_, ⟨l, by rw [State.enroll, State.modXfer_xfer, hxfer]⟩, hmoved.stays.trans (State.modXfer_stays ..), hmoved.queues.front,
    hmoved.counters, hmoved.live⟩
  rw [← hid]
  exact State.enroll_creq ((State.creq_congr (by rw [hxfer]) _).trans (hid ▸ hfresh))

theorem State.accept_kvCmd {s : State} {src : MsgSource} {r : CReq} {us : Nat} {k : KvMove} (hoos : s.retained.oos = false)
    (hkind : r.kind = .kvCmd us k) (d : WinDesc) :
    s.accept src r (.ok d) = ((s.consumed src).enroll (r.held ((s.consumed src).getsEntry r))).advanceCreq r.id 3 := by
  simp [State.accept, hoos, hkind, State.enroll, CReq.held]

theorem State.accept_kvWrite {s : State} {src : MsgSource} {r : CReq} {slot layer hg first count entry16 skip16 : Nat}
    (hoos : s.retained.oos = false) (hkind : r.kind = .kvWrite slot layer hg first count entry16 skip16) (d : WinDesc) :
    s.accept src r (.ok d) = (((s.consumed src).enroll (r.held ((s.consumed src).getsEntry r))).joinDest
      (r.held ((s.consumed src).getsEntry r)) slot d).advanceCreq r.id 3 := by
  simp [State.accept, hoos, hkind, State.enroll, CReq.held]

/-- A window that passes the checks is registered with the descriptor it gives. -/
theorem State.win_of_winCheck {s : State} {w pav : Nat} {kv : Bool} {p : Perm} {d : WinDesc} (h : s.winCheck w pav kv p = .ok d) :
    ∃ e, s.win w = some e ∧ e.desc = d := by
  cases hw : s.win w with
  | none => simp [State.winCheck, hw] at h
  | some e =>
    refine ⟨e, rfl, ?_⟩
    simp only [State.winCheck, hw] at h
    split at h
    · cases h
    split at h
    · cases h
    split at h
    · cases h
    split at h
    · cases h
    split at h
    · cases h
    · exact Except.ok.inj h

theorem exec_kvCmd {s : State} {src : MsgSource} {m : Arrived} (hlive : s.live = true) (harr : s.arrived src = some m) (hkind : m.msg.kind = kKvCmd) :
    exec (.kvCmd src) s = .next (s.keep (s.takeKvCmd src)) := by
  show act (s.takesMsg src kKvCmd) s _ = _
  simp [State.takesMsg, hlive, State.headIs, harr, hkind]

theorem exec_kvWrite {s : State} {src : MsgSource} {m : Arrived} (hlive : s.live = true) (harr : s.arrived src = some m)
    (hkind : m.msg.kind = kKvWrite) : exec (.kvWrite src) s = .next (s.keep (s.takeKvWrite src)) := by
  show act (s.takesMsg src kKvWrite) s _ = _
  simp [State.takesMsg, hlive, State.headIs, harr, hkind]

/-- The request a KV_CMD makes. -/
def Arrived.kvCmdReq (a : Arrived) (id : Nat) : CReq :=
  a.creq id (.kvCmd (bits (a.msg.body.getD 0 0) 34 21) (kvOfCmd a.msg)) 0 0 []

/-- The request a KV_WRITE makes. -/
def Arrived.kvWriteReq (a : Arrived) (id : Nat) : CReq :=
  let u := a.msg.body.getD 0 0
  a.creq id (.kvWrite (bits u 127 96) (bits u 95 80) (bits u 79 72) (bits u 71 50) (bits u 49 41) (bits u 40 29) (bits u 28 17)) 0
    (writeData a.msg).length (writeData a.msg)

/-- Its place in its page. -/
def Arrived.kvPlaceIn (a : Arrived) (d : WinDesc) : Nat × Nat × Nat :=
  let u := a.msg.body.getD 0 0
  kvPlace d (bits u 95 80) (bits u 79 72) (bits u 71 50) (bits u 28 17)

/-- What R191 and R192 require of a KV_WRITE in a window. -/
structure Arrived.FitsKv (a : Arrived) (d : WinDesc) : Prop where
  entry : bits (a.msg.body.getD 0 0) 40 29 * 16 = d.entryBytes
  slot : bits (a.msg.body.getD 0 0) 127 96 < d.seqCount
  layer : bits (a.msg.body.getD 0 0) 95 80 < d.layers
  group : bits (a.msg.body.getD 0 0) 79 72 < d.hgTotal
  tokens : bits (a.msg.body.getD 0 0) 71 50 + bits (a.msg.body.getD 0 0) 49 41 ≤ 2 ^ d.maxTokensLog2
  bytes : (a.kvPlaceIn d).2.1 + (writeData a.msg).length ≤ (a.kvPlaceIn d).2.2

/-- A KV write request that fits its window passes its checks (R191). -/
theorem State.kvCheck_ok {s : State} {r : CReq} {d : WinDesc} {slot layer hg first count entry16 : Nat}
    (hcheck : s.winCheck r.win r.pav true .w = .ok d) (hentry : entry16 * 16 = d.entryBytes) (hslot : slot < d.seqCount)
    (hlayer : layer < d.layers) (hhg : hg < d.hgTotal) (htokens : first + count ≤ 2 ^ d.maxTokensLog2)
    (hbytes : ¬ (r.place d).2.2 < (r.place d).2.1 + r.len) : s.kvCheck r slot layer hg first count entry16 = .ok d := by
  simp [State.kvCheck, hcheck, hentry, Nat.not_le.mpr hslot, Nat.not_le.mpr hlayer, Nat.not_le.mpr hhg, Nat.not_lt.mpr htokens, hbytes]

/-- A KV_WRITE that fits its window passes its checks. -/
theorem State.takeKvWrite_fits {s : State} {src : MsgSource} {m : Arrived} {d : WinDesc} (harr : s.arrived src = some m)
    (hcheck : s.winCheck (hdrWindow m.msg.hdr) m.key true .w = .ok d) (hfits : m.FitsKv d) :
    s.takeKvWrite src = s.accept src (m.kvWriteReq s.xfer.nextId) (.ok d) := by
  have hbytes : ¬ ((m.kvWriteReq s.xfer.nextId).place d).2.2 < ((m.kvWriteReq s.xfer.nextId).place d).2.1 + (m.kvWriteReq s.xfer.nextId).len :=
    Nat.not_lt.mpr hfits.bytes
  have hpasses := State.kvCheck_ok (r := m.kvWriteReq s.xfer.nextId) hcheck hfits.entry hfits.slot hfits.layer hfits.group hfits.tokens hbytes
  simp only [State.takeKvWrite, harr]
  exact congrArg (s.accept src (m.kvWriteReq s.xfer.nextId)) hpasses

section
variable {s : State} {src : MsgSource} {m : Arrived} {d : WinDesc} (hlive : s.live = true) (harr : s.arrived src = some m)
  (hoos : s.retained.oos = false) (hord : hdrOrd m.msg.hdr = false) (hfresh : s.creq s.xfer.nextId = none)
include hlive harr hoos hord hfresh

/-- A KV_CMD reads the sequence entry of its source window (R170, R190). -/
theorem kvCmd_reads {k : KvMove} (hnojob : s.job s.xfer.nextId = none) (hk : k = kvOfCmd m.msg) (hkind : m.msg.kind = kKvCmd)
    (hcheck : s.winCheck (hdrWindow m.msg.hdr) m.key true .r = .ok d) (hseq : k.srcSeq < d.seqCount)
    (hlayers : k.layerFirst + k.layerCount ≤ d.layers) (hhg : k.hgFirst + k.hgCount ≤ d.hgTotal) (hclusters : s.clustersOf m.key ≠ []) :
    ∃ t, exec (.kvCmd src) s = .next t ∧
      t.asks { op := .read, addr := d.base + 16 * k.srcSeq, len := 16, pav := d.pav, use := .walk s.xfer.nextId } ∧
      (∃ j, t.job s.xfer.nextId = some j ∧ j.move = k ∧ j.op = none) ∧ t.front = s.front ∧ t.counters = s.counters := by
  subst hk
  obtain ⟨e, hwin, rfl⟩ := State.win_of_winCheck hcheck
  have henrolls := State.consumed_enrolls src
    (r := (m.kvCmdReq s.xfer.nextId).held ((s.consumed src).getsEntry (m.kvCmdReq s.xfer.nextId))) rfl hfresh
  have htake : s.takeKvCmd src = s.accept src (m.kvCmdReq s.xfer.nextId) (.ok e.desc) := by
    simp only [State.takeKvCmd, harr]
    exact congrArg (s.accept src _) hcheck
  obtain ⟨hwalks, hjob⟩ := henrolls.kvCmd_walks hwin rfl rfl rfl hord hlive rfl hclusters hnojob hseq hlayers hhg 2
  rw [State.accept_kvCmd hoos rfl] at htake
  rw [exec_kvCmd hlive harr hkind, htake.trans hwalks]
  refine ⟨_, rfl, State.issue_asks .., ⟨_, (State.walk_job ..).trans hjob, rfl, rfl⟩, ?_, ?_⟩
  · exact (State.walk_front ..).trans ((State.beginJob_front ..).trans henrolls.front)
  · exact (State.walk_counters ..).trans ((State.beginJob_counters ..).trans henrolls.counters)

/-- The first KV_WRITE of a move reads the sequence entry of its destination (R190). -/
theorem kvWrite_first (hkind : m.msg.kind = kKvWrite) (hcheck : s.winCheck (hdrWindow m.msg.hdr) m.key true .w = .ok d) (hfits : m.FitsKv d)
    (hnew : s.xfer.dests.find? (fun x => (x.src, x.pav, x.cgen) == (hdrSrc m.msg.hdr, m.key, hdrCgen m.msg.hdr) &&
      x.win == hdrWindow m.msg.hdr && x.slot == bits (m.msg.body.getD 0 0) 127 96) = none)
    (hfree : s.dest (s.xfer.nextId + 1) = none) :
    ∃ t, exec (.kvWrite src) s = .next t ∧
      t.asks { op := .read, addr := d.base + 16 * bits (m.msg.body.getD 0 0) 127 96, len := 16, pav := d.pav, use := .walk (s.xfer.nextId + 1) } ∧
      (∃ r, t.creq s.xfer.nextId = some r ∧ r.move = s.xfer.nextId + 1 ∧ r.issued = false ∧ r.data = writeData m.msg) ∧
      t.front = s.front ∧ t.counters = s.counters := by
  obtain ⟨e, hwin, rfl⟩ := State.win_of_winCheck hcheck
  have henrolls := State.consumed_enrolls src
    (r := (m.kvWriteReq s.xfer.nextId).held ((s.consumed src).getsEntry (m.kvWriteReq s.xfer.nextId))) rfl hfresh
  obtain ⟨hwalks, hcreq⟩ := henrolls.kvWrite_begins hwin rfl rfl rfl hord hlive rfl rfl hnew hfree 2
  have htake := (State.takeKvWrite_fits harr hcheck hfits).trans (State.accept_kvWrite hoos rfl e.desc)
  rw [exec_kvWrite hlive harr hkind, htake.trans hwalks]
  refine ⟨_, rfl, State.issue_asks .., ⟨_, (State.walk_creq ..).trans hcreq, rfl, rfl, rfl⟩, ?_, ?_⟩
  · exact (State.walk_front ..).trans henrolls.front
  · exact (State.walk_counters ..).trans henrolls.counters

/-- A later KV_WRITE of the move reads the page-list entry it has no translation of (R172, R190). -/
theorem kvWrite_later (hkind : m.msg.kind = kKvWrite) (hcheck : s.winCheck (hdrWindow m.msg.hdr) m.key true .w = .ok d) (hfits : m.FitsKv d)
    {x : KvDest} {list : Nat}
    (hfound : s.xfer.dests.find? (fun x => (x.src, x.pav, x.cgen) == (hdrSrc m.msg.hdr, m.key, hdrCgen m.msg.hdr) &&
      x.win == hdrWindow m.msg.hdr && x.slot == bits (m.msg.body.getD 0 0) 127 96) = some x)
    (hx : s.dest x.id = some x) (hlist : x.list = some list)
    (hmiss : s.pwcFind (hdrWindow m.msg.hdr) (m.kvPlaceIn d).1 (some x.id) = none) :
    ∃ t, exec (.kvWrite src) s = .next t ∧
      t.asks { op := .read, addr := list + 8 * (m.kvPlaceIn d).1, len := 8, pav := d.pav, use := .walk s.xfer.nextId } ∧
      (∃ r, t.creq s.xfer.nextId = some r ∧ r.move = x.id ∧ r.walking = true) ∧ t.front = s.front ∧ t.counters = s.counters := by
  obtain ⟨e, hwin, rfl⟩ := State.win_of_winCheck hcheck
  have henrolls := State.consumed_enrolls src
    (r := (m.kvWriteReq s.xfer.nextId).held ((s.consumed src).getsEntry (m.kvWriteReq s.xfer.nextId))) rfl hfresh
  obtain ⟨hwalks, hcreq⟩ := henrolls.kvWrite_joins hwin rfl rfl rfl hord hlive rfl rfl hfound hx hlist hmiss 2
  have htake := (State.takeKvWrite_fits harr hcheck hfits).trans (State.accept_kvWrite hoos rfl e.desc)
  rw [exec_kvWrite hlive harr hkind, htake.trans hwalks]
  refine ⟨_, rfl, State.issue_asks .., ⟨_, (State.walk_creq ..).trans hcreq, rfl, rfl⟩, ?_, ?_⟩
  · exact (State.walk_front ..).trans henrolls.front
  · exact (State.walk_counters ..).trans henrolls.counters

end

/-! ### A walk answered (R175) -/

/-- The state that an answered walk leaves. -/
def State.walkDone (s : State) (id : Nat) (res : ReadResult) : State :=
  ((s.dropFirst (isWalk id)).walkAnswer id (s.useAddr (isWalk id)) (.ofRead res)).issueWaiting

theorem exec_pageWalkDone {s : State} {id : Nat} (hlive : s.live = true) (huse : s.hasUse (isWalk id) = true) (res : ReadResult) :
    exec (.pageWalkDone id res) s = .next (s.keep (s.walkDone id res)) := by
  show act (s.live && s.hasUse (isWalk id)) s _ = _
  rw [hlive, huse]
  rfl

theorem State.walkDone_stays (s : State) (id : Nat) (res : ReadResult) : s.Stays (s.walkDone id res) :=
  ((State.modFab_stays s _).trans (State.walkAnswer_stays ..)).trans (State.issueWaiting_stays _)

/-- The state in which the completer has issued a request of `n` accesses. -/
def State.issuedIn (s : State) (r : CReq) (n : Nat) : State :=
  (s.modCreq r.id (fun q => { q with issued := true, out := n, slots := [] })).releaseSlots r.port r.slots

theorem State.issuedIn_creq {s : State} {r x : CReq} (hx : s.creq r.id = some x) (n : Nat) :
    (s.issuedIn r n).creq r.id = some { x with issued := true, out := n, slots := [] } :=
  (State.creq_congr (by rw [State.issuedIn, State.releaseSlots_xfer]) _).trans
    (State.modCreq_creq_some (f := fun q => { q with issued := true, out := n, slots := [] }) (fun _ => rfl) hx)

/-- A read that is issued waits for its accesses. -/
theorem State.issueCreq_read (s : State) {r : CReq} (hkind : r.kind = .read) (d : WinDesc) :
    ∃ l : List FabRequest, s.issueCreq r d = (s.issuedIn r l.length).issueAll l := by
  unfold State.issueCreq
  rw [hkind]
  exact ⟨_, rfl⟩

/-- A page walked to, and its translation: the request goes on with the pages that follow. -/
def CReq.walked (r : CReq) (rest : List Nat) (p f : Nat) : CReq :=
  { r with walking := false, pages := rest, trans := r.trans ++ [(p, f)] }

section
variable {s : State} {id : Nat} {r : CReq} {e : WinEntry} {p : Nat} {l : List Byte} (hr : s.creq id = some r) (hkind : r.kind = .read)
  (hpages : r.pages = [p]) (hwin : s.win r.win = some e)
include hr hkind hpages hwin

/-- The last page of a read is translated, and the read is issued (R167, R175). -/
theorem State.creqWalked_issues (hlive : s.live = true) (hissued : r.issued = false) (hord : r.ordered = false) (addr : Nat) {f : Nat}
    (hframe : frameOf l e.desc.pageLog2 = some f) :
    ∃ x, (s.creqWalked r addr (.data l)).creq id = some x ∧ x.issued = true ∧ x.trans = r.trans ++ [(p, f)] ∧
      (s.creqWalked r addr (.data l)).front = s.front := by
  have hid : r.id = id := State.creq_id hr
  subst hid
  obtain ⟨c, hput⟩ := s.pwcPut_eq { win := r.win, page := p, addr := f, job := none, users := [userReq r.id] }
  have hwalked := State.modCreq_creq_some (s := s.modXfer (fun x => { x with pwc := c })) (f := fun q => q.walked [] p f) (fun _ => rfl) hr
  have hgoesOn : s.creqWalked r addr (.data l) =
      ((s.modXfer (fun x => { x with pwc := c })).modCreq r.id (fun q => q.walked [] p f)).advanceCreq r.id 2 := by
    simp only [State.creqWalked, hwin, hkind, hpages, hframe, hput]
    rfl
  obtain ⟨reads, hissue⟩ := State.issueCreq_read ((s.modXfer (fun x => { x with pwc := c })).modCreq r.id (fun q => q.walked [] p f))
    (r := r.walked [] p f) hkind e.desc
  rw [hgoesOn, State.advanceCreq_read hwalked hissued rfl hwin rfl hord hlive hkind 1, hissue]
  have hread := State.issuedIn_creq (r := r.walked [] p f) hwalked reads.length
  refine ⟨_, (State.creq_congr (congrArg Xfer.creqs (State.issueAll_xfer ..)) _).trans hread, rfl, rfl, ?_⟩
  rw [State.issueAll_front]
  exact (State.releaseSlots_msgsMove ..).queues.front

omit hr in
/-- An entry that is not VALID ends the request with BOUNDS (R175). -/
theorem State.creqWalked_bounds (addr : Nat) (hframe : frameOf l e.desc.pageLog2 = none) :
    s.creqWalked r addr (.data l) = s.finishCreq r stBounds 0 [] := by
  simp only [State.creqWalked, hwin, hkind, hpages, hframe]

end

theorem State.queues_congr {s t : State} (hlocal : t.xfer.localQ = s.xfer.localQ) (hports : t.ports = s.ports) {hop : Nat} {m : Msg}
    (h : s.queues hop m) : t.queues hop m := by
  simpa only [State.queues, State.port, hlocal, hports] using h

/-- A message sent waits at the first hop to its destination. -/
theorem State.sendMsg_queues (s : State) (cls key dest : Nat) (m : Msg) : (s.sendMsg cls key dest m).queues (s.firstHop dest) m := by
  unfold State.sendMsg State.sendVia
  refine ⟨fun hlocal => ?_, fun hport => ?_⟩
  · rw [if_pos hlocal]
    exact ⟨_, List.mem_append_right _ (List.mem_singleton_self _), rfl, rfl⟩
  · rw [if_neg (by omega), dif_pos hport]
    simp only [State.modPane_port_same]
    exact ⟨_, List.mem_append_right _ (List.mem_singleton_self _), rfl, rfl⟩

theorem State.firstHop_congr {s t : State} (h : t.topo = s.topo) (dest : Nat) : t.firstHop dest = s.firstHop dest := by
  simp only [State.firstHop, h]

/-- The response that ends a request without data. -/
def State.answerTo (s : State) (r : CReq) (st fl : Nat) : Msg := { hdr := mkRspHdr r.hdr s.topo.node st fl 0, body := [] }

theorem State.endCreq_sends (s : State) (r : CReq) (st fl : Nat) :
    s.endCreq r st fl [] = (s.dropCreq r).sendMsg clsRsp r.pav (hdrSrc r.hdr) (s.answerTo r st fl) := by
  rw [State.endCreq, State.respond, (s.dropCreq_stays r).topo]
  rfl

/-- A request that ends without data is gone, and its response waits at the first hop to the requester. -/
theorem State.finishCreq_answers {s : State} {r : CReq} (hothers : ∀ x ∈ s.xfer.creqs, x.id ≠ r.id → x.issued = true ∨ x.walking = true)
    (st fl : Nat) :
    (s.finishCreq r st fl []).creq r.id = none ∧ (s.finishCreq r st fl []).queues (s.firstHop (hdrSrc r.hdr)) (s.answerTo r st fl) ∧
      (s.finishCreq r st fl []).front.chans = s.front.chans := by
  have hdrop := s.dropCreq_dropped r
  have hsent := State.sendMsg_queuesOnly (s.dropCreq r) clsRsp r.pav (hdrSrc r.hdr) (s.answerTo r st fl) true 0 none
  have hqueued := (s.dropCreq r).sendMsg_queues clsRsp r.pav (hdrSrc r.hdr) (s.answerTo r st fl)
  rw [← State.endCreq_sends] at hsent hqueued
  rw [State.firstHop_congr (s.dropCreq_stays r).topo] at hqueued
  obtain ⟨q, hxfer⟩ := hsent.xfer
  have hcreqs : (s.endCreq r st fl []).xfer.creqs = s.xfer.creqs.filter (fun q => q.id != r.id) := (congrArg Xfer.creqs hxfer).trans hdrop.creqs
  have hkick : (s.endCreq r st fl []).kick = s.endCreq r st fl [] := by
    refine State.kick_idle fun x hx => ?_
    rw [hcreqs, List.mem_filter, bne_iff_ne] at hx
    exact hothers x hx.1 hx.2
  have hends := State.endReleases_releasesOnly (s.endCreq r st fl [])
  rw [State.finishCreq, hkick]
  refine ⟨?_, State.queues_congr hends.localQ hends.ports hqueued, ?_⟩
  · simp [State.creq, hends.creqs, hcreqs]
  · exact hends.chans.trans ((congrArg FrontEnd.chans hsent.front).trans hdrop.chans)

/-- A walk of a request that waits for it goes to the request. -/
theorem State.walkDone_creq {s : State} {id : Nat} {r : CReq} (hr : s.creq id = some r) (hjob : s.job id = none) (hwalking : r.walking = true)
    (l : List Byte) :
    s.walkDone id (.data l) = ((s.dropFirst (isWalk id)).creqWalked r (s.useAddr (isWalk id)) (.data l)).issueWaiting := by
  have hr' : (s.dropFirst (isWalk id)).creq id = some r := hr
  have hjob' : (s.dropFirst (isWalk id)).job id = none := hjob
  simp [State.walkDone, State.walkAnswer, hr', hjob', hwalking, FabResult.ofRead]

section
variable {s : State} {id : Nat} {r : CReq} {e : WinEntry} {p : Nat} {l : List Byte} (hlive : s.live = true)
  (huse : s.hasUse (isWalk id) = true) (hr : s.creq id = some r) (hjob : s.job id = none) (hwalking : r.walking = true) (hkind : r.kind = .read)
  (hpages : r.pages = [p]) (hwin : s.win r.win = some e)
include hlive huse hr hjob hwalking hkind hpages hwin

/-- The VALID entry of the last page a read waited for translates it, and the read is issued. -/
theorem pageWalkDone_issues (hissued : r.issued = false) (hord : r.ordered = false) {f : Nat} (hframe : frameOf l e.desc.pageLog2 = some f) :
    ∃ t x, exec (.pageWalkDone id (.data l)) s = .next t ∧ t.creq id = some x ∧ x.issued = true ∧ x.trans = r.trans ++ [(p, f)] ∧
      t.front = s.front := by
  obtain ⟨x, hx, hout, htrans, hfront⟩ := State.creqWalked_issues (s := s.dropFirst (isWalk id)) hr hkind hpages hwin hlive hissued hord
    (s.useAddr (isWalk id)) hframe
  rw [exec_pageWalkDone hlive huse, State.walkDone_creq hr hjob hwalking]
  refine ⟨_, x, rfl, (State.creq_congr ?_ _).trans hx, hout, htrans, ?_⟩
  · simp
  · rw [State.keep_front, State.issueWaiting_front]
    exact hfront

/-- An entry that is not VALID ends the read with BOUNDS. -/
theorem pageWalkDone_bounds (hframe : frameOf l e.desc.pageLog2 = none)
    (hothers : ∀ x ∈ s.xfer.creqs, x.id ≠ id → x.issued = true ∨ x.walking = true) :
    ∃ t, exec (.pageWalkDone id (.data l)) s = .next t ∧ t.creq id = none ∧
      t.queues (s.firstHop (hdrSrc r.hdr)) { hdr := mkRspHdr r.hdr s.topo.node 0x13 0 0, body := [] } ∧ t.front.chans = s.front.chans := by
  have hid : r.id = id := State.creq_id hr
  subst hid
  obtain ⟨hgone, hqueued, hchans⟩ := State.finishCreq_answers (s := s.dropFirst (isWalk r.id)) hothers stBounds 0
  rw [exec_pageWalkDone hlive huse, State.walkDone_creq hr hjob hwalking,
    State.creqWalked_bounds (s := s.dropFirst (isWalk r.id)) hkind hpages hwin _ hframe]
  refine ⟨_, rfl, ?_, State.queues_congr ?_ ?_ hqueued, ?_⟩
  · exact (State.creq_congr (by simp) _).trans hgone
  · simp
  · simp
  · rw [State.keep_front, State.issueWaiting_front]
    exact hchans

end

/-- Settles O19. A request taken is the completer's under the next number (`consumed_enrolls`), and goes on to its first walk; a walk answered with
data goes to the request that waits for it, and its last page issues the read or ends it with BOUNDS. -/
theorem windowsTranslate : Obligations.WindowsTranslate := by
  unfold Obligations.WindowsTranslate
  refine ⟨?_, ?_, ?_⟩
  · intro s src m d hlive harr hoos hord hfresh hnojob
    refine ⟨fun hkind hcheck hentry hslot hlayer hhg htokens hbytes => ⟨?_, ?_⟩, fun k hk hkind hcheck hseq hlayers hhg hclusters => ?_⟩
    · intro hnew hfree
      exact kvWrite_first hlive harr hoos hord hfresh hkind hcheck ⟨hentry, hslot, hlayer, hhg, htokens, hbytes⟩ hnew hfree
    · intro x list hfound hx hlist page hmiss
      exact kvWrite_later hlive harr hoos hord hfresh hkind hcheck ⟨hentry, hslot, hlayer, hhg, htokens, hbytes⟩ hfound hx hlist hmiss
    · exact kvCmd_reads hlive harr hoos hord hfresh hnojob hk hkind hcheck hseq hlayers hhg hclusters
  · intro s id res hlive huse
    obtain ⟨hgather, hgate, htopo, htime, hwatch⟩ := s.walkDone_stays id res
    exact ⟨_, exec_pageWalkDone hlive huse res, hgather, hgate, htopo, htime, hwatch⟩
  · intro s id l r e p hlive huse hr hjob hwalking hissued hkind hord hpages hwin
    exact ⟨fun f hframe => pageWalkDone_issues hlive huse hr hjob hwalking hkind hpages hwin hissued hord hframe,
      fun hframe hothers => pageWalkDone_bounds hlive huse hr hjob hwalking hkind hpages hwin hframe hothers⟩

end Sys2Proof.Machine
end

section
/-!
SUPPORT. What a run keeps while it goes on (R26, R27, R239, R291, R293): operands asked for, timers set, chunks sent, credits spent and given back.
-/
namespace Sys2Proof.Machine

/-! ### Steps of a run read back -/

theorem Run.modStep_step_same (r : Run) (k : Nat) (f : StepState → StepState) : (r.modStep k f).step k = f (r.step k) := Table.get_put_same ..

theorem Run.modStep_step_other (r : Run) {k j : Nat} (f : StepState → StepState) (h : j ≠ k) : (r.modStep k f).step j = r.step j :=
  Table.get_put_other _ _ _ h

/-- A lane's work changed without its count of chunks done leaves the chunks combined. -/
theorem StepState.modWork_done (t : StepState) (w : WorkLane) {f : Work → Work} (hf : ∀ x, (f x).done = x.done) :
    (t.modWork w f).main.done = t.main.done := by
  cases w with
  | main => exact hf t.main
  | send0 => rfl
  | send1 => rfl

theorem StepState.modTx_main (t : StepState) (x : Nat) (f : SendState → SendState) : (t.modTx x f).main = t.main := by
  unfold StepState.modTx; split <;> rfl

theorem Program.numOf_of_mem_atNum {p : Program} {n : Nat} {y : GStep × Nat} (h : y ∈ p.atNum n) : p.numOf y.2 = n := by
  obtain ⟨hzip, hnum⟩ := List.mem_filter.mp h
  rw [Program.numOf, List.mem_zipIdx_iff_getElem?.mp hzip, Option.map_some, Option.getD_some]
  exact beq_iff_eq.mp hnum

/-! ### A run that goes on -/

/-- Of a run the steps alone change, and no step has combined a chunk more or less. -/
structure Run.GoesOn (r y : Run) : Prop where
  rest : y = { r with steps := y.steps }
  done : ∀ k, (y.step k).main.done = (r.step k).main.done

theorem Run.GoesOn.refl (r : Run) : r.GoesOn r := ⟨rfl, fun _ => rfl⟩

theorem Run.GoesOn.trans {r y z : Run} (h : r.GoesOn y) (k : y.GoesOn z) : r.GoesOn z :=
  ⟨by rw [k.rest, h.rest], fun j => (k.done j).trans (h.done j)⟩

theorem Run.modStep_goesOn (r : Run) (k : Nat) {f : StepState → StepState} (hf : ∀ t, (f t).main.done = t.main.done) : r.GoesOn (r.modStep k f) := by
  refine ⟨rfl, fun j => ?_⟩
  by_cases hj : j = k
  · rw [hj, Run.modStep_step_same, hf]
  · rw [Run.modStep_step_other _ _ hj]

/-- Between two states the run of a slot goes on: who waits for the slot to unload stays, every access asked for stays asked for, and the front end
stays. -/
structure State.GoesOn (i : Nat) (s u : State) : Prop where
  front : u.front = s.front
  asks : ∀ a, s.asks a → u.asks a
  slot : ∀ q r, s.gslot i = some q → q.run = some r →
    ∃ x y, u.gslot i = some x ∧ x.run = some y ∧ r.GoesOn y ∧ x.unload = q.unload ∧ x.kill = q.kill

namespace State.GoesOn

variable {i : Nat} {s u v : State}

/-- What touches neither the programs nor the fabric nor the front end lets a run go on. -/
theorem of_same (hfront : u.front = s.front) (hfab : u.fab = s.fab) (hgather : u.gather = s.gather) : s.GoesOn i u :=
  ⟨hfront, fun _ ha => State.asks_congr hfab ha,
    fun q r hslot hrun => ⟨q, r, (State.gslot_congr hgather i).trans hslot, hrun, .refl r, rfl, rfl⟩⟩

theorem refl (s : State) : s.GoesOn i s := of_same rfl rfl rfl

theorem trans (h : s.GoesOn i u) (k : u.GoesOn i v) : s.GoesOn i v where
  front := k.front.trans h.front
  asks a ha := k.asks a (h.asks a ha)
  slot q r hslot hrun := by
    obtain ⟨x, y, hx, hy, hgoes, hunload, hkill⟩ := h.slot q r hslot hrun
    obtain ⟨x', y', hx', hy', hgoes', hunload', hkill'⟩ := k.slot x y hx hy
    exact ⟨x', y', hx', hy', hgoes.trans hgoes', hunload'.trans hunload, hkill'.trans hkill⟩

theorem of_modStep (s : State) (i k : Nat) {f : StepState → StepState} (hf : ∀ t, (f t).main.done = t.main.done) :
    s.GoesOn i (s.modRun i (fun r => r.modStep k f)) :=
  ⟨rfl, fun _ ha => ha, fun _ r hslot hrun => ⟨_, _, State.modRun_gslot hslot hrun _, rfl, r.modStep_goesOn k hf, rfl, rfl⟩⟩

theorem of_modTx (s : State) (i k x : Nat) (f : SendState → SendState) :
    s.GoesOn i (s.modRun i (fun r => r.modStep k (fun t => t.modTx x f))) := of_modStep s i k (fun t => by rw [t.modTx_main])

theorem of_modGslot (s : State) (i : Nat) {f : GSlot → GSlot} (hf : ∀ q, (f q).run = q.run ∧ (f q).unload = q.unload ∧ (f q).kill = q.kill) :
    s.GoesOn i (s.modGslot i f) := by
  refine ⟨rfl, fun _ ha => ha, fun q r hslot hrun => ?_⟩
  obtain ⟨hkeeps, hunload, hkill⟩ := hf q
  exact ⟨f q, r, by rw [State.modGslot_gslot_same, hslot, Option.map_some], hkeeps.trans hrun, .refl r, hunload, hkill⟩

theorem of_issueAll (s : State) (i : Nat) (l : List FabRequest) : s.GoesOn i (s.issueAll l) :=
  ⟨by simp, fun _ ha => State.asks_issueAll l ha, fun q r hslot hrun => ⟨q, r, by rw [State.issueAll_gslot, hslot], hrun, .refl r, rfl, rfl⟩⟩

theorem of_bump (s : State) (i off : Nat) : s.GoesOn i (s.bump off) := of_same (by simp) (by simp) (by simp)

theorem of_sendVia (s : State) (i p cls key : Nat) (m : Msg) : s.GoesOn i (s.sendVia p cls key m) := of_same (by simp) (by simp) (by simp)

theorem of_returnCredit (s : State) (i j pav : Nat) (c : HeldChunk) : s.GoesOn i (s.returnCredit j pav c) := of_sendVia ..

end State.GoesOn

/-! ### Operands asked for and timers set (R27, R291, R293) -/

/-- Between two states operands are asked for and timers set: the run of a slot goes on, and no counter advances. -/
structure State.Loads (i : Nat) (s u : State) : Prop where
  goesOn : s.GoesOn i u
  counters : u.counters = s.counters

namespace State.Loads

variable {i : Nat} {s u v : State}

theorem refl (s : State) : s.Loads i s := ⟨.refl s, rfl⟩

theorem trans (h : s.Loads i u) (k : u.Loads i v) : s.Loads i v := ⟨h.goesOn.trans k.goesOn, k.counters.trans h.counters⟩

theorem of_modWork (s : State) (i k : Nat) (w : WorkLane) {f : Work → Work} (hf : ∀ x, (f x).done = x.done) :
    s.Loads i (s.modRun i (fun r => r.modStep k (fun t => t.modWork w f))) := ⟨.of_modStep s i k (fun t => t.modWork_done w hf), rfl⟩

theorem of_issueAll (s : State) (i : Nat) (l : List FabRequest) : s.Loads i (s.issueAll l) := ⟨.of_issueAll s i l, by simp⟩

end State.Loads

theorem State.askLane_loads (i k : Nat) (w : WorkLane) (n : Nat) (s : State) : s.Loads i (s.askLane i k w n) := by
  induction n generalizing s with
  | zero => exact .refl s
  | succ n ih =>
    unfold State.askLane
    split
    · exact .refl s
    split
    · exact ((State.Loads.of_modWork s i k w fun _ => by rfl).trans (.of_issueAll ..)).trans (ih _)
    · exact .refl s

theorem State.timeLane_loads (s : State) (i k : Nat) (w : WorkLane) : s.Loads i (s.timeLane i k w) := by
  unfold State.timeLane
  split
  · exact .refl s
  dsimp only
  split
  · exact .refl s
  · exact .of_modWork s i k w fun _ => rfl

theorem State.pumpRun_loads (s : State) (i : Nat) : s.Loads i (s.pumpRun i) := by
  unfold State.pumpRun
  split
  · exact .refl s
  · exact foldl_keeps .refl .trans
      (fun y _ t => foldl_keeps .refl .trans (fun w _ t => (State.askLane_loads i y.2 w _ t).trans (State.timeLane_loads _ i y.2 w)) t) s

theorem State.modRun_gslot_idle {s : State} {i : Nat} {q : GSlot} (hslot : s.gslot i = some q) (hidle : q.run = none) (f : Run → Run) :
    (s.modRun i f).gslot i = some q := by
  rw [State.modRun, State.modGslot_gslot_same, hslot, Option.map_some, hidle, Option.map_none, ← hidle]

theorem State.running_of_idle {s : State} {i : Nat} {q : GSlot} (hslot : s.gslot i = some q) (hidle : q.run = none) : s.running i = none := by
  simp only [State.running, hslot, hidle]

/-- Of a slot the steps looked at again change the run alone. -/
theorem State.pumpRun_gslot {s : State} {i : Nat} {q : GSlot} (hslot : s.gslot i = some q) :
    ∃ run, (s.pumpRun i).gslot i = some { q with run := run } := by
  cases hrun : q.run with
  | none => exact ⟨q.run, by rw [State.pumpRun, State.running_of_idle hslot hrun, hslot]⟩
  | some r =>
    obtain ⟨steps, hpumped⟩ := (s.pumpRun_pumps i).slot q r hslot hrun
    exact ⟨_, hpumped⟩

/-! ### Sends (R26, R73, R239, R311) -/

theorem State.sendChunk_goesOn (s : State) (i : Nat) (q : GSlot) (r : Run) (k x : Nat) (t : Send) (fmt c : Nat) (data : List Byte) :
    s.GoesOn i (s.sendChunk i q r k x t fmt c data) :=
  foldl_keeps .refl .trans (fun _ _ u => .of_sendVia u i ..) s

theorem State.pumpSend_goesOn (i k x n : Nat) (s : State) : s.GoesOn i (s.pumpSend i k x n) := by
  induction n generalizing s with
  | zero => exact .refl s
  | succ n ih =>
    unfold State.pumpSend
    split
    case h_1 => exact .refl s
    split
    case h_1 => exact .refl s
    dsimp only
    split
    case h_1 => exact .refl s
    split
    case isTrue => exact .refl s
    split
    case h_1 => exact .refl s
    case h_2 =>
      split
      · exact ((State.GoesOn.of_modTx s i k x _).trans (.of_bump ..)).trans (ih _)
      · exact (State.GoesOn.of_modTx s i k x _).trans (ih _)
    case h_3 =>
      split
      · exact .of_modTx s i k x _
      · exact (((State.GoesOn.of_modGslot s i fun _ => by exact ⟨rfl, rfl, rfl⟩).trans (.of_modTx _ i k x _)).trans
          (State.sendChunk_goesOn ..)).trans (ih _)

theorem State.pumpSends_idle {s : State} {i : Nat} {q : GSlot} (hslot : s.gslot i = some q) (hidle : q.run = none) : s.pumpSends i = s := by
  rw [State.pumpSends, State.running_of_idle hslot hidle]

theorem State.pumpSends_goesOn (s : State) (i : Nat) : s.GoesOn i (s.pumpSends i) := by
  unfold State.pumpSends
  split
  · exact .refl s
  · exact foldl_keeps .refl .trans (fun k _ t => (State.pumpSend_goesOn i k 0 5 t).trans (State.pumpSend_goesOn i k 1 5 _)) s

/-! ### What a processed chunk frees and lets go on (R239, R291) -/

theorem State.consumeRx_goesOn (s : State) (i k x c : Nat) : s.GoesOn i (s.consumeRx i k x c) := by
  unfold State.consumeRx
  split
  · exact .refl s
  split
  · exact .refl s
  extract_lets src still
  split
  · exact .refl s
  split
  · exact .refl s
  · exact (State.GoesOn.of_modGslot s i fun _ => by exact ⟨rfl, rfl, rfl⟩).trans (.of_returnCredit ..)

theorem State.afterChunk_goesOn (s : State) (i k : Nat) (t : GStep) (w : WorkLane) (c : Option Nat) : s.GoesOn i (s.afterChunk i k t w c) := by
  have hends (u : State) : u.GoesOn i ((u.pumpSends i).pumpRun i) := (u.pumpSends_goesOn i).trans (State.pumpRun_loads ..).goesOn
  unfold State.afterChunk
  cases c with
  | none => exact hends s
  | some c =>
    have htakes (u : State) (x : Nat) : u.GoesOn i (if (t.sources w).any (fun y => y.rxIx == some x) then u.consumeRx i k x c else u) := by
      split
      · exact u.consumeRx_goesOn ..
      · exact .refl u
    exact ((htakes s 0).trans (htakes _ 1)).trans (hends _)

theorem State.queueSend_goesOn (s : State) (i k x c : Nat) (data : List Byte) : s.GoesOn i (s.queueSend i k x c data) := .of_modTx ..

end Sys2Proof.Machine
end

section
/-!
SUPPORT. Messages taken and contained errors raised (R241, R490, R492, R495, R518): what they leave of the fault controller and of the counters.
-/
namespace Sys2Proof.Machine

/-! ### A message taken off its source leaves the first-error capture -/

theorem State.sendMsg_flt (s : State) (cls key dest : Nat) (m : Msg) : (s.sendMsg cls key dest m).flt = s.flt := by
  unfold State.sendMsg State.sendVia
  split
  · rfl
  split <;> rfl

theorem State.retiredMsg_flt (s : State) (p : PortIx) (hdr : LinkUnit) (slots : List Nat) : (s.retiredMsg p hdr slots).flt = s.flt := by
  unfold State.retiredMsg
  dsimp only
  split
  · exact State.sendMsg_flt ..
  · rfl

theorem State.sweepPool_flt (p : PortIx) (n : Nat) (s : State) : (State.sweepPool p n s).flt = s.flt := by
  induction n generalizing s with
  | zero => rfl
  | succ n ih =>
    unfold State.sweepPool
    split
    · rfl
    · rw [ih, State.retiredMsg_flt]
      rfl

theorem State.consumed_capture (s : State) (src : MsgSource) : (s.consumed src).flt.capture = s.flt.capture := by
  unfold State.consumed
  split
  · rfl
  · cases src with
    | port p vc =>
      show (State.swept _ p).flt.capture = _
      rw [State.swept, State.sweepPool_flt]
      rfl
    | sameNode => dsimp only; split <;> rfl

theorem State.takenFrom_capture (s : State) (src : MsgSource) (m : Arrived) : (s.takenFrom src m).flt.capture = s.flt.capture := by
  unfold State.takenFrom State.releaseSlots
  split <;> exact s.consumed_capture src

theorem State.takenFrom_msgsMove (s : State) (src : MsgSource) (m : Arrived) : s.MsgsMove (s.takenFrom src m) :=
  (s.consumed_msgsMove src).trans (State.releaseSlots_msgsMove ..)

theorem State.takenFrom_gslot (s : State) (src : MsgSource) (m : Arrived) (i : Nat) : (s.takenFrom src m).gslot i = s.gslot i :=
  State.gslot_congr (s.takenFrom_msgsMove src m).stays.gather i

/-! ### Contained errors (R490, R492, R495) -/

theorem State.driveFaultOut_capture (s : State) : s.driveFaultOut.flt.capture = s.flt.capture := by
  unfold State.driveFaultOut; dsimp only; repeat' split
  all_goals rfl

theorem State.driveFaultOut_contained (s : State) : s.driveFaultOut.flt.contained = s.flt.contained := by
  unfold State.driveFaultOut; dsimp only; repeat' split
  all_goals rfl

/-- A contained error waits for its acknowledgement. -/
theorem State.raiseContained_contained (s : State) (e : ErrorReport) : (s.raiseContained e).flt.contained = true := by
  rw [State.raiseContained, State.driveFaultOut_contained]
  split
  case isTrue h => exact h
  case isFalse => rw [State.msi_flt]; rfl

/-- A contained error that finds the capture empty is captured (R492). -/
theorem State.raiseContained_captures {s : State} (h : s.flt.capture = none) (e : ErrorReport) :
    (s.raiseContained e).flt.capture = some { cls := .contained, report := e, tick := s.time.now } := by
  have hrecord : (s.flt.record .contained e s.time.now).capture = some { cls := .contained, report := e, tick := s.time.now } := by
    rw [Flt.record, h]
  rw [State.raiseContained, State.driveFaultOut_capture]
  split
  · exact hrecord
  · rw [State.msi_flt]
    exact hrecord

/-- A contained error advances its own counter alone. -/
theorem State.raiseContained_counter_other (s : State) (e : ErrorReport) {off : Nat} (h : off ≠ ctrContained) :
    (s.raiseContained e).counter off = s.counter off := by
  have hother : (s.bumpRaw ctrContained).counter off = s.counter off := Table.get_put_other _ _ _ h
  rw [State.raiseContained, State.counter, State.driveFaultOut_counters]
  split
  · exact hother
  · rw [State.msi_counters]
    exact hother

/-- A counter below its last values counts without an event. -/
theorem State.bump_eq_bumpRaw {s : State} {off : Nat} (h : (s.counter off).count < 0xFFFFFFFE) : s.bump off = s.bumpRaw off := by
  have hquiet : (s.counter off).bump.2 = false := by rw [Counter.bump, if_neg (by bv_omega), if_neg (by bv_omega)]
  rw [State.bump, hquiet, if_neg Bool.false_ne_true]

end Sys2Proof.Machine
end

section
/-!
PROOFS. Chunks combined, operands held, credits counted (R237, R239 to R242, R246, R264, R273, R291): the statement GatherChunksMove.
-/
namespace Sys2Proof.Machine

/-! ### CHUNK_COMBINE (R237, R291) -/

/-- The state in which a slice has served a slot (R237). -/
def State.served (s : State) (i : Nat) : State := s.modGather (fun g => { g with turn := Table.put 63 g.turn (g.sliceOf i) i })

@[simp] theorem State.served_gslot (s : State) (i j : Nat) : (s.served i).gslot j = s.gslot j := rfl
@[simp] theorem State.served_front (s : State) (i : Nat) : (s.served i).front = s.front := rfl
@[simp] theorem State.served_running (s : State) (i j : Nat) : (s.served i).running j = s.running j := rfl

theorem exec_chunkCombine {s : State} {i n k : Nat} (hlive : s.live = true) (hstep : s.combineStep i n = some k) :
    exec (.chunkCombine i n) s = .next (s.keep (((s.served i).combineNext i k).stopIfUnloading i)) := by
  show act (s.live && (s.combineStep i n).isSome) s (s.combineAt i ((s.combineStep i n).getD 0)) = _
  rw [hlive, hstep]
  rfl

/-- Only a run that an unload or the end of its Pavilion waits for stops. -/
theorem State.stopIfUnloading_kept {s : State} {i : Nat} {x : GSlot} (hslot : s.gslot i = some x) (hunload : x.unload = []) (hkill : x.kill = false) :
    s.stopIfUnloading i = s := by
  simp only [State.stopIfUnloading, hslot, hunload, hkill]
  split <;> rfl

/-- The place combined at holds a step of the number asked for. -/
theorem State.numOf_combineStep {s : State} {i n k : Nat} {q : GSlot} {r : Run} (hrunning : s.running i = some (q, r))
    (hstep : s.combineStep i n = some k) : q.prog.numOf k = n := by
  simp only [State.combineStep, hrunning] at hstep
  obtain ⟨-, hready⟩ := Option.ite_none_right_eq_some.mp hstep
  obtain ⟨y, hfound, rfl⟩ := Option.map_eq_some_iff.mp hready
  exact Program.numOf_of_mem_atNum (List.mem_of_find?_eq_some hfound)

/-- A run that had not failed fails at a step. -/
theorem State.failRun_gslot {s : State} {i : Nat} {q : GSlot} {r : Run} (hslot : s.gslot i = some q) (hrun : q.run = some r) (hok : r.failed = none)
    (st k : Nat) : (s.failRun i st k).gslot i = some { q with run := some { r with failed := some (st, q.prog.numOf k) } } := by
  rw [State.failRun_eq hslot, State.modRun_gslot ((State.modFab_gslot ..).trans hslot) hrun, hok]
  rfl

theorem State.failRun_front (s : State) (i st k : Nat) : (s.failRun i st k).front = s.front := by unfold State.failRun; split <;> rfl

section
variable {s : State} {i k : Nat} {q : GSlot} {r : Run} {g : GStep} {w : WorkLane} (hrunning : s.running i = some (q, r))
  (hg : q.prog.steps[k]? = some g)
include hrunning hg

theorem State.combineNext_bad_operand (hready : readyLane q r k = some w) (hbad : operandBytes q r k w = some none) :
    s.combineNext i k = s.failRun i stMalformed k := by
  simp only [State.combineNext, hrunning, hg, hready, hbad]

theorem State.combineNext_combines (hready : readyLane q r k = some .main) {l : List (List Byte)}
    (hbytes : operandBytes q r k .main = some (some l)) : s.combineNext i k = s.combineMain i k q r g l := by
  simp only [State.combineNext, hrunning, hg, hready, hbytes]

end

/-- What combining the next chunk of a step gives, and its flags (R246, R273). -/
def GSlot.combined (q : GSlot) (r : Run) (k : Nat) (g : GStep) (l : List (List Byte)) : Combined × Nat :=
  (combineChunk q.prog r k (g.laneChunk q.prog r .main (r.step k).main.done).1 (g.laneChunk q.prog r .main (r.step k).main.done).2 g l).run 0

/-- The state in which the flags of a chunk have joined those of its run, and its elements are counted. -/
def State.flagged (s : State) (i flags pav n : Nat) : State :=
  (s.modRun i (fun r => { r with flags := r.flags ||| flags })).belvAdd pav (belvId 0x10 6) n

/-- The state in which a chunk has been combined, and written to the accumulator area. -/
def State.accumulated (s : State) (i k : Nat) (area : List (Nat × List Byte)) : State :=
  (s.modRun i (fun r => { r with acc := writeArea r.acc area })).laneDone i k .main

/-- The writes of a combined chunk to OUTPUT (R291). -/
def GSlot.resultWrites (q : GSlot) (r : Run) (i k : Nat) (out : List (Nat × List Byte)) : List FabRequest :=
  out.flatMap (fun y => writePieces (r.output + y.1) y.2 q.pav (fun _ => .gatherOut i q.tag r.num k))

/-- A run with one more chunk of a step combined. -/
def Run.oneMore (r : Run) (k flags : Nat) (area : List (Nat × List Byte)) : Run :=
  { r with flags := r.flags ||| flags, acc := writeArea r.acc area }.modStep k (fun t =>
    t.modWork .main (fun x => { x with done := x.done + 1, pieces := x.pieces.filter (fun z => z.1 != x.done), lack := 0, since := none }))

theorem Run.oneMore_done (r : Run) (k flags : Nat) (area : List (Nat × List Byte)) :
    ((r.oneMore k flags area).step k).main.done = (r.step k).main.done + 1 := by
  rw [Run.oneMore, Run.modStep_step_same]
  rfl

section
variable {s : State} {i : Nat} {q : GSlot} {r : Run} (hslot : s.gslot i = some q) (hrun : q.run = some r)
include hslot hrun

theorem State.flagged_gslot (flags pav n : Nat) :
    (s.flagged i flags pav n).gslot i = some { q with run := some { r with flags := r.flags ||| flags } } := State.modRun_gslot hslot hrun _

theorem State.accumulated_gslot (k flags pav n : Nat) (area : List (Nat × List Byte)) :
    ((s.flagged i flags pav n).accumulated i k area).gslot i = some { q with run := some (r.oneMore k flags area) } :=
  State.modRun_gslot (State.modRun_gslot (State.flagged_gslot hslot hrun flags pav n) rfl _) rfl _

end

section
variable {s : State} {i k : Nat} {q : GSlot} {r : Run} {g : GStep} {l : List (List Byte)}

/-- A list out of rank order fails the run (R264). -/
theorem State.combineMain_malformed (hbad : (q.combined r k g l).1.malformed = true) : s.combineMain i k q r g l =
    (s.flagged i (q.combined r k g l).2 q.pav (g.laneChunk q.prog r .main (r.step k).main.done).2).failRun i stMalformed k :=
  if_pos hbad

/-- A chunk combined: its flags, its accumulator bytes and its writes, and the run goes on (R291). -/
theorem State.combineMain_goesOn (hgood : (q.combined r k g l).1.malformed = false) : ∃ v,
    ((s.flagged i (q.combined r k g l).2 q.pav (g.laneChunk q.prog r .main (r.step k).main.done).2).accumulated i k
      (q.combined r k g l).1.acc).GoesOn i v ∧
    (v.issueAll (q.resultWrites r i k (q.combined r k g l).1.output)).GoesOn i (s.combineMain i k q r g l) := by
  have hcombines : s.combineMain i k q r g l = _ := if_neg (Bool.not_eq_true _ ▸ hgood)
  rw [hcombines]
  refine ⟨_, foldl_keeps .refl .trans (fun x _ u => ?_) _, State.afterChunk_goesOn ..⟩
  split
  · exact u.queueSend_goesOn ..
  · exact .refl u

end

section
variable {s : State} {i n k : Nat} {q : GSlot} {r : Run} {g : GStep} {w : WorkLane} {l : List (List Byte)} (hlive : s.live = true)
  (hstep : s.combineStep i n = some k) (hrunning : s.running i = some (q, r)) (hg : q.prog.steps[k]? = some g) (hunload : q.unload = [])
  (hkill : q.kill = false)
include hlive hstep hrunning hunload hkill

/-- A chunk that is processed to a failure of the run, which had not failed and asks for no unload. -/
theorem chunkCombine_fails {v : State} {r' : Run} (hnext : (s.served i).combineNext i k = v.failRun i stMalformed k)
    (hv : v.gslot i = some { q with run := some r' }) (hok : r'.failed = none) (hnum : r'.num = r.num) (hfront : v.front = s.front) :
    ∃ t x y, exec (.chunkCombine i n) s = .next t ∧ t.gslot i = some x ∧ x.run = some y ∧ y.failed = some (0x10, n) ∧ y.num = r.num ∧
      t.front = s.front := by
  have hfailed := State.failRun_gslot hv rfl hok stMalformed k
  refine ⟨s.keep (v.failRun i stMalformed k), _, _, ?_, hfailed, rfl, ?_, hnum, (State.failRun_front ..).trans hfront⟩
  · rw [exec_chunkCombine hlive hstep, hnext, State.stopIfUnloading_kept hfailed hunload hkill]
  · rw [State.numOf_combineStep hrunning hstep]
    rfl

include hg

/-- A chunk of the wrong format or length (R241). -/
theorem chunkCombine_bad_operand (hready : readyLane q r k = some w) (hbad : operandBytes q r k w = some none) :
    ∃ t x y, exec (.chunkCombine i n) s = .next t ∧ t.gslot i = some x ∧ x.run = some y ∧ y.failed = some (0x10, n) ∧ y.num = r.num ∧
      t.front = s.front := by
  obtain ⟨hslot, hrun, hok, -⟩ := State.running_eq_some hrunning
  exact chunkCombine_fails hlive hstep hrunning hunload hkill (State.combineNext_bad_operand hrunning hg hready hbad)
    (by rw [State.served_gslot, hslot, ← hrun]) hok rfl rfl

variable (hready : readyLane q r k = some .main) (hbytes : operandBytes q r k .main = some (some l))
include hready hbytes

/-- A list out of rank order (R264). -/
theorem chunkCombine_malformed (hbad : (q.combined r k g l).1.malformed = true) :
    ∃ t x y, exec (.chunkCombine i n) s = .next t ∧ t.gslot i = some x ∧ x.run = some y ∧ y.failed = some (0x10, n) ∧ y.num = r.num ∧
      t.front = s.front := by
  obtain ⟨hslot, hrun, hok, -⟩ := State.running_eq_some hrunning
  exact chunkCombine_fails hlive hstep hrunning hunload hkill
    ((State.combineNext_combines (s := s.served i) hrunning hg hready hbytes).trans (State.combineMain_malformed hbad))
    (State.flagged_gslot (s := s.served i) hslot hrun ..) hok rfl rfl

theorem chunkCombine_combines (hgood : (q.combined r k g l).1.malformed = false) :
    ∃ t x y, exec (.chunkCombine i n) s = .next t ∧ t.gslot i = some x ∧ x.run = some y ∧ y.failed = none ∧
      (y.step k).main.done = (r.step k).main.done + 1 ∧ y.flags = r.flags ||| (q.combined r k g l).2 ∧
      y.acc = writeArea r.acc (q.combined r k g l).1.acc ∧
      (∀ e ∈ (q.combined r k g l).1.output, ∀ a ∈ writePieces (r.output + e.1) e.2 q.pav (fun _ => .gatherOut i q.tag r.num k), t.asks a) ∧
      t.front = s.front := by
  obtain ⟨hslot, hrun, hok, -⟩ := State.running_eq_some hrunning
  obtain ⟨v, hqueued, hafter⟩ := State.combineMain_goesOn (s := s.served i) (i := i) hgood
  have hgoes := (hqueued.trans (.of_issueAll ..)).trans hafter
  obtain ⟨x, y, hx, hy, hon, hxunload, hxkill⟩ := hgoes.slot _ _ (State.accumulated_gslot (s := s.served i) hslot hrun ..) rfl
  refine ⟨_, x, y, exec_chunkCombine hlive hstep, ?_⟩
  rw [State.combineNext_combines (s := s.served i) hrunning hg hready hbytes,
    State.stopIfUnloading_kept hx (hxunload.trans hunload) (hxkill.trans hkill)]
  refine ⟨hx, hy, ?_, (hon.done k).trans (r.oneMore_done ..), ?_, ?_, fun e he a ha => ?_, hgoes.front⟩
  · rw [hon.rest]
    exact hok
  · rw [hon.rest]
    rfl
  · rw [hon.rest]
    rfl
  · exact State.asks_congr (State.keep_fab ..) (hafter.asks a (State.issueAll_asks (List.mem_flatMap.mpr ⟨e, he, ha⟩) v))

end

/-! ### OPERAND (R239 to R242) -/

/-- A part held is put into the chunks of its slot, and the rest of the slot stays. -/
theorem GSlot.holdPart_eq (q : GSlot) (h : LinkUnit) (cls : Nat) (data : List Byte) : ∃ held, q.holdPart h cls data = { q with held := held } := by
  unfold GSlot.holdPart
  dsimp only
  split
  · exact ⟨_, rfl⟩
  · exact ⟨_, rfl⟩

/-- A slot that holds no program of the Pavilion a message came under. -/
def State.Foreign (s : State) (i key : Nat) : Prop := s.gslot i = none ∨ ∃ q, s.gslot i = some q ∧ q.pav ≠ key

theorem State.Foreign.taken {s : State} {src : MsgSource} {m : Arrived} {i key : Nat} (h : s.Foreign i key) : (s.takenFrom src m).Foreign i key := by
  rwa [State.Foreign, State.takenFrom_gslot]

/-- The state in which the part of an OPERAND message is held in its slot. -/
def State.partHeld (s : State) (m : Arrived) : State :=
  s.modGslot (opdSlot m.msg.hdr) (fun q => q.holdPart m.msg.hdr (m.vc / 2) (unitBytes m.msg.body))

theorem State.takeOperand_expected {s : State} {m : Arrived} {q : GSlot} (hslot : s.gslot (opdSlot m.msg.hdr) = some q) (hpav : q.pav = m.key)
    (hexpects : q.expects (opdRun m.msg.hdr) = true) : s.takeOperand m = (s.partHeld m).pumpRun (opdSlot m.msg.hdr) := by
  simp only [State.takeOperand, hslot, if_neg (not_not.mpr hpav), hexpects, Bool.not_true, Bool.false_eq_true, if_false]
  rfl

theorem State.takeOperand_foreign {s : State} {m : Arrived} (h : s.Foreign (opdSlot m.msg.hdr) m.key) :
    s.takeOperand m = s.strayPart m.key m.msg.hdr := by
  obtain hnone | ⟨q, hslot, hpav⟩ := h
  · simp only [State.takeOperand, hnone]
  · simp only [State.takeOperand, hslot, if_pos hpav]

/-- A slot with the credits of a CREDIT message given back to the stream it names (R239). -/
def GSlot.credited (q : GSlot) (h : LinkUnit) : GSlot :=
  let k := 2 * opdStep h + b2n (opdTxi h)
  { q with spent := Table.put 0 q.spent k (Table.get 0 q.spent k - crdCount h) }

/-- A credit that comes between two runs gives back what was spent and sends nothing. -/
theorem State.takeCredit_idle {s : State} {m : Arrived} {q : GSlot} (hslot : s.gslot (opdSlot m.msg.hdr) = some q) (hpav : q.pav = m.key)
    (hidle : q.run = none) : ∃ f, s.takeCredit m = (s.modGslot (opdSlot m.msg.hdr) (fun q => q.credited m.msg.hdr)).modRun (opdSlot m.msg.hdr) f ∧
      (s.takeCredit m).gslot (opdSlot m.msg.hdr) = some (q.credited m.msg.hdr) := by
  have hgiven (f : Run → Run) : ((s.modGslot (opdSlot m.msg.hdr) (fun q => q.credited m.msg.hdr)).modRun (opdSlot m.msg.hdr) f).gslot
      (opdSlot m.msg.hdr) = some (q.credited m.msg.hdr) :=
    State.modRun_gslot_idle (q := q.credited m.msg.hdr) (by rw [State.modGslot_gslot_same, hslot, Option.map_some]) hidle f
  obtain ⟨f, htakes⟩ : ∃ f, s.takeCredit m =
      (s.modGslot (opdSlot m.msg.hdr) (fun q => q.credited m.msg.hdr)).modRun (opdSlot m.msg.hdr) f := by
    simp only [State.takeCredit, hslot, if_neg (not_not.mpr hpav)]
    exact ⟨_, State.pumpSends_idle (hgiven _) hidle⟩
  exact ⟨f, htakes, by rw [htakes, hgiven]⟩

theorem State.takeCredit_foreign {s : State} {m : Arrived} (h : s.Foreign (opdSlot m.msg.hdr) m.key) : s.takeCredit m = s := by
  obtain hnone | ⟨q, hslot, hpav⟩ := h
  · simp only [State.takeCredit, hnone]
  · simp only [State.takeCredit, hslot, if_pos hpav]

section
variable {s : State} {src : MsgSource} {m : Arrived} (hlive : s.live = true) (harr : s.arrived src = some m)
include hlive harr

section
variable (hkind : m.msg.kind = kOperand) (hoos : s.retained.oos = false)
include hkind hoos

theorem exec_operand : exec (.operand src) s = .next (s.keep ((s.takenFrom src m).takeOperand m)) := by
  have hhead : s.headIs src kOperand = true := by simp [State.headIs, harr, hkind]
  show act (s.live && s.headIs src kOperand) s _ = _
  simp [hlive, hhead, harr, hoos]

/-- A part of a run its program expects is held (R240, R242). -/
theorem operand_holds {q : GSlot} (hslot : s.gslot (opdSlot m.msg.hdr) = some q) (hpav : q.pav = m.key)
    (hexpects : q.expects (opdRun m.msg.hdr) = true) :
    ∃ t x, exec (.operand src) s = .next t ∧ t.gslot (opdSlot m.msg.hdr) = some x ∧
      x.held = (q.holdPart m.msg.hdr (m.vc / 2) (unitBytes m.msg.body)).held ∧ x.runs = q.runs ∧
      (∀ j, j ≠ opdSlot m.msg.hdr → t.gslot j = s.gslot j) ∧ t.front = s.front ∧ t.counters = s.counters := by
  have hmoved := s.takenFrom_msgsMove src m
  have htaken := (s.takenFrom_gslot src m (opdSlot m.msg.hdr)).trans hslot
  have hheld : ((s.takenFrom src m).partHeld m).gslot (opdSlot m.msg.hdr) =
      some (q.holdPart m.msg.hdr (m.vc / 2) (unitBytes m.msg.body)) := by
    rw [State.partHeld, State.modGslot_gslot_same, htaken, Option.map_some]
  obtain ⟨run, hpumped⟩ := State.pumpRun_gslot hheld
  obtain ⟨held, hpart⟩ := q.holdPart_eq m.msg.hdr (m.vc / 2) (unitBytes m.msg.body)
  have hpumps := ((s.takenFrom src m).partHeld m).pumpRun_pumps (opdSlot m.msg.hdr)
  refine ⟨s.keep (((s.takenFrom src m).partHeld m).pumpRun (opdSlot m.msg.hdr)), _, ?_, hpumped, rfl, by rw [hpart], fun j hj => ?_,
    hpumps.front.trans hmoved.queues.front, (State.pumpRun_loads ..).counters.trans hmoved.counters⟩
  · rw [exec_operand hlive harr hkind hoos, State.takeOperand_expected htaken hpav hexpects]
  · rw [State.keep_gslot, hpumps.others j hj, State.partHeld, State.modGslot_gslot_other _ _ _ hj, State.takenFrom_gslot]

variable (hforeign : s.Foreign (opdSlot m.msg.hdr) m.key)
include hforeign

/-- A later part of a chunk that finds no program of its Pavilion is dropped (R241). -/
theorem operand_drops (hpart : opdPart m.msg.hdr ≠ 0) :
    ∃ t, exec (.operand src) s = .next t ∧ t.gather = s.gather ∧ t.counters = s.counters ∧ t.front = s.front := by
  have hmoved := s.takenFrom_msgsMove src m
  refine ⟨s.keep (s.takenFrom src m), ?_, ?_⟩
  · rw [exec_operand hlive harr hkind hoos, State.takeOperand_foreign hforeign.taken, State.strayPart, if_neg hpart]
  · exact ⟨hmoved.stays.gather, hmoved.counters, hmoved.queues.front⟩

/-- Its first part is counted and reported (R241). -/
theorem operand_reports (hpart : opdPart m.msg.hdr = 0) (hcount : (s.counter ctrDiscard).count < 0xFFFFFFFE) (hcapture : s.flt.capture = none) :
    ∃ t c, exec (.operand src) s = .next t ∧ t.gather = s.gather ∧ (t.counter ctrDiscard).count = (s.counter ctrDiscard).count + 1 ∧
      t.flt.capture = some c ∧ c.cls = .contained ∧ c.report.cause = 0x17 ∧ t.flt.contained = true ∧ t.front = s.front := by
  have hmoved := s.takenFrom_msgsMove src m
  have hsame : (s.takenFrom src m).counter ctrDiscard = s.counter ctrDiscard := by rw [State.counter, hmoved.counters, State.counter]
  have hbelow : ((s.takenFrom src m).counter ctrDiscard).count < 0xFFFFFFFE := by rwa [hsame]
  have hempty : ((s.takenFrom src m).bump ctrDiscard).flt.capture = none := by
    rw [State.bump_eq_bumpRaw hbelow]
    exact (s.takenFrom_capture src m).trans hcapture
  refine ⟨s.keep (((s.takenFrom src m).bump ctrDiscard).raiseContained (mkReport 0x17 (unit := 8) (pav := m.key))), _, ?_, ?_, ?_,
    State.raiseContained_captures hempty _, rfl, rfl, State.raiseContained_contained .., ?_⟩
  · rw [exec_operand hlive harr hkind hoos, State.takeOperand_foreign hforeign.taken, State.strayPart, if_pos hpart]
  · rw [State.keep_gather, State.raiseContained_gather, State.bump_gather, hmoved.stays.gather]
  · rw [← hsame, ← State.bump_count hbelow]
    exact congrArg Counter.count (State.raiseContained_counter_other _ _ (by decide))
  · rw [State.keep_front, State.raiseContained_front, State.bump_front, hmoved.queues.front]

end

/-! ### CREDIT (R239) -/

section
variable (hkind : m.msg.kind = kCredit)
include hkind

theorem exec_credit : exec (.credit src) s = .next (s.keep ((s.takenFrom src m).takeCredit m)) := by
  have hhead : s.headIs src kCredit = true := by simp [State.headIs, harr, hkind]
  show act (s.live && s.headIs src kCredit) s _ = _
  simp [hlive, hhead, harr]

/-- A credit of the program's Pavilion gives back what was spent; between two runs no send waits for it (R239). -/
theorem credit_gives_back {q : GSlot} (hslot : s.gslot (opdSlot m.msg.hdr) = some q) (hpav : q.pav = m.key) (hidle : q.run = none) :
    ∃ t, exec (.credit src) s = .next t ∧ t.gslot (opdSlot m.msg.hdr) = some (q.credited m.msg.hdr) ∧
      (∀ j, j ≠ opdSlot m.msg.hdr → t.gslot j = s.gslot j) ∧ t.front = s.front ∧ t.fab = s.fab := by
  have hmoved := s.takenFrom_msgsMove src m
  obtain ⟨f, htakes, hgiven⟩ := State.takeCredit_idle ((s.takenFrom_gslot src m _).trans hslot) hpav hidle
  refine ⟨_, exec_credit hlive harr hkind, hgiven, ?_⟩
  rw [htakes]
  refine ⟨fun j hj => ?_, hmoved.queues.front, hmoved.queues.fab⟩
  rw [State.keep_gslot, State.modRun_gslot_other _ _ _ hj, State.modGslot_gslot_other _ _ _ hj, State.takenFrom_gslot]

/-- A credit for an empty slot or of another Pavilion does nothing. -/
theorem credit_ignored (hforeign : s.Foreign (opdSlot m.msg.hdr) m.key) :
    ∃ t, exec (.credit src) s = .next t ∧ t.gather = s.gather ∧ t.front = s.front ∧ t.fab = s.fab := by
  have hmoved := s.takenFrom_msgsMove src m
  refine ⟨s.keep (s.takenFrom src m), ?_, hmoved.stays.gather, hmoved.queues.front, hmoved.queues.fab⟩
  rw [exec_credit hlive harr hkind, State.takeCredit_foreign hforeign.taken]

end

end

/-- Settles O23, command by command: a chunk combined fails the run or goes on with it (`GoesOn`), a part is held, dropped or reported, and a credit is
given back or ignored. -/
theorem gatherChunksMove : Obligations.GatherChunksMove := by
  unfold Obligations.GatherChunksMove
  refine ⟨fun s i n k q r g w hlive hstep hrunning hg hready hunload hkill => ⟨?_, fun l hbytes hmain => ?_⟩,
    fun s src m hlive harr => ⟨fun hkind hoos => ⟨fun q => ?_, ?_, ?_⟩, fun hkind => ⟨fun q => ?_, ?_⟩⟩⟩
  · exact chunkCombine_bad_operand hlive hstep hrunning hg hunload hkill hready
  · subst hmain
    exact ⟨chunkCombine_malformed hlive hstep hrunning hg hunload hkill hready hbytes,
      chunkCombine_combines hlive hstep hrunning hg hunload hkill hready hbytes⟩
  · exact operand_holds hlive harr hkind hoos
  · exact operand_drops hlive harr hkind hoos
  · exact operand_reports hlive harr hkind hoos
  · exact credit_gives_back hlive harr hkind
  · exact credit_ignored hlive harr hkind

end Sys2Proof.Machine
end

section
/-!
PROOFS. The passing of time on an empty queue (R301): the statement EmptyQueueIsOneTick.
-/
namespace Sys2Proof.Machine

/-- Pod time neither held nor corrected counts one (R301). -/
theorem PodTime.advance_plain {t : PodTime} (hhold : t.hold = 0) (hrate : t.ratePpb = 0) (hphase : t.phase = 0) :
    t.advance = { t with now := t.now + 1 } := by
  simp [PodTime.advance, hhold, hrate, hphase]

theorem State.freezeDue_idle {s : State} (h : s.power.freezeAt = none) : s.freezeDue = s := by
  simp only [State.freezeDue, h]

/-- The idle counts of the engines (R470) leave a Freeze that is to come. -/
theorem State.noteEngines_freezeAt (s : State) : s.noteEngines.power.freezeAt = s.power.freezeAt := by
  rw [State.noteEngines, State.modPower_power]
  refine foldl_keeps (R := fun a b : Power => b.freezeAt = a.freezeAt) (fun _ => rfl) (fun h k => k.trans h) (fun _ _ w => ?_) s.power
  rfl

/-- One tick of a block that runs. -/
theorem State.tick_running {s : State} (hclocks : s.power.clocksLost = false) (hfrozen : s.power.frozen = false) (hfreeze : s.power.freezeAt = none) :
    s.tick = State.noteEngines { s with time := s.time.advance, retained := { s.retained with clock := s.retained.clock + 1 } } := by
  rw [State.tick, hclocks, hfrozen]
  exact State.freezeDue_idle ((State.noteEngines_freezeAt _).trans hfreeze)

theorem step_empty {s : State} (h : s.pending = []) : step s = .next s.tick := by
  simp only [step, h]

/-- Settles O2: a tick of a running block is `tick_running`, and pod time in it `advance_plain`. -/
theorem emptyQueueIsOneTick : Obligations.EmptyQueueIsOneTick := by
  unfold Obligations.EmptyQueueIsOneTick
  intro s hempty hclocks hfrozen hfreeze hhold hrate hphase
  refine ⟨s.tick, step_empty hempty, ?_⟩
  rw [State.tick_running hclocks hfrozen hfreeze]
  exact ⟨PodTime.advance_plain hhold hrate hphase, rfl, rfl, rfl, rfl, rfl, rfl, rfl, rfl, rfl, rfl, rfl, rfl, rfl, hempty⟩

end Sys2Proof.Machine
end

section
/-!
SUPPORT. Commands that read a range whole (R12) and are then finished (R88): what is asked for, and what the end of other commands leaves.
-/
namespace Sys2Proof.Machine

/-! ### The range asked for -/

/-- The accesses under way do not bear on the ranges being read. -/
theorem State.issueAll_contentRead (s : State) (l : List FabRequest) (k : ContentKey) : (s.issueAll l).contentRead k = s.contentRead k := by
  have hissue (t : State) (q : FabRequest) : (t.issue q).contentRead k = t.contentRead k := by
    unfold State.issue
    split <;> rfl
  exact foldl_keeps (R := fun a b : State => b.contentRead k = a.contentRead k) (fun _ => rfl) (fun h h' => h'.trans h) (fun q _ t => hissue t q) s

section
variable (s : State) (k : ContentKey) (addr len pav : Nat)

@[simp] theorem State.dropContent_front : (s.dropContent k).front = s.front := rfl
@[simp] theorem State.dropContent_gather : (s.dropContent k).gather = s.gather := rfl
@[simp] theorem State.dropContent_ports : (s.dropContent k).ports = s.ports := rfl
@[simp] theorem State.readContent_front : (s.readContent k addr len pav).front = s.front := by simp [State.readContent]
@[simp] theorem State.readContent_gather : (s.readContent k addr len pav).gather = s.gather := by simp [State.readContent]
@[simp] theorem State.readContent_ports : (s.readContent k addr len pav).ports = s.ports := by simp [State.readContent]

/-- Every piece of a range that is read is asked for. -/
theorem State.readContent_asks {q : FabRequest} (h : q ∈ readPieces addr len pav (fun o => .content k o)) :
    (s.readContent k addr len pav).asks q := State.issueAll_asks h _

/-- A range asked for is being read. -/
theorem State.readContent_contentRead : ((s.readContent k addr len pav).contentRead k).isSome = true := by
  rw [State.readContent, State.issueAll_contentRead]
  simp [State.contentRead]

end

theorem State.content_of_unread {s : State} {k : ContentKey} (h : s.contentRead k = none) : s.content k = none := by
  rw [State.content, h, Option.bind_none]

theorem State.readingContent_of_unread {s : State} {k : ContentKey} (h : s.contentRead k = none) : s.readingContent k = false := by
  rw [State.readingContent, h, Option.any_none]

theorem State.readingContent_of_read {s : State} {k : ContentKey} {x : ReadResult} (h : s.content k = some x) : s.readingContent k = false := by
  obtain ⟨c, hc, hx⟩ := Option.bind_eq_some_iff.mp h
  rw [State.readingContent, hc, Option.any_some, hx, Option.isNone_some]

/-! ### Commands finished -/

/-- Two names of one command are one name. -/
theorem AdminCmd.isRef_unique {c : AdminCmd} {q r : AdminRef} (hq : c.isRef q = true) (hr : c.isRef r = true) : q = r := by
  simp only [AdminCmd.isRef, Bool.and_eq_true, beq_iff_eq] at hq hr
  cases q
  cases r
  simp_all

/-- The phase of one command does not bear on another. -/
theorem State.setCmdPhase_cmd_other (s : State) {q r : AdminRef} (h : q ≠ r) (p : CmdPhase) : (s.setCmdPhase q p).cmd r = s.cmd r := by
  simp only [State.cmd, State.setCmdPhase, State.modLodge_front, State.modFront_front, List.find?_map]
  have hname : (fun c : AdminCmd => c.isRef r) ∘ (fun c : AdminCmd => if c.isRef q then { c with phase := p } else c) = fun c => c.isRef r := by
    funext c
    simp only [Function.comp_apply]
    split <;> rfl
  rw [hname]
  cases hc : s.front.cmds.find? (fun c => c.isRef r) with
  | none => rfl
  | some c =>
    have hr : c.isRef r = true := by simpa using List.find?_some hc
    have hq : c.isRef q = false := Bool.eq_false_iff.mpr fun hq => h (AdminCmd.isRef_unique hq hr)
    rw [Option.map_some, hq, if_neg Bool.false_ne_true]

theorem State.finish_cmd_other (s : State) {q r : AdminRef} (h : q ≠ r) (st r1 r2 r3 ra : Nat) : (s.finish q st r1 r2 r3 ra).cmd r = s.cmd r := by
  unfold State.finish
  split
  · exact s.setCmdPhase_cmd_other h _
  · rfl

/-- Between two states commands of the admin rings are finished: the channels, the accesses, the watches and the fault controller stay. -/
structure State.Finishes (s u : State) : Prop where
  chans : u.front.chans = s.front.chans
  fab : u.fab = s.fab
  watch : u.watch = s.watch
  flt : u.flt = s.flt
  gather : u.gather = s.gather

theorem State.Finishes.refl (s : State) : s.Finishes s := ⟨rfl, rfl, rfl, rfl, rfl⟩

theorem State.Finishes.trans {s u v : State} (h : s.Finishes u) (k : u.Finishes v) : s.Finishes v :=
  ⟨k.chans.trans h.chans, k.fab.trans h.fab, k.watch.trans h.watch, k.flt.trans h.flt, k.gather.trans h.gather⟩

theorem State.finish_finishes (s : State) (r : AdminRef) (st r1 r2 r3 ra : Nat) : s.Finishes (s.finish r st r1 r2 r3 ra) :=
  ⟨State.finish_chans .., by simp, by simp, by simp, by simp⟩

/-! ### Loads that wait for a first trigger (R290) -/

/-- The loads that wait, without a slot. -/
def Gather.loadsWithout (g : Gather) (i : Nat) : List LoadWait := g.loads.map (fun w => { w with slots := w.slots.filter (fun j => j != i) })

/-- The state in which no load waits for a slot. -/
def State.unawaited (s : State) (i : Nat) : State :=
  s.modGather (fun g => { g with loads := (s.gather.loadsWithout i).filter (fun w => !w.slots.isEmpty) })

/-- A slot read ends loads, which are commands finished. -/
theorem State.loadRead_finishes (s : State) (i : Nat) : (s.unawaited i).Finishes (s.loadRead i) :=
  foldl_keeps .refl .trans (fun w _ t => t.finish_finishes w.cmd asOk w.r1 w.r2 w.r3 0) (s.unawaited i)

theorem State.loadRead_chans (s : State) (i : Nat) : (s.loadRead i).front.chans = s.front.chans := (s.loadRead_finishes i).chans
theorem State.loadRead_fab (s : State) (i : Nat) : (s.loadRead i).fab = s.fab := (s.loadRead_finishes i).fab
theorem State.loadRead_watch (s : State) (i : Nat) : (s.loadRead i).watch = s.watch := (s.loadRead_finishes i).watch
theorem State.loadRead_flt (s : State) (i : Nat) : (s.loadRead i).flt = s.flt := (s.loadRead_finishes i).flt
theorem State.loadRead_gslot (s : State) (i j : Nat) : (s.loadRead i).gslot j = s.gslot j := State.gslot_congr (s.loadRead_finishes i).gather j

/-- A command that no load waits for stays as it is. -/
theorem State.loadRead_cmd {s : State} {r : AdminRef} (h : ∀ w ∈ s.gather.loads, w.cmd ≠ r) (i : Nat) : (s.loadRead i).cmd r = s.cmd r := by
  refine foldl_keeps (R := fun a b : State => b.cmd r = a.cmd r) (fun _ => rfl) (fun h h' => h'.trans h) (fun w hw t => ?_) (s.unawaited i)
  obtain ⟨v, hv, rfl⟩ := List.mem_map.mp (List.mem_filter.mp hw).1
  exact t.finish_cmd_other (h v hv) ..

end Sys2Proof.Machine
end

section
/-!
PROOFS. Programs loaded and unloaded (R283, R285 to R287): the statement ProgramsComeAndGo.
-/
namespace Sys2Proof.Machine

/-! ### LOAD_PROGRAM (R283, R285, R286) -/

theorem exec_loadProgram (r : AdminRef) (s : State) :
    exec (.loadProgram r) s = act (s.live && s.cmdIs r 0x20 && !s.readingContent (.admin r)) s (s.loadProgram r) := rfl

/-- Between two states a load changes neither the channels nor the transfer side, the ports and the counters. -/
def State.LoadStays (s t : State) : Prop := t.front.chans = s.front.chans ∧ t.xfer = s.xfer ∧ t.ports = s.ports ∧ t.counters = s.counters

/-- The state in which a program stands in its slot and its block has been sent to the measurement log (R286, R432). -/
def State.placed (s : State) (pav i k : Nat) (p : Program) : State := (s.placeProgram pav i k p).extend (0x10 + i) p.digest

theorem State.placed_gather (s : State) (pav i k : Nat) (p : Program) : (s.placed pav i k p).gather =
    { s.gather with
      slots := Table.put none s.gather.slots i (some { tag := s.gather.progTag.toNat, pav := pav, slice := k, prog := p })
      progTag := nextProgTag s.gather.progTag } := rfl

theorem State.placed_gslot_same (s : State) (pav i k : Nat) (p : Program) :
    (s.placed pav i k p).gslot i = some { tag := s.gather.progTag.toNat, pav := pav, slice := k, prog := p } := by
  rw [State.gslot, Gather.slot, State.placed_gather, Table.get_put_same]

theorem State.placed_gslot_other (s : State) (pav k : Nat) (p : Program) {i j : Nat} (h : j ≠ i) : (s.placed pav i k p).gslot j = s.gslot j := by
  rw [State.gslot, Gather.slot, State.placed_gather, Table.get_put_other _ _ _ h]
  rfl

/-- A program that is not persistent, with a slot and room: it is placed and the command is finished (R285). -/
theorem State.placePrograms_single {s : State} {p : Program} {pav i k : Nat} (hplain : p.persistent = false)
    (hplace : s.placesFor pav [p] [] [] = some [(i, k)]) (hroom : s.gather.memoryUsed + p.memory ≤ 262144) (r : AdminRef) :
    s.placePrograms r pav [p] = (s.placed pav i k p).finish r asOk (placedResult i s.gather.progTag.toNat) := by
  simp [State.placePrograms, hplace, hplain, Nat.not_lt.mpr hroom, State.placeAll, State.placed]

theorem State.placePrograms_without_room {s : State} {p : Program} {pav : Nat}
    (hfull : s.placesFor pav [p] [] [] = none ∨ 262144 < s.gather.memoryUsed + p.memory) (r : AdminRef) :
    s.placePrograms r pav [p] = s.finish r asNoResource := by
  unfold State.placePrograms
  split
  · rfl
  · next l hplace =>
    have hover : 262144 < s.gather.memoryUsed + ([p].map Program.memory).sum := by simpa [hplace] using hfull
    exact if_pos hover

/-- The command is well formed (R283). -/
structure AdminCmd.NamesImage (c : AdminCmd) : Prop where
  addr : bits (c.arg 1) 63 56 = 0
  align : bits (c.arg 1) 5 0 = 0
  len : bits (c.arg 2) 63 17 = 0
  zero : c.zeroArgs [3, 4, 5, 6, 7] = true

/-- What LOAD_PROGRAM does with the range that has been read (R283). -/
def State.takeImage (s : State) (r : AdminRef) (c : AdminCmd) (image : ReadResult) : State :=
  match image with
  | .data l => match s.loadImage c.pav (bits (c.arg 2) 16 0) l with
    | .error st => s.finish r st
    | .ok ps => s.placePrograms r c.pav ps
  | _ => s.finish r asBadCommand

theorem State.loadProgram_eq {s : State} {r : AdminRef} (h : (s.cmdD r).NamesImage) : s.loadProgram r =
    s.readThen (.admin r) (bits ((s.cmdD r).arg 1) 55 0) (bits ((s.cmdD r).arg 2) 16 0) (s.cmdD r).pav
      (fun image t => t.takeImage r (s.cmdD r) image) := by
  simp only [State.loadProgram, h.addr, h.align, h.len, h.zero, bne_self_eq_false, Bool.not_true, Bool.or_self, Bool.false_eq_true, if_false]
  rfl

section
variable {s : State} {r : AdminRef} {c : AdminCmd} {l : List Byte}

theorem State.takeImage_lost {image : ReadResult} (h : ∀ l, image ≠ .data l) : s.takeImage r c image = s.finish r asBadCommand := by
  cases image with
  | data l => exact absurd rfl (h l)
  | fault => rfl
  | ue => rfl
  | partReset => rfl

theorem State.takeImage_refused {st : Nat} (himage : s.loadImage c.pav (bits (c.arg 2) 16 0) l = .error st) :
    s.takeImage r c (.data l) = s.finish r st := by
  simp only [State.takeImage, himage]

theorem State.takeImage_places {ps : List Program} (himage : s.loadImage c.pav (bits (c.arg 2) 16 0) l = .ok ps) :
    s.takeImage r c (.data l) = s.placePrograms r c.pav ps := by
  simp only [State.takeImage, himage]

end

/-- The slots and slices stand in the Gather engine and the tenant alone: a range read leaves them. -/
theorem State.placesFor_dropContent (s : State) (k : ContentKey) (pav : Nat) (ps : List Program) (slots slices : List Nat) :
    (s.dropContent k).placesFor pav ps slots slices = s.placesFor pav ps slots slices := by
  induction ps generalizing slots slices with
  | nil => rfl
  | cons p ps ih =>
    simp only [State.placesFor, ih]
    rfl

section
variable {s : State} {r : AdminRef} (hlive : s.live = true) (hcmd : s.cmdIs r 0x20 = true) (hform : (s.cmdD r).NamesImage)
include hlive hcmd hform

/-- An image not yet read is read first (R283). -/
theorem loadProgram_asks (hnone : s.contentRead (.admin r) = none) :
    ∃ t, exec (.loadProgram r) s = .next t ∧ t.gather = s.gather ∧ t.front = s.front ∧ t.ports = s.ports ∧
      (∀ q ∈ readPieces (bits ((s.cmdD r).arg 1) 55 0) (bits ((s.cmdD r).arg 2) 16 0) (s.cmdD r).pav (fun o => .content (.admin r) o), t.asks q) := by
  refine ⟨s.keep (s.loadProgram r), by rw [exec_loadProgram, hlive, hcmd, State.readingContent_of_unread hnone]; rfl, ?_⟩
  rw [State.loadProgram_eq hform, readThen_reads (State.content_of_unread hnone)]
  exact ⟨by simp, by simp, by simp, fun q hq => s.readContent_asks _ _ _ _ hq⟩

/-- An image that has been read is taken. -/
theorem exec_loadProgram_takes {x : ReadResult} (hread : s.content (.admin r) = some x) :
    exec (.loadProgram r) s = .next (s.keep ((s.dropContent (.admin r)).takeImage r (s.cmdD r) x)) := by
  rw [exec_loadProgram, hlive, hcmd, State.readingContent_of_read hread, State.loadProgram_eq hform, readThen_performs hread]
  rfl

/-- A load that is finished with what has been read alone places nothing. -/
theorem loadProgram_refuses {x : ReadResult} (hread : s.content (.admin r) = some x) {st : Nat}
    (hends : (s.dropContent (.admin r)).takeImage r (s.cmdD r) x = (s.dropContent (.admin r)).finish r st) :
    ∃ t, exec (.loadProgram r) s = .next t ∧ t.gather = s.gather ∧ t.phaseOf r = some (.finished st 0 0 0 0) ∧ s.LoadStays t := by
  refine ⟨_, exec_loadProgram_takes hlive hcmd hform hread, ?_⟩
  rw [hends]
  exact ⟨by simp, State.finish_phaseOf (s := s.dropContent (.admin r)) (State.unfinished_of_cmdIs hcmd) st 0 0 0 0,
    State.finish_chans .., by rw [State.keep_xfer, State.finish_xfer]; rfl, by simp, by rw [State.keep_counters, State.finish_counters]; rfl⟩

variable {l : List Byte} {p : Program} (hread : s.content (.admin r) = some (.data l))
  (himage : s.loadImage (s.cmdD r).pav (bits ((s.cmdD r).arg 2) 16 0) l = .ok [p])
include hread himage

/-- A program loaded stands in its slot under the tag the completion names, and the next program takes the next tag (R285, R286). -/
theorem loadProgram_loads {i k : Nat} (hplain : p.persistent = false) (hplace : s.placesFor (s.cmdD r).pav [p] [] [] = some [(i, k)])
    (hroom : s.gather.memoryUsed + p.memory ≤ 262144) :
    ∃ t, exec (.loadProgram r) s = .next t ∧
      t.gslot i = some { tag := s.gather.progTag.toNat, pav := (s.cmdD r).pav, slice := k, prog := p } ∧ (∀ j, j ≠ i → t.gslot j = s.gslot j) ∧
      t.gather.progTag = nextProgTag s.gather.progTag ∧ t.phaseOf r = some (.finished 0 0 (placedResult i s.gather.progTag.toNat) 0 0) ∧
      s.LoadStays t := by
  have hplaces := (s.placesFor_dropContent (.admin r) (s.cmdD r).pav [p] [] []).trans hplace
  have hloads := (State.takeImage_places (s := s.dropContent (.admin r)) himage).trans (State.placePrograms_single hplain hplaces hroom r)
  have hends := State.finish_finishes ((s.dropContent (.admin r)).placed (s.cmdD r).pav i k p) r asOk (placedResult i s.gather.progTag.toNat) 0 0 0
  have hopen : (((s.dropContent (.admin r)).placed (s.cmdD r).pav i k p).cmd r).any AdminCmd.unfinished = true := State.unfinished_of_cmdIs hcmd
  have hphase := State.finish_phaseOf hopen asOk (placedResult i s.gather.progTag.toNat) 0 0 0
  refine ⟨_, exec_loadProgram_takes hlive hcmd hform hread, ?_⟩
  rw [hloads, State.dropContent_gather]
  refine ⟨?_, fun j hj => ?_, congrArg Gather.progTag hends.gather, hphase, hends.chans, ?_, ?_, ?_⟩
  · rw [State.keep_gslot, State.gslot_congr hends.gather, State.placed_gslot_same]
    rfl
  · rw [State.keep_gslot, State.gslot_congr hends.gather, State.placed_gslot_other _ _ _ _ hj]
    rfl
  · rw [State.keep_xfer, State.finish_xfer]; rfl
  · rw [State.keep_ports, State.finish_ports]; rfl
  · rw [State.keep_counters, State.finish_counters]; rfl

theorem loadProgram_without_room (hfull : s.placesFor (s.cmdD r).pav [p] [] [] = none ∨ 262144 < s.gather.memoryUsed + p.memory) :
    ∃ t, exec (.loadProgram r) s = .next t ∧ t.gather = s.gather ∧ t.phaseOf r = some (.finished 3 0 0 0 0) ∧ s.LoadStays t := by
  refine loadProgram_refuses hlive hcmd hform hread ((State.takeImage_places (s := s.dropContent (.admin r)) himage).trans ?_)
  refine State.placePrograms_without_room ?_ r
  rwa [State.placesFor_dropContent]

end

/-! ### UNLOAD_PROGRAM (R287) -/

theorem exec_unloadProgram (r : AdminRef) (s : State) : exec (.unloadProgram r) s = act (s.live && s.cmdIs r 0x21) s (s.unloadProgram r) := rfl

section
variable {s : State} {r : AdminRef} (hform : bits ((s.cmdD r).arg 1) 31 6 = 0) (hforce : bits ((s.cmdD r).arg 2) 63 1 = 0)
  (hzero : (s.cmdD r).zeroArgs [3, 4, 5, 6, 7] = true)
include hform hforce hzero

theorem State.unloadProgram_empty (hslot : s.gslot (bits ((s.cmdD r).arg 1) 5 0) = none) : s.unloadProgram r = s.finish r asBadState := by
  simp [State.unloadProgram, hform, hforce, hzero, hslot]

variable {q : GSlot} (hslot : s.gslot (bits ((s.cmdD r).arg 1) 5 0) = some q)
include hslot

theorem State.unloadProgram_other_tag (htag : q.tag ≠ bits ((s.cmdD r).arg 1) 63 32) : s.unloadProgram r = s.finish r asBadState := by
  simp [State.unloadProgram, hform, hforce, hzero, hslot, htag]

variable (htag : q.tag = bits ((s.cmdD r).arg 1) 63 32)
include htag

theorem State.unloadProgram_foreign (htenant : (s.cmdD r).pav ≠ 0) (hpav : q.pav ≠ (s.cmdD r).pav) : s.unloadProgram r = s.finish r asDenied := by
  simp [State.unloadProgram, hform, hforce, hzero, hslot, htag, htenant, hpav]

variable (hown : (s.cmdD r).pav = 0 ∨ q.pav = (s.cmdD r).pav)
include hown

/-- An unload of an own program turns on whether a run is in progress, and on FORCE (R287). -/
theorem State.unloadProgram_own : s.unloadProgram r =
    if q.run.isSome then
      if !bit ((s.cmdD r).arg 2) 0 then s.finish r asBadState
      else ((s.working r).modGslot (bits ((s.cmdD r).arg 1) 5 0) (fun q => { q with unload := q.unload ++ [r] })).haltRun (bits ((s.cmdD r).arg 1) 5 0)
    else ((s.freeGslot (bits ((s.cmdD r).arg 1) 5 0)).loadRead (bits ((s.cmdD r).arg 1) 5 0)).finish r asOk := by
  have hallowed : ((s.cmdD r).pav != 0 && q.pav != (s.cmdD r).pav) = false := by
    rcases hown with hpod | hsame
    · simp [hpod]
    · simp [hsame]
  simp only [State.unloadProgram, hform, hforce, hzero, hslot, htag, hallowed, bne_self_eq_false, Bool.not_true, Bool.or_self, Bool.false_eq_true,
    if_false, ne_eq, not_true]

end

/-- The state in which a slot holds no program and its watch is disarmed. -/
def State.vacated (s : State) (i : Nat) : State := (s.setGslot i none).disarm (6160 + i)

/-- A slot for whose program nothing waits is freed; its slice may go to rest (R290, R468). -/
theorem State.freeGslot_unqueued {s : State} {i : Nat} {q : GSlot} (hslot : s.gslot i = some q) (hqueue : q.queue = []) :
    ∃ ctl, s.freeGslot i = (s.vacated i).modGather (fun g => { g with ctl := ctl }) := by
  simp only [State.freeGslot, hslot, hqueue, List.foldl_nil]
  split
  · exact ⟨_, rfl⟩
  · exact ⟨(s.vacated i).gather.ctl, rfl⟩

theorem State.vacated_gather (s : State) (i : Nat) : (s.vacated i).gather = { s.gather with slots := Table.put none s.gather.slots i none } :=
  State.disarm_gather ..

/-- A program that is idle leaves its slot, and a command no load waits for stays as it is (R287). -/
theorem State.freeGslot_frees {s : State} {i : Nat} {q : GSlot} (hslot : s.gslot i = some q) (hqueue : q.queue = []) :
    (s.freeGslot i).gslot i = none ∧ (∀ j, j ≠ i → (s.freeGslot i).gslot j = s.gslot j) ∧ (s.freeGslot i).front = s.front ∧
      6160 + i ∉ (s.freeGslot i).watch.armed ∧ (s.freeGslot i).gather.loads = s.gather.loads := by
  obtain ⟨ctl, hfreed⟩ := State.freeGslot_unqueued hslot hqueue
  have hslots : (s.freeGslot i).gather.slots = Table.put none s.gather.slots i none := by
    rw [hfreed, State.modGather_gather, State.vacated_gather]
  refine ⟨?_, fun j hj => ?_, ?_, ?_, ?_⟩
  · rw [State.gslot, Gather.slot, hslots, Table.get_put_same]
  · rw [State.gslot, Gather.slot, hslots, Table.get_put_other _ _ _ hj]
    rfl
  · rw [hfreed, State.modGather_front, State.vacated, State.disarm_front]
    rfl
  · rw [hfreed]
    exact State.disarm_not_armed _ _
  · rw [hfreed, State.modGather_gather, State.vacated_gather]

section
variable {s : State} {r : AdminRef} (hlive : s.live = true) (hcmd : s.cmdIs r 0x21 = true)
include hlive hcmd

theorem exec_unloadProgram_due : exec (.unloadProgram r) s = .next (s.keep (s.unloadProgram r)) := by
  rw [exec_unloadProgram, hlive, hcmd]
  rfl

theorem unloadProgram_refuses {st : Nat} (hrefuses : s.unloadProgram r = s.finish r st) :
    ∃ t, exec (.unloadProgram r) s = .next t ∧ t.gather = s.gather ∧ t.phaseOf r = some (.finished st 0 0 0 0) ∧ t.front.chans = s.front.chans := by
  refine ⟨_, exec_unloadProgram_due hlive hcmd, ?_⟩
  rw [hrefuses]
  exact ⟨by simp, State.finish_phaseOf (State.unfinished_of_cmdIs hcmd) st 0 0 0 0, State.finish_chans ..⟩

/-- A program unloaded at once leaves its slot, and the command is finished (R287). -/
theorem unloadProgram_unloads {i : Nat} {q : GSlot} (hslot : s.gslot i = some q) (hqueue : q.queue = []) (hloads : ∀ w ∈ s.gather.loads, w.cmd ≠ r)
    (hunloads : s.unloadProgram r = ((s.freeGslot i).loadRead i).finish r asOk) :
    ∃ t, exec (.unloadProgram r) s = .next t ∧ t.gslot i = none ∧ (∀ j, j ≠ i → t.gslot j = s.gslot j) ∧ 6160 + i ∉ t.watch.armed ∧
      t.phaseOf r = some (.finished 0 0 0 0 0) ∧ t.front.chans = s.front.chans := by
  obtain ⟨hempty, hothers, hfront, hwatch, hsame⟩ := State.freeGslot_frees hslot hqueue
  have hcmds : ((s.freeGslot i).loadRead i).cmd r = s.cmd r := by
    rw [State.loadRead_cmd (hsame ▸ hloads), State.cmd_congr (congrArg FrontEnd.cmds hfront)]
  have hends := ((s.freeGslot i).loadRead i).finish_finishes r asOk 0 0 0 0
  refine ⟨_, exec_unloadProgram_due hlive hcmd, ?_⟩
  rw [hunloads]
  refine ⟨?_, fun j hj => ?_, ?_, ?_, ?_⟩
  · rw [State.keep_gslot, State.gslot_congr hends.gather, State.loadRead_gslot, hempty]
  · rw [State.keep_gslot, State.gslot_congr hends.gather, State.loadRead_gslot, hothers j hj]
  · rwa [State.keep_watch, hends.watch, State.loadRead_watch]
  · exact State.finish_phaseOf (hcmds ▸ State.unfinished_of_cmdIs hcmd) asOk 0 0 0 0
  · rw [State.keep_front, hends.chans, State.loadRead_chans, hfront]

end

/-- Settles O21: a load is what it does with the range read (`takeImage`), an unload is refused or frees its slot (`freeGslot_frees`). -/
theorem programsComeAndGo : Obligations.ProgramsComeAndGo := by
  unfold Obligations.ProgramsComeAndGo
  refine ⟨fun s r hlive hcmd haddr halign hlen hzero => ?_, fun s r i hlive hcmd hi hform hforce hzero => ?_⟩
  · have hform : (s.cmdD r).NamesImage := ⟨haddr, halign, hlen, hzero⟩
    refine ⟨loadProgram_asks hlive hcmd hform, fun l p i k hread himage hplain hplace hroom => ?_, fun l p hread himage hfull => ?_,
      fun l st hread himage => ?_, fun res hread hlost => ?_⟩
    · exact loadProgram_loads hlive hcmd hform hread himage hplain hplace hroom
    · exact loadProgram_without_room hlive hcmd hform hread himage hfull
    · exact loadProgram_refuses hlive hcmd hform hread (State.takeImage_refused himage)
    · exact loadProgram_refuses hlive hcmd hform hread (State.takeImage_lost (by rintro l rfl; simp at hlost))
  · subst hi
    refine ⟨fun hslot => ?_, fun q hslot => ⟨fun htag => ?_, fun htag htenant hpav => ?_, fun htag hown => ⟨fun hrun hnoforce => ?_,
      fun hidle hqueue hloads => ?_⟩⟩⟩
    · exact unloadProgram_refuses hlive hcmd (State.unloadProgram_empty hform hforce hzero hslot)
    · exact unloadProgram_refuses hlive hcmd (State.unloadProgram_other_tag hform hforce hzero hslot htag)
    · exact unloadProgram_refuses hlive hcmd (State.unloadProgram_foreign hform hforce hzero hslot htag htenant hpav)
    · refine unloadProgram_refuses hlive hcmd (st := asBadState) ?_
      rw [State.unloadProgram_own hform hforce hzero hslot htag hown, hrun, hnoforce]
      rfl
    · refine unloadProgram_unloads hlive hcmd hslot hqueue hloads ?_
      rw [State.unloadProgram_own hform hforce hzero hslot htag hown, hidle]
      rfl

end Sys2Proof.Machine
end

section
/-!
PROOFS. Triggers read on notification or by polling, and their answers (R290): the statement TriggersAreRead.
-/
namespace Sys2Proof.Machine

theorem exec_triggerWatchNotify (i : Nat) (s : State) : exec (.triggerWatchNotify i) s =
    act (s.live && s.watching (triggerWid i) && (s.triggered i).isSome) s (s.readTrigger i) := rfl
theorem exec_triggerPoll (i : Nat) (s : State) : exec (.triggerPoll i) s =
    act (s.live && !s.watching (triggerWid i) && (s.triggered i).any (fun q => s.usPassed q.lastPoll 1)) s (s.readTrigger i) := rfl
theorem exec_triggerObserved (i : Nat) (res : ReadResult) (s : State) : exec (.triggerObserved i res) s =
    act (s.live && s.hasUse (isTrigger i)) s
      (((s.dropFirst (isTrigger i)).triggerAnswer i (s.triggerTag i) (s.useAddr (isTrigger i)) (.ofRead res)).issueWaiting) := rfl

/-! ### A trigger read (R290) -/

/-- The read of a program's trigger. -/
def GSlot.triggerRead (q : GSlot) (i : Nat) : FabRequest := { op := .read, addr := q.prog.trigger, len := 8, pav := q.pav, use := .trigger i q.tag }

section
variable {s : State} {i : Nat} {q : GSlot} (hslot : s.gslot i = some q)
include hslot

theorem State.readTrigger_eq : s.readTrigger i = (s.modGslot i (fun q => { q with lastPoll := s.now })).issue (q.triggerRead i) := by
  simp only [State.readTrigger, hslot, GSlot.triggerRead]

theorem State.readTrigger_asks : (s.readTrigger i).asks (q.triggerRead i) := by
  rw [State.readTrigger_eq hslot]
  exact State.issue_asks ..

theorem State.readTrigger_gslot : (s.readTrigger i).gslot i = some { q with lastPoll := s.now } := by
  rw [State.readTrigger_eq hslot, State.issue_gslot, State.modGslot_gslot_same, hslot, Option.map_some]

theorem State.readTrigger_front : (s.readTrigger i).front = s.front := by
  rw [State.readTrigger_eq hslot, State.issue_front, State.modGslot_front]

theorem State.readTrigger_watch : (s.readTrigger i).watch = s.watch := by
  rw [State.readTrigger_eq hslot, State.issue_watch]
  rfl

/-- A persistent program that has its base and has not faulted watches its trigger. -/
theorem State.triggered_eq (hpers : q.prog.persistent = true) (hbase : q.base.isSome = true) (hok : q.faulted = false) : s.triggered i = some q := by
  simp [State.triggered, hslot, hpers, hbase, hok]

variable (hlive : s.live = true) (hpers : q.prog.persistent = true) (hbase : q.base.isSome = true) (hok : q.faulted = false)
include hlive hpers hbase hok

/-- A notification reads the trigger. -/
theorem triggerWatchNotify_reads (hwatch : s.watching (triggerWid i) = true) :
    ∃ t, exec (.triggerWatchNotify i) s = .next t ∧ t.asks (q.triggerRead i) ∧ t.gslot i = some { q with lastPoll := s.now } ∧ t.front = s.front := by
  refine ⟨s.keep (s.readTrigger i), ?_, State.readTrigger_asks hslot, State.readTrigger_gslot hslot, State.readTrigger_front hslot⟩
  rw [exec_triggerWatchNotify, hlive, hwatch, State.triggered_eq hslot hpers hbase hok]
  rfl

/-- Where the watch is refused a microsecond reads the trigger. -/
theorem triggerPoll_reads (hwatch : s.watching (triggerWid i) = false) (hpassed : s.usPassed q.lastPoll 1 = true) :
    ∃ t, exec (.triggerPoll i) s = .next t ∧ t.asks (q.triggerRead i) ∧ t.gslot i = some { q with lastPoll := s.now } ∧ t.front = s.front := by
  refine ⟨s.keep (s.readTrigger i), ?_, State.readTrigger_asks hslot, State.readTrigger_gslot hslot, State.readTrigger_front hslot⟩
  rw [exec_triggerPoll, hlive, hwatch, State.triggered_eq hslot hpers hbase hok, Option.any_some, hpassed]
  rfl

end

/-! ### A trigger read answered (R290) -/

/-- What is reported of a trigger that cannot be read (R491). -/
def GSlot.triggerReport (q : GSlot) (addr : Nat) : ErrorReport :=
  mkReport 0x15 (unit := 8) (access := 7) (pav := q.pav) (engine := q.slice) (status := FabResult.fault.status) (addr := addr)

/-- What waits for a port of the fabric stays asked for when it is tried again. -/
theorem State.asks_issueWaiting {s : State} {r : FabRequest} (h : s.asks r) : s.issueWaiting.asks r := by
  rcases h with hwaits | hout
  · exact State.issueAll_asks hwaits _
  · exact State.asks_issueAll _ (.inr hout)

/-- A program with the first value of its trigger, which is its base. -/
def GSlot.based (q : GSlot) (v now : Nat) : GSlot := { q with base := some v, seen := v, lastPoll := now }

/-- The state in which a program has its base and takes the watch on its trigger. -/
def State.basing (s : State) (i : Nat) (q : GSlot) (v : Nat) : State :=
  (s.modGslot i (fun q => q.based v s.now)).arm (6160 + i) q.prog.trigger q.pav

theorem State.basing_gslot {s : State} {i : Nat} {q : GSlot} (hslot : s.gslot i = some q) (v : Nat) :
    (s.basing i q v).gslot i = some (q.based v s.now) := by
  rw [State.basing, State.gslot_congr (State.arm_gather ..), State.modGslot_gslot_same, hslot, Option.map_some]

section
variable {s : State} {i : Nat} {q : GSlot} (hslot : s.gslot i = some q) (hok : q.faulted = false) (addr : Nat)
include hslot hok

theorem State.triggerAnswer_first (hbase : q.base = none) (l : List Byte) :
    s.triggerAnswer i q.tag addr (.data l) = ((s.basing i q (leAt l 0 8)).readTrigger i).loadRead i := by
  simp only [State.triggerAnswer, hslot, hok, bne_self_eq_false, Bool.or_self, Bool.false_eq_true, if_false, hbase]
  rfl

theorem State.triggerAnswer_later (hbase : q.base.isSome = true) (l : List Byte) :
    s.triggerAnswer i q.tag addr (.data l) = (s.modGslot i (fun q => { q with seen := leAt l 0 8 })).activity q.pav := by
  obtain ⟨v, hv⟩ := Option.isSome_iff_exists.mp hbase
  simp only [State.triggerAnswer, hslot, hok, bne_self_eq_false, Bool.or_self, Bool.false_eq_true, if_false, hv]

theorem State.triggerAnswer_fault : s.triggerAnswer i q.tag addr .fault =
    ((s.disarmProgram i).raiseContained (q.triggerReport addr)).loadRead i := by
  simp only [State.triggerAnswer, GSlot.triggerReport, hslot, hok, bne_self_eq_false, Bool.or_self, Bool.false_eq_true, if_false]

end

section
variable {s : State} {i : Nat} {q : GSlot} (hlive : s.live = true) (hslot : s.gslot i = some q) (huse : s.hasUse (isTrigger i) = true)
  (htag : s.triggerTag i = q.tag) (hok : q.faulted = false)
include hlive huse htag

theorem exec_triggerObserved_current (res : ReadResult) : exec (.triggerObserved i res) s = .next (s.keep
    ((s.dropFirst (isTrigger i)).triggerAnswer i q.tag (s.useAddr (isTrigger i)) (.ofRead res)).issueWaiting) := by
  rw [exec_triggerObserved, hlive, huse, htag]
  rfl

include hslot hok

/-- The first value is the base, takes the watch and reads again. -/
theorem triggerObserved_first (l : List Byte) (hbase : q.base = none) :
    ∃ t, exec (.triggerObserved i (.data l)) s = .next t ∧ 6160 + i ∈ t.watch.armed ∧
      t.gslot i = some { q with base := some (leAt l 0 8), seen := leAt l 0 8, lastPoll := s.now } ∧ t.front.chans = s.front.chans ∧
      t.asks (q.triggerRead i) := by
  have hbased := State.basing_gslot (s := s.dropFirst (isTrigger i)) hslot (leAt l 0 8)
  have hasks := State.readTrigger_asks hbased
  refine ⟨_, exec_triggerObserved_current hlive huse htag _, ?_⟩
  rw [FabResult.ofRead, State.triggerAnswer_first (s := s.dropFirst (isTrigger i)) hslot hok _ hbase l]
  refine ⟨?_, ?_, ?_, State.asks_issueWaiting (State.asks_congr (State.loadRead_fab ..) hasks)⟩
  · rw [State.keep_watch, State.issueWaiting_watch, State.loadRead_watch, State.readTrigger_watch hbased]
    exact State.arm_armed ..
  · rw [State.keep_gslot, State.gslot_congr (State.issueWaiting_gather _), State.loadRead_gslot, State.readTrigger_gslot hbased]
    rfl
  · rw [State.keep_front, State.issueWaiting_front, State.loadRead_chans, State.readTrigger_front hbased]
    rfl

/-- A later value is the value seen. -/
theorem triggerObserved_later (l : List Byte) (hbase : q.base.isSome = true) :
    ∃ t, exec (.triggerObserved i (.data l)) s = .next t ∧ t.gslot i = some { q with seen := leAt l 0 8 } ∧ t.front = s.front := by
  refine ⟨_, exec_triggerObserved_current hlive huse htag _, ?_⟩
  rw [FabResult.ofRead, State.triggerAnswer_later (s := s.dropFirst (isTrigger i)) hslot hok _ hbase l]
  refine ⟨?_, ?_⟩
  · have hsame : (s.dropFirst (isTrigger i)).gslot i = some q := hslot
    rw [State.keep_gslot, State.gslot_congr (State.issueWaiting_gather _), State.activity_gslot, State.modGslot_gslot_same, hsame, Option.map_some]
  · rw [State.keep_front, State.issueWaiting_front, State.activity_front]
    rfl

/-- A failed read disarms the program and is reported. -/
theorem triggerObserved_fault (hcapture : s.flt.capture = none) :
    ∃ t c, exec (.triggerObserved i .fault) s = .next t ∧ t.gslot i = some { q with faulted := true } ∧ 6160 + i ∉ t.watch.armed ∧
      t.flt.capture = some c ∧ c.cls = .contained ∧ c.report.cause = 0x15 ∧ t.front.chans = s.front.chans := by
  have hsame : (s.dropFirst (isTrigger i)).gslot i = some q := hslot
  have hempty : ((s.dropFirst (isTrigger i)).disarmProgram i).flt.capture = none := by rwa [State.disarmProgram, State.disarm_flt]
  refine ⟨_, ⟨.contained, q.triggerReport (s.useAddr (isTrigger i)), s.time.now⟩, exec_triggerObserved_current hlive huse htag _, ?_⟩
  rw [FabResult.ofRead, State.triggerAnswer_fault hsame hok]
  refine ⟨?_, ?_, ?_, rfl, rfl, ?_⟩
  · rw [State.keep_gslot, State.gslot_congr (State.issueWaiting_gather _), State.loadRead_gslot, State.gslot_congr (State.raiseContained_gather ..),
      State.disarmProgram, State.gslot_congr (State.disarm_gather ..), State.modGslot_gslot_same, hsame, Option.map_some]
  · rw [State.keep_watch, State.issueWaiting_watch, State.loadRead_watch, State.raiseContained_watch]
    exact State.disarm_not_armed _ _
  · rw [State.keep_flt, State.issueWaiting_flt, State.loadRead_flt, State.raiseContained_captures hempty, State.disarmProgram, State.disarm_time]
    rfl
  · rw [State.keep_front, State.issueWaiting_front, State.loadRead_chans, State.raiseContained_front, State.disarmProgram, State.disarm_front]
    rfl

end

/-- Settles O24: a read of the trigger is `readTrigger`, and each answer to one is one branch of `triggerAnswer`. -/
theorem triggersAreRead : Obligations.TriggersAreRead := by
  unfold Obligations.TriggersAreRead
  intro s i q hlive hslot
  refine ⟨fun hpers hbase hok => ⟨?_, ?_⟩, fun huse htag hok => ⟨?_, ?_, ?_⟩⟩
  · exact triggerWatchNotify_reads hslot hlive hpers hbase hok
  · exact triggerPoll_reads hslot hlive hpers hbase hok
  · exact triggerObserved_first hlive hslot huse htag hok
  · exact triggerObserved_later hlive hslot huse htag hok
  · exact triggerObserved_fault hlive hslot huse htag hok

end Sys2Proof.Machine
end

section
/-!
PROOFS. TIME panes, HOLDOVER and the choice of a new parent (R303, R305, R306): the statement PodTimeIsKept.
-/
namespace Sys2Proof.Machine

theorem exec_timePaneSend (p : PortIx) (s : State) : exec (.timePaneSend p) s = act (s.timeDue p) s (s.sendTime p) := rfl
theorem exec_timePane (p : PortIx) (s : State) : exec (.timePane p) s =
    act (s.linkLive && (s.rxHead p ptTime).isSome) s (s.takePane p ptTime (fun x t => t.takeTime p x)) := rfl
theorem exec_timeHoldover (s : State) : exec .timeHoldover s =
    act (s.clocked && !s.time.isMaster && (s.time.state == .synced || s.time.state == .acquiring) && s.usPassed s.time.lastValid 50) s
      (s.modTime (fun t => { t with state := .holdover, holdSince := some s.now, good := 0 })) := rfl

/-! ### A TIME pane sent (R303) -/

/-- Between two states one codeword goes out at a port: it takes one slot; the port's times, pod time, the counters and the other ports stay. -/
structure State.Emits (p : PortIx) (s u : State) : Prop where
  slot : (u.port p).keys.slot = (s.port p).keys.slot + 1
  ptime : (u.port p).time = (s.port p).time
  others : ∀ q, q ≠ p → u.port q = s.port q
  time : u.time = s.time
  counters : u.counters = s.counters

theorem State.emit_emits (s : State) (p : PortIx) (h : Word) (body : List Byte) (badCrc : Bool) : s.Emits p (s.emit p h body badCrc) := by
  have hbelv (t : State) (a b n : Nat) (q : PortIx) : (t.belvAdd a b n).port q = t.port q := rfl
  refine ⟨by simp [State.emit, hbelv], by simp [State.emit, hbelv], fun q hq => ?_, rfl, rfl⟩
  simp only [State.emit, hbelv, State.modKeys_port_other _ _ _ _ hq, State.modLane_port_other _ _ _ _ hq, State.modPane_port_other _ _ _ _ hq]

/-- The times of a port that has sent a TIME pane. -/
def PortTime.justSent (t : PortTime) (now : Nat) : PortTime :=
  { t with seq := t.seq + 1, lastSent := some now, sentAt := (t.seq.toNat, now) :: t.sentAt.take 3 }

/-- A TIME pane sent is one codeword emitted, and noted in the times of its port. -/
theorem State.sendTime_emits (s : State) (p : PortIx) : ∃ u, s.Emits p u ∧ s.sendTime p = u.modPTime p (fun t => t.justSent s.now) := by
  have hemits (h : Word) (body : List Byte) :
      s.Emits p ((s.modKeys p (fun k => k.modIndex 0 KeyIndex.used)).emit p h body) := by
    have h := (s.modKeys p (fun k => k.modIndex 0 KeyIndex.used)).emit_emits p h body false
    refine ⟨h.slot.trans ?_, h.ptime.trans ?_, fun q hq => (h.others q hq).trans (s.modKeys_port_other _ _ _ hq), h.time, h.counters⟩
    · rw [State.modKeys_port_same]
      rfl
    · rw [State.modKeys_port_same]
  exact ⟨_, hemits _ _, rfl⟩

/-- A TIME pane goes out in the next codeword slot under the next SEQ (R303). -/
theorem timePaneSend_sends {s : State} {p : PortIx} (hdue : s.timeDue p = true) :
    ∃ t, exec (.timePaneSend p) s = .next t ∧ (t.port p).time.seq = (s.port p).time.seq + 1 ∧ (t.port p).time.lastSent = some s.now ∧
      (t.port p).keys.slot = (s.port p).keys.slot + 1 ∧ (∀ q, q ≠ p → t.port q = s.port q) ∧ t.time = s.time ∧ t.counters = s.counters := by
  obtain ⟨u, h, hsends⟩ := s.sendTime_emits p
  refine ⟨s.keep (s.sendTime p), by rw [exec_timePaneSend, hdue, act_due], ?_⟩
  rw [hsends, State.keep_port, State.modPTime_port_same, ← h.ptime]
  refine ⟨rfl, rfl, h.slot, fun q hq => ?_, h.time, h.counters⟩
  rw [State.keep_port, State.modPTime_port_other _ _ _ _ hq, h.others q hq]

/-! ### A TIME pane received (R305) -/

/-- What a TIME pane says of the far end. -/
def PortTime.heardFrom (t : PortTime) (b : List Byte) (tick : Nat) : PortTime :=
  { t with farSeq := beAt b 6 2, farTx := beAt b 8 9, arrival := 256 * tick, heard := true, farState := (b.getD 1 0).toNat, farDepth := (b.getD 4 0).toNat }

@[simp] theorem State.rxPop_port_same (s : State) (p : PortIx) :
    (s.rxPop p).port p = { s.port p with pane := { (s.port p).pane with rxq := (s.port p).pane.rxq.drop 1 } } := by
  rw [State.rxPop, State.modPane_port_same]

/-- The state in which a TIME pane whose tag holds has been noted of its port. -/
def State.noted (s : State) (p : PortIx) (x : RxPane) (g : Nat) : State :=
  (s.modKeys p (fun k => { k with rxSeg := BitVec.ofNat 16 g })).modPTime p (fun t => t.heardFrom x.body x.tick)

theorem State.noted_port_same (s : State) (p : PortIx) (x : RxPane) (g : Nat) : (s.noted p x g).port p =
    { s.port p with keys := { (s.port p).keys with rxSeg := BitVec.ofNat 16 g }, time := (s.port p).time.heardFrom x.body x.tick } := by
  rw [State.noted, State.modPTime_port_same, State.modKeys_port_same]

/-- A TIME pane that is no exchange: at the time master, at another port than the parent's, from a node that is UNSYNCED, or echoing no pane of the
last 20 µs (R305). -/
def State.noExchange (s : State) (p : PortIx) (b : List Byte) : Bool :=
  s.time.isMaster || s.time.parent ≠ p.val ||
    !(s.port p).time.sentAt.any (fun e => e.1 == beAt b 17 2 && decide (s.now ≤ e.2 + usTicks 20)) || (b.getD 1 0).toNat = 0

theorem State.noExchange_iff {s : State} {p : PortIx} {b : List Byte} : s.noExchange p b = true ↔
    s.time.isMaster = true ∨ s.time.parent ≠ p.val ∨ (b.getD 1 0).toNat = 0 ∨
      (s.port p).time.sentAt.any (fun e => e.1 == beAt b 17 2 && decide (s.now ≤ e.2 + usTicks 20)) = false := by
  simp only [State.noExchange, Bool.or_eq_true, decide_eq_true_eq, Bool.not_eq_true', or_assoc, or_comm (a := (b.getD 1 0).toNat = 0)]

/-- The state after the exchange a TIME pane of the parent makes. -/
def State.exchanged (s : State) (p : PortIx) (x : RxPane) : State :=
  s.drawn.modTime (fun t => t.exchange (thetaOf (beAt x.body 28 9) (beAt x.body 19 9) (256 * x.tick) (beAt x.body 8 9) (s.asym p))
    (rateOf (s.freeVal .timeRate)) ((x.body.getD 4 0).toNat + 1) (beAt x.body 2 2 % 8192) s.now)

theorem State.takeTime_dropped {s : State} {p : PortIx} {x : RxPane} (h : (s.port p).keys.segOf x.hdr x.slot x.body = none) :
    s.takeTime p x = s.bump (ctrBadDrop p) := by
  simp only [State.takeTime, h]

theorem State.takeTime_noted {s : State} {p : PortIx} {x : RxPane} {g : Nat} (hseg : (s.port p).keys.segOf x.hdr x.slot x.body = some g)
    (hver : x.body.headD 0 = 1) : s.takeTime p x = if s.noExchange p x.body then s.noted p x g else (s.noted p x g).exchanged p x := by
  simp only [State.takeTime, hseg, hver, ne_eq, not_true, if_false]
  rfl

section
variable {s : State} {p : PortIx} {x : RxPane} (hlive : s.linkLive = true) (hhead : s.rxHead p ptTime = some x) (hserving : s.serving p = true)
include hlive hhead hserving

/-- A pane at the head of a port in service is taken off it. -/
theorem exec_timePane_takes : exec (.timePane p) s = .next (s.keep ((s.rxPop p).takeTime p x)) := by
  rw [exec_timePane, hlive, State.takePane, hhead]
  simp only [hserving, if_true]
  rfl

/-- A TIME pane whose tag fails is counted and changes no time. -/
theorem timePane_drops (hseg : (s.port p).keys.segOf x.hdr x.slot x.body = none) (hcount : (s.counter (ctrBadDrop p)).count < 0xFFFFFFFE) :
    ∃ t, exec (.timePane p) s = .next t ∧ (t.counter (ctrBadDrop p)).count = (s.counter (ctrBadDrop p)).count + 1 ∧ t.time = s.time ∧
      (t.port p).pane.rxq = (s.port p).pane.rxq.drop 1 := by
  have hsame : ((s.rxPop p).port p).keys.segOf x.hdr x.slot x.body = none := by rwa [State.rxPop_port_same]
  refine ⟨_, exec_timePane_takes hlive hhead hserving, ?_⟩
  rw [State.takeTime_dropped hsame]
  refine ⟨State.bump_count (s := s.rxPop p) hcount, ?_, ?_⟩
  · rw [State.keep_time, State.bump_time]
    rfl
  · rw [State.keep_port, State.bump_port, State.rxPop_port_same]

/-- A TIME pane whose tag holds is noted of its port; of the parent, echoing a pane of the last 20 µs, it is an exchange (R305, R306). -/
theorem timePane_takes (hseg : ((s.port p).keys.segOf x.hdr x.slot x.body).isSome = true) (hver : x.body.headD 0 = 1) :
    ∃ t, exec (.timePane p) s = .next t ∧ (t.port p).time = (s.port p).time.heardFrom x.body x.tick ∧
      (t.port p).pane.rxq = (s.port p).pane.rxq.drop 1 ∧ t.counters = s.counters ∧
      t.time = if s.noExchange p x.body then s.time else (s.exchanged p x).time := by
  obtain ⟨g, hg⟩ := Option.isSome_iff_exists.mp hseg
  have hgpop : ((s.rxPop p).port p).keys.segOf x.hdr x.slot x.body = some g := by rwa [State.rxPop_port_same]
  have hsame : (s.rxPop p).noExchange p x.body = s.noExchange p x.body := by
    rw [State.noExchange, State.rxPop_port_same]
    rfl
  have hport (u : State) : (u.exchanged p x).port p = u.port p := rfl
  refine ⟨_, exec_timePane_takes hlive hhead hserving, ?_⟩
  rw [State.takeTime_noted hgpop hver, hsame]
  cases s.noExchange p x.body with
  | true =>
    rw [if_pos rfl, if_pos rfl, State.keep_port, State.noted_port_same, State.rxPop_port_same]
    exact ⟨rfl, rfl, rfl, rfl⟩
  | false =>
    rw [if_neg Bool.false_ne_true, if_neg Bool.false_ne_true, State.keep_port, hport, State.noted_port_same, State.rxPop_port_same]
    refine ⟨rfl, rfl, ?_, ?_⟩
    · rw [State.keep_counters, State.exchanged, State.modTime_counters, State.drawn_counters]
      rfl
    · rw [State.keep_time, State.exchanged, State.modTime_time, State.drawn_time]
      rfl

end

/-! ### HOLDOVER and the new parent (R306) -/

theorem timeHoldover_holds {s : State} (hclocked : s.clocked = true) (hslave : s.time.isMaster = false)
    (hstate : s.time.state = .synced ∨ s.time.state = .acquiring) (hpassed : s.usPassed s.time.lastValid 50 = true) :
    exec .timeHoldover s = .next { s with time := { s.time with state := .holdover, holdSince := some s.now, good := 0 } } := by
  have hsyncing : (s.time.state == .synced || s.time.state == .acquiring) = true := by simpa using hstate
  rw [exec_timeHoldover, hclocked, hslave, hsyncing, hpassed]
  rfl

theorem timeHoldover_early {s : State} (hpassed : s.usPassed s.time.lastValid 50 = false) : exec .timeHoldover s = .next s := by
  rw [exec_timeHoldover, hpassed, Bool.and_false, act_idle]

/-- A port a node can take as its parent (R306). -/
def State.canParent (s : State) (p : PortIx) : Bool := s.serving p && (s.port p).time.heard && (s.port p).time.farState == 2

theorem mem_allPorts (p : PortIx) : p ∈ allPorts := by decide +revert

/-- The parent taken is the first of the smallest depth among the ports that can be (R306). -/
theorem State.newParent_eq (s : State) : s.newParent = (allPorts.filter s.canParent).argmin (fun p => (s.port p).time.farDepth) := by
  unfold State.newParent List.argmin
  congr 1
  funext b p
  cases b <;> rfl

theorem State.newParent_nearest {s : State} {p : PortIx} (h : s.newParent = some p) : s.canParent p = true ∧
    ∀ q, s.canParent q = true → (s.port p).time.farDepth ≤ (s.port q).time.farDepth := by
  rw [State.newParent_eq] at h
  refine ⟨(List.mem_filter.mp (List.argmin_mem h)).2, fun q hq => ?_⟩
  exact List.le_of_mem_argmin (f := fun p => (s.port p).time.farDepth) (List.mem_filter.mpr ⟨mem_allPorts q, hq⟩) h

theorem timeReparent_chooses {s : State} {h : Nat} {p : PortIx} (hclocked : s.clocked = true) (hstate : s.time.state = .holdover)
    (hsince : s.time.holdSince = some h) (hpassed : s.usPassed h 100 = true) (hparent : s.newParent = some p) :
    exec .timeReparent s = .next { s with time := { s.time with parent := p.val, depth := (s.port p).time.farDepth + 1, holdSince := some s.now } } := by
  have hlong : s.holdoverLong = true := by simp only [State.holdoverLong, hstate, hsince, hpassed]; rfl
  show act (s.clocked && s.holdoverLong && s.newParent.isSome) s _ = _
  rw [hclocked, hlong, hparent]
  rfl

/-- Settles O29: a TIME pane sent is one codeword emitted (`Emits`), one received is noted of its port and may be an exchange, and the parent taken is
the nearest (`newParent_nearest`). -/
theorem podTimeIsKept : Obligations.PodTimeIsKept := by
  unfold Obligations.PodTimeIsKept
  refine ⟨fun s p => ⟨timePaneSend_sends, fun x hlive hhead hserving => ⟨timePane_drops hlive hhead hserving, fun hseg hver => ?_⟩⟩,
    fun s hclocked => ⟨timeHoldover_holds hclocked, timeHoldover_early, fun h p hstate hsince hpassed hparent => ?_⟩⟩
  · obtain ⟨t, hexec, htimes, hqueue, hcounters, htime⟩ := timePane_takes hlive hhead hserving hseg hver
    refine ⟨t, hexec, by rw [htimes]; rfl, by rw [htimes]; rfl, by rw [htimes]; rfl, by rw [htimes]; rfl, hqueue, hcounters, ?_⟩
    split
    case isTrue h => rwa [if_pos (State.noExchange_iff.mpr h)] at htime
    case isFalse h =>
      rw [if_neg (h ∘ State.noExchange_iff.mp)] at htime
      exact ⟨_, htime⟩
  · obtain ⟨hcan, hleast⟩ := State.newParent_nearest hparent
    simp only [State.canParent, Bool.and_eq_true, beq_iff_eq] at hcan hleast
    obtain ⟨⟨hserving, -⟩, hsynced⟩ := hcan
    exact ⟨timeReparent_chooses hclocked hstate hsince hpassed hparent, hserving, hsynced,
      fun q hq hheard hfar => hleast q ⟨⟨hq, hheard⟩, hfar⟩⟩

end Sys2Proof.Machine
end

section
/-!
PROOFS. Timetables loaded and run (R309, R311, R312): the statement TimetablesRun.
-/
namespace Sys2Proof.Machine

/-! ### TT_LOAD (R309, R312) -/

theorem exec_ttLoad (r : AdminRef) (s : State) :
    exec (.ttLoad r) s = act (s.mgmtIs r 0x0201 && s.lodgeTurn r && !s.readingContent (.admin r)) s (s.ttLoad r) := rfl

/-- A value that fits the low bits of its word has none above them. -/
theorem bits_of_lt {w : Word} {n : Nat} (h : bits w 63 0 < 2 ^ (n + 1)) : bits w 63 (n + 1) = 0 ∧ bits w n 0 = bits w 63 0 := by
  have hall : bits w 63 0 = w.toNat := by
    rw [bits_eq, Nat.pow_zero, Nat.div_one]
    exact Nat.mod_eq_of_lt w.isLt
  rw [hall] at h ⊢
  refine ⟨?_, ?_⟩
  · rw [bits_eq, Nat.div_eq_of_lt h, Nat.zero_mod]
  · rw [bits_eq, Nat.pow_zero, Nat.div_one]
    exact Nat.mod_eq_of_lt h

/-- The command is well formed (R309). -/
structure AdminCmd.NamesTable (c : AdminCmd) : Prop where
  pod : c.pav = 0
  ports : bits (c.arg 2) 63 6 = 0
  addr : bits (c.arg 3) 63 56 = 0
  align : bits (c.arg 3) 2 0 = 0
  count : bits (c.arg 4) 63 0 ≤ 4096
  least : 1024 ≤ bits (c.arg 5) 63 0
  most : bits (c.arg 5) 63 0 ≤ 2 ^ 32
  zero : c.zeroArgs [7] = true

/-- The entries of a table that has been read. -/
def AdminCmd.entries (c : AdminCmd) (l : List Byte) : List (Nat × Nat × Nat) := (List.range (bits (c.arg 4) 63 0)).map (ttEntry l)

/-- The table a command gives. -/
def AdminCmd.table (c : AdminCmd) (l : List Byte) : TimeTable :=
  { entries := c.entries l, period := bits (c.arg 5) 63 0, epoch := (c.arg 6).toNat }

/-- The state in which a table waits on ports. -/
def State.waitOn (s : State) (ports : List PortIx) (t : TimeTable) : State :=
  ports.foldl (fun a p => a.modPTime p (fun q => { q with waiting := some t })) s

/-- What TT_LOAD does with the range that has been read for the pod (R312). -/
def State.takeTable (s : State) (r : AdminRef) (c : AdminCmd) (table : ReadResult) : State :=
  match table with
  | .data l =>
    if l.length < 8 * bits (c.arg 4) 63 0 || !ttEntriesOk (bits (c.arg 5) 63 0) (c.entries l) then s.finish r asBadCommand
    else if (c.arg 6).toNat < s.podTime + usTicks 100 then s.finish r asBadState s.podTime
    else (s.waitOn (portsIn (bits (c.arg 2) 5 0)) (c.table l)).finish r asOk s.podTime
  | _ => s.finish r asBadCommand

theorem State.ttLoad_eq {s : State} {r : AdminRef} (h : (s.cmdD r).NamesTable) : s.ttLoad r =
    s.readThen (.admin r) (bits ((s.cmdD r).arg 3) 55 0) (8 * bits ((s.cmdD r).arg 4) 63 0) 0 (fun table t => t.takeTable r (s.cmdD r) table) := by
  obtain ⟨hcountRest, hcountLow⟩ := bits_of_lt (n := 12) (Nat.lt_of_le_of_lt h.count (by decide))
  obtain ⟨hperiodRest, hperiodLow⟩ := bits_of_lt (n := 32) (Nat.lt_of_le_of_lt h.most (by decide))
  have hcount : ¬ 4096 < bits ((s.cmdD r).arg 4) 63 0 := Nat.not_lt.mpr h.count
  have hleast : ¬ bits ((s.cmdD r).arg 5) 63 0 < 1024 := Nat.not_lt.mpr h.least
  have hmost : ¬ 2 ^ 32 < bits ((s.cmdD r).arg 5) 63 0 := Nat.not_lt.mpr h.most
  simp only [State.ttLoad, h.ports, h.addr, h.align, hcountRest, hcountLow, hperiodRest, hperiodLow, hcount, hleast, hmost, h.zero, h.pod,
    bne_self_eq_false, decide_false, Bool.not_true, Bool.or_self, Bool.false_and, Bool.false_eq_true, if_false]
  rfl

section
variable {s : State} {r : AdminRef} {c : AdminCmd} {l : List Byte}

theorem State.takeTable_lost {table : ReadResult} (h : ∀ l, table ≠ .data l) : s.takeTable r c table = s.finish r asBadCommand := by
  cases table with
  | data l => exact absurd rfl (h l)
  | fault => rfl
  | ue => rfl
  | partReset => rfl

theorem State.takeTable_bad (hbad : ttEntriesOk (bits (c.arg 5) 63 0) (c.entries l) = false) :
    s.takeTable r c (.data l) = s.finish r asBadCommand := by
  simp only [State.takeTable, hbad, Bool.not_false, Bool.or_true, if_true]

variable (hlen : 8 * bits (c.arg 4) 63 0 ≤ l.length) (hgood : ttEntriesOk (bits (c.arg 5) 63 0) (c.entries l) = true)
include hlen hgood

theorem State.takeTable_early (hearly : (c.arg 6).toNat < s.podTime + usTicks 100) :
    s.takeTable r c (.data l) = s.finish r asBadState s.podTime := by
  simp only [State.takeTable, Nat.not_lt.mpr hlen, hgood, decide_false, Bool.not_true, Bool.or_self, Bool.false_eq_true, if_false, hearly, if_true]

theorem State.takeTable_waits (hahead : s.podTime + usTicks 100 ≤ (c.arg 6).toNat) :
    s.takeTable r c (.data l) = (s.waitOn (portsIn (bits (c.arg 2) 5 0)) (c.table l)).finish r asOk s.podTime := by
  simp only [State.takeTable, Nat.not_lt.mpr hlen, hgood, decide_false, Bool.not_true, Bool.or_self, Bool.false_eq_true, if_false,
    Nat.not_lt.mpr hahead]

end

/-- The ports named by the low six bits of a word. -/
theorem mem_portsIn (w : Word) (p : PortIx) : p ∈ portsIn (bits w 5 0) ↔ bit w p.val = true := by
  have hbit : (bits w 5 0).testBit p.val = w.getLsbD p.val := by
    rw [bits, Nat.shiftRight_zero, Nat.testBit_mod_two_pow, BitVec.testBit_toNat]
    simp [p.isLt]
  simp [portsIn, mem_allPorts, bit, hbit]

/-- A table waits on the ports named and on no other. -/
theorem State.waitOn_port (ports : List PortIx) (t : TimeTable) (s : State) (p : PortIx) : (s.waitOn ports t).port p =
    if p ∈ ports then { s.port p with time := { (s.port p).time with waiting := some t } } else s.port p := by
  induction ports generalizing s with
  | nil => rfl
  | cons x ports ih =>
    have hstep : s.waitOn (x :: ports) t = (s.modPTime x (fun q => { q with waiting := some t })).waitOn ports t := rfl
    rw [hstep, ih]
    by_cases hx : p = x
    · subst hx
      simp
    · rw [State.modPTime_port_other _ _ _ _ hx]
      simp [hx]

theorem State.waitOn_front (ports : List PortIx) (t : TimeTable) (s : State) : (s.waitOn ports t).front = s.front :=
  foldl_keeps (R := fun a b : State => b.front = a.front) (fun _ => rfl) (fun h k => k.trans h) (fun _ _ _ => State.modPTime_front ..) s

section
variable {s : State} {r : AdminRef} (hcmd : s.mgmtIs r 0x0201 = true) (hturn : s.lodgeTurn r = true) (hform : (s.cmdD r).NamesTable)
include hcmd hturn hform

/-- A table not yet read is read first (R312). -/
theorem ttLoad_asks (hnone : s.contentRead (.admin r) = none) : ∃ t, exec (.ttLoad r) s = .next t ∧ t.ports = s.ports ∧ t.front = s.front ∧
    (t.contentRead (.admin r)).isSome = true ∧
    ∀ w ∈ readPieces (bits ((s.cmdD r).arg 3) 55 0) (8 * bits ((s.cmdD r).arg 4) 63 0) 0 (fun o => .content (.admin r) o), t.asks w := by
  refine ⟨s.keep (s.ttLoad r), by rw [exec_ttLoad, hcmd, hturn, State.readingContent_of_unread hnone]; rfl, ?_⟩
  rw [State.ttLoad_eq hform, readThen_reads (State.content_of_unread hnone)]
  exact ⟨by simp, by simp, s.readContent_contentRead .., fun w hw => s.readContent_asks _ _ _ _ hw⟩

/-- A table that has been read is taken. -/
theorem exec_ttLoad_takes {x : ReadResult} (hread : s.content (.admin r) = some x) :
    exec (.ttLoad r) s = .next (s.keep ((s.dropContent (.admin r)).takeTable r (s.cmdD r) x)) := by
  rw [exec_ttLoad, hcmd, hturn, State.readingContent_of_read hread, State.ttLoad_eq hform, readThen_performs hread]
  rfl

/-- A command that is finished with what has been read alone gives no port a table. -/
theorem ttLoad_refuses {x : ReadResult} (hread : s.content (.admin r) = some x) {st r1 : Nat}
    (hends : (s.dropContent (.admin r)).takeTable r (s.cmdD r) x = (s.dropContent (.admin r)).finish r st r1) :
    ∃ t, exec (.ttLoad r) s = .next t ∧ t.ports = s.ports ∧ t.phaseOf r = some (.finished st 0 r1 0 0) := by
  refine ⟨_, exec_ttLoad_takes hcmd hturn hform hread, ?_⟩
  rw [hends]
  exact ⟨by simp, State.finish_phaseOf (s := s.dropContent (.admin r)) (State.unfinished_of_mgmtIs hcmd) st r1 0 0 0⟩

/-- A table in order, far enough ahead, waits on every port named (R312). -/
theorem ttLoad_waits {l : List Byte} (hread : s.content (.admin r) = some (.data l)) (hlen : 8 * bits ((s.cmdD r).arg 4) 63 0 ≤ l.length)
    (hgood : ttEntriesOk (bits ((s.cmdD r).arg 5) 63 0) ((s.cmdD r).entries l) = true)
    (hahead : s.podTime + usTicks 100 ≤ ((s.cmdD r).arg 6).toNat) :
    ∃ t, exec (.ttLoad r) s = .next t ∧ t.phaseOf r = some (.finished 0 0 s.podTime 0 0) ∧
      ∀ p, t.port p = if bit ((s.cmdD r).arg 2) p.val then
        { s.port p with time := { (s.port p).time with waiting := some ((s.cmdD r).table l) } } else s.port p := by
  have hwaits : (s.dropContent (.admin r)).takeTable r (s.cmdD r) (.data l) = _ := State.takeTable_waits hlen hgood hahead
  have hsame := (s.dropContent (.admin r)).waitOn_front (portsIn (bits ((s.cmdD r).arg 2) 5 0)) ((s.cmdD r).table l)
  have hcmds := State.cmd_congr (congrArg FrontEnd.cmds hsame) r
  have hopen := (congrArg (fun c => Option.any AdminCmd.unfinished c) hcmds).trans (State.unfinished_of_mgmtIs hcmd)
  refine ⟨_, exec_ttLoad_takes hcmd hturn hform hread, ?_⟩
  rw [hwaits]
  refine ⟨State.finish_phaseOf hopen asOk s.podTime 0 0 0, fun p => ?_⟩
  rw [State.keep_port, State.finish_port, State.waitOn_port]
  simp only [mem_portsIn]
  rfl

end

/-! ### The table of a port (R311, R312) -/

/-- Between two states windows of a port close: its waiting table, the front end and the other ports stay. -/
structure State.Closes (p : PortIx) (s u : State) : Prop where
  waiting : (u.port p).time.waiting = (s.port p).time.waiting
  front : u.front = s.front
  others : ∀ q, q ≠ p → u.port q = s.port q

theorem State.Closes.refl (p : PortIx) (s : State) : s.Closes p s := ⟨rfl, rfl, fun _ _ => rfl⟩

theorem State.Closes.trans {p : PortIx} {s u v : State} (h : s.Closes p u) (k : u.Closes p v) : s.Closes p v :=
  ⟨k.waiting.trans h.waiting, k.front.trans h.front, fun q hq => (k.others q hq).trans (h.others q hq)⟩

/-- A window closed is noted no more; its count says whether a send of its slot was unfinished (R311). -/
theorem State.closeWindow_eq (s : State) (p : PortIx) (w : Nat × Nat) : s.closeWindow p w =
    if s.slotUnfinished p w.1 then (s.modPTime p (fun t => { t with opened := t.opened.erase w })).bump (ctrTtOverrun p)
    else s.modPTime p (fun t => { t with opened := t.opened.erase w }) := rfl

theorem State.closeWindow_closes (s : State) (p : PortIx) (w : Nat × Nat) : s.Closes p (s.closeWindow p w) := by
  have hnoted : s.Closes p (s.modPTime p (fun t => { t with opened := t.opened.erase w })) :=
    ⟨by rw [State.modPTime_port_same], rfl, fun q hq => State.modPTime_port_other _ _ _ _ hq⟩
  rw [State.closeWindow_eq]
  split
  · exact hnoted.trans ⟨by simp, by simp, fun _ _ => by simp⟩
  · exact hnoted

/-- The state in which the windows of a port's old table have closed (R312). -/
def State.allClosed (s : State) (p : PortIx) : State := (s.port p).time.opened.foldl (fun a w => a.closeWindow p w) s

theorem State.allClosed_closes (s : State) (p : PortIx) : s.Closes p (s.allClosed p) :=
  foldl_keeps (.refl p) .trans (fun w _ a => a.closeWindow_closes p w) s

theorem exec_ttEpoch {s : State} {p : PortIx} {w : TimeTable} (hlive : s.live = true) (hwaiting : (s.port p).time.waiting = some w)
    (hepoch : w.epoch ≤ s.podTime) :
    exec (.ttEpoch p) s = .next (s.keep ((s.allClosed p).modPTime p (fun t => { t with active := t.waiting, waiting := none }))) := by
  show act (s.live && (s.port p).time.waiting.any (fun t => decide (t.epoch ≤ s.podTime))) s _ = _
  rw [hlive, hwaiting, Option.any_some, decide_eq_true hepoch]
  rfl

/-- At its EPOCH the waiting table is in force (R312). -/
theorem ttEpoch_begins {s : State} {p : PortIx} {w : TimeTable} (hlive : s.live = true) (hwaiting : (s.port p).time.waiting = some w)
    (hepoch : w.epoch ≤ s.podTime) :
    ∃ t, exec (.ttEpoch p) s = .next t ∧ (t.port p).time.active = some w ∧ (t.port p).time.waiting = none ∧ t.front = s.front ∧
      ∀ q, q ≠ p → t.port q = s.port q := by
  have hcloses := s.allClosed_closes p
  refine ⟨_, exec_ttEpoch hlive hwaiting hepoch, ?_, ?_, hcloses.front, fun q hq => ?_⟩
  · rw [State.keep_port, State.modPTime_port_same]
    exact hcloses.waiting.trans hwaiting
  · rw [State.keep_port, State.modPTime_port_same]
  · rw [State.keep_port, State.modPTime_port_other _ _ _ _ hq, hcloses.others q hq]

/-! ### A window that opens (R311) -/

/-- Between two states chunks are sent: the times of the ports and the front end stay. -/
structure State.TimesKept (s u : State) : Prop where
  ptime : ∀ p, (u.port p).time = (s.port p).time
  front : u.front = s.front

namespace State.TimesKept

variable {s u v : State}

theorem refl (s : State) : s.TimesKept s := ⟨fun _ => rfl, rfl⟩

theorem trans (h : s.TimesKept u) (k : u.TimesKept v) : s.TimesKept v := ⟨fun p => (k.ptime p).trans (h.ptime p), k.front.trans h.front⟩

theorem of_ports (hports : u.ports = s.ports) (hfront : u.front = s.front) : s.TimesKept u := ⟨fun p => by rw [State.port, State.port, hports], hfront⟩

theorem of_modGslot (s : State) (i : Nat) (f : GSlot → GSlot) : s.TimesKept (s.modGslot i f) := of_ports rfl rfl

theorem of_modRun (s : State) (i : Nat) (f : Run → Run) : s.TimesKept (s.modRun i f) := of_modGslot s i _

theorem of_bump (s : State) (off : Nat) : s.TimesKept (s.bump off) := of_ports (by simp) (by simp)

theorem of_sendVia (s : State) (p cls key : Nat) (m : Msg) : s.TimesKept (s.sendVia p cls key m) := by
  refine ⟨fun o => ?_, State.sendVia_front ..⟩
  unfold State.sendVia
  split
  · rfl
  split
  · next h =>
    by_cases ho : o = ⟨p, h⟩
    · subst ho
      dsimp only
      rw [State.modPane_port_same]
    · dsimp only
      rw [State.modPane_port_other _ _ _ _ ho]
  · rfl

end State.TimesKept

theorem State.sendChunk_timesKept (s : State) (i : Nat) (q : GSlot) (r : Run) (k x : Nat) (t : Send) (fmt c : Nat) (data : List Byte) :
    s.TimesKept (s.sendChunk i q r k x t fmt c data) :=
  foldl_keeps .refl .trans (fun _ _ u => .of_sendVia u ..) s

theorem State.pumpSend_timesKept (i k x n : Nat) (s : State) : s.TimesKept (s.pumpSend i k x n) := by
  induction n generalizing s with
  | zero => exact .refl s
  | succ n ih =>
    unfold State.pumpSend
    split
    case h_1 => exact .refl s
    split
    case h_1 => exact .refl s
    dsimp only
    split
    case h_1 => exact .refl s
    split
    case isTrue => exact .refl s
    split
    case h_1 => exact .refl s
    case h_2 =>
      split
      · exact ((State.TimesKept.of_modRun s i _).trans (.of_bump ..)).trans (ih _)
      · exact (State.TimesKept.of_modRun s i _).trans (ih _)
    case h_3 =>
      split
      · exact .of_modRun s i _
      · exact (((State.TimesKept.of_modGslot s i _).trans (.of_modRun _ i _)).trans (State.sendChunk_timesKept ..)).trans (ih _)

theorem State.pumpSends_timesKept (s : State) (i : Nat) : s.TimesKept (s.pumpSends i) := by
  unfold State.pumpSends
  split
  · exact .refl s
  · exact foldl_keeps .refl .trans (fun k _ t => (State.pumpSend_timesKept i k 0 5 t).trans (State.pumpSend_timesKept i k 1 5 _)) s

/-- The sends that wait for a slot begin, and no port's times change. -/
theorem State.beginSlot_timesKept (s : State) (p : PortIx) (slot : Nat) : s.TimesKept (s.beginSlot p slot) :=
  State.TimesKept.trans (foldl_keeps .refl .trans (fun e _ t => .of_modRun t e.1 _) s)
    (foldl_keeps .refl .trans (fun i _ t => t.pumpSends_timesKept i) _)

theorem exec_ttWindowOpen {s : State} {p : PortIx} {w : Nat × Nat} (hlive : s.live = true) (hopening : s.opening p = some w) :
    exec (.ttWindowOpen p) s = .next (s.keep ((s.modPTime p (fun t => { t with opened := t.opened ++ [w] })).beginSlot p w.1)) := by
  show act (s.live && (s.opening p).isSome) s _ = _
  rw [hlive, hopening]
  rfl

/-- A window that opens is noted (R311). -/
theorem ttWindowOpen_notes {s : State} {p : PortIx} {w : Nat × Nat} (hlive : s.live = true) (hopening : s.opening p = some w) :
    ∃ t, exec (.ttWindowOpen p) s = .next t ∧ (t.port p).time = { (s.port p).time with opened := (s.port p).time.opened ++ [w] } ∧
      t.front = s.front := by
  have hbegins := (s.modPTime p (fun t => { t with opened := t.opened ++ [w] })).beginSlot_timesKept p w.1
  refine ⟨_, exec_ttWindowOpen hlive hopening, ?_, hbegins.front⟩
  rw [State.keep_port, hbegins.ptime, State.modPTime_port_same]

/-! ### A window that closes (R311) -/

theorem exec_ttWindowClose {s : State} {p : PortIx} {w : Nat × Nat} (hlive : s.live = true) (hclosing : s.closing p = some w) :
    exec (.ttWindowClose p) s = .next (s.keep (s.closeWindow p w)) := by
  show act (s.live && (s.closing p).isSome) s _ = _
  rw [hlive, hclosing]
  rfl

theorem ttWindowClose_closes {s : State} {p : PortIx} {w : Nat × Nat} (hlive : s.live = true) (hclosing : s.closing p = some w)
    (hcount : (s.counter (ctrTtOverrun p)).count < 0xFFFFFFFE) :
    ∃ t, exec (.ttWindowClose p) s = .next t ∧ (t.port p).time = { (s.port p).time with opened := (s.port p).time.opened.erase w } ∧
      t.front = s.front ∧ t.gather = s.gather ∧
      (t.counter (ctrTtOverrun p)).count = (s.counter (ctrTtOverrun p)).count + (if s.slotUnfinished p w.1 then 1 else 0) := by
  refine ⟨_, exec_ttWindowClose hlive hclosing, ?_⟩
  rw [State.closeWindow_eq]
  split
  · refine ⟨?_, by simp, by simp, State.bump_count (s := s.modPTime p _) hcount⟩
    rw [State.keep_port, State.bump_port, State.modPTime_port_same]
  · refine ⟨?_, rfl, rfl, (BitVec.add_zero _).symm⟩
    rw [State.keep_port, State.modPTime_port_same]

/-- Settles O30: TT_LOAD by what it does with the range read (`takeTable`), the table of a port by what closes with its windows (`Closes`) and what
the sends that begin leave (`TimesKept`). -/
theorem timetablesRun : Obligations.TimetablesRun := by
  unfold Obligations.TimetablesRun
  refine ⟨fun s r hcmd hturn hpod hports haddr halign hcount hleast hmost hzero => ?_, fun s p hlive => ⟨fun w hwaiting hepoch => ?_,
    fun w hopening => ttWindowOpen_notes hlive hopening, fun w hclosing hcount => ttWindowClose_closes hlive hclosing hcount⟩⟩
  · have hform : (s.cmdD r).NamesTable := ⟨hpod, hports, haddr, halign, hcount, hleast, hmost, hzero⟩
    refine ⟨ttLoad_asks hcmd hturn hform, fun l hread hlen => ⟨fun hbad => ?_, fun hgood hearly => ?_, fun hgood hahead => ?_⟩, fun x hread hlost => ?_⟩
    · exact ttLoad_refuses hcmd hturn hform hread (State.takeTable_bad hbad)
    · exact ttLoad_refuses hcmd hturn hform hread (State.takeTable_early hlen hgood hearly)
    · exact ttLoad_waits hcmd hturn hform hread hlen hgood hahead
    · exact ttLoad_refuses hcmd hturn hform hread (State.takeTable_lost hlost)
  · exact ttEpoch_begins hlive hwaiting hepoch

end Sys2Proof.Machine
end

section
/-!
PROOFS. Headers, responses and training configurations read back as written (R327, R330, R379): the statement HeadersReadBack.
-/
namespace Sys2Proof.Machine

theorem place_of_lt {v lo len : Nat} (h : v < 2 ^ len) : place v lo len = v * 2 ^ lo := by
  rw [place, Nat.mod_eq_of_lt h, Nat.shiftLeft_eq]

theorem bits_lt {n : Nat} (w : BitVec n) (hi lo : Nat) : bits w hi lo < 2 ^ (hi + 1 - lo) := Nat.mod_lt _ (Nat.two_pow_pos _)

/-- One bit of a word, as the number it stands for. -/
theorem b2n_bit {n : Nat} (w : BitVec n) (i : Nat) : b2n (bit w i) = w.toNat / 2 ^ i % 2 := by
  rw [bit, BitVec.getLsbD, Nat.testBit_eq_decide_div_mod_eq, b2n]
  rcases Nat.mod_two_eq_zero_or_one (w.toNat / 2 ^ i) with h | h <;> simp [h]

theorem b2n_injective : ∀ {a b : Bool}, b2n a = b2n b → a = b := by decide

theorem b2n_lt (b : Bool) : b2n b < 2 := by cases b <;> decide

section
variable {kind dest src tag use sgen cgen window offset lc : Nat} {ord : Bool} (hkind : kind < 2 ^ 4) (hdest : dest < 2 ^ 13) (hsrc : src < 2 ^ 13)
  (htag : tag < 2 ^ 14) (huse : use < 2 ^ 6) (hsgen : sgen < 2 ^ 8) (hcgen : cgen < 2 ^ 8) (hwindow : window < 2 ^ 16) (hoffset : offset < 2 ^ 40)
  (hlc : lc < 2 ^ 5)
include hkind hdest hsrc htag huse hsgen hcgen hwindow hoffset hlc

/-- A request header whose fields fit is their sum, each at its place. -/
theorem mkReqHdr_toNat : (mkReqHdr kind ord dest src tag use sgen cgen window offset lc).toNat =
    kind * 2 ^ 124 + b2n ord * 2 ^ 123 + dest * 2 ^ 110 + src * 2 ^ 97 + tag * 2 ^ 83 + use * 2 ^ 77 + sgen * 2 ^ 69 + cgen * 2 ^ 61 + window * 2 ^ 45 +
      offset * 2 ^ 5 + lc := by
  have hord := b2n_lt ord
  rw [mkReqHdr, unit, BitVec.toNat_ofNat, place_of_lt hkind, place_of_lt (v := b2n ord) hord, place_of_lt hdest, place_of_lt hsrc, place_of_lt htag,
    place_of_lt huse, place_of_lt hsgen, place_of_lt hcgen, place_of_lt hwindow, place_of_lt hoffset, place_of_lt hlc]
  simp only [Nat.reducePow] at *
  omega

/-- Every field of a request header reads back (R327). -/
theorem mkReqHdr_reads : let h := mkReqHdr kind ord dest src tag use sgen cgen window offset lc
    bits h 127 124 = kind ∧ hdrOrd h = ord ∧ hdrDest h = dest ∧ hdrSrc h = src ∧ hdrTag h = tag ∧ hdrUse h = use ∧ hdrSgen h = sgen ∧ hdrCgen h = cgen ∧
      hdrWindow h = window ∧ hdrOffset h = offset ∧ hdrLc h = lc := by
  intro h
  have hnat : h.toNat = _ := mkReqHdr_toNat (ord := ord) hkind hdest hsrc htag huse hsgen hcgen hwindow hoffset hlc
  have hord := b2n_lt ord
  have hflag : hdrOrd h = ord ↔ h.toNat / 2 ^ 123 % 2 = b2n ord := by
    rw [← b2n_bit]
    exact ⟨congrArg b2n, b2n_injective⟩
  rw [hflag]
  clear_value h
  simp only [hdrDest, hdrSrc, hdrTag, hdrUse, hdrSgen, hdrCgen, hdrWindow, hdrOffset, hdrLc, bits_eq, hnat, Nat.reducePow, Nat.reduceAdd,
    Nat.reduceSub] at *
  refine ⟨?_, ?_, ?_, ?_, ?_, ?_, ?_, ?_, ?_, ?_, ?_⟩ <;> omega

end

section
variable (h : LinkUnit) {own st fl len : Nat} (hown : own < 2 ^ 13) (hst : st < 2 ^ 8) (hfl : fl < 2 ^ 7) (hlen : len < 2 ^ 13)
include hown hst hfl hlen

/-- A response header whose own fields fit is the sum of its fields, those it echoes among them. -/
theorem mkRspHdr_toNat : (mkRspHdr h own st fl len).toNat =
    kResponse * 2 ^ 124 + hdrSrc h * 2 ^ 110 + own * 2 ^ 97 + hdrTag h * 2 ^ 83 + hdrUse h * 2 ^ 77 + hdrSgen h * 2 ^ 69 + hdrCgen h * 2 ^ 61 + st * 2 ^ 53 +
      fl * 2 ^ 46 + len * 2 ^ 33 := by
  have hsrc : hdrSrc h < 2 ^ 13 := bits_lt h 109 97
  have htag : hdrTag h < 2 ^ 14 := bits_lt h 96 83
  have huse : hdrUse h < 2 ^ 6 := bits_lt h 82 77
  have hsgen : hdrSgen h < 2 ^ 8 := bits_lt h 76 69
  have hcgen : hdrCgen h < 2 ^ 8 := bits_lt h 68 61
  rw [mkRspHdr, unit, BitVec.toNat_ofNat, place_of_lt (v := kResponse) (by decide), place_of_lt hsrc, place_of_lt hown, place_of_lt htag, place_of_lt huse,
    place_of_lt hsgen, place_of_lt hcgen, place_of_lt hst, place_of_lt hfl, place_of_lt hlen]
  simp only [kResponse, Nat.reducePow] at *
  omega

/-- Every field of a response reads back; those it echoes are the request's (R330). -/
theorem mkRspHdr_reads : let a := mkRspHdr h own st fl len
    bits a 127 124 = kResponse ∧ hdrDest a = hdrSrc h ∧ hdrSrc a = own ∧ hdrTag a = hdrTag h ∧ hdrUse a = hdrUse h ∧ hdrSgen a = hdrSgen h ∧
      hdrCgen a = hdrCgen h ∧ rspStatus a = st ∧ rspFlags a = fl ∧ rspLen a = len := by
  intro a
  have hnat : a.toNat = _ := mkRspHdr_toNat h hown hst hfl hlen
  have hsrc : hdrSrc h < 2 ^ 13 := bits_lt h 109 97
  have htag : hdrTag h < 2 ^ 14 := bits_lt h 96 83
  have huse : hdrUse h < 2 ^ 6 := bits_lt h 82 77
  have hsgen : hdrSgen h < 2 ^ 8 := bits_lt h 76 69
  have hcgen : hdrCgen h < 2 ^ 8 := bits_lt h 68 61
  generalize hdrSrc h = src, hdrTag h = tag, hdrUse h = use, hdrSgen h = sgen, hdrCgen h = cgen at *
  clear_value a
  simp only [hdrDest, hdrSrc, hdrTag, hdrUse, hdrSgen, hdrCgen, rspStatus, rspFlags, rspLen, kResponse, bits_eq, hnat, Nat.reducePow, Nat.reduceAdd,
    Nat.reduceSub] at *
  refine ⟨?_, ?_, ?_, ?_, ?_, ?_, ?_, ?_, ?_, ?_⟩ <;> omega

end

/-- A configuration stands in bytes 24 to 28 of a message (R379). -/
theorem TrainCfg.ofBody_args {c : TrainCfg} {lead : List Byte} (tail : List Byte) (hlead : lead.length = 24) (hactive : c.active < 2 ^ 13)
    (hwidth : c.width < 2 ^ 8) (hstep : c.step < 2 ^ 8) (haction : c.action < 2 ^ 8) : TrainCfg.ofBody (lead ++ c.args ++ tail) = c := by
  have hargs : c.args = [BitVec.ofNat 8 (c.active / 256), BitVec.ofNat 8 c.active, BitVec.ofNat 8 c.width, BitVec.ofNat 8 c.step, BitVec.ofNat 8 c.action] := rfl
  have hmask : (c.active / 256 % 256 * 256 + c.active % 256) % 8192 = c.active := by omega
  obtain ⟨active, width, step, action⟩ := c
  rw [List.append_assoc, hargs]
  simp only at *
  have hget (i : Nat) (l : List Byte) : (lead ++ l).getD (24 + i) 0 = l.getD i 0 := by
    rw [List.getD_append_right _ _ _ _ (by omega), hlead, Nat.add_sub_cancel_left]
  have hslice (l : List Byte) : slice (lead ++ l) 24 2 = l.take 2 := by rw [slice, List.drop_left' hlead]
  simp only [TrainCfg.ofBody, beAt, hslice, hget 2, hget 3, hget 4, TrainCfg.mk.injEq]
  simpa [beNat, hmask] using And.intro hwidth (And.intro hstep haction)

/-- Settles O57: each header is the sum of its fields at their places, from which every field is read by its quotient and remainder. -/
theorem headersReadBack : Obligations.HeadersReadBack := by
  unfold Obligations.HeadersReadBack
  refine ⟨fun kind dest src tag use sgen cgen window offset lc ord hkind hdest hsrc htag huse hsgen hcgen hwindow hoffset hlc => ?_,
    fun c lead tail hlead hactive hwidth hstep haction => TrainCfg.ofBody_args tail hlead hactive hwidth hstep haction⟩
  obtain ⟨rkind, rord, rdest, rsrc, rtag, ruse, rsgen, rcgen, rwindow, roffset, rlc⟩ :=
    mkReqHdr_reads (ord := ord) hkind hdest hsrc htag huse hsgen hcgen hwindow hoffset hlc
  refine ⟨rkind, rord, rdest, rsrc, rtag, ruse, rsgen, rcgen, rwindow, roffset, rlc, fun own st fl len hown hst hfl hlen => ?_⟩
  have hreads := mkRspHdr_reads (mkReqHdr kind ord dest src tag use sgen cgen window offset lc) hown hst hfl hlen
  rwa [rsrc, rtag, ruse, rsgen, rcgen] at hreads

end Sys2Proof.Machine
end

section
/-!
PROOFS. The statement CodewordsAreReceived fails: a port whose domains wait for their acknowledgement takes no codeword (R472).
-/
namespace Sys2Proof.Machine

/-- Port 0 is in TRAINING, and its port domain is switched on with the acknowledgement still to come, as after a write of ENABLE (R373, R472). -/
def domainWaitState : State :=
  { ({} : State).modPane 0 (fun q => { q with link := .training }) with power := { domReqs := [{ domain := 78, since := 0 }] } }

theorem exec_codewordReceive (p : PortIx) (lane : Nat) (bytes : List Byte) (s : State) : exec (.codewordReceive p lane bytes) s =
    act (s.linkLive && !s.portWaits p && ((s.port p).pane.link != .down || (s.port p).lane.testing) && bytes.length == 272 && decide (lane < 13)) s
      (if (s.port p).lane.testing then s.testReceive p lane bytes else s.receive p lane bytes) := rfl

/-- A port that waits for its domains takes no codeword (R472). -/
theorem codewordReceive_waits {s : State} {p : PortIx} (hwaits : s.portWaits p = true) (lane : Nat) (bytes : List Byte) :
    exec (.codewordReceive p lane bytes) s = .next s := by
  rw [exec_codewordReceive, hwaits, Bool.not_true, Bool.and_false, Bool.false_and, Bool.false_and, Bool.false_and, act_idle]

set_option maxRecDepth 20000 in
/-- 272 zero bytes, descrambled, are a word that nothing corrects (R366, R367). -/
theorem zeros_uncorrectable : fecDecode ((domainWaitState.port 0).descramble 0 (List.replicate 272 0)).1 = none := by decide +kernel

/-- Refutes O32. The clause of an uncorrectable codeword in training says that it is counted, and no premise of it excludes a port that waits for its
domains: `domainWaitState` is such a port, lane 0 brings it 272 zero bytes that nothing corrects, and nothing changes. With the premise
`s.portWaits p = false` the counterexample goes. -/
theorem not_codewordsAreReceived : ¬ Obligations.CodewordsAreReceived := by
  unfold Obligations.CodewordsAreReceived
  rintro ⟨htraining, -⟩
  obtain ⟨t, hexec, hcounted, -⟩ := htraining domainWaitState 0 0 (List.replicate 272 0) (by decide +kernel) (by decide +kernel) (by decide +kernel)
    (by decide) List.length_replicate zeros_uncorrectable (by decide +kernel)
  rw [codewordReceive_waits (by decide +kernel)] at hexec
  rw [← Host.Outcome.next.inj hexec] at hcounted
  exact absurd hcounted (by decide +kernel)

end Sys2Proof.Machine
end

section
/-!
SUPPORT. What the operations of the pane layer change of a pane and of the ports, and what they leave, each said once (R315 to R362).
-/
namespace Sys2Proof.Machine

/-! ### Virtual-channel counts (R336, R337) -/

@[simp] theorem Pane.modVc_vc_same (q : Pane) (v : Nat) (f : VcCount → VcCount) : (q.modVc v f).vc v = f (q.vc v) := Table.get_put_same ..

theorem Pane.modVc_vc_other (q : Pane) {v w : Nat} (h : w ≠ v) (f : VcCount → VcCount) : (q.modVc v f).vc w = q.vc w := Table.get_put_other _ _ _ h

/-- Counts of several channels changed change nothing else of the pane. -/
theorem Pane.foldl_modVc (f : Pane → Nat → VcCount → VcCount) (l : List Nat) (q : Pane) :
    ∃ t, l.foldl (fun a v => a.modVc v (f a v)) q = { q with vcs := t } := by
  induction l generalizing q with
  | nil => exact ⟨q.vcs, rfl⟩
  | cons v l ih =>
    obtain ⟨t, ht⟩ := ih (q.modVc v (f q v))
    exact ⟨t, ht⟩

/-- Each of several channels is changed once. -/
theorem Pane.foldl_modVc_vc (f : Nat → VcCount → VcCount) {l : List Nat} (hl : l.Nodup) (q : Pane) (w : Nat) :
    (l.foldl (fun a v => a.modVc v (f v)) q).vc w = if w ∈ l then f w (q.vc w) else q.vc w := by
  induction l generalizing q with
  | nil => rfl
  | cons v l ih =>
    obtain ⟨hv, hl⟩ := List.nodup_cons.mp hl
    rw [List.foldl_cons, ih hl]
    by_cases hw : w = v
    · subst hw
      simp [hv]
    · simp [hw, Pane.modVc_vc_other]

theorem mem_vcIds {v : Nat} : v ∈ vcIds ↔ v < 12 := List.mem_range

theorem vcIds_nodup : vcIds.Nodup := List.nodup_range

/-- Shared slots granted change the counts and the turn alone. -/
theorem Pane.grantShared_eq (n : Nat) (q : Pane) : ∃ t k, q.grantShared n = { q with vcs := t, grantRr := k } := by
  induction n generalizing q with
  | zero => exact ⟨q.vcs, q.grantRr, rfl⟩
  | succ n ih =>
    unfold Pane.grantShared
    split
    · exact ⟨q.vcs, q.grantRr, rfl⟩
    split
    · exact ⟨q.vcs, q.grantRr, rfl⟩
    · exact ih _

/-- Shared slots granted leave what the far end said of each channel. -/
theorem Pane.grantShared_far (n : Nat) (q : Pane) (w : Nat) :
    ((q.grantShared n).vc w).last = (q.vc w).last ∧ ((q.grantShared n).vc w).demand = (q.vc w).demand := by
  induction n generalizing q with
  | zero => exact ⟨rfl, rfl⟩
  | succ n ih =>
    unfold Pane.grantShared
    split
    · exact ⟨rfl, rfl⟩
    split
    · exact ⟨rfl, rfl⟩
    case h_2 v _ =>
      obtain ⟨hlast, hdemand⟩ := ih { q.modVc v VcCount.grant with grantRr := v }
      rw [hlast, hdemand]
      change ((q.modVc v VcCount.grant).vc w).last = _ ∧ ((q.modVc v VcCount.grant).vc w).demand = _
      by_cases hw : w = v
      · subst hw
        rw [Pane.modVc_vc_same]
        exact ⟨rfl, rfl⟩
      · rw [Pane.modVc_vc_other q hw]
        exact ⟨rfl, rfl⟩

/-! ### RET values and CUMACK taken (R337, R341, R344) -/

theorem Pane.takeRet_some {q q' : Pane} {v r : Nat} (h : q.takeRet v r = some q') : q' = q.modVc v (fun c => { c with last := r % 4096 }) := by
  unfold Pane.takeRet at h
  dsimp only at h
  split at h
  · cases h
  split at h
  · cases h
  · exact (Option.some.inj h).symm

theorem Pane.takeRets_cons (q : Pane) (e : Nat × Nat) (l : List (Nat × Nat)) :
    q.takeRets (e :: l) = (q.takeRet e.1 e.2).bind (fun x => x.takeRets l) := by
  have hnone : l.foldl (fun a e => a.bind (fun x => x.takeRet e.1 e.2)) (none : Option Pane) = none := by
    induction l with
    | nil => rfl
    | cons _ _ ih => exact ih
  rw [Pane.takeRets, List.foldl_cons, Option.bind_some]
  cases q.takeRet e.1 e.2 with
  | none => exact hnone
  | some x => rfl

/-- Each of several channels has the RET value taken for it. -/
theorem Pane.takeRets_last {l : List Nat} (hl : l.Nodup) (f : Nat → Nat) {q q' : Pane} (h : q.takeRets (l.map (fun v => (v, f v))) = some q') (w : Nat) :
    (q'.vc w).last = if w ∈ l then f w % 4096 else (q.vc w).last := by
  induction l generalizing q with
  | nil => rw [← Option.some.inj h]; rfl
  | cons v l ih =>
    obtain ⟨hv, hl⟩ := List.nodup_cons.mp hl
    rw [List.map_cons, Pane.takeRets_cons] at h
    obtain ⟨x, hx, hrest⟩ := Option.bind_eq_some_iff.mp h
    rw [ih hl hrest, Pane.takeRet_some hx]
    by_cases hw : w = v
    · subst hw
      simp [hv]
    · simp [hw, Pane.modVc_vc_other]

/-- CUMACK taken changes what is acknowledged alone. -/
theorem Pane.takeAck_some {q q' : Pane} {c now : Nat} (h : q.takeAck c now = some q') :
    ∃ l n e a k, q' = { q with cullet := l, ackNext := n, ackExpiries := e, ackStart := a, ackTimeout := k } := by
  unfold Pane.takeAck at h
  dsimp only at h
  split at h
  · exact ⟨q.cullet, q.ackNext, q.ackExpiries, q.ackStart, q.ackTimeout, (Option.some.inj h).symm⟩
  split at h
  · exact ⟨_, _, _, _, _, (Option.some.inj h).symm⟩
  · cases h

/-- The fields of a header taken change what is acknowledged and the counts alone. -/
theorem Pane.takeFields_some {q q' : Pane} {h : Word} {now : Nat} (htaken : q.takeFields h now = some q') :
    ∃ l n e a k t, q' = { q with cullet := l, ackNext := n, ackExpiries := e, ackStart := a, ackTimeout := k, vcs := t } := by
  obtain ⟨x, hx, hret⟩ := Option.bind_eq_some_iff.mp htaken
  obtain ⟨l, n, e, a, k, rfl⟩ := Pane.takeAck_some hx
  split at hret
  · exact ⟨l, n, e, a, k, _, Pane.takeRet_some hret⟩
  · exact ⟨l, n, e, a, k, q.vcs, (Option.some.inj hret).symm⟩

/-- A pane with another queue of received panes, count of retransmissions received and acknowledgement due. -/
def Pane.arriving (q : Pane) (l : List RxPane) (n : Nat) (due : Bool) : Pane := { q with rxq := l, rxRetx := n, ackDue := due }

section
variable (q : Pane) (l : List RxPane) (n : Nat) (due : Bool)

theorem Pane.takeRet_arriving (v r : Nat) : (q.arriving l n due).takeRet v r = (q.takeRet v r).map (fun x => x.arriving l n due) := by
  simp only [Pane.takeRet, apply_ite (Option.map (fun x : Pane => x.arriving l n due)), Option.map_none, Option.map_some]
  rfl

theorem Pane.takeAck_arriving (c now : Nat) : (q.arriving l n due).takeAck c now = (q.takeAck c now).map (fun x => x.arriving l n due) := by
  simp only [Pane.takeAck, apply_ite (Option.map (fun x : Pane => x.arriving l n due)), Option.map_none, Option.map_some]
  rfl

/-- What a header says is taken alike whatever else has arrived. -/
theorem Pane.takeFields_arriving (h : Word) (now : Nat) :
    (q.arriving l n due).takeFields h now = (q.takeFields h now).map (fun x => x.arriving l n due) := by
  rw [Pane.takeFields, Pane.takeFields, Pane.takeAck_arriving]
  cases q.takeAck (paneAck h) now with
  | none => rfl
  | some x =>
    simp only [Option.map_some, Option.bind_some]
    split
    · exact Pane.takeRet_arriving ..
    · rfl

theorem Pane.takeRets_arriving (e : List (Nat × Nat)) : (q.arriving l n due).takeRets e = (q.takeRets e).map (fun x => x.arriving l n due) := by
  induction e generalizing q with
  | nil => rfl
  | cons e r ih =>
    rw [Pane.takeRets_cons, Pane.takeRets_cons, Pane.takeRet_arriving]
    cases q.takeRet e.1 e.2 with
    | none => rfl
    | some x => exact ih x

end

/-! ### Cullet panes sent again (R347) -/

/-- A Cullet pane as a list of numbers to be sent again leaves it. -/
def CulletPane.marked (ackNow : Bool) (l : List Nat) (c : CulletPane) : CulletPane :=
  { c with resend := c.resend + l.count c.seq, ackNow := c.ackNow || (ackNow && decide (c.seq ∈ l)) }

/-- A pane that has not been sent again too often is to be sent again; a number that no Cullet pane has changes nothing. -/
theorem Pane.resend_eq {q : Pane} {n : Nat} (h : ∀ c, q.cullet.find? (fun c => c.seq == n) = some c → c.retx < 16) (ackNow : Bool) :
    q.resend n ackNow = ({ q with cullet := q.cullet.map (CulletPane.marked ackNow [n]) }, true) := by
  have hmark (c : CulletPane) : c.marked ackNow [n] = if c.seq = n then { c with resend := c.resend + 1, ackNow := c.ackNow || ackNow } else c := by
    by_cases hc : c.seq = n
    · simp [CulletPane.marked, hc]
    · simp [CulletPane.marked, hc, Ne.symm hc]
  rw [funext hmark, Pane.resend]
  split
  case h_1 hnone =>
    have hsame : q.cullet.map (fun c => if c.seq = n then { c with resend := c.resend + 1, ackNow := c.ackNow || ackNow } else c) = q.cullet := by
      refine (List.map_congr_left fun c hc => if_neg ?_).trans (List.map_id _)
      simpa using List.find?_eq_none.mp hnone c hc
    rw [hsame]
  case h_2 c hfound =>
    rw [if_neg (Nat.not_le.mpr (h c hfound))]

/-- Panes sent again in order are each marked as often as they are listed. -/
theorem Pane.resends_eq {q : Pane} (h : ∀ c ∈ q.cullet, c.retx < 16) (ackNow : Bool) (l : List Nat) :
    l.foldl (fun (a : Pane × Bool) n => ((a.1.resend n ackNow).1, a.2 && (a.1.resend n ackNow).2)) (q, true) =
      ({ q with cullet := q.cullet.map (CulletPane.marked ackNow l) }, true) := by
  induction l generalizing q with
  | nil =>
    have hid : CulletPane.marked ackNow [] = id := by
      funext c
      simp [CulletPane.marked]
    rw [hid, List.map_id]
    rfl
  | cons n l ih =>
    have hcomp : CulletPane.marked ackNow l ∘ CulletPane.marked ackNow [n] = CulletPane.marked ackNow (n :: l) := by
      funext c
      simp only [CulletPane.marked, Function.comp_apply, List.count_cons, List.count_nil, List.mem_cons, List.not_mem_nil, or_false, Bool.decide_or,
        Bool.and_or_distrib_left, Bool.or_assoc, CulletPane.mk.injEq, true_and, and_true]
      omega
    rw [List.foldl_cons, Pane.resend_eq fun c hc => h c (List.mem_of_find?_eq_some hc), ← hcomp, ← List.map_map]
    refine ih fun c hc => ?_
    obtain ⟨d, hd, rfl⟩ := List.mem_map.mp hc
    exact h d hd

/-- Panes none of which has been sent again too often are to be sent again. -/
theorem State.resendAll_eq {s : State} {p : PortIx} (h : ∀ c ∈ (s.port p).pane.cullet, c.retx < 16) (ackNow : Bool) (l : List Nat) :
    s.resendAll p ackNow l = s.modPane p (fun q => { q with cullet := q.cullet.map (CulletPane.marked ackNow l) }) := by
  unfold State.resendAll
  dsimp only
  rw [Pane.resends_eq h, if_pos rfl]
  rfl

/-- One pane that has not been sent again too often is to be sent again. -/
theorem State.resendAll_one {s : State} {p : PortIx} {n : Nat} (h : ∀ c, (s.port p).pane.cullet.find? (fun c => c.seq == n) = some c → c.retx < 16)
    (ackNow : Bool) : s.resendAll p ackNow [n] = s.modPane p (fun q => { q with cullet := q.cullet.map (CulletPane.marked ackNow [n]) }) := by
  simp only [State.resendAll, List.foldl_cons, List.foldl_nil, Pane.resend_eq h, Bool.and_self, if_pos]
  rfl

/-! ### Panes taken by their type (R316) -/

/-- A pane at the head of a port in service is taken off it and handled. -/
theorem State.takePane_serving {s : State} {p : PortIx} {type : Nat} {x : RxPane} (hhead : s.rxHead p type = some x) (hserving : s.serving p = true)
    (f : RxPane → State → State) : s.takePane p type f = f x (s.rxPop p) := by
  simp only [State.takePane, hhead, hserving, if_true]

theorem State.ctrlHead_of_rxHead {s : State} {p : PortIx} {x : RxPane} {code : Nat} (hhead : s.rxHead p ptCtrl = some x)
    (hcode : (x.body.headD 0).toNat = code) : s.ctrlHead p code = true := by
  simp only [State.ctrlHead, hhead, hcode, beq_self_eq_true]

/-! ### One port changed -/

/-- Between two states one port changes: the other ports, the front end and the transfer side stay. -/
structure State.OnlyPort (p : PortIx) (s u : State) : Prop where
  others : ∀ o, o ≠ p → u.port o = s.port o
  front : u.front = s.front
  xfer : u.xfer = s.xfer

namespace State.OnlyPort

variable {p : PortIx} {s u v : State}

theorem refl (p : PortIx) (s : State) : s.OnlyPort p s := ⟨fun _ _ => rfl, rfl, rfl⟩

theorem trans (h : s.OnlyPort p u) (k : u.OnlyPort p v) : s.OnlyPort p v :=
  ⟨fun o ho => (k.others o ho).trans (h.others o ho), k.front.trans h.front, k.xfer.trans h.xfer⟩

/-- What an ordinary command keeps is not a port's. -/
theorem kept (h : s.OnlyPort p u) : s.OnlyPort p (s.keep u) := ⟨fun o ho => (State.keep_port s u o).trans (h.others o ho), h.front, h.xfer⟩

theorem of_modPane (s : State) (p : PortIx) (g : Pane → Pane) : s.OnlyPort p (s.modPane p g) := ⟨fun o ho => s.modPane_port_other p o g ho, rfl, rfl⟩
theorem of_modLane (s : State) (p : PortIx) (g : LaneUnit → LaneUnit) : s.OnlyPort p (s.modLane p g) :=
  ⟨fun o ho => s.modLane_port_other p o g ho, rfl, rfl⟩
theorem of_modKeys (s : State) (p : PortIx) (g : PortKeys → PortKeys) : s.OnlyPort p (s.modKeys p g) :=
  ⟨fun o ho => s.modKeys_port_other p o g ho, rfl, rfl⟩
theorem of_modGate (s : State) (p : PortIx) (g : Gate → Gate) : s.OnlyPort p (s.modGate g) := ⟨fun _ _ => rfl, rfl, rfl⟩
theorem of_bump (s : State) (p : PortIx) (off : Nat) : s.OnlyPort p (s.bump off) := ⟨fun o _ => by simp, by simp, by simp⟩

end State.OnlyPort

/-! ### Sequenced panes received (R318, R339, R345, R347) -/

/-- The state in which a sequenced pane is looked at: taken off its port, its retransmission counted. -/
def State.sequenced (s : State) (p : PortIx) (x : RxPane) : State := (s.rxPop p).modPane p (fun q => q.countRetx x.hdr)

section
variable (s : State) (p : PortIx) (x : RxPane)

theorem State.sequenced_port_same : (s.sequenced p x).port p = { s.port p with
    pane := (s.port p).pane.arriving ((s.port p).pane.rxq.drop 1) ((s.port p).pane.rxRetx + b2n (bit x.hdr 2)) (s.port p).pane.ackDue } := by
  rw [State.sequenced, State.modPane_port_same, State.rxPop_port_same]
  rfl

theorem State.sequenced_onlyPort : s.OnlyPort p (s.sequenced p x) := (State.OnlyPort.of_modPane ..).trans (.of_modPane ..)

end

/-- A pane that holds one more above RX_NEXT, in a slot of its pool (R339, R345). -/
def Pane.holding (q : Pane) (n : Nat) (h : Word) (fence : Bool) (body : List Byte) : Pane :=
  { q with
    slots := q.slots ++ [{ seq := n, vc := paneVc h }], ackDue := q.ackDue || paneAckNow h,
    held := q.held ++ [{ seq := n, fence := fence, vc := paneVc h, key := paneKey h, sub := paneSub h, body := some body }] }

/-- A new pane that passed its checks is held, and what can be released is released. -/
theorem State.holdPane_eq {s : State} {p : PortIx} {h : Word} {q : Pane} (hroom : (s.port p).pane.slots.length < 4096)
    (hfields : (s.port p).pane.takeFields h s.now = some q) (n : Nat) (fence : Bool) (body : List Byte) : s.holdPane p n h fence body =
      State.release p (q.held.length + 1) ((s.modPane p (fun _ => q.holding n h fence body)).modPane p (fun q => q.reportGaps s.now)) := by
  rw [State.holdPane, if_neg (Nat.not_le.mpr hroom), hfields]
  dsimp only
  rw [State.modPane_port_same, List.length_append]
  rfl

/-- Nothing is released while the next pane is missing. -/
theorem State.release_stops {s : State} {p : PortIx} (hmissing : ∀ h ∈ (s.port p).pane.held, h.seq ≠ (s.port p).pane.rxNext) (n : Nat) :
    State.release p n s = s := by
  cases n with
  | zero => rfl
  | succ n =>
    have hnone : (s.port p).pane.held.find? (fun h => h.seq == (s.port p).pane.rxNext) = none := by simpa using hmissing
    rw [State.release, hnone]

/-- A pane held while an earlier one is missing (R345): its port's pane, and what stays. -/
theorem State.holdPane_waits {s : State} {p : PortIx} {h : Word} (hroom : (s.port p).pane.slots.length < 4096)
    (hfields : ((s.port p).pane.takeFields h s.now).isSome = true) {n : Nat} (hnext : n ≠ (s.port p).pane.rxNext)
    (hmissing : ∀ h ∈ (s.port p).pane.held, h.seq ≠ (s.port p).pane.rxNext) (fence : Bool) (body : List Byte) :
    s.OnlyPort p (s.holdPane p n h fence body) ∧ ((s.holdPane p n h fence body).port p).pane.rxq = (s.port p).pane.rxq ∧
      ((s.holdPane p n h fence body).port p).pane.rxNext = (s.port p).pane.rxNext ∧
      ((s.holdPane p n h fence body).port p).pane.held = (s.port p).pane.held ++
        [{ seq := n, fence := fence, vc := paneVc h, key := paneKey h, sub := paneSub h, body := some body }] := by
  obtain ⟨q, hq⟩ := Option.isSome_iff_exists.mp hfields
  obtain ⟨l, k, e, a, j, t, rfl⟩ := Pane.takeFields_some hq
  rw [State.holdPane_eq hroom hq, State.release_stops]
  · refine ⟨(State.OnlyPort.of_modPane ..).trans (.of_modPane ..), ?_⟩
    rw [State.modPane_port_same, State.modPane_port_same]
    exact ⟨rfl, rfl, rfl⟩
  · rw [State.modPane_port_same, State.modPane_port_same]
    intro h hh
    rcases List.mem_append.mp hh with hold | hnew
    · exact hmissing h hold
    · rw [List.mem_singleton.mp hnew]
      exact hnext

/-! ### RETRAINING (R354, R373, R374) -/

/-- Lanes changed one by one leave the rest of the lane unit. -/
theorem LaneUnit.modAll_eq (l : LaneUnit) (f : Nat → Lane → Lane) : ∃ t, l.modAll f = { l with lanes := t } := by
  unfold LaneUnit.modAll
  generalize laneIds = ks
  induction ks generalizing l with
  | nil => exact ⟨l.lanes, rfl⟩
  | cons k ks ih =>
    obtain ⟨t, ht⟩ := ih (l.modAt k (f k))
    exact ⟨t, ht⟩

theorem State.freshLanes_causeOwn (s : State) (p : PortIx) (keepTaps : Bool) (step : Nat) (l : LaneUnit) :
    (s.freshLanes p keepTaps step l).causeOwn = l.causeOwn := by
  unfold State.freshLanes
  obtain ⟨t, ht⟩ := l.modAll_eq _
  rw [ht]

/-- A training that begins changes the lanes and the keys of its port. -/
theorem State.beginTrain_eq (s : State) (p : PortIx) (initial keepTaps : Bool) (step : Nat) :
    ∃ g, s.beginTrain p initial keepTaps step = (s.modKeys p PortKeys.newSegment).modLane p g ∧ ∀ l, (g l).causeOwn = l.causeOwn := by
  rw [State.beginTrain, State.beginRound, Bool.true_or, if_pos rfl]
  refine ⟨_, rfl, fun l => ?_⟩
  dsimp only
  exact s.freshLanes_causeOwn p keepTaps step l

section
variable (s : State) (p : PortIx) (own far : Nat)

theorem State.retrainWith_onlyPort : s.OnlyPort p (s.retrainWith p own far) := by
  unfold State.retrainWith
  split
  · dsimp only
    obtain ⟨g, hg, -⟩ := State.beginTrain_eq (((s.modPane p (fun q => { q.stopped with link := .retraining })).setCause p own far true).bump (ctrRetrain p)) p
      false true (s.port p).lane.step
    rw [hg]
    exact (((((State.OnlyPort.of_modPane ..).trans (.of_modLane ..)).trans (.of_bump ..)).trans (.of_modKeys ..)).trans (.of_modLane ..)).trans (.of_modLane ..)
  · exact .refl p s

/-- A port in service that goes to RETRAINING: its pane layer stops, and its cause is recorded. -/
theorem State.retrainWith_serving (hserving : s.serving p = true) :
    ((s.retrainWith p own far).port p).pane = { (s.port p).pane.stopped with link := .retraining } ∧
      ((s.retrainWith p own far).port p).lane.causeOwn = own := by
  rw [State.retrainWith, if_pos hserving]
  dsimp only
  obtain ⟨g, hg, hcause⟩ := State.beginTrain_eq (((s.modPane p (fun q => { q.stopped with link := .retraining })).setCause p own far true).bump (ctrRetrain p)) p
    false true (s.port p).lane.step
  rw [hg, State.modLane_port_same, State.modLane_port_same, State.modKeys_port_same, State.bump_port, State.setCause, State.modLane_port_same,
    State.modPane_port_same]
  exact ⟨rfl, hcause _⟩

end

/-! ### Units that move (R22 to R24, R323, R324) -/

/-- A pane without what units move through: the pool, the unit streams in both directions and the queues. -/
def Pane.sansUnits (q : Pane) : Pane := { q with slots := [], parse := [], rxMsgs := [], txq := [], cur := [], fences := [], rrIn := [] }

/-- Between two states units move: of the panes their pools, streams and queues change alone, and the lanes stay. -/
structure State.UnitsMove (s u : State) : Prop where
  pane : ∀ o, (u.port o).pane.sansUnits = (s.port o).pane.sansUnits
  lane : ∀ o, (u.port o).lane = (s.port o).lane

namespace State.UnitsMove

variable {s u v : State}

theorem refl (s : State) : s.UnitsMove s := ⟨fun _ => rfl, fun _ => rfl⟩

theorem trans (h : s.UnitsMove u) (k : u.UnitsMove v) : s.UnitsMove v := ⟨fun o => (k.pane o).trans (h.pane o), fun o => (k.lane o).trans (h.lane o)⟩

theorem of_ports (h : u.ports = s.ports) : s.UnitsMove u := ⟨fun o => by rw [State.port, State.port, h], fun o => by rw [State.port, State.port, h]⟩

theorem of_modPane (s : State) (p : PortIx) {g : Pane → Pane} (hg : ∀ q, (g q).sansUnits = q.sansUnits := by exact fun _ => rfl) :
    s.UnitsMove (s.modPane p g) := by
  have hport (o : PortIx) : ((s.modPane p g).port o).pane.sansUnits = (s.port o).pane.sansUnits ∧ ((s.modPane p g).port o).lane = (s.port o).lane := by
    by_cases ho : o = p
    · subst ho
      rw [State.modPane_port_same]
      exact ⟨hg _, rfl⟩
    · rw [State.modPane_port_other _ _ _ _ ho]
      exact ⟨rfl, rfl⟩
  exact ⟨fun o => (hport o).1, fun o => (hport o).2⟩

theorem of_modKeys (s : State) (p : PortIx) (g : PortKeys → PortKeys) : s.UnitsMove (s.modKeys p g) := by
  have hport (o : PortIx) : ((s.modKeys p g).port o).pane = (s.port o).pane ∧ ((s.modKeys p g).port o).lane = (s.port o).lane := by
    by_cases ho : o = p
    · subst ho
      rw [State.modKeys_port_same]
      exact ⟨rfl, rfl⟩
    · rw [State.modKeys_port_other _ _ _ _ ho]
      exact ⟨rfl, rfl⟩
  exact ⟨fun o => by rw [(hport o).1], fun o => (hport o).2⟩

theorem of_bump (s : State) (off : Nat) : s.UnitsMove (s.bump off) := of_ports (by simp)

theorem of_sendVia (s : State) (h cls key : Nat) (m : Msg) : s.UnitsMove (s.sendVia h cls key m) := by
  unfold State.sendVia
  split
  · exact of_ports rfl
  split
  · exact of_modPane s _
  · exact refl s

theorem of_mgmtTo (s : State) (p : PortIx) (mtype sub : Nat) (payload : List LinkUnit) : s.UnitsMove (s.mgmtTo p mtype sub payload) := by
  unfold State.mgmtTo
  split
  · exact refl s
  · exact of_sendVia ..

theorem of_leaveIn (s : State) (inbound : Nat) (l : List Nat) : s.UnitsMove (s.leaveIn inbound l) := by
  unfold State.leaveIn
  split
  · exact refl s
  split
  · exact of_modPane s _
  · exact refl s

theorem of_foldl {β : Type} {f : State → β → State} (hf : ∀ b a, State.UnitsMove a (f a b)) (l : List β) (s : State) : s.UnitsMove (l.foldl f s) :=
  foldl_keeps refl trans (fun b _ a => hf b a) s

theorem of_cutQueued (s : State) (o : PortIx) (f : TxMsg → Bool) : s.UnitsMove (s.cutQueued o f) := by
  rw [State.cutQueued]
  refine trans (of_modPane s o) (of_foldl (fun (m : TxMsg) a => of_leaveIn a m.inbound m.slots) _ _)

theorem of_cutSending (s : State) (o : PortIx) (f : TxCur → Bool) : s.UnitsMove (s.cutSending o f) := by
  have hvoid (l : List (Nat × TxCur)) (q : Pane) : (l.foldl (fun a e => a.voidDue e.1) q).sansUnits = q.sansUnits := by
    induction l generalizing q with
    | nil => rfl
    | cons e l ih => exact ih (q.voidDue e.1)
  rw [State.cutSending]
  refine trans (of_modPane s o ?_) (of_foldl (fun (e : Nat × TxCur) a => of_leaveIn a e.2.inbound e.2.slots) _ _)
  exact fun q => hvoid ..

end State.UnitsMove

end Sys2Proof.Machine
end

section
/-!
PROOFS. The timers of a port and resumption (R342, R347, R348, R358): the statement PortTimersAndResumption.
-/
namespace Sys2Proof.Machine

/-! ### Timers (R342, R347, R348) -/

section
variable {s : State} {p : PortIx}

/-- Gaps still open after half an ack timeout are reported again, up to eight (R347). -/
theorem exec_nakRereport (hlive : s.linkLive = true) (hserving : s.serving p = true) (hstale : s.staleGaps p ≠ []) :
    exec (.nakRereport p) s = .next (s.keep (s.modPane p (fun q => { q with
      gaps := q.gaps.map (fun g => if g.1 ∈ (s.staleGaps p).take 8 then (g.1, s.now) else g), nakDue := q.nakDue ++ (s.staleGaps p).take 8 }))) := by
  have hsome : ((s.staleGaps p).take 8).isEmpty = false := by simpa using hstale
  show act (s.linkLive && s.serving p && !((s.staleGaps p).take 8).isEmpty) s _ = _
  rw [hlive, hserving, hsome]
  rfl

theorem exec_ackTimerExpiry (hexpired : s.ackExpired p = true) : exec (.ackTimerExpiry p) s = .next (s.keep (s.ackExpiry p)) := by
  show act (s.ackExpired p) s _ = _
  rw [hexpired]
  rfl

/-- The pane after an expiry: the timer begins anew. -/
def Pane.expired (q : Pane) (now : Nat) : Pane := { q.startAck now with ackExpiries := q.ackExpiries + 1 }

/-- An expiry below the eighth has the oldest Cullet pane sent again with ACK_NOW (R348). -/
theorem State.ackExpiry_resends {c : CulletPane} {r : List CulletPane} (hcullet : (s.port p).pane.cullet = c :: r) (hfew : (s.port p).pane.ackExpiries < 7)
    (hretx : c.retx < 16) : s.ackExpiry p =
      (s.modPane p (fun q => q.expired s.now)).modPane p (fun q => { q with cullet := q.cullet.map (CulletPane.marked true [c.seq]) }) := by
  have hstart : s.modPane p (fun q => { q.startAck s.now with ackExpiries := (s.port p).pane.ackExpiries + 1 }) = s.modPane p (fun q => q.expired s.now) := rfl
  rw [State.ackExpiry]
  dsimp only
  rw [if_neg (by omega), hcullet, hstart]
  refine State.resendAll_one (fun d hd => ?_) true
  have hsame : ((s.modPane p (fun q => q.expired s.now)).port p).pane.cullet = c :: r := by
    rw [State.modPane_port_same]
    exact hcullet
  rw [hsame, List.find?_cons_of_pos (by exact beq_self_eq_true _)] at hd
  exact Option.some.inj hd ▸ hretx

/-- The eighth expiry in a row retrains the link (R348). -/
theorem State.ackExpiry_retrains (heighth : (s.port p).pane.ackExpiries = 7) : s.ackExpiry p = s.retrain p lcReplay := by
  rw [State.ackExpiry, heighth]
  rfl

theorem State.serving_of_timersRun (h : s.timersRun p = true) : s.serving p = true := by
  simp only [State.timersRun, Bool.and_eq_true] at h
  exact h.1.2

theorem State.serving_of_ackExpired (h : s.ackExpired p = true) : s.serving p = true := by
  unfold State.ackExpired at h
  split at h
  · cases h
  · simp only [Bool.and_eq_true] at h
    exact State.serving_of_timersRun h.1.1

theorem exec_creditTimeout (hrun : s.timersRun p = true) (hpassed : s.usPassed (s.port p).pane.creditStart (bits (s.port p).pane.ctl 47 32) = true) :
    exec (.creditTimeout p) s = .next (s.keep (s.retrain p lcCredit)) := by
  show act (s.timersRun p && s.usPassed (s.port p).pane.creditStart (bits (s.port p).pane.ctl 47 32)) s _ = _
  rw [hrun, hpassed]
  rfl

/-- A command that retrains a port in service takes its link to RETRAINING for the cause, and leaves the other ports. -/
theorem retrains {c : Instr} {cause : Nat} (hexec : exec c s = .next (s.keep (s.retrain p cause))) (hserving : s.serving p = true) :
    ∃ t, exec c s = .next t ∧ (t.port p).pane.link = .retraining ∧ (t.port p).lane.causeOwn = cause ∧ (∀ o, o ≠ p → t.port o = s.port o) ∧
      t.front = s.front ∧ t.xfer = s.xfer := by
  obtain ⟨hothers, hfront, hxfer⟩ := (s.retrainWith_onlyPort p cause 0).kept
  obtain ⟨hpane, hcause⟩ := s.retrainWith_serving p cause 0 hserving
  exact ⟨_, hexec, congrArg Pane.link hpane, hcause, hothers, hfront, hxfer⟩

end

/-! ### Resumption (R358) -/

theorem exec_resumeTimer {s : State} {p : PortIx} (hlive : s.linkLive = true) (hserving : s.serving p = true) (hresuming : (s.port p).pane.resuming = true)
    (hpassed : s.usPassed (s.port p).pane.lastResume 2 = true) :
    exec (.resumeTimer p) s = .next (s.keep ((s.ctrl p ctrlResume).modPane p (fun q => { q with lastResume := s.now }))) := by
  show act (s.linkLive && s.serving p && (s.port p).pane.resuming && s.usPassed (s.port p).pane.lastResume 2) s _ = _
  rw [hlive, hserving, hresuming, hpassed]
  rfl

/-- The pane once the far end's PL_ID and its VC_MAX are taken from a RESUME. -/
def Pane.heardFar (q : Pane) (b : List Byte) : Pane :=
  vcIds.foldl (fun a v => a.modVc v (fun c => { c with farMax := (beAt b 28 18 >>> (12 * (11 - v))) % 4096 }))
    { q with farPlId := BitVec.ofNat 32 (beAt b 4 4), heardResume := true }

theorem Pane.heardFar_eq (q : Pane) (b : List Byte) :
    ∃ t, q.heardFar b = { q with farPlId := BitVec.ofNat 32 (beAt b 4 4), heardResume := true, vcs := t } :=
  Pane.foldl_modVc (fun _ v c => { c with farMax := (beAt b 28 18 >>> (12 * (11 - v))) % 4096 }) vcIds _

theorem State.takeResume_resumes {s : State} {p : PortIx} {x : RxPane} {g : Nat} (hresuming : (s.port p).pane.resuming = true)
    (hseg : (s.port p).keys.segOf x.hdr x.slot x.body = some g) (hfar : BitVec.ofNat 32 (beAt x.body 4 4) = (s.port p).pane.farPlId)
    (hown : beAt x.body 8 4 = (s.port p).pane.plId.toNat) : s.takeResume p x =
      ((((s.modKeys p (fun k => { k with rxSeg := BitVec.ofNat 16 g })).modPane p (fun q => q.heardFar x.body)).modPane p
        (fun q => q.resumed (beAt x.body 12 8) (beAt x.body 20 8) s.now)).afterResume p) := by
  obtain ⟨t, ht⟩ := (s.port p).pane.heardFar_eq x.body
  have hresumed : (((s.modKeys p (fun k => { k with rxSeg := BitVec.ofNat 16 g })).modPane p (fun q => q.heardFar x.body)).port p).pane.resuming &&
      beAt x.body 8 4 == (((s.modKeys p (fun k => { k with rxSeg := BitVec.ofNat 16 g })).modPane p (fun q => q.heardFar x.body)).port p).pane.plId.toNat := by
    rw [State.modPane_port_same, State.modKeys_port_same]
    simp only [ht, hresuming, hown, beq_self_eq_true, Bool.and_self]
  rw [State.takeResume, hseg]
  simp only [hfar, ne_eq, not_true, decide_false, Bool.and_false, Bool.false_and, Bool.false_eq_true, if_false]
  rw [← hfar]
  exact if_pos hresumed

/-- First grants change the counts and the turn alone. -/
theorem Pane.firstGrants_eq (q : Pane) : ∃ t k, q.firstGrants = { q with vcs := t, grantRr := k } := by
  obtain ⟨t, ht⟩ := Pane.foldl_modVc (fun a v c =>
    let g := min 32 (min a.freeShared ((a.vc v).max - (a.vc v).allot))
    { c with ret := (c.ret + g) % 4096, allot := c.allot + g, changed := true }) vcIds q
  obtain ⟨u, k, hu⟩ := Pane.grantShared_eq 4096 { q with vcs := t }
  exact ⟨u, k, (congrArg (Pane.grantShared 4096) ht).trans hu⟩

/-- A pane whose resumption has ended: its Cullet panes are to be sent again with their counts begun anew. -/
structure Pane.Resumed (q u : Pane) : Prop where
  resuming : u.resuming = false
  heardResume : u.heardResume = q.heardResume
  anew : u.anew = false
  blockReset : u.blockReset = false
  cullet : ∀ c ∈ u.cullet, c.resend = 1 ∧ c.retx = 0 ∧ c.seq ∈ q.cullet.map CulletPane.seq

theorem Pane.resumed_resumed (q : Pane) (farRx farTx now : Nat) : q.Resumed (q.resumed farRx farTx now) := by
  have hcullet (n : Nat) : ∀ c ∈ (q.retireBelow n now).cullet.map (fun c => { c with retx := 0, resend := 1 }),
      c.resend = 1 ∧ c.retx = 0 ∧ c.seq ∈ q.cullet.map CulletPane.seq := by
    intro c hc
    obtain ⟨d, hd, rfl⟩ := List.mem_map.mp hc
    exact ⟨rfl, rfl, List.mem_map.mpr ⟨d, (List.mem_filter.mp hd).1, rfl⟩⟩
  unfold Pane.resumed
  dsimp only
  split
  · obtain ⟨t, k, h⟩ := Pane.firstGrants_eq _
    rw [h]
    exact ⟨rfl, rfl, rfl, rfl, hcullet _⟩
  case isFalse hanew =>
    exact ⟨rfl, rfl, Bool.eq_false_iff.mpr hanew, rfl, hcullet _⟩

@[simp] theorem State.mgmtTo_front (s : State) (p : PortIx) (mtype sub : Nat) (payload : List LinkUnit) : (s.mgmtTo p mtype sub payload).front = s.front := by
  unfold State.mgmtTo
  split
  · rfl
  · exact State.sendVia_front ..

/-- What follows a resumption: messages queued, and a CTRL pane due. -/
theorem State.afterResume_leaves (s : State) (p : PortIx) :
    (∃ l, ((s.afterResume p).port p).pane.sansUnits = { (s.port p).pane.sansUnits with ctrlDue := l }) ∧ (s.afterResume p).front = s.front := by
  have hmoves : ∃ u, s.UnitsMove u ∧ u.front = s.front ∧ s.afterResume p = if s.retained.oos then u.ctrl p (ctrlOos s.topo.node) else u := by
    refine ⟨_, ?_, ?_, rfl⟩
    · split
      · exact .trans (.of_mgmtTo ..) (.of_modKeys ..)
      · exact .refl s
    · split
      · exact State.mgmtTo_front ..
      · rfl
  obtain ⟨u, hu, hfront, hafter⟩ := hmoves
  rw [hafter]
  split
  · refine ⟨⟨(u.port p).pane.ctrlDue ++ [ctrlOos s.topo.node], ?_⟩, hfront⟩
    rw [State.ctrl, State.modPane_port_same, ← hu.pane p]
    rfl
  · exact ⟨⟨_, hu.pane p⟩, hfront⟩

theorem exec_resume {s : State} {p : PortIx} {x : RxPane} (hlive : s.linkLive = true) (hserving : s.serving p = true) (hhead : s.rxHead p ptCtrl = some x)
    (hcode : (x.body.headD 0).toNat = 0x01) : exec (.resume p) s = .next (s.keep ((s.rxPop p).takeResume p x)) := by
  show act (s.linkLive && s.ctrlHead p 0x01) s (s.takePane p ptCtrl (fun x t => t.takeResume p x)) = _
  rw [hlive, State.ctrlHead_of_rxHead hhead hcode, State.takePane_serving hhead hserving]
  rfl

/-- A RESUME from the far end as it is known, naming this end, ends resumption (R358). -/
theorem resume_ends {s : State} {p : PortIx} {x : RxPane} (hlive : s.linkLive = true) (hserving : s.serving p = true)
    (hresuming : (s.port p).pane.resuming = true) (hhead : s.rxHead p ptCtrl = some x) (hcode : (x.body.headD 0).toNat = 0x01)
    (hseg : ((s.port p).keys.segOf x.hdr x.slot x.body).isSome = true) (hfar : BitVec.ofNat 32 (beAt x.body 4 4) = (s.port p).pane.farPlId)
    (hown : beAt x.body 8 4 = (s.port p).pane.plId.toNat) : ∃ t, exec (.resume p) s = .next t ∧ (t.port p).pane.resuming = false ∧
      (t.port p).pane.heardResume = true ∧ (t.port p).pane.anew = false ∧ (t.port p).pane.blockReset = false ∧
      (∀ c ∈ (t.port p).pane.cullet, c.resend = 1 ∧ c.retx = 0 ∧ c.seq ∈ (s.port p).pane.cullet.map CulletPane.seq) ∧ t.front = s.front := by
  obtain ⟨g, hg⟩ := Option.isSome_iff_exists.mp hseg
  have hpop := s.rxPop_port_same p
  have htaken := State.takeResume_resumes (s := s.rxPop p) (p := p) (x := x) (g := g) (by rw [hpop]; exact hresuming) (by rw [hpop]; exact hg)
    (by rw [hpop]; exact hfar) (by rw [hpop]; exact hown)
  refine ⟨_, exec_resume hlive hserving hhead hcode, ?_⟩
  rw [htaken, State.keep_port, State.keep_front]
  generalize hu : State.modPane _ p _ = u
  obtain ⟨⟨l, hafter⟩, hfront⟩ := u.afterResume_leaves p
  have hresumed : (((s.rxPop p).port p).pane.heardFar x.body).Resumed (u.port p).pane := by
    rw [← hu, State.modPane_port_same, State.modPane_port_same, State.modKeys_port_same]
    exact Pane.resumed_resumed ..
  obtain ⟨t, ht⟩ := ((s.rxPop p).port p).pane.heardFar_eq x.body
  rw [ht, hpop] at hresumed
  obtain ⟨h1, h2, h3, h4, h5⟩ := hresumed
  refine ⟨(congrArg Pane.resuming hafter).trans h1, (congrArg Pane.heardResume hafter).trans h2, (congrArg Pane.anew hafter).trans h3,
    (congrArg Pane.blockReset hafter).trans h4, fun c hc => h5 c ?_, hfront.trans ?_⟩
  · exact (congrArg Pane.cullet hafter) ▸ hc
  · rw [← hu]; rfl

/-- Settles O36: a timer's effect is an equation of its port's pane, or the retraining of `retrains`; the end of resumption is `Pane.Resumed`, which
the messages that follow leave (`afterResume_leaves`). -/
theorem portTimersAndResumption : Obligations.PortTimersAndResumption := by
  unfold Obligations.PortTimersAndResumption
  refine ⟨fun s p => ⟨fun hlive hserving hstale => ?_, fun c r hexpired hcullet hfew hretx => ?_, fun hexpired heighth => ?_, fun hrun hpassed => ?_⟩,
    fun s p hlive hserving hresuming => ⟨fun x hhead hcode hseg hfar hown => ?_, fun hpassed => ?_⟩⟩
  · obtain ⟨hothers, hfront, hxfer⟩ := (State.OnlyPort.of_modPane s p (fun q => { q with
      gaps := q.gaps.map (fun g => if g.1 ∈ (s.staleGaps p).take 8 then (g.1, s.now) else g), nakDue := q.nakDue ++ (s.staleGaps p).take 8 })).kept
    refine ⟨_, exec_nakRereport hlive hserving hstale, ?_, ⟨hothers, hfront, hxfer⟩, rfl⟩
    rw [State.keep_port, State.modPane_port_same]
  · obtain ⟨hothers, hfront, hxfer⟩ := ((State.OnlyPort.of_modPane s p (fun q => q.expired s.now)).trans
      (.of_modPane _ p (fun q => { q with cullet := q.cullet.map (CulletPane.marked true [c.seq]) }))).kept
    refine ⟨_, exec_ackTimerExpiry hexpired, ?_⟩
    rw [State.ackExpiry_resends hcullet hfew hretx, State.keep_port, State.modPane_port_same, State.modPane_port_same]
    refine ⟨rfl, ?_, ?_, ⟨hothers, hfront, hxfer⟩, rfl⟩
    · simp [Pane.expired, Pane.startAck, hcullet]
    · simp [Pane.expired, Pane.startAck, hcullet, CulletPane.marked]
  · exact retrains (State.ackExpiry_retrains heighth ▸ exec_ackTimerExpiry hexpired) (State.serving_of_ackExpired hexpired)
  · exact retrains (exec_creditTimeout hrun hpassed) (State.serving_of_timersRun hrun)
  · exact resume_ends hlive hserving hresuming hhead hcode hseg hfar hown
  · refine ⟨_, exec_resumeTimer hlive hserving hresuming hpassed, ?_, fun o ho => ?_, rfl, rfl⟩
    · rw [State.keep_port, State.modPane_port_same, State.ctrl, State.modPane_port_same]
    · rw [State.keep_port, State.modPane_port_other _ _ _ _ ho, State.ctrl, State.modPane_port_other _ _ _ _ ho]

end Sys2Proof.Machine
end

section
/-!
PROOFS. ACK, IDLE, NAK and CTRL panes (R321, R337, R341, R347, R360, R436): the statement ControlPanesAct.
-/
namespace Sys2Proof.Machine

section
variable {s : State} {p : PortIx} {x : RxPane} (hlive : s.linkLive = true) (hserving : s.serving p = true)
include hlive hserving

theorem exec_ackPane (hhead : s.rxHead p ptAck = some x) : exec (.ackPane p) s = .next (s.keep ((s.rxPop p).takeVector p x)) := by
  show act (s.linkLive && (s.rxHead p ptAck).isSome) s (s.takePane p ptAck (fun x t => t.takeVector p x)) = _
  rw [State.takePane_serving hhead hserving, hlive, hhead]
  rfl

theorem exec_idlePane (hhead : s.rxHead p ptIdle = some x) : exec (.idlePane p) s = .next (s.keep ((s.rxPop p).takeVector p x)) := by
  show act (s.linkLive && (s.rxHead p ptIdle).isSome) s (s.takePane p ptIdle (fun x t => t.takeVector p x)) = _
  rw [State.takePane_serving hhead hserving, hlive, hhead]
  rfl

theorem exec_nakPane (hhead : s.rxHead p ptNak = some x) : exec (.nakPane p) s =
    .next (s.keep ((s.rxPop p).takeControl p x (fun u => u.resendAll p false ((u.port p).pane.naked x.body)))) := by
  show act (s.linkLive && (s.rxHead p ptNak).isSome) s (s.takePane p ptNak (fun x t =>
    t.takeControl p x (fun u => u.resendAll p false ((u.port p).pane.naked x.body)))) = _
  rw [State.takePane_serving hhead hserving, hlive, hhead]
  rfl

/-- What OUT_OF_SERVICE does once its tag has passed (R360). -/
def State.farOutOfService (s : State) (p : PortIx) : State :=
  (s.modPane p (fun q => { q with farOos := true })).modLodge (fun l => { l with oosPorts := l.oosPorts ||| (1#6 <<< p.val) })

theorem exec_outOfServiceCtrl (hhead : s.rxHead p ptCtrl = some x) (hcode : (x.body.headD 0).toNat = 0x04) :
    exec (.outOfServiceCtrl p) s = .next (s.keep ((s.rxPop p).takeControl p x (fun u => u.farOutOfService p))) := by
  show act (s.linkLive && s.ctrlHead p 0x04) s (s.takePane p ptCtrl (fun x t => t.takeControl p x (fun u => u.farOutOfService p))) = _
  rw [hlive, State.ctrlHead_of_rxHead hhead hcode, State.takePane_serving hhead hserving]
  rfl

end

/-! ### Tags that pass under no key (R321, R436) -/

theorem State.takeControl_dropped {s : State} {p : PortIx} {x : RxPane} (hseg : (s.port p).keys.segOf x.hdr x.slot x.body = none) (f : State → State) :
    s.takeControl p x f = s.bump (ctrBadDrop p) := by
  simp only [State.takeControl, hseg]

theorem State.takeResume_dropped {s : State} {p : PortIx} {x : RxPane} (hseg : (s.port p).keys.segOf x.hdr x.slot x.body = none) :
    s.takeResume p x = s.bump (ctrBadDrop p) := by
  simp only [State.takeResume, hseg]

/-- A pane dropped is taken off and counted, and acts on nothing. -/
theorem dropped_counted {s : State} {p : PortIx} {c : Instr} (hexec : exec c s = .next (s.keep ((s.rxPop p).bump (ctrBadDrop p))))
    (hcount : (s.counter (ctrBadDrop p)).count < 0xFFFFFFFE) : ∃ t, exec c s = .next t ∧
      (t.counter (ctrBadDrop p)).count = (s.counter (ctrBadDrop p)).count + 1 ∧
      (t.port p).pane = { (s.port p).pane with rxq := (s.port p).pane.rxq.drop 1 } ∧ (∀ o, o ≠ p → t.port o = s.port o) ∧ t.xfer = s.xfer ∧
      t.front = s.front := by
  obtain ⟨hothers, hfront, hxfer⟩ := ((State.OnlyPort.of_modPane s p _).trans (.of_bump (s.rxPop p) p (ctrBadDrop p))).kept
  refine ⟨_, hexec, State.bump_count (s := s.rxPop p) hcount, ?_, hothers, hxfer, hfront⟩
  rw [State.keep_port, State.bump_port, State.rxPop_port_same]

/-! ### Tags that pass -/

/-- A pane with the DEMAND of a credit vector taken and its credit timeout restarted (R337, R341, R342). -/
def Pane.withVector (q : Pane) (body : List Byte) (now : Nat) : Pane :=
  ({ (vcIds.foldl (fun a v => a.modVc v (fun c => { c with demand := (vectorDemand body).testBit v })) q) with creditStart := now } : Pane).grantShared 4096

theorem Pane.withVector_eq (q : Pane) (body : List Byte) (now : Nat) :
    ∃ t k, q.withVector body now = { q with vcs := t, creditStart := now, grantRr := k } := by
  obtain ⟨t, ht⟩ := Pane.foldl_modVc (fun _ v c => { c with demand := (vectorDemand body).testBit v }) vcIds q
  rw [Pane.withVector, ht]
  exact Pane.grantShared_eq 4096 _

theorem Pane.withVector_far (q : Pane) (body : List Byte) (now : Nat) {v : Nat} (hv : v < 12) :
    ((q.withVector body now).vc v).last = (q.vc v).last ∧ ((q.withVector body now).vc v).demand = (vectorDemand body).testBit v := by
  have hfold := Pane.foldl_modVc_vc (fun v c => { c with demand := (vectorDemand body).testBit v }) vcIds_nodup q v
  rw [if_pos (mem_vcIds.mpr hv)] at hfold
  have hgrant (r : Pane) : ((({ r with creditStart := now } : Pane).grantShared 4096).vc v).last = (r.vc v).last ∧
      ((({ r with creditStart := now } : Pane).grantShared 4096).vc v).demand = (r.vc v).demand := Pane.grantShared_far 4096 { r with creditStart := now } v
  rw [Pane.withVector, (hgrant _).1, (hgrant _).2, hfold]
  exact ⟨rfl, rfl⟩

/-- The state on which a pane acts whose tag has passed at a SEG: `q` is its pane with CUMACK and the RET value of the header taken (R337, R344). -/
def State.accepted (s : State) (p : PortIx) (x : RxPane) (q : Pane) (g : Nat) : State :=
  (s.modKeys p (fun k => { k with rxSeg := BitVec.ofNat 16 g })).modPane p (fun _ => q.arriving q.rxq q.rxRetx (q.ackDue || paneAckNow x.hdr))

theorem State.accepted_pane (s : State) (p : PortIx) (x : RxPane) (q : Pane) (g : Nat) :
    ((s.accepted p x q g).port p).pane = q.arriving q.rxq q.rxRetx (q.ackDue || paneAckNow x.hdr) := by
  rw [State.accepted, State.modPane_port_same]

theorem State.accepted_onlyPort (s : State) (p : PortIx) (x : RxPane) (q : Pane) (g : Nat) : s.OnlyPort p ((s.rxPop p).accepted p x q g) :=
  ((State.OnlyPort.of_modPane ..).trans (.of_modKeys ..)).trans (.of_modPane ..)

theorem State.accepted_counters (s : State) (p : PortIx) (x : RxPane) (q : Pane) (g : Nat) : ((s.rxPop p).accepted p x q g).counters = s.counters := rfl

section
variable {s : State} {p : PortIx} {x : RxPane} {q : Pane} (hseg : ((s.port p).keys.segOf x.hdr x.slot x.body).isSome = true) (hearly : s.early p = false)
  (htaken : ({ (s.port p).pane with rxq := (s.port p).pane.rxq.drop 1 } : Pane).takeFields x.hdr s.now = some q)
include hearly htaken

theorem State.accepted_early (g : Nat) : ((s.rxPop p).accepted p x q g).early p = false := by
  obtain ⟨l, n, e, a, k, t, rfl⟩ := Pane.takeFields_some htaken
  rw [State.early, State.accepted_pane]
  exact hearly

include hseg

/-- A pane whose tag passes acts once its CUMACK and RET are taken (R337, R344). -/
theorem State.takeControl_accepted : ∃ g, ∀ f, (s.rxPop p).takeControl p x f = f ((s.rxPop p).accepted p x q g) := by
  obtain ⟨g, hg⟩ := Option.isSome_iff_exists.mp hseg
  have hgpop : ((s.rxPop p).port p).keys.segOf x.hdr x.slot x.body = some g := by rwa [State.rxPop_port_same]
  have hlate (k : PortKeys → PortKeys) : ((s.rxPop p).modKeys p k).early p = false := by
    rw [State.early, State.modKeys_port_same, State.rxPop_port_same]
    exact hearly
  have htakenPop (k : PortKeys → PortKeys) : (((s.rxPop p).modKeys p k).port p).pane.takeFields x.hdr (s.rxPop p).now = some q := by
    rw [State.modKeys_port_same, State.rxPop_port_same]
    exact htaken
  refine ⟨g, fun f => ?_⟩
  simp only [State.takeControl, hgpop, hlate, Bool.false_eq_true, if_false, htakenPop]
  rfl

/-- A credit vector gives every channel its RET value and DEMAND, and restarts the credit timeout (R337, R341, R342). -/
theorem vector_taken {c : Instr} (hexec : exec c s = .next (s.keep ((s.rxPop p).takeVector p x)))
    (hrets : (q.takeRets (vcIds.map (fun v => (v, vectorRet x.body v)))).isSome = true) :
    ∃ t, exec c s = .next t ∧ (t.port p).pane.creditStart = s.now ∧ (t.port p).pane.rxq = (s.port p).pane.rxq.drop 1 ∧
      (∀ v, v < 12 → ((t.port p).pane.vc v).last = vectorRet x.body v ∧ ((t.port p).pane.vc v).demand = (vectorDemand x.body).testBit v) ∧
      (∀ o, o ≠ p → t.port o = s.port o) ∧ t.counters = s.counters ∧ t.front = s.front := by
  obtain ⟨g, hcontrol⟩ := State.takeControl_accepted hseg hearly htaken
  have hlate := State.accepted_early hearly htaken g
  obtain ⟨r, hr⟩ := Option.isSome_iff_exists.mp hrets
  have hgiven : ((((s.rxPop p).accepted p x q g).port p).pane.takeRets (vcIds.map (fun v => (v, vectorRet x.body v)))) =
      some (r.arriving q.rxq q.rxRetx (q.ackDue || paneAckNow x.hdr)) := by
    rw [State.accepted_pane, Pane.takeRets_arriving, hr]
    rfl
  have hvector : (s.rxPop p).takeVector p x = ((s.rxPop p).accepted p x q g).modPane p (fun _ =>
      (r.arriving q.rxq q.rxRetx (q.ackDue || paneAckNow x.hdr)).withVector x.body s.now) := by
    rw [State.takeVector, hcontrol, hlate, if_neg Bool.false_ne_true, hgiven]
    rfl
  obtain ⟨hothers, hfront, -⟩ := ((s.accepted_onlyPort p x q g).trans (.of_modPane _ p (fun _ =>
      (r.arriving q.rxq q.rxRetx (q.ackDue || paneAckNow x.hdr)).withVector x.body s.now))).kept
  refine ⟨_, hexec, ?_⟩
  rw [hvector, State.keep_port, State.modPane_port_same]
  dsimp only
  refine ⟨?_, ?_, fun v hv => ?_, hothers, by rw [State.keep_counters, State.modPane_counters, State.accepted_counters], hfront⟩
  · obtain ⟨t, k, h⟩ := Pane.withVector_eq (r.arriving q.rxq q.rxRetx (q.ackDue || paneAckNow x.hdr)) x.body s.now
    rw [h]
  · obtain ⟨t, k, h⟩ := Pane.withVector_eq (r.arriving q.rxq q.rxRetx (q.ackDue || paneAckNow x.hdr)) x.body s.now
    obtain ⟨l, n, e, a, j, u, rfl⟩ := Pane.takeFields_some htaken
    rw [h]
    rfl
  · obtain ⟨hlast, hdemand⟩ := Pane.withVector_far (r.arriving q.rxq q.rxRetx (q.ackDue || paneAckNow x.hdr)) x.body s.now hv
    refine ⟨hlast.trans ((Pane.takeRets_last vcIds_nodup (vectorRet x.body) hr v).trans ?_), hdemand⟩
    rw [if_pos (mem_vcIds.mpr hv), vectorRet, Nat.mod_mod]

/-- A NAK has every Cullet pane it lists sent again (R347). -/
theorem nakPane_resends (hlive : s.linkLive = true) (hserving : s.serving p = true) (hhead : s.rxHead p ptNak = some x) (hretx : ∀ c ∈ q.cullet, c.retx < 16) :
    ∃ t, exec (.nakPane p) s = .next t ∧ (t.port p).pane.cullet.map CulletPane.seq = q.cullet.map CulletPane.seq ∧
      (∀ c ∈ (t.port p).pane.cullet, c.seq ∈ q.naked x.body → c.resend ≠ 0) ∧ (∀ o, o ≠ p → t.port o = s.port o) ∧ t.counters = s.counters := by
  obtain ⟨g, hcontrol⟩ := State.takeControl_accepted hseg hearly htaken
  have hpane := (s.rxPop p).accepted_pane p x q g
  have hall := State.resendAll_eq (s := (s.rxPop p).accepted p x q g) (p := p) (by rw [hpane]; exact hretx) false (q.naked x.body)
  have hsame : (((s.rxPop p).accepted p x q g).port p).pane.naked x.body = q.naked x.body := by rw [hpane]; rfl
  obtain ⟨hothers, -, -⟩ := ((s.accepted_onlyPort p x q g).trans (.of_modPane _ p (fun q' => { q' with
    cullet := q'.cullet.map (CulletPane.marked false (q.naked x.body)) }))).kept
  refine ⟨_, exec_nakPane hlive hserving hhead, ?_⟩
  rw [hcontrol, hsame, hall, State.keep_port, State.modPane_port_same, hpane]
  refine ⟨?_, fun c hc hlisted => ?_, hothers, by rw [State.keep_counters, State.modPane_counters, State.accepted_counters]⟩
  · exact List.map_map ..
  · obtain ⟨d, hd, rfl⟩ := List.mem_map.mp hc
    exact Nat.ne_of_gt (Nat.add_pos_right _ (List.count_pos_iff.mpr hlisted))

/-- OUT_OF_SERVICE of the far end is shown, and reported to the Lodge firmware (R360). -/
theorem outOfServiceCtrl_shows (hlive : s.linkLive = true) (hserving : s.serving p = true) (hhead : s.rxHead p ptCtrl = some x)
    (hcode : (x.body.headD 0).toNat = 0x04) :
    ∃ t, exec (.outOfServiceCtrl p) s = .next t ∧ (t.port p).pane.farOos = true ∧ t.lodge.oosPorts.getLsbD p.val = true ∧
      (t.port p).pane.rxq = (s.port p).pane.rxq.drop 1 ∧ (∀ o, o ≠ p → t.port o = s.port o) ∧ t.counters = s.counters := by
  obtain ⟨g, hcontrol⟩ := State.takeControl_accepted hseg hearly htaken
  have hport (o : PortIx) : (((s.rxPop p).accepted p x q g).farOutOfService p).port o =
      (((s.rxPop p).accepted p x q g).modPane p (fun q => { q with farOos := true })).port o := rfl
  obtain ⟨hothers, -, -⟩ := (s.accepted_onlyPort p x q g).trans (.of_modPane _ p (fun q => { q with farOos := true }))
  refine ⟨_, exec_outOfServiceCtrl hlive hserving hhead hcode, ?_⟩
  rw [hcontrol, State.keep_port, hport, State.modPane_port_same, State.accepted_pane]
  refine ⟨rfl, ?_, ?_, fun o ho => (State.keep_port s _ o).trans ((hport o).trans (hothers o ho)), ?_⟩
  · simp [State.farOutOfService, p.isLt]
  · obtain ⟨l, n, e, a, k, t, rfl⟩ := Pane.takeFields_some htaken
    rfl
  · rw [State.keep_counters, State.farOutOfService, State.modLodge_counters, State.modPane_counters, State.accepted_counters]

end

/-- Settles O34: a pane whose tag passes acts on the state `accepted`, with its vector, its marks or OUT_OF_SERVICE; one whose tag fails is dropped and
counted (`dropped_counted`). -/
theorem controlPanesAct : Obligations.ControlPanesAct := by
  unfold Obligations.ControlPanesAct
  refine ⟨fun s p x q hlive hserving hseg hearly htaken => ?_, fun s p x hlive hserving hseg hcount => ?_⟩
  · refine ⟨fun hhead hrets => ?_, fun hhead hrets => ?_, fun hhead hretx => ?_, fun hhead hcode => ?_⟩
    · exact vector_taken hseg hearly htaken (exec_ackPane hlive hserving hhead) hrets
    · exact vector_taken hseg hearly htaken (exec_idlePane hlive hserving hhead) hrets
    · exact nakPane_resends hseg hearly htaken hlive hserving hhead hretx
    · exact outOfServiceCtrl_shows hseg hearly htaken hlive hserving hhead hcode
  · have hpop : ((s.rxPop p).port p).keys.segOf x.hdr x.slot x.body = none := by rwa [State.rxPop_port_same]
    refine ⟨fun hhead => ?_, fun hhead => ?_, fun hhead => ?_, fun hhead => ⟨fun hcode => ?_, fun hcode => ?_⟩⟩
    · exact dropped_counted ((exec_ackPane hlive hserving hhead).trans (by rw [State.takeVector, State.takeControl_dropped hpop])) hcount
    · exact dropped_counted ((exec_idlePane hlive hserving hhead).trans (by rw [State.takeVector, State.takeControl_dropped hpop])) hcount
    · exact dropped_counted ((exec_nakPane hlive hserving hhead).trans (by rw [State.takeControl_dropped hpop])) hcount
    · exact dropped_counted ((exec_resume hlive hserving hhead hcode).trans (by rw [State.takeResume_dropped hpop])) hcount
    · exact dropped_counted ((exec_outOfServiceCtrl hlive hserving hhead hcode).trans (by rw [State.takeControl_dropped hpop])) hcount

end Sys2Proof.Machine
end

section
/-!
PROOFS. RETIRE and VOID fences and slots freed (R321, R339, R340, R345, R352, R353): the statement FencesAndSlots.
-/
namespace Sys2Proof.Machine

/-! ### Fences that leave their slots (R339, R352) -/

/-- The key indices of which all twelve fences are recorded on a pane. -/
def Pane.drained (q : Pane) : List Nat := (List.range 16).filter (fun k => Table.get 0 q.fenced k == 4095)

/-- A pane with the records of key indices begun anew. -/
def Pane.clearRecords (full : List Nat) (q : Pane) : Pane := { q with fenced := full.foldl (fun t k => Table.put 0 t k 0) q.fenced }

/-- The Gatehouse with a port's report of key indices. -/
def Gate.reported (p : PortIx) (full : List Nat) (g : Gate) : Gate :=
  { g with drained := Table.put 0 g.drained p.val (Table.get 0 g.drained p.val ||| maskOf full) }

theorem State.reportDrained_eq (s : State) (p : PortIx) : s.reportDrained p =
    if (s.port p).pane.drained.isEmpty then s
    else (s.modPane p (Pane.clearRecords (s.port p).pane.drained)).modGate (Gate.reported p (s.port p).pane.drained) := rfl

theorem State.reportDrained_onlyPort (s : State) (p : PortIx) : s.OnlyPort p (s.reportDrained p) := by
  rw [State.reportDrained_eq]
  split
  · exact .refl p s
  · exact (State.OnlyPort.of_modPane ..).trans (.of_modGate ..)

/-- Reports to the Gatehouse change what is recorded of fences on the port. -/
theorem State.reportDrained_pane (s : State) (p : PortIx) : ((s.reportDrained p).port p).pane = (s.port p).pane.clearRecords (s.port p).pane.drained := by
  have hgate (t : State) (g : Gate → Gate) : (t.modGate g).port p = t.port p := rfl
  rw [State.reportDrained_eq]
  split
  case isTrue hempty => rw [List.isEmpty_iff.mp hempty]; rfl
  case isFalse => rw [hgate, State.modPane_port_same]

theorem State.fenceLeaves_onlyPort (s : State) (p : PortIx) : s.OnlyPort p (s.fenceLeaves p) :=
  (State.OnlyPort.of_modPane s p Pane.recordFence).trans (State.reportDrained_onlyPort ..)

theorem State.fenceLeaves_counters (s : State) (p : PortIx) : (s.fenceLeaves p).counters = s.counters := by
  rw [State.fenceLeaves, State.reportDrained_eq]
  split
  · rfl
  · rfl

theorem State.fenceLeaves_pane (s : State) (p : PortIx) :
    ((s.fenceLeaves p).port p).pane = (s.port p).pane.recordFence.clearRecords (s.port p).pane.recordFence.drained := by
  rw [State.fenceLeaves, State.reportDrained_pane, State.modPane_port_same]

/-- A fence that leaves changes the slots and what is recorded of fences. -/
theorem Pane.recordFence_leaves (q : Pane) : q.recordFence.rxq = q.rxq ∧ q.recordFence.held = q.held := by
  unfold Pane.recordFence
  split
  · exact ⟨rfl, rfl⟩
  · exact ⟨rfl, rfl⟩

/-- The records of key indices begun anew. -/
theorem get_foldl_put_zero (l : List Nat) (t : Table Nat) (k : Nat) :
    Table.get 0 (l.foldl (fun t k => Table.put 0 t k 0) t) k = if k ∈ l then 0 else Table.get 0 t k := by
  induction l generalizing t with
  | nil => rfl
  | cons a l ih =>
    rw [List.foldl_cons, ih]
    by_cases hk : k = a
    · subst hk
      simp
    · simp [hk, Table.get_put_other]

theorem maskOf_testBit {l : List Nat} {k : Nat} (h : k ∈ l) : (maskOf l).testBit k = true := by
  have hmono (l : List Nat) (m : Nat) (hm : m.testBit k = true ∨ k ∈ l) : (l.foldl (fun m i => m ||| (1 <<< i)) m).testBit k = true := by
    induction l generalizing m with
    | nil => simpa using hm
    | cons a l ih =>
      refine ih _ ?_
      rcases hm with hm | hm
      · exact .inl (by simp [hm])
      rcases List.mem_cons.mp hm with rfl | hm
      · exact .inl (by simp [Nat.testBit_shiftLeft])
      · exact .inr hm
  exact hmono l 0 (.inr h)

theorem Pane.recordFence_eq {q : Pane} {f : PoolSlot} {k : Nat} (hleaving : q.leavingFence = some f) (hkey : f.fenceKey = some k) : q.recordFence =
    { q with fenced := if k = 0 then q.fenced else Table.put 0 q.fenced k (Table.get 0 q.fenced k ||| 1 <<< f.vc),
             slots := q.slots.map (fun t => if t.seq = f.seq then { t with fenceKey := none } else t) } := by
  simp only [Pane.recordFence, hleaving, hkey, Option.getD_some]

/-- The Gatehouse has the report of every key index that is full. -/
theorem State.reportDrained_gate {s : State} {p : PortIx} {k : Nat} (h : k ∈ (s.port p).pane.drained) :
    (Table.get 0 (s.reportDrained p).gate.drained p.val).testBit k = true := by
  have hsome : (s.port p).pane.drained.isEmpty = false := List.isEmpty_eq_false_iff.mpr (List.ne_nil_of_mem h)
  rw [State.reportDrained_eq, hsome, if_neg Bool.false_ne_true]
  have hgate : ((s.modPane p (Pane.clearRecords (s.port p).pane.drained)).modGate (Gate.reported p (s.port p).pane.drained)).gate.drained =
      Table.put 0 s.gate.drained p.val (Table.get 0 s.gate.drained p.val ||| maskOf (s.port p).pane.drained) := rfl
  rw [hgate, Table.get_put_same, Nat.testBit_or, maskOf_testBit h, Bool.or_true]

/-- A fence recorded on its channel; once all twelve of its key index are, the Gatehouse has the port's report (R352). -/
theorem State.fenceLeaves_records {s : State} {p : PortIx} {f : PoolSlot} {k : Nat} (hleaving : (s.port p).pane.leavingFence = some f)
    (hkey : f.fenceKey = some k) : ((s.fenceLeaves p).port p).pane.slots =
      (s.port p).pane.slots.map (fun t => if t.seq = f.seq then { t with fenceKey := none } else t) ∧
    (k ≠ 0 → k < 16 → if Table.get 0 (s.port p).pane.fenced k ||| 1 <<< f.vc = 4095 then
      Table.get 0 ((s.fenceLeaves p).port p).pane.fenced k = 0 ∧ (Table.get 0 (s.fenceLeaves p).gate.drained p.val).testBit k = true
      else Table.get 0 ((s.fenceLeaves p).port p).pane.fenced k = Table.get 0 (s.port p).pane.fenced k ||| 1 <<< f.vc) := by
  have hrecord := Pane.recordFence_eq hleaving hkey
  refine ⟨by rw [State.fenceLeaves_pane, hrecord]; rfl, fun hzero hlt => ?_⟩
  have hfenced : Table.get 0 (s.port p).pane.recordFence.fenced k = Table.get 0 (s.port p).pane.fenced k ||| 1 <<< f.vc := by
    rw [hrecord]
    simp [hzero]
  have hmem : k ∈ (s.port p).pane.recordFence.drained ↔ Table.get 0 (s.port p).pane.fenced k ||| 1 <<< f.vc = 4095 := by
    rw [Pane.drained, List.mem_filter, List.mem_range, hfenced, beq_iff_eq, and_iff_right hlt]
  have hleft : Table.get 0 ((s.fenceLeaves p).port p).pane.fenced k =
      if k ∈ (s.port p).pane.recordFence.drained then 0 else Table.get 0 (s.port p).pane.fenced k ||| 1 <<< f.vc := by
    rw [State.fenceLeaves_pane, ← hfenced]
    exact get_foldl_put_zero ..
  split
  case isTrue hfull =>
    refine ⟨hleft.trans (if_pos (hmem.mpr hfull)), State.reportDrained_gate ?_⟩
    rw [State.modPane_port_same]
    exact hmem.mpr hfull
  case isFalse hsome => exact hleft.trans (if_neg fun h => hsome (hmem.mp h))

/-! ### Fences received (R321, R345, R353) -/

/-- The command that takes a FENCE of a kind. -/
def fenceInstr (p : PortIx) (void : Bool) : Instr := if void then .voidFence p else .retireFence p

section
variable {s : State} {p : PortIx} {x : RxPane} (hlive : s.linkLive = true) (hhead : s.rxHead p ptFence = some x) (hserving : s.serving p = true)
  (hearly : s.early p = false)
include hlive hhead hserving hearly

/-- A FENCE at the head of a port is taken by the command of its kind, and a fence that can leave leaves. -/
theorem exec_fence_takes : exec (fenceInstr p (x.body.headD 0 == 0x02)) s = .next (s.keep (((s.rxPop p).takeFence p x).fenceLeaves p)) := by
  have hearlyPop : (s.rxPop p).early p = false := by
    rw [State.early, State.rxPop_port_same]
    exact hearly
  have htaken : s.takeFencePane p = (s.rxPop p).takeFence p x := by
    rw [State.takeFencePane, State.takePane_serving hhead hserving, hearlyPop, if_neg Bool.false_ne_true]
  have hkind (void : Bool) : s.fenceHead p void = ((x.body.headD 0 == 0x02) == void) := by simp only [State.fenceHead, hhead]
  cases hvoid : x.body.headD 0 == 0x02 with
  | true =>
    show act (s.linkLive && s.fenceHead p true) s ((s.takeFencePane p).fenceLeaves p) = _
    rw [hlive, hkind, hvoid, htaken]
    rfl
  | false =>
    show act (s.linkLive && (s.fenceHead p false || (s.port p).pane.leavingFence.isSome)) s
      ((if s.fenceHead p false then s.takeFencePane p else s).fenceLeaves p) = _
    rw [hlive, hkind, hvoid, htaken]
    rfl

end

/-- A new FENCE whose tag fails is counted, else held where its code is known (R321, R353). -/
theorem State.takeFence_new {s : State} {p : PortIx} {x : RxPane} {n : Nat} (hvc : paneVc x.hdr < 12)
    (hclass : (s.port p).pane.seqClass (paneSeq x.hdr) = .new n) : (s.rxPop p).takeFence p x =
      if !(s.port p).keys.fenceOk (x.body.headD 0 == 0x02) n x.hdr x.body then (s.sequenced p x).bump (ctrBadDrop p)
      else if ((x.body.headD 0).toNat == 1 && 1 ≤ (x.body.getD 1 0).toNat && (x.body.getD 1 0).toNat ≤ 15) ||
        ((x.body.headD 0).toNat == 2 && (x.body.getD 1 0).toNat == 0) then (s.sequenced p x).holdPane p n x.hdr true (x.body.take 224)
      else (s.sequenced p x).protocolError p := by
  have hcode : ((x.body.headD 0).toNat == 2) = (x.body.headD 0 == 0x02) := by
    rw [Bool.eq_iff_iff, beq_iff_eq, beq_iff_eq, ← BitVec.toNat_inj]
    rfl
  have hport := s.sequenced_port_same p x
  have hsame : ((s.sequenced p x).port p).pane.seqClass (paneSeq x.hdr) = .new n := by
    rw [hport]
    exact hclass
  have hkeys : ((s.sequenced p x).port p).keys = (s.port p).keys := by rw [hport]
  rw [State.takeFence]
  rw [if_neg (Nat.not_le.mpr hvc), ← State.sequenced, hsame, hkeys, hcode]

/-- A fence that leaves takes nothing from what is held or received. -/
theorem State.fenceLeaves_queues (s : State) (p : PortIx) :
    ((s.fenceLeaves p).port p).pane.rxq = (s.port p).pane.rxq ∧ ((s.fenceLeaves p).port p).pane.held = (s.port p).pane.held := by
  rw [State.fenceLeaves_pane]
  exact (s.port p).pane.recordFence_leaves

theorem State.fenceLeaves_counter (s : State) (p : PortIx) (off : Nat) : (s.fenceLeaves p).counter off = s.counter off := by
  rw [State.counter, State.fenceLeaves_counters, State.counter]

section
variable {s : State} {p : PortIx} {x : RxPane} {n : Nat} (hlive : s.linkLive = true) (hhead : s.rxHead p ptFence = some x)
  (hserving : s.serving p = true) (hearly : s.early p = false) (hvc : paneVc x.hdr < 12)
  (hclass : (s.port p).pane.seqClass (paneSeq x.hdr) = .new n)
include hlive hhead hserving hearly hvc hclass

/-- A new FENCE whose tag fails is counted and not held. -/
theorem fence_dropped (htag : (s.port p).keys.fenceOk (x.body.headD 0 == 0x02) n x.hdr x.body = false)
    (hcount : (s.counter (ctrBadDrop p)).count < 0xFFFFFFFE) :
    ∃ t, exec (fenceInstr p (x.body.headD 0 == 0x02)) s = .next t ∧ (t.counter (ctrBadDrop p)).count = (s.counter (ctrBadDrop p)).count + 1 ∧
      (t.port p).pane.held = (s.port p).pane.held ∧ (t.port p).pane.rxq = (s.port p).pane.rxq.drop 1 := by
  have htaken : (s.rxPop p).takeFence p x = (s.sequenced p x).bump (ctrBadDrop p) := by
    rw [State.takeFence_new hvc hclass, htag]
    rfl
  obtain ⟨hrxq, hheld⟩ := State.fenceLeaves_queues ((s.sequenced p x).bump (ctrBadDrop p)) p
  refine ⟨_, exec_fence_takes hlive hhead hserving hearly, ?_⟩
  rw [State.keep_port, State.counter, State.keep_counters, ← State.counter, htaken, hrxq, hheld,
    State.fenceLeaves_counter, State.bump_port, State.sequenced_port_same]
  exact ⟨State.bump_count hcount, rfl, rfl⟩

/-- A new FENCE whose tag passes is held while an earlier pane is missing. -/
theorem fence_held (hnext : n ≠ (s.port p).pane.rxNext) (hmissing : ∀ h ∈ (s.port p).pane.held, h.seq ≠ (s.port p).pane.rxNext)
    (htag : (s.port p).keys.fenceOk (x.body.headD 0 == 0x02) n x.hdr x.body = true) (hroom : (s.port p).pane.slots.length < 4096)
    (hfields : ((s.port p).pane.takeFields x.hdr s.now).isSome = true)
    (hcode : (x.body.headD 0 = 0x01 ∧ 1 ≤ (x.body.getD 1 0).toNat ∧ (x.body.getD 1 0).toNat ≤ 15) ∨ (x.body.headD 0 = 0x02 ∧ x.body.getD 1 0 = 0)) :
    ∃ t, exec (fenceInstr p (x.body.headD 0 == 0x02)) s = .next t ∧ (t.port p).pane.rxq = (s.port p).pane.rxq.drop 1 ∧
      (t.port p).pane.held = (s.port p).pane.held ++
        [{ seq := n, fence := true, vc := paneVc x.hdr, key := paneKey x.hdr, sub := paneSub x.hdr, body := some (x.body.take 224) }] := by
  have hknown : (((x.body.headD 0).toNat == 1 && 1 ≤ (x.body.getD 1 0).toNat && (x.body.getD 1 0).toNat ≤ 15) ||
      ((x.body.headD 0).toNat == 2 && (x.body.getD 1 0).toNat == 0)) = true := by
    rcases hcode with ⟨h, hleast, hmost⟩ | ⟨h, hzero⟩
    · rw [h, decide_eq_true hleast, decide_eq_true hmost]
      rfl
    · rw [h, hzero]
      rfl
  have htaken : (s.rxPop p).takeFence p x = (s.sequenced p x).holdPane p n x.hdr true (x.body.take 224) := by
    rw [State.takeFence_new hvc hclass, htag, hknown]
    rfl
  have hport := s.sequenced_port_same p x
  obtain ⟨-, hrxq, -, hheld⟩ := State.holdPane_waits (s := s.sequenced p x) (p := p) (h := x.hdr) (n := n) (by rw [hport]; exact hroom)
    (by rw [hport, Pane.takeFields_arriving, Option.isSome_map]; exact hfields) (by rw [hport]; exact hnext) (by rw [hport]; exact hmissing)
    true (x.body.take 224)
  obtain ⟨hrxqLeft, hheldLeft⟩ := State.fenceLeaves_queues ((s.sequenced p x).holdPane p n x.hdr true (x.body.take 224)) p
  refine ⟨_, exec_fence_takes hlive hhead hserving hearly, ?_⟩
  rw [State.keep_port, htaken, hrxqLeft, hheldLeft, hrxq, hheld, hport]
  exact ⟨rfl, rfl⟩

end

/-! ### Fences and slots that leave (R339, R340, R352) -/

/-- A fence that can leave is recorded where no RETIRE fence is at the head of its port. -/
theorem exec_retireFence_leaves {s : State} {p : PortIx} (hlive : s.linkLive = true) (hhead : s.fenceHead p false = false)
    (hleaving : (s.port p).pane.leavingFence.isSome = true) : exec (.retireFence p) s = .next (s.keep (s.fenceLeaves p)) := by
  show act (s.linkLive && (s.fenceHead p false || (s.port p).pane.leavingFence.isSome)) s
    ((if s.fenceHead p false then s.takeFencePane p else s).fenceLeaves p) = _
  rw [hlive, hhead, hleaving]
  rfl

/-- A slot that comes free changes the counts of the channels and the turn of the grants, and nothing else of the pane. -/
theorem Pane.dropSlot_eq (q : Pane) (n v : Nat) :
    ∃ t k, q.dropSlot n v = { q with slots := q.slots.filter (fun t => t.seq != n), vcs := t, grantRr := k } := by
  unfold Pane.dropSlot Pane.slotFree
  dsimp only
  split
  · exact Pane.grantShared_eq 4096 _
  · exact Pane.grantShared_eq 4096 _

theorem exec_slotFreed {s : State} {p : PortIx} {n : Nat} {f : PoolSlot} (hlive : s.linkLive = true) (hemptied : (s.port p).pane.emptied n = some f) :
    exec (.slotFreed p n) s = .next (s.keep (s.modPane p (fun q => match q.emptied n with
      | none => q
      | some t => q.dropSlot n t.vc))) := by
  show act (s.linkLive && ((s.port p).pane.emptied n).isSome) s _ = _
  rw [hlive, hemptied]
  rfl

theorem slotFreed_frees {s : State} {p : PortIx} {n : Nat} {f : PoolSlot} (hlive : s.linkLive = true) (hemptied : (s.port p).pane.emptied n = some f) :
    ∃ t, exec (.slotFreed p n) s = .next t ∧ (t.port p).pane.slots = (s.port p).pane.slots.filter (fun x => x.seq != n) ∧
      (∀ o, o ≠ p → t.port o = s.port o) ∧ t.counters = s.counters ∧ t.front = s.front := by
  obtain ⟨vcs, turn, hdrop⟩ := (s.port p).pane.dropSlot_eq n f.vc
  have honly := (State.OnlyPort.of_modPane s p (fun q => match q.emptied n with
    | none => q
    | some t => q.dropSlot n t.vc)).kept
  refine ⟨_, exec_slotFreed hlive hemptied, ?_, honly.others, rfl, honly.front⟩
  rw [State.keep_port, State.modPane_port_same, hemptied]
  dsimp only
  rw [hdrop]

/-- Settles O35: a fence taken either waits among the held panes or is counted, and one that leaves is recorded on its channel. -/
theorem fencesAndSlots : Obligations.FencesAndSlots := by
  unfold Obligations.FencesAndSlots
  refine fun s p hlive => ⟨fun x n hhead hserving hearly hvc hclass _ hmissing hnext => ⟨fun htag hcount => ?_, fun htag hroom hfields hcode => ?_⟩,
    fun f k hhead hleaving hkey => ?_, fun n f hemptied => slotFreed_frees hlive hemptied⟩
  · exact fence_dropped hlive hhead hserving hearly hvc hclass htag hcount
  · exact fence_held hlive hhead hserving hearly hvc hclass hnext hmissing htag hroom hfields hcode
  · have honly := (s.fenceLeaves_onlyPort p).kept
    exact ⟨_, exec_retireFence_leaves hlive hhead (Option.isSome_iff_exists.mpr ⟨f, hleaving⟩), honly.others, s.fenceLeaves_counters p, honly.front,
      State.fenceLeaves_records hleaving hkey⟩

end Sys2Proof.Machine
end

section
/-!
PROOFS. PURGE (R361, R362): the statement PurgeClears.
-/
namespace Sys2Proof.Machine

/-! ### What a purge leaves (R362) -/

/-- Between two states what is queued and what the Cullets hold stay, and so does the front end. -/
structure State.QueuesStay (s u : State) : Prop where
  txq : ∀ o, (u.port o).pane.txq = (s.port o).pane.txq
  cullet : ∀ o, (u.port o).pane.cullet = (s.port o).pane.cullet
  front : u.front = s.front

namespace State.QueuesStay

variable {s u v : State}

theorem refl (s : State) : s.QueuesStay s := ⟨fun _ => rfl, fun _ => rfl, rfl⟩

theorem trans (h : s.QueuesStay u) (k : u.QueuesStay v) : s.QueuesStay v :=
  ⟨fun o => (k.txq o).trans (h.txq o), fun o => (k.cullet o).trans (h.cullet o), k.front.trans h.front⟩

theorem of_leaveIn (s : State) (inbound : Nat) (l : List Nat) : s.QueuesStay (s.leaveIn inbound l) := by
  unfold State.leaveIn
  split
  · exact refl s
  next i =>
    split
    case isTrue h =>
      have hport (o : PortIx) : ((s.modPane ⟨i, h⟩ (fun q => q.leaves l)).port o).pane.txq = (s.port o).pane.txq ∧
          ((s.modPane ⟨i, h⟩ (fun q => q.leaves l)).port o).pane.cullet = (s.port o).pane.cullet := by
        by_cases ho : o = ⟨i, h⟩
        · subst ho
          rw [State.modPane_port_same]
          exact ⟨rfl, rfl⟩
        · rw [State.modPane_port_other _ _ _ _ ho]
          exact ⟨rfl, rfl⟩
      exact ⟨fun o => (hport o).1, fun o => (hport o).2, rfl⟩
    case isFalse => exact refl s

theorem of_bumpN (s : State) (off n : Nat) : s.QueuesStay (s.bumpN off n) := by
  induction n generalizing s with
  | zero => exact refl s
  | succ n ih => exact trans ⟨fun o => by rw [State.bump_port], fun o => by rw [State.bump_port], State.bump_front ..⟩ (ih (s.bump off))

end State.QueuesStay

/-- Nothing of the key indices is queued on a pane, and its Cullet holds none of their panes but VOID fences. -/
structure Pane.Purged (ok : Nat → Bool) (q : Pane) : Prop where
  txq : ∀ m ∈ q.txq, ok m.key = false
  cullet : ∀ c ∈ q.cullet, c.void = true ∨ ok c.key = false

theorem State.QueuesStay.purged {s u : State} (h : s.QueuesStay u) {ok : Nat → Bool} {o : PortIx} (hpurged : (s.port o).pane.Purged ok) :
    (u.port o).pane.Purged ok := ⟨h.txq o ▸ hpurged.txq, h.cullet o ▸ hpurged.cullet⟩

/-- A pane without what is queued of key indices. -/
def Pane.discarding (ok : Nat → Bool) (q : Pane) : Pane :=
  { q with txq := q.txq.filter (fun m => !ok m.key), cur := q.cur.filter (fun e => !(e.2.busy && ok e.2.key)) }

/-- Units discarded leave the pools they stand in. -/
theorem State.discardQueued_stay (s : State) (p : PortIx) (ok : Nat → Bool) : (s.modPane p (Pane.discarding ok)).QueuesStay (s.discardQueued p ok).1 :=
  State.QueuesStay.trans (foldl_keeps .refl .trans (fun m _ t => .of_leaveIn t m.inbound m.slots) _)
    (foldl_keeps .refl .trans (fun e _ t => .of_leaveIn t e.2.inbound e.2.slots) _)

/-- One port is purged, the other ports stay purged. -/
structure State.Purges (ok : Nat → Bool) (p : PortIx) (s u : State) : Prop where
  clears : (u.port p).pane.Purged ok
  keeps : ∀ o, (s.port o).pane.Purged ok → (u.port o).pane.Purged ok
  front : u.front = s.front

theorem State.voidCullet_port_same (s : State) (p : PortIx) (ok : Nat → Bool) : ((s.voidCullet p ok).1.port p).pane.txq = (s.port p).pane.txq ∧
    ∀ c ∈ ((s.voidCullet p ok).1.port p).pane.cullet, c.void = true ∨ ok c.key = false := by
  rw [State.voidCullet, State.modPane_port_same]
  refine ⟨rfl, fun c hc => ?_⟩
  obtain ⟨d, -, rfl⟩ := List.mem_map.mp hc
  dsimp only
  split
  next hkept => simpa using hkept
  · exact .inl rfl

theorem State.purgePort_purges (s : State) (p : PortIx) (ok : Nat → Bool) : s.Purges ok p (s.purgePort p ok).1 := by
  have hstay := (s.discardQueued_stay p ok).trans (.of_bumpN _ (ctrPlDiscard p) (s.discardQueued p ok).2)
  have hpurge : (s.purgePort p ok).1 = (((s.discardQueued p ok).1.bumpN (ctrPlDiscard p) (s.discardQueued p ok).2).voidCullet p ok).1 := rfl
  have hother (t : State) (o : PortIx) (ho : o ≠ p) : (t.voidCullet p ok).1.port o = t.port o := State.modPane_port_other _ _ _ _ ho
  have hclears : ((s.purgePort p ok).1.port p).pane.Purged ok := by
    rw [hpurge]
    refine ⟨fun m hm => ?_, (State.voidCullet_port_same _ p ok).2⟩
    rw [(State.voidCullet_port_same _ p ok).1, hstay.txq, State.modPane_port_same] at hm
    simpa using (List.mem_filter.mp hm).2
  refine ⟨hclears, fun o hpurged => ?_, ?_⟩
  · by_cases ho : o = p
    · exact ho ▸ hclears
    · rw [hpurge, hother _ o ho]
      refine hstay.purged ?_
      rw [State.modPane_port_other _ _ _ _ ho]
      exact hpurged
  · rw [hpurge]
    exact hstay.front

/-- One port of a purge, with the two counts so far. -/
def purgeStep (ports keys : Nat) (a : State × Nat × Nat) (p : PortIx) : State × Nat × Nat :=
  if ports.testBit p.val then
    ((a.1.purgePort p keys.testBit).1, a.2.1 + (a.1.purgePort p keys.testBit).2.1, a.2.2 + (a.1.purgePort p keys.testBit).2.2)
  else a

theorem State.purgePorts_eq (s : State) (ports keys : Nat) : s.purgePorts ports keys = allPorts.foldl (purgeStep ports keys) (s, 0, 0) := rfl

/-- A port of a list that is named is purged by the steps of the list, and stays so. -/
theorem purgeSteps_purge (ports keys : Nat) (l : List PortIx) (a : State × Nat × Nat) : (l.foldl (purgeStep ports keys) a).1.front = a.1.front ∧
    ∀ p : PortIx, ((p ∈ l ∧ ports.testBit p.val = true) ∨ (a.1.port p).pane.Purged keys.testBit) →
      ((l.foldl (purgeStep ports keys) a).1.port p).pane.Purged keys.testBit := by
  induction l generalizing a with
  | nil => exact ⟨rfl, fun p h => h.resolve_left fun h => List.not_mem_nil h.1⟩
  | cons o l ih =>
    obtain ⟨hfront, hpurged⟩ := ih (purgeStep ports keys a o)
    rw [List.foldl_cons]
    cases hnamed : ports.testBit o.val with
    | false =>
      have hstep : purgeStep ports keys a o = a := if_neg (by rw [hnamed]; exact Bool.false_ne_true)
      rw [hstep] at hfront hpurged ⊢
      refine ⟨hfront, fun p h => hpurged p (h.imp_left fun ⟨hmem, hport⟩ => ⟨(List.mem_cons.mp hmem).resolve_left ?_, hport⟩)⟩
      rintro rfl
      exact absurd (hport.symm.trans hnamed) (by decide)
    | true =>
      have hstep : (purgeStep ports keys a o).1 = (a.1.purgePort o keys.testBit).1 := by rw [purgeStep, if_pos hnamed]
      have hone := a.1.purgePort_purges o keys.testBit
      rw [hstep] at hfront hpurged
      refine ⟨hfront.trans hone.front, fun p h => hpurged p ?_⟩
      rcases h with ⟨hmem, hport⟩ | hold
      · rcases List.mem_cons.mp hmem with rfl | hmem
        · exact .inr hone.clears
        · exact .inl ⟨hmem, hport⟩
      · exact .inr (hone.keeps p hold)

/-- The ports named are purged. -/
theorem State.purgePorts_purges (s : State) (ports keys : Nat) : (s.purgePorts ports keys).1.front = s.front ∧
    ∀ p : PortIx, ports.testBit p.val = true → ((s.purgePorts ports keys).1.port p).pane.Purged keys.testBit := by
  obtain ⟨hfront, hpurged⟩ := purgeSteps_purge ports keys allPorts (s, 0, 0)
  rw [State.purgePorts_eq]
  exact ⟨hfront, fun p hport => hpurged p (.inl ⟨mem_allPorts p, hport⟩)⟩

/-! ### The command (R361) -/

section
variable {s : State} {r : AdminRef} (hcmd : s.mgmtIs r 0x0301 = true) (hturn : s.lodgeTurn r = true)
include hcmd hturn

theorem exec_purge : exec (.purge r) s = .next (s.keep (s.purgeCmd r)) := by
  show act (s.mgmtIs r 0x0301 && s.lodgeTurn r) s _ = _
  rw [hcmd, hturn]
  rfl

/-- A purge that is refused is finished with the status, and leaves every port. -/
theorem purge_refused {st : Nat} (h : s.purgeCmd r = s.finish r st) :
    ∃ t, exec (.purge r) s = .next t ∧ t.ports = s.ports ∧ t.phaseOf r = some (.finished st 0 0 0 0) := by
  refine ⟨_, exec_purge hcmd hturn, ?_⟩
  rw [h]
  exact ⟨State.finish_ports .., State.finish_phaseOf (State.unfinished_of_mgmtIs hcmd) st 0 0 0 0⟩

/-- A purge performed is finished with its two counts and has purged the ports named. -/
theorem purge_performed {ports keys : Nat}
    (h : s.purgeCmd r = (s.purgePorts ports keys).1.finish r asOk (s.purgePorts ports keys).2.1 (s.purgePorts ports keys).2.2) :
    ∃ t, exec (.purge r) s = .next t ∧
      t.phaseOf r = some (.finished 0 0 (s.purgePorts ports keys).2.1 (s.purgePorts ports keys).2.2 0) ∧ t.front.chans = s.front.chans ∧
      ∀ p : PortIx, ports.testBit p.val = true → (t.port p).pane.Purged keys.testBit := by
  obtain ⟨hfront, hpurged⟩ := s.purgePorts_purges ports keys
  have hopen : ((s.purgePorts ports keys).1.cmd r).any AdminCmd.unfinished = true := by
    rw [State.cmd_congr (congrArg FrontEnd.cmds hfront)]
    exact State.unfinished_of_mgmtIs hcmd
  refine ⟨_, exec_purge hcmd hturn, ?_⟩
  rw [h]
  refine ⟨State.finish_phaseOf hopen asOk _ _ 0 0, (State.finish_chans ..).trans (congrArg FrontEnd.chans hfront), fun p hport => ?_⟩
  rw [State.keep_port, State.finish_port]
  exact hpurged p hport

end

section
variable {s : State} {r : AdminRef}

theorem State.purgeCmd_malformed (h : bits ((s.cmdD r).arg 2) 5 0 = 0 ∨ bits ((s.cmdD r).arg 3) 15 0 = 0 ∨ bits ((s.cmdD r).arg 2) 63 6 ≠ 0 ∨
    bits ((s.cmdD r).arg 3) 63 16 ≠ 0 ∨ (s.cmdD r).zeroArgs [4, 5, 6, 7] = false) : s.purgeCmd r = s.finish r asBadCommand := by
  refine if_pos ?_
  rcases h with h | h | h | h | h <;> simp [h]

variable (hports : bits ((s.cmdD r).arg 2) 5 0 ≠ 0) (hkeys : bits ((s.cmdD r).arg 3) 15 0 ≠ 0) (hhigh : bits ((s.cmdD r).arg 2) 63 6 = 0)
  (hhighKeys : bits ((s.cmdD r).arg 3) 63 16 = 0) (hzero : (s.cmdD r).zeroArgs [4, 5, 6, 7] = true)
include hports hkeys hhigh hhighKeys hzero

theorem State.purgeCmd_wellFormed : s.purgeCmd r =
    if (s.cmdD r).pav != 0 && (bits ((s.cmdD r).arg 3) 15 0 != 1 <<< (s.cmdD r).pav ||
      allPorts.any (fun p => (bits ((s.cmdD r).arg 2) 5 0).testBit p.val && !s.linkInBlock (s.cmdD r).pav p)) then s.finish r asDenied
    else (s.purgePorts (bits ((s.cmdD r).arg 2) 5 0) (bits ((s.cmdD r).arg 3) 15 0)).1.finish r asOk
      (s.purgePorts (bits ((s.cmdD r).arg 2) 5 0) (bits ((s.cmdD r).arg 3) 15 0)).2.1
      (s.purgePorts (bits ((s.cmdD r).arg 2) 5 0) (bits ((s.cmdD r).arg 3) 15 0)).2.2 := by
  refine if_neg ?_
  simp [hports, hkeys, hhigh, hhighKeys, hzero]

theorem State.purgeCmd_foreign (hpav : (s.cmdD r).pav ≠ 0) (hforeign : bits ((s.cmdD r).arg 3) 15 0 ≠ 1 <<< (s.cmdD r).pav ∨
    ∃ p : PortIx, (bits ((s.cmdD r).arg 2) 5 0).testBit p.val = true ∧ s.linkInBlock (s.cmdD r).pav p = false) :
    s.purgeCmd r = s.finish r asDenied := by
  rw [State.purgeCmd_wellFormed hports hkeys hhigh hhighKeys hzero]
  refine if_pos ?_
  rcases hforeign with hkey | ⟨p, hport, hlink⟩
  · simp [hpav, hkey]
  · have hany : allPorts.any (fun p => (bits ((s.cmdD r).arg 2) 5 0).testBit p.val && !s.linkInBlock (s.cmdD r).pav p) = true :=
      List.any_eq_true.mpr ⟨p, mem_allPorts p, by rw [hport, hlink]; rfl⟩
    rw [hany, Bool.or_true, Bool.and_true]
    exact bne_iff_ne.mpr hpav

theorem State.purgeCmd_own (hown : (s.cmdD r).pav = 0 ∨ (bits ((s.cmdD r).arg 3) 15 0 = 1 <<< (s.cmdD r).pav ∧
    ∀ p : PortIx, (bits ((s.cmdD r).arg 2) 5 0).testBit p.val = true → s.linkInBlock (s.cmdD r).pav p = true)) :
    s.purgeCmd r = (s.purgePorts (bits ((s.cmdD r).arg 2) 5 0) (bits ((s.cmdD r).arg 3) 15 0)).1.finish r asOk
      (s.purgePorts (bits ((s.cmdD r).arg 2) 5 0) (bits ((s.cmdD r).arg 3) 15 0)).2.1
      (s.purgePorts (bits ((s.cmdD r).arg 2) 5 0) (bits ((s.cmdD r).arg 3) 15 0)).2.2 := by
  rw [State.purgeCmd_wellFormed hports hkeys hhigh hhighKeys hzero]
  refine if_neg ?_
  rcases hown with hpod | ⟨hkey, hlinks⟩
  · simp [hpod]
  · have hnone : allPorts.any (fun p => (bits ((s.cmdD r).arg 2) 5 0).testBit p.val && !s.linkInBlock (s.cmdD r).pav p) = false := by
      refine List.any_eq_false.mpr fun p _ => ?_
      simpa using hlinks p
    rw [hnone, bne_eq_false_iff_eq.mpr hkey]
    simp

end

/-- Settles O37: what a purge is refused for is read off its arguments, and a port purged stays so while the others are (`purgeSteps_purge`). -/
theorem purgeClears : Obligations.PurgeClears := by
  unfold Obligations.PurgeClears
  refine fun s r hcmd hturn => ⟨fun hmalformed => purge_refused hcmd hturn (State.purgeCmd_malformed hmalformed),
    fun hports hkeys hhigh hhighKeys hzero => ⟨fun hpav hforeign => ?_, fun hown => ?_⟩⟩
  · exact purge_refused hcmd hturn (State.purgeCmd_foreign hports hkeys hhigh hhighKeys hzero hpav hforeign)
  · obtain ⟨t, hexec, hphase, hchans, hpurged⟩ := purge_performed hcmd hturn (State.purgeCmd_own hports hkeys hhigh hhighKeys hzero hown)
    exact ⟨t, hexec, hphase, hchans, fun p hport => ⟨(hpurged p hport).txq, (hpurged p hport).cullet⟩⟩

end Sys2Proof.Machine
end

section
/-!
PROOFS. DATA panes (R345): the statement DataPanesAreTaken.
-/
namespace Sys2Proof.Machine

/-! ### Units that arrive (R22 to R24, R324, R351) -/

namespace State.UnitsMove

theorem of_activity (s : State) (pav : Nat) : s.UnitsMove (s.activity pav) := of_ports rfl

theorem of_belvAdd (s : State) (scope id n : Nat) : s.UnitsMove (s.belvAdd scope id n) := of_ports rfl

theorem of_raiseContained (s : State) (e : ErrorReport) : s.UnitsMove (s.raiseContained e) := of_ports (State.raiseContained_ports ..)

theorem of_sendMsg (s : State) (cls key dest : Nat) (m : Msg) : s.UnitsMove (s.sendMsg cls key dest m) := of_sendVia ..

theorem of_retiredMsg (s : State) (p : PortIx) (hdr : LinkUnit) (slots : List Nat) : s.UnitsMove (s.retiredMsg p hdr slots) := by
  unfold State.retiredMsg
  dsimp only
  split
  · exact trans (of_modPane s p) (of_sendMsg ..)
  · exact of_modPane s p

theorem of_sweepPool (p : PortIx) (n : Nat) (s : State) : s.UnitsMove (State.sweepPool p n s) := by
  induction n generalizing s with
  | zero => exact refl s
  | succ n ih =>
    unfold State.sweepPool
    split
    · exact refl s
    · exact trans (trans (of_modPane s p) (of_retiredMsg ..)) (ih _)

theorem of_transitDiscard (s : State) (p : PortIx) (key : Nat) (slots : List Nat) : s.UnitsMove (s.transitDiscard p key slots) :=
  trans (trans (of_modPane s p) (of_bump _ (ctrTransit p))) (of_raiseContained ..)

theorem of_cutTransit (s : State) (p : PortIx) (stream : Nat) : s.UnitsMove (s.cutTransit p stream) := by
  unfold State.cutTransit
  split
  · exact refl s
  · exact trans (of_cutQueued ..) (of_cutSending ..)

theorem of_deliver (s : State) (p : PortIx) (vc key : Nat) (m : Msg) (slots : List Nat) (dead : Bool) : s.UnitsMove (s.deliver p vc key m slots dead) := by
  unfold State.deliver State.swept
  exact trans (trans (of_modPane s p) (of_activity ..)) (of_sweepPool ..)

theorem of_startTransit (s : State) (p : PortIx) (vc sub key slot : Nat) (u : LinkUnit) (whole : Bool) :
    s.UnitsMove (s.startTransit p vc sub key slot u whole) := by
  unfold State.startTransit
  dsimp only
  split
  · exact of_modPane s p
  split
  case isTrue h =>
    split
    · exact of_transitDiscard ..
    · exact trans (of_modPane s _) (of_belvAdd ..)
  case isFalse => exact of_transitDiscard ..

theorem of_moreTransit (s : State) (p : PortIx) (stream slot : Nat) (u : LinkUnit) (whole : Bool) :
    s.UnitsMove (s.moreTransit p stream slot u whole) := by
  unfold State.moreTransit
  split
  · exact of_modPane s p
  · exact trans (of_modPane s _) (of_belvAdd ..)

theorem of_abandon (s : State) (p : PortIx) (vc sub : Nat) : s.UnitsMove (s.abandon p vc sub) := by
  unfold State.abandon
  dsimp only
  split
  · exact refl s
  next h =>
    have hcut := trans (trans (of_cutTransit s p (streamIx vc sub))
      (of_modPane _ p (g := fun q => { q with parse := Table.put {} q.parse (streamIx vc sub) {} }))) (of_bump _ (ctrPlDiscard p))
    split
    · exact trans hcut (of_retiredMsg ..)
    · exact trans hcut (of_modPane _ p)

theorem of_takeUnits (p : PortIx) (vc sub key slot : Nat) (l : List LinkUnit) (s : State) : s.UnitsMove (State.takeUnits p vc sub key slot l s).1 := by
  have hput (v : ParseState) (a : State) : a.UnitsMove (a.modPane p (fun q => { q with parse := Table.put {} q.parse (streamIx vc sub) v })) :=
    of_modPane a p
  induction l generalizing s with
  | nil => exact refl s
  | cons u r ih =>
    unfold State.takeUnits
    dsimp only
    generalize hs1 : (if (s.hopOf p ((Table.get ({} : ParseState) (s.port p).pane.parse (streamIx vc sub)).hdr.getD u) == 6 &&
      slot ∈ (Table.get ({} : ParseState) (s.port p).pane.parse (streamIx vc sub)).slots) = true then s else s.modPane p (fun q => q.enters slot)) = s1
    have henters : s.UnitsMove s1 := by
      rw [← hs1]
      split
      · exact refl s
      · exact of_modPane s p
    have hpass (whole : Bool) : s.UnitsMove (if (Table.get ({} : ParseState) (s.port p).pane.parse (streamIx vc sub)).hdr.isNone then
        s1.startTransit p vc sub key slot u whole else s1.moreTransit p (streamIx vc sub) slot u whole) := by
      split
      · exact trans henters (of_startTransit ..)
      · exact trans henters (of_moreTransit ..)
    split
    · exact refl s
    · exact refl s
    next v _ =>
      refine trans ?_ (ih _)
      split
      · exact trans henters (hput ..)
      · exact trans (hpass false) (hput ..)
    next v m slots _ =>
      refine trans ?_ (ih _)
      split
      · exact trans (trans henters (hput ..)) (of_deliver ..)
      · exact trans (hpass true) (hput ..)

end State.UnitsMove

/-! ### Panes held and released (R345, R346) -/

/-- Between two states of a port RX_NEXT stays, and a port that held nothing holds nothing. -/
structure State.HoldsNoMore (p : PortIx) (s u : State) : Prop where
  rxNext : (u.port p).pane.rxNext = (s.port p).pane.rxNext
  held : (s.port p).pane.held = [] → (u.port p).pane.held = []

namespace State.HoldsNoMore

variable {p : PortIx} {s u v : State}

theorem trans (h : s.HoldsNoMore p u) (k : u.HoldsNoMore p v) : s.HoldsNoMore p v := ⟨k.rxNext.trans h.rxNext, fun hheld => k.held (h.held hheld)⟩

theorem of_pane (hnext : (u.port p).pane.rxNext = (s.port p).pane.rxNext) (hheld : (u.port p).pane.held = (s.port p).pane.held) : s.HoldsNoMore p u :=
  ⟨hnext, hheld.trans⟩

theorem of_unitsMove (h : s.UnitsMove u) : s.HoldsNoMore p u := by
  have hpane := h.pane p
  exact of_pane (congrArg Pane.rxNext hpane :) (congrArg Pane.held hpane :)

theorem of_bumpN (s : State) (off n : Nat) : s.HoldsNoMore p (s.bumpN off n) := by
  induction n generalizing s with
  | zero => exact ⟨rfl, id⟩
  | succ n ih => exact trans (of_unitsMove (.of_bump s off)) (ih (s.bump off))

end State.HoldsNoMore

theorem Pane.reset_empties (q : Pane) : q.reset.rxNext = q.rxNext ∧ q.reset.held = [] := by
  unfold Pane.reset
  dsimp only
  obtain ⟨t, ht⟩ := Pane.foldl_modVc _ vcIds _
  rw [ht]
  exact ⟨rfl, rfl⟩

theorem State.paneReset_holdsNoMore (s : State) (p : PortIx) : s.HoldsNoMore p (s.paneReset p) := by
  have hreset (u : State) (l : List Nat) : u.HoldsNoMore p (u.modPane p (fun q => (q.leaves l).reset)) := by
    refine ⟨?_, fun _ => ?_⟩
    · rw [State.modPane_port_same]
      exact (Pane.reset_empties _).1
    · rw [State.modPane_port_same]
      exact (Pane.reset_empties _).2
  have hcut := State.UnitsMove.of_foldl (f := fun a e => a.cutTransit p e.1) (fun _ a => .of_cutTransit a ..) (s.port p).pane.parse s
  have hleave := hcut.trans (State.UnitsMove.of_foldl (f := fun a e => a.leaveIn e.2.inbound e.2.slots) (fun _ a => .of_leaveIn a ..)
    ((s.port p).pane.cur.filter (fun e => e.2.busy)) _)
  exact ((State.HoldsNoMore.of_unitsMove hleave).trans (hreset ..)).trans (.of_bumpN ..)

theorem State.retrain_holdsNoMore (s : State) (p : PortIx) (cause : Nat) : s.HoldsNoMore p (s.retrain p cause) := by
  rw [State.retrain]
  cases hserving : s.serving p with
  | true =>
    obtain ⟨hpane, -⟩ := s.retrainWith_serving p cause 0 hserving
    exact .of_pane (by rw [hpane]; rfl) (by rw [hpane]; rfl)
  | false =>
    rw [State.retrainWith, hserving, if_neg Bool.false_ne_true]
    exact ⟨rfl, id⟩

theorem State.protocolError_holdsNoMore (s : State) (p : PortIx) : s.HoldsNoMore p (s.protocolError p) :=
  ((State.HoldsNoMore.of_unitsMove (.of_bump s (ctrProtoErr p))).trans (State.paneReset_holdsNoMore ..)).trans (State.retrain_holdsNoMore ..)

/-- A DATA pane released leaves the panes held, and RX_NEXT is the next; its units hold none. -/
theorem State.releaseOne_releases {s : State} {p : PortIx} {h : HeldPane} {body : List Byte} (hbody : h.body = some body) (hfence : h.fence = false)
    (honly : (s.port p).pane.held.filter (fun x => x.seq != h.seq) = []) :
    ((s.releaseOne p h).port p).pane.rxNext = (s.port p).pane.rxNext + 1 ∧ ((s.releaseOne p h).port p).pane.held = [] := by
  unfold State.releaseOne
  rw [hbody, hfence]
  dsimp only
  generalize hs1 : (s.modPane p _).modKeys p _ = s1
  have hport : (s1.port p).pane.rxNext = (s.port p).pane.rxNext + 1 ∧ (s1.port p).pane.held = [] := by
    rw [← hs1, State.modKeys_port_same, State.modPane_port_same]
    exact ⟨rfl, honly⟩
  rw [if_neg Bool.false_ne_true]
  have htaken (u : State) (hu : s1.UnitsMove u) : s1.HoldsNoMore p (let r := State.takeUnits p h.vc h.sub h.key h.seq (unitsOf (body.length / 16) body) u
      if r.2 then r.1 else r.1.protocolError p) := by
    have hunits := State.HoldsNoMore.of_unitsMove (p := p) (hu.trans (.of_takeUnits p h.vc h.sub h.key h.seq (unitsOf (body.length / 16) body) u))
    dsimp only
    split
    · exact hunits
    · exact hunits.trans (State.protocolError_holdsNoMore ..)
  have hstays (u : State) (hu : s1.HoldsNoMore p u) : (u.port p).pane.rxNext = (s.port p).pane.rxNext + 1 ∧ (u.port p).pane.held = [] :=
    ⟨hu.rxNext.trans hport.1, hu.held hport.2⟩
  split
  · exact hstays _ (htaken _ (.of_abandon ..))
  · exact hstays _ (htaken _ (.refl s1))

/-- A DATA pane as it is held, in its place of the window. -/
def heldData (n : Nat) (h : Word) (body : List Byte) : HeldPane :=
  { seq := n, fence := false, vc := paneVc h, key := paneKey h, sub := paneSub h, body := some body }

/-- The next pane of a port that holds nothing is released at once (R346). -/
theorem State.holdPane_releases {s : State} {p : PortIx} {h : Word} (hroom : (s.port p).pane.slots.length < 4096)
    (hfields : ((s.port p).pane.takeFields h s.now).isSome = true) (hempty : (s.port p).pane.held = []) (body : List Byte) :
    ((s.holdPane p (s.port p).pane.rxNext h false body).port p).pane.rxNext = (s.port p).pane.rxNext + 1 ∧
      ((s.holdPane p (s.port p).pane.rxNext h false body).port p).pane.held = [] := by
  obtain ⟨q, hq⟩ := Option.isSome_iff_exists.mp hfields
  obtain ⟨l, k, e, a, j, t, rfl⟩ := Pane.takeFields_some hq
  rw [State.holdPane_eq hroom hq]
  dsimp only
  rw [hempty]
  generalize hs1 : (s.modPane p _).modPane p _ = s1
  have hport : (s1.port p).pane.rxNext = (s.port p).pane.rxNext ∧ (s1.port p).pane.held = [heldData (s.port p).pane.rxNext h body] := by
    rw [← hs1, State.modPane_port_same, State.modPane_port_same]
    exact ⟨rfl, rfl⟩
  have hrelease : State.release p 1 s1 = s1.releaseOne p (heldData (s.port p).pane.rxNext h body) := by
    have hfound : (s1.port p).pane.held.find? (fun x => x.seq == (s1.port p).pane.rxNext) = some (heldData (s.port p).pane.rxNext h body) := by
      rw [hport.1, hport.2]
      exact List.find?_cons_of_pos (beq_self_eq_true _)
    rw [State.release, hfound]
    rfl
  rw [List.length_nil, Nat.zero_add, hrelease, ← hport.1]
  refine State.releaseOne_releases rfl rfl ?_
  rw [hport.2, hport.1]
  simp

/-! ### DATA panes taken (R321, R345) -/

/-- A duplicate is acknowledged and counted. -/
theorem State.takeData_duplicate {s : State} {p : PortIx} {x : RxPane} (hvc : paneVc x.hdr < 12)
    (hclass : (s.port p).pane.seqClass (paneSeq x.hdr) = .dup) : (s.rxPop p).takeData p x =
      ((s.sequenced p x).modPane p (fun q => { q with ackDue := true })).bump (ctrDup p) := by
  have hsame : ((s.sequenced p x).port p).pane.seqClass (paneSeq x.hdr) = .dup := by
    rw [State.sequenced_port_same]
    exact hclass
  rw [State.takeData, if_neg (Nat.not_le.mpr hvc), ← State.sequenced, hsame]

/-- A new pane of a key index in use is held where it opens under one of its key slots, and counted where it does not. -/
theorem State.takeData_new {s : State} {p : PortIx} {x : RxPane} {n : Nat} (hvc : paneVc x.hdr < 12)
    (hclass : (s.port p).pane.seqClass (paneSeq x.hdr) = .new n) (hretired : (s.port p).pane.retired.getLsbD (paneKey x.hdr) = false)
    (hkeyed : (s.port p).keys.rx (paneKey x.hdr) ≠ []) : (s.rxPop p).takeData p x =
      match (s.port p).keys.openData (paneKey x.hdr) n x.hdr (paneEnc x.hdr) x.body with
      | none => (s.sequenced p x).bump (ctrBadDrop p)
      | some units => (s.sequenced p x).holdPane p n x.hdr false units := by
  have hport := s.sequenced_port_same p x
  have hsame : ((s.sequenced p x).port p).pane.seqClass (paneSeq x.hdr) = .new n := by
    rw [hport]
    exact hclass
  have hkept : ((s.sequenced p x).port p).pane.retired.getLsbD (paneKey x.hdr) = false := by
    rw [hport]
    exact hretired
  have hkeys : ((s.sequenced p x).port p).keys = (s.port p).keys := by rw [hport]
  have hsome : ((s.port p).keys.rx (paneKey x.hdr)).isEmpty = false := List.isEmpty_eq_false_iff.mpr hkeyed
  rw [State.takeData, if_neg (Nat.not_le.mpr hvc), ← State.sequenced, hsame, hkeys]
  dsimp only
  rw [hkept, hsome]
  rfl

section
variable {s : State} {p : PortIx} {x : RxPane} (hlive : s.linkLive = true) (hhead : s.rxHead p ptData = some x) (hserving : s.serving p = true)
  (hearly : s.early p = false)
include hlive hhead hserving hearly

theorem exec_dataPane : exec (.dataPane p) s = .next (s.keep ((s.rxPop p).takeData p x)) := by
  have hearlyPop : (s.rxPop p).early p = false := by
    rw [State.early, State.rxPop_port_same]
    exact hearly
  show act (s.linkLive && (s.rxHead p ptData).isSome) s _ = _
  rw [State.takePane_serving hhead hserving, hearlyPop, hlive, hhead]
  rfl

variable (hvc : paneVc x.hdr < 12)
include hvc

theorem dataPane_duplicate (hclass : (s.port p).pane.seqClass (paneSeq x.hdr) = .dup) (hcount : (s.counter (ctrDup p)).count < 0xFFFFFFFE) :
    ∃ t, exec (.dataPane p) s = .next t ∧ (t.port p).pane.rxq = (s.port p).pane.rxq.drop 1 ∧ (t.port p).pane.ackDue = true ∧
      (t.counter (ctrDup p)).count = (s.counter (ctrDup p)).count + 1 ∧ (t.port p).pane.held = (s.port p).pane.held ∧
      (t.port p).pane.rxNext = (s.port p).pane.rxNext ∧ t.xfer = s.xfer := by
  have honly := (((s.sequenced_onlyPort p x).trans (.of_modPane _ p (fun q => { q with ackDue := true }))).trans (.of_bump _ _ (ctrDup p))).kept
  refine ⟨_, exec_dataPane hlive hhead hserving hearly, ?_⟩
  rw [State.takeData_duplicate hvc hclass, honly.xfer, State.keep_port, State.counter, State.keep_counters, ← State.counter, State.bump_port,
    State.modPane_port_same, State.sequenced_port_same]
  exact ⟨rfl, rfl, State.bump_count hcount, rfl, rfl, rfl⟩

variable {n : Nat} (hclass : (s.port p).pane.seqClass (paneSeq x.hdr) = .new n)
  (hretired : (s.port p).pane.retired.getLsbD (paneKey x.hdr) = false) (hkeyed : (s.port p).keys.rx (paneKey x.hdr) ≠ [])
include hclass hretired hkeyed

theorem dataPane_dropped (htag : (s.port p).keys.openData (paneKey x.hdr) n x.hdr (paneEnc x.hdr) x.body = none)
    (hcount : (s.counter (ctrBadDrop p)).count < 0xFFFFFFFE) :
    ∃ t, exec (.dataPane p) s = .next t ∧ (t.port p).pane.rxq = (s.port p).pane.rxq.drop 1 ∧
      (t.counter (ctrBadDrop p)).count = (s.counter (ctrBadDrop p)).count + 1 ∧ (t.port p).pane.held = (s.port p).pane.held ∧
      (t.port p).pane.rxNext = (s.port p).pane.rxNext ∧ t.xfer = s.xfer ∧ t.front = s.front := by
  have honly := ((s.sequenced_onlyPort p x).trans (.of_bump _ _ (ctrBadDrop p))).kept
  refine ⟨_, exec_dataPane hlive hhead hserving hearly, ?_⟩
  rw [State.takeData_new hvc hclass hretired hkeyed, htag]
  dsimp only
  rw [honly.xfer, honly.front, State.keep_port, State.counter, State.keep_counters, ← State.counter, State.bump_port, State.sequenced_port_same]
  exact ⟨rfl, State.bump_count hcount, rfl, rfl, rfl, rfl⟩

variable {units : List Byte} (hopens : (s.port p).keys.openData (paneKey x.hdr) n x.hdr (paneEnc x.hdr) x.body = some units)
  (hroom : (s.port p).pane.slots.length < 4096) (hfields : ((s.port p).pane.takeFields x.hdr s.now).isSome = true)
include hopens hroom hfields

theorem dataPane_held (hnext : n ≠ (s.port p).pane.rxNext) (hmissing : ∀ h ∈ (s.port p).pane.held, h.seq ≠ (s.port p).pane.rxNext) :
    ∃ t, exec (.dataPane p) s = .next t ∧ (t.port p).pane.rxq = (s.port p).pane.rxq.drop 1 ∧ (t.port p).pane.rxNext = (s.port p).pane.rxNext ∧
      (t.port p).pane.held = (s.port p).pane.held ++ [heldData n x.hdr units] ∧ t.xfer = s.xfer ∧ t.front = s.front := by
  have hport := s.sequenced_port_same p x
  obtain ⟨honly, hrxq, hrxNext, hheld⟩ := State.holdPane_waits (s := s.sequenced p x) (p := p) (h := x.hdr) (n := n) (by rw [hport]; exact hroom)
    (by rw [hport, Pane.takeFields_arriving, Option.isSome_map]; exact hfields) (by rw [hport]; exact hnext) (by rw [hport]; exact hmissing) false units
  have hall := ((s.sequenced_onlyPort p x).trans honly).kept
  refine ⟨_, exec_dataPane hlive hhead hserving hearly, ?_⟩
  rw [State.takeData_new hvc hclass hretired hkeyed, hopens]
  dsimp only
  rw [hall.xfer, hall.front, State.keep_port, hrxq, hrxNext, hheld, hport]
  exact ⟨rfl, rfl, rfl, rfl, rfl⟩

theorem dataPane_released (hnext : n = (s.port p).pane.rxNext) (hempty : (s.port p).pane.held = []) :
    ∃ t, exec (.dataPane p) s = .next t ∧ (t.port p).pane.rxNext = (s.port p).pane.rxNext + 1 ∧ (t.port p).pane.held = [] := by
  have hport := s.sequenced_port_same p x
  have hsame : ((s.sequenced p x).port p).pane.rxNext = n := by rw [hport, hnext]; rfl
  have hreleases := State.holdPane_releases (s := s.sequenced p x) (p := p) (h := x.hdr) (by rw [hport]; exact hroom)
    (by rw [hport, Pane.takeFields_arriving, Option.isSome_map]; exact hfields) (by rw [hport]; exact hempty) units
  refine ⟨_, exec_dataPane hlive hhead hserving hearly, ?_⟩
  rw [State.takeData_new hvc hclass hretired hkeyed, hopens]
  rw [hsame, hnext] at hreleases
  dsimp only
  rw [State.keep_port, hnext]
  exact hreleases

end

/-- Settles O33: a DATA pane by its class and by whether it opens; the next pane is released, and what its units do leaves RX_NEXT. -/
theorem dataPanesAreTaken : Obligations.DataPanesAreTaken := by
  unfold Obligations.DataPanesAreTaken
  refine fun s p x hlive hhead hserving hearly hvc => ⟨fun n hclass hretired hkeyed => ⟨fun htag hcount => ?_, fun units hopens hroom hfields =>
    ⟨fun hnext hmissing => ?_, fun hnext hempty => ?_⟩⟩, fun hclass hcount => ?_⟩
  · exact dataPane_dropped hlive hhead hserving hearly hvc hclass hretired hkeyed htag hcount
  · exact dataPane_held hlive hhead hserving hearly hvc hclass hretired hkeyed hopens hroom hfields hnext hmissing
  · exact dataPane_released hlive hhead hserving hearly hvc hclass hretired hkeyed hopens hroom hfields hnext hempty
  · exact dataPane_duplicate hlive hhead hserving hearly hvc hclass hcount

end Sys2Proof.Machine
end

section
/-!
PROOFS. PANE_TRANSMIT (R334, R342, R343, R376, R392, R399): the statement PanesAreSent.
-/
namespace Sys2Proof.Machine

/-! ### One codeword slot (R315, R368) -/

/-- A pane that goes out: the items put on the lanes and the count since the last credit vector change of the port's pane state, and one slot is
taken. -/
theorem State.emit_port_same (s : State) (p : PortIx) (h : Word) (body : List Byte) (badCrc : Bool) : ∃ items scr, (s.emit p h body badCrc).port p =
    { s.port p with pane := { (s.port p).pane with sent := items, sinceVector := (s.port p).pane.sinceVector + 1 },
                    lane := { (s.port p).lane with txScr := scr }, keys := { (s.port p).keys with slot := (s.port p).keys.slot + 1 } } := by
  have hbelv (t : State) (a b n : Nat) : (t.belvAdd a b n).port p = t.port p := rfl
  refine ⟨((s.emit p h body badCrc).port p).pane.sent, ((s.emit p h body badCrc).port p).lane.txScr, ?_⟩
  unfold State.emit
  dsimp only
  rw [hbelv, State.modKeys_port_same, State.modLane_port_same, State.modPane_port_same]

theorem State.emit_global (s : State) (p : PortIx) (h : Word) (body : List Byte) (badCrc : Bool) : (s.emit p h body badCrc).global = s.global := by
  unfold State.emit
  dsimp only
  rw [State.belvAdd_global, State.modKeys_global, State.modLane_global, State.modPane_global]

/-- Between two states a port uses slots without a sequenced pane: its Cullet, its sequence numbers and its link state stay, and so do the other ports. -/
structure State.Slots (p : PortIx) (n : Nat) (s u : State) : Prop where
  slot : (u.port p).keys.slot = (s.port p).keys.slot + n
  cullet : (u.port p).pane.cullet = (s.port p).pane.cullet
  txNext : (u.port p).pane.txNext = (s.port p).pane.txNext
  rxNext : (u.port p).pane.rxNext = (s.port p).pane.rxNext
  link : (u.port p).pane.link = (s.port p).pane.link
  others : ∀ o, o ≠ p → u.port o = s.port o
  counters : u.counters = s.counters
  front : u.front = s.front

namespace State.Slots

variable {p : PortIx} {n m : Nat} {s u v : State}

theorem refl (p : PortIx) (s : State) : s.Slots p 0 s := ⟨rfl, rfl, rfl, rfl, rfl, fun _ _ => rfl, rfl, rfl⟩

theorem trans (h : s.Slots p n u) (k : u.Slots p m v) : s.Slots p (n + m) v :=
  ⟨by rw [k.slot, h.slot, Nat.add_assoc], k.cullet.trans h.cullet, k.txNext.trans h.txNext, k.rxNext.trans h.rxNext, k.link.trans h.link,
    fun o ho => (k.others o ho).trans (h.others o ho), k.counters.trans h.counters, k.front.trans h.front⟩

theorem of_emit (s : State) (p : PortIx) (h : Word) (body : List Byte) (badCrc : Bool) : s.Slots p 1 (s.emit p h body badCrc) := by
  obtain ⟨items, scr, hport⟩ := s.emit_port_same p h body badCrc
  have hemits := s.emit_emits p h body badCrc
  exact ⟨hemits.slot, by rw [hport], by rw [hport], by rw [hport], by rw [hport], hemits.others, hemits.counters, rfl⟩

theorem of_modPane (s : State) (p : PortIx) {g : Pane → Pane} (hcullet : ∀ q, (g q).cullet = q.cullet := by exact fun _ => rfl)
    (htx : ∀ q, (g q).txNext = q.txNext := by exact fun _ => rfl) (hrx : ∀ q, (g q).rxNext = q.rxNext := by exact fun _ => rfl)
    (hlink : ∀ q, (g q).link = q.link := by exact fun _ => rfl) : s.Slots p 0 (s.modPane p g) := by
  refine ⟨?_, ?_, ?_, ?_, ?_, fun o ho => s.modPane_port_other p o g ho, rfl, rfl⟩ <;> rw [State.modPane_port_same]
  · rfl
  · exact hcullet _
  · exact htx _
  · exact hrx _
  · exact hlink _

theorem of_modLane (s : State) (p : PortIx) (g : LaneUnit → LaneUnit) : s.Slots p 0 (s.modLane p g) := by
  refine ⟨?_, ?_, ?_, ?_, ?_, fun o ho => s.modLane_port_other p o g ho, rfl, rfl⟩ <;> rw [State.modLane_port_same]
  rfl

theorem of_modTrain (s : State) (p : PortIx) (g : Train → Train) : s.Slots p 0 (s.modTrain p g) := of_modLane ..

theorem of_modKeys (s : State) (p : PortIx) {g : PortKeys → PortKeys} (hslot : (g (s.port p).keys).slot = (s.port p).keys.slot + n) :
    s.Slots p n (s.modKeys p g) := by
  refine ⟨?_, ?_, ?_, ?_, ?_, fun o ho => s.modKeys_port_other p o g ho, rfl, rfl⟩ <;> rw [State.modKeys_port_same]
  exact hslot

theorem of_sendControl (s : State) (p : PortIx) (type crvc crcount : Nat) (text : List Byte) :
    s.Slots p 1 (s.sendControl p type crvc crcount text) := trans (of_modKeys s p rfl) (of_emit ..)

/-- What a transmission keeps besides its ports is not a slot's. -/
theorem kept (h : s.Slots p n u) : s.Slots p n (s.keep u) :=
  ⟨h.slot, h.cullet, h.txNext, h.rxNext, h.link, fun o ho => (State.keep_port s u o).trans (h.others o ho), h.counters, h.front⟩

end State.Slots

/-! ### Control panes where nothing else is due (R334, R337, R342) -/

theorem State.sendControl_port_same (s : State) (p : PortIx) (type crvc crcount : Nat) (text : List Byte) : ∃ items scr,
    (s.sendControl p type crvc crcount text).port p =
      { s.port p with pane := { (s.port p).pane with sent := items, sinceVector := (s.port p).pane.sinceVector + 1 },
                      lane := { (s.port p).lane with txScr := scr },
                      keys := { (s.port p).keys.modIndex 0 KeyIndex.used with slot := (s.port p).keys.slot + 1 } } := by
  unfold State.sendControl
  dsimp only
  obtain ⟨items, scr, hport⟩ := (s.modKeys p (fun k => k.modIndex 0 KeyIndex.used)).emit_port_same p _ _ false
  refine ⟨items, scr, hport.trans ?_⟩
  rw [State.modKeys_port_same]
  rfl

/-- A pane after a credit vector: its counts hold no change any more to report. -/
def Pane.vectored (q : Pane) (vcs : Table VcCount) (due : Bool) (items : List TxItem) : Pane :=
  { q with vcs := vcs, ackDue := due, sent := items, sinceVector := 0 }

theorem State.sendVector_port_same (s : State) (p : PortIx) (type : Nat) : ∃ vcs items scr,
    (∀ v, (Table.get ({} : VcCount) vcs v).avail = ((s.port p).pane.vc v).avail) ∧ (s.sendVector p type).port p =
      { s.port p with pane := (s.port p).pane.vectored vcs (if type = ptAck then false else (s.port p).pane.ackDue) items,
                      lane := { (s.port p).lane with txScr := scr },
                      keys := { (s.port p).keys.modIndex 0 KeyIndex.used with slot := (s.port p).keys.slot + 1 } } := by
  obtain ⟨vcs, hvcs⟩ := Pane.foldl_modVc (fun _ _ c => { c with changed := false }) vcIds (s.port p).pane
  have havail (v : Nat) : (Table.get ({} : VcCount) vcs v).avail = ((s.port p).pane.vc v).avail := by
    have hvc := Pane.foldl_modVc_vc (fun _ c => { c with changed := false }) vcIds_nodup (s.port p).pane v
    rw [hvcs] at hvc
    change Table.get ({} : VcCount) vcs v = _ at hvc
    rw [hvc]
    split
    · rfl
    · rfl
  unfold State.sendVector
  dsimp only
  obtain ⟨items, scr, hport⟩ := State.sendControl_port_same _ p type 0xF 0 _
  refine ⟨vcs, items, scr, havail, ?_⟩
  rw [State.modPane_port_same, hport, State.modPane_port_same, hvcs]
  rfl

theorem State.Slots.of_sendVector (s : State) (p : PortIx) (type : Nat) : s.Slots p 1 (s.sendVector p type) := by
  have hvector (q : Pane) : ∃ t, vcIds.foldl (fun a v => a.modVc v (fun c => { c with changed := false })) q = { q with vcs := t } :=
    Pane.foldl_modVc (fun _ _ c => { c with changed := false }) vcIds q
  unfold State.sendVector
  refine ((State.Slots.of_modPane s p ?_ ?_ ?_ ?_).trans (.of_sendControl ..)).trans (.of_modPane ..)
  all_goals
    intro q
    obtain ⟨t, ht⟩ := hvector q
    rw [ht]

/-! ### A port with nothing to send -/

theorem Pane.readyPairs_vectored {q : Pane} {vcs : Table VcCount} (havail : ∀ v, (Table.get ({} : VcCount) vcs v).avail = (q.vc v).avail) (due : Bool)
    (items : List TxItem) (ok : Nat → Bool) (classes : List Nat) : (q.vectored vcs due items).readyPairs ok classes = q.readyPairs ok classes := by
  unfold Pane.readyPairs
  refine List.filter_congr fun v _ => ?_
  have hvc : ((q.vectored vcs due items).vc v.1).avail = (q.vc v.1).avail := havail v.1
  rw [hvc]
  rfl

/-- A key that has protected one more pane serves as before. -/
theorem PortKeys.tx_used (k : PortKeys) (i : Nat) : ((k.modIndex 0 KeyIndex.used).tx i).isSome = (k.tx i).isSome := by
  unfold PortKeys.tx PortKeys.index PortKeys.modIndex
  by_cases hi : i = 0
  · subst hi
    rw [Table.get_put_same]
    exact Option.isSome_map
  · rw [Table.get_put_other _ _ _ hi]

theorem State.nextPair_sendVector (s : State) (p : PortIx) (type : Nat) : (s.sendVector p type).nextPair p = s.nextPair p := by
  obtain ⟨vcs, items, scr, havail, hport⟩ := s.sendVector_port_same p type
  have hserves : (s.sendVector p type).keyServes p = s.keyServes p := by
    funext k
    unfold State.keyServes
    rw [hport]
    exact congrArg (· && _) (PortKeys.tx_used ..)
  unfold State.nextPair
  rw [hserves, hport]
  dsimp only
  simp only [Pane.readyPairs_vectored havail]
  rfl

/-- A port in service, not in P1, with no pane to send again and nothing due but perhaps an acknowledgement. -/
structure State.Clear (s : State) (p : PortIx) : Prop where
  serving : s.serving p = true
  awake : (s.port p).lane.lpsState ≠ 1
  resend : ∀ c ∈ (s.port p).pane.cullet, c.resend = 0
  ctrlDue : (s.port p).pane.ctrlDue = []
  nakDue : (s.port p).pane.nakDue = []
  fences : (s.port p).pane.fences = []

theorem State.Clear.noFence {s : State} {p : PortIx} (h : s.Clear p) :
    (s.port p).pane.fences.find? (fun f => decide (0 < ((s.port p).pane.vc f.vc).avail)) = none := by
  rw [h.fences]
  rfl

/-- A clear port with no pair to serve. -/
structure State.Quiet (s : State) (p : PortIx) : Prop extends s.Clear p where
  nextPair : s.nextPair p = none

theorem State.Quiet.sendVector {s : State} {p : PortIx} (h : s.Quiet p) (type : Nat) : (s.sendVector p type).Quiet p := by
  obtain ⟨vcs, items, scr, -, hport⟩ := s.sendVector_port_same p type
  have hserving : (s.sendVector p type).serving p = s.serving p := by
    rw [State.serving, hport]
    rfl
  exact ⟨⟨hserving.trans h.serving, by rw [hport]; exact h.awake, by rw [hport]; exact h.resend, by rw [hport]; exact h.ctrlDue,
    by rw [hport]; exact h.nakDue, by rw [hport]; exact h.fences⟩, (s.nextPair_sendVector p type).trans h.nextPair⟩

/-- Nothing of a Cullet is to be sent again. -/
theorem find_resend_none {l : List CulletPane} (h : ∀ c ∈ l, c.resend = 0) : l.find? (fun c => c.resend != 0) = none := by
  simpa using h

/-- A port with nothing to send sends a credit vector, in an ACK where it owes one (R334, R342). -/
theorem State.Quiet.paneSlot {s : State} {p : PortIx} (h : s.Quiet p) :
    s.paneSlot p = s.sendVector p (if (s.port p).pane.ackDue then ptAck else ptIdle) := by
  have hnew : s.slotNew p = none := by
    unfold State.slotNew
    dsimp only
    rw [h.noFence, h.nextPair]
    split
    · rfl
    · rfl
  have hresend := find_resend_none h.resend
  have hbusy : s.slotBusy p = false := by
    have hany : (s.port p).pane.cullet.any (fun c => c.resend != 0) = false := List.any_eq_false.mpr (by simpa using h.resend)
    rw [State.slotBusy, hnew, h.ctrlDue, h.nakDue, hany, Bool.and_false]
    rfl
  unfold State.paneSlot State.slotService
  rw [h.serving, if_neg (by decide), if_neg h.awake]
  dsimp only
  rw [hbusy, hresend, h.ctrlDue, h.nakDue, hnew, Bool.false_or, ite_self]
  dsimp only
  split
  · rfl
  · cases (s.port p).pane.ackDue with
    | true => rfl
    | false => rfl

theorem State.sendVector_ackDue (s : State) (p : PortIx) (type : Nat) :
    ((s.sendVector p type).port p).pane.ackDue = if type = ptAck then false else (s.port p).pane.ackDue := by
  obtain ⟨vcs, items, scr, -, hport⟩ := s.sendVector_port_same p type
  rw [hport]
  rfl

/-- A slot of a port with nothing to send leaves it so, and it owes no acknowledgement. -/
theorem State.Quiet.slot {s : State} {p : PortIx} (h : s.Quiet p) :
    (s.paneSlot p).Quiet p ∧ s.Slots p 1 (s.paneSlot p) ∧ ((s.paneSlot p).port p).pane.ackDue = false := by
  rw [h.paneSlot]
  refine ⟨h.sendVector _, .of_sendVector .., ?_⟩
  rw [State.sendVector_ackDue]
  cases (s.port p).pane.ackDue with
  | true => rfl
  | false => rfl

/-! ### A cycle of two slots (R334, R376, R392, R399) -/

/-- The port does not lead its training, or the training is in no step in which the leader goes on by itself (R382). -/
def State.Follows (s : State) (p : PortIx) : Prop :=
  s.leads p = false ∨ ((s.port p).lane.train.phase ≠ .lock ∧ (s.port p).lane.train.phase ≠ .ident ∧ (s.port p).lane.train.phase ≠ .done)

theorem State.Follows.leadOn {s : State} {p : PortIx} (h : s.Follows p) : s.leadOn p = s := by
  unfold State.leadOn
  dsimp only
  rcases h with hleads | ⟨hlock, hident, hdone⟩
  · rw [hleads, Bool.and_false, Bool.false_and, Bool.false_and]
    rfl
  · split
    · rfl
    · split
      · contradiction
      · contradiction
      · contradiction
      · rfl

theorem State.leadOn_serving {s : State} {p : PortIx} (h : s.serving p = true) : s.leadOn p = s := by
  have htraining : s.inTraining p = false := by
    unfold State.serving at h
    unfold State.inTraining
    cases hlink : (s.port p).pane.link <;> simp [hlink, LinkState.inService] at h ⊢
  unfold State.leadOn
  rw [htraining]
  rfl

/-- The link state of a port stays over slots, and so does its service. -/
theorem State.Slots.serving {p : PortIx} {n : Nat} {s u : State} (h : s.Slots p n u) : u.serving p = s.serving p := congrArg LinkState.inService h.link

theorem State.Slots.of_noteIdle (s : State) (p : PortIx) : s.Slots p 0 (s.noteIdle p) := .of_modLane ..

theorem State.noteIdle_pane (s : State) (p : PortIx) : ((s.noteIdle p).port p).pane = (s.port p).pane := by
  rw [State.noteIdle, State.modLane_port_same]

/-- The markers of a slot hold no codeword (R370). -/
theorem Port.markersAt_no_codeword (q : Port) (w : List Byte) : .codeword w ∉ q.markersAt := by
  unfold Port.markersAt
  dsimp only
  split
  · simp [Port.symbols]
  · exact List.not_mem_nil

theorem State.silentSlot_port_same (s : State) (p : PortIx) : (s.silentSlot p).port p = { s.port p with
    pane := { (s.port p).pane with sent := (s.port p).pane.sent ++ (s.port p).markersAt },
    keys := { (s.port p).keys with slot := (s.port p).keys.slot + 1 } } := by
  rw [State.silentSlot, State.modKeys_port_same, State.modPane_port_same]

/-- A slot of a port in P1 takes no codeword, and the port stays in P1 (R392). -/
theorem State.paneSlot_silent {s : State} {p : PortIx} (hserving : s.serving p = true) (hlps : (s.port p).lane.lpsState = 1) :
    s.Slots p 1 (s.paneSlot p) ∧ ((s.paneSlot p).port p).lane.lpsState = 1 ∧
      ∀ w, .codeword w ∈ ((s.paneSlot p).port p).pane.sent → .codeword w ∈ (s.port p).pane.sent := by
  have hslot : s.paneSlot p = s.silentSlot p := by
    rw [State.paneSlot, hserving, hlps]
    rfl
  have hport := s.silentSlot_port_same p
  rw [hslot]
  have hslots := (State.Slots.of_modPane s p (g := fun q => { q with sent := q.sent ++ (s.port p).markersAt })).trans
    (.of_modKeys _ p (g := fun k => { k with slot := k.slot + 1 }) rfl)
  refine ⟨hslots, by rw [hport]; exact hlps, fun w hw => ?_⟩
  rw [hport] at hw
  exact (List.mem_append.mp hw).resolve_right (Port.markersAt_no_codeword _ w)

/-- A slot of a port in training without an answer to send is that of its current message (R376). -/
theorem State.paneSlot_training {s : State} {p : PortIx} (hserving : s.serving p = false) (hans : (s.port p).lane.train.ans = none) :
    (∀ m, (s.port p).lane.train.msg = some m → ∃ h body, s.paneSlot p = (s.emit p h body).modTrain p (fun t => { t with out := true })) ∧
    ((s.port p).lane.train.msg = none → s.paneSlot p = s) := by
  have hslot : s.paneSlot p = s.slotTraining p := by
    rw [State.paneSlot, hserving]
    rfl
  rw [hslot]
  unfold State.slotTraining
  dsimp only
  rw [hans]
  simp only [Option.isSome_none, Bool.and_false, Bool.false_eq_true, if_false]
  refine ⟨fun m hmsg => ?_, fun hmsg => by rw [hmsg]⟩
  rw [hmsg]
  simp only [Bool.not_false, Bool.or_true]
  exact ⟨_, _, rfl⟩

/-- A training message sent takes one slot, and is noted as out. -/
theorem State.paneSlot_sendsTraining {s : State} {p : PortIx} {m : TrainMsg} (hserving : s.serving p = false)
    (hans : (s.port p).lane.train.ans = none) (hmsg : (s.port p).lane.train.msg = some m) : s.Slots p 1 (s.paneSlot p) ∧
      (s.paneSlot p).global = s.global ∧ ((s.paneSlot p).port p).lane.train = { (s.port p).lane.train with out := true } := by
  obtain ⟨h, body, hslot⟩ := (State.paneSlot_training hserving hans).1 m hmsg
  obtain ⟨items, scr, hport⟩ := s.emit_port_same p h body false
  rw [hslot]
  refine ⟨(State.Slots.of_emit s p h body false).trans (.of_modTrain ..), ?_, ?_⟩
  · rw [State.modTrain, State.modLane_global, State.emit_global]
  · rw [State.modTrain, State.modLane_port_same, hport]

/-- A port that has put items on its lanes, its PRBS generator at a state. -/
def Port.tested (q : Port) (items : List TxItem) (x : Nat) : Port :=
  { q with pane := { q.pane with sent := q.pane.sent ++ items }, lane := { q.lane with prbs := x } }

section
variable (q : Port) (items : List TxItem) (x : Nat)

theorem Port.tested_prbsCode : (q.tested items x).lane.prbsCode = q.lane.prbsCode := rfl
theorem Port.tested_nearLoop : (q.tested items x).lane.nearLoop = q.lane.nearLoop := rfl
theorem Port.tested_testLanes : (q.tested items x).lane.testLanes = q.lane.testLanes := rfl
theorem Port.tested_train : (q.tested items x).lane.train = q.lane.train := rfl
theorem Port.tested_symbols (lanes : Nat) (bytes : List Byte) : (q.tested items x).symbols lanes bytes = q.symbols lanes bytes := rfl
theorem Port.tested_prbs : (q.tested items x).lane.prbs = x := rfl

theorem Port.tested_tested (more : List TxItem) (y : Nat) : (q.tested items x).tested more y = q.tested (items ++ more) y := by
  simp [Port.tested]

end

/-- A slot of the PRBS generator takes no codeword slot (R399). -/
theorem State.testSlot_prbs {s : State} {p : PortIx} (hcode : (s.port p).lane.prbsCode ≠ 0) (hloop : (s.port p).lane.nearLoop = false)
    {a : Nat × Nat} (ha : prbsBits (s.port p).lane.prbsCode 2176 (s.port p).lane.prbs 0 = a) : s.Slots p 0 (s.testSlot p) ∧
      (s.testSlot p).port p = (s.port p).tested [(s.port p).symbols (s.port p).lane.testLanes (beBytes 272 a.2)] a.1 := by
  have hslot : s.testSlot p = (s.modPane p (fun q => { q with
      sent := q.sent ++ [(s.port p).symbols (s.port p).lane.testLanes (beBytes 272 a.2)] })).modLane p (fun l => { l with prbs := a.1 }) := by
    rw [State.testSlot, if_pos (bne_iff_ne.mpr hcode), State.prbsSlot, hloop, ha]
    rfl
  rw [hslot]
  refine ⟨(State.Slots.of_modPane s p).trans (.of_modLane ..), ?_⟩
  rw [State.modLane_port_same, State.modPane_port_same]
  rfl

section
variable {s : State} {p : PortIx} (hready : s.paneReady p = true) (htime : s.timeDue p = false)
include hready htime

theorem exec_paneTransmit : exec (.paneTransmit p) s = .next (s.keep (s.transmit p)) := by
  show act (s.paneReady p && !s.timeDue p) s _ = _
  rw [hready, htime]
  rfl

section
variable (htest : (s.port p).lane.testing = false)
include htest

/-- A cycle after which nothing of a training follows. -/
theorem exec_paneTransmit_slots (hlead : (((s.paneSlot p).paneSlot p).noteIdle p).leadOn p = ((s.paneSlot p).paneSlot p).noteIdle p) :
    exec (.paneTransmit p) s = .next (s.keep (((s.paneSlot p).paneSlot p).noteIdle p)) := by
  rw [exec_paneTransmit hready htime, State.transmit, htest, hlead]
  rfl

theorem paneTransmit_quiet (h : s.Quiet p) :
    ∃ t, exec (.paneTransmit p) s = .next t ∧ s.Slots p 2 t ∧ (t.port p).pane.ackDue = false := by
  obtain ⟨hquiet, hfirst, -⟩ := h.slot
  obtain ⟨-, hsecond, hack⟩ := hquiet.slot
  have hslots := (hfirst.trans hsecond).trans (.of_noteIdle _ p)
  refine ⟨_, exec_paneTransmit_slots hready htime htest (State.leadOn_serving (hslots.serving.trans h.serving)), hslots.kept, ?_⟩
  rw [State.keep_port, State.noteIdle_pane]
  exact hack

theorem paneTransmit_silent (hserving : s.serving p = true) (hlps : (s.port p).lane.lpsState = 1) :
    ∃ t, exec (.paneTransmit p) s = .next t ∧ s.Slots p 2 t ∧ ∀ w, .codeword w ∈ (t.port p).pane.sent → .codeword w ∈ (s.port p).pane.sent := by
  obtain ⟨hfirst, hstill, hnone⟩ := State.paneSlot_silent hserving hlps
  obtain ⟨hsecond, -, hnoneLater⟩ := State.paneSlot_silent (hfirst.serving.trans hserving) hstill
  have hslots := (hfirst.trans hsecond).trans (.of_noteIdle _ p)
  refine ⟨_, exec_paneTransmit_slots hready htime htest (State.leadOn_serving (hslots.serving.trans hserving)), hslots.kept, fun w hw => ?_⟩
  rw [State.keep_port, State.noteIdle_pane] at hw
  exact hnone w (hnoneLater w hw)

theorem paneTransmit_training {m : TrainMsg} (hserving : s.serving p = false) (hfollows : s.Follows p)
    (hans : (s.port p).lane.train.ans = none) (hmsg : (s.port p).lane.train.msg = some m) :
    ∃ t, exec (.paneTransmit p) s = .next t ∧ s.Slots p 2 t := by
  obtain ⟨hfirst, hglobal, htrain⟩ := State.paneSlot_sendsTraining hserving hans hmsg
  obtain ⟨hsecond, hglobalLater, htrainLater⟩ := State.paneSlot_sendsTraining (s := s.paneSlot p) (p := p) (m := m)
    (hfirst.serving.trans hserving) (by rw [htrain]; exact hans) (by rw [htrain]; exact hmsg)
  have hlater : (((s.paneSlot p).paneSlot p).noteIdle p).Follows p := by
    have hsame : ((((s.paneSlot p).paneSlot p).noteIdle p).port p).lane.train = { (s.port p).lane.train with out := true } := by
      rw [State.noteIdle, State.modLane_port_same]
      exact htrainLater.trans (by rw [htrain])
    have hleads : (((s.paneSlot p).paneSlot p).noteIdle p).leads p = s.leads p := by
      have hglobalEnd : (((s.paneSlot p).paneSlot p).noteIdle p).global = s.global := hglobalLater.trans hglobal
      rw [State.leads, hsame, hglobalEnd]
      rfl
    unfold State.Follows
    rw [hleads, hsame]
    exact hfollows
  exact ⟨_, exec_paneTransmit_slots hready htime htest hlater.leadOn, ((hfirst.trans hsecond).trans (.of_noteIdle _ p)).kept⟩

theorem paneTransmit_idle (hserving : s.serving p = false) (hfollows : s.Follows p) (hans : (s.port p).lane.train.ans = none)
    (hmsg : (s.port p).lane.train.msg = none) : ∃ t, exec (.paneTransmit p) s = .next t ∧ s.Slots p 0 t := by
  have hslot := (State.paneSlot_training hserving hans).2 hmsg
  have hlater : (s.noteIdle p).Follows p := by
    unfold State.Follows State.leads
    rw [State.noteIdle, State.modLane_port_same]
    exact hfollows
  have hexec := exec_paneTransmit_slots hready htime htest (by rw [hslot, hslot]; exact hlater.leadOn)
  rw [hslot, hslot] at hexec
  exact ⟨_, hexec, (State.Slots.of_noteIdle s p).kept⟩

end

/-- Two slots of the PRBS generator (R399). -/
theorem paneTransmit_prbs (htest : (s.port p).lane.testing = true) (hcode : (s.port p).lane.prbsCode ≠ 0) (hloop : (s.port p).lane.nearLoop = false)
    (hphase : (s.port p).lane.train.phase ≠ .tune) {a b : Nat × Nat} (ha : prbsBits (s.port p).lane.prbsCode 2176 (s.port p).lane.prbs 0 = a)
    (hb : prbsBits (s.port p).lane.prbsCode 2176 a.1 0 = b) : ∃ t, exec (.paneTransmit p) s = .next t ∧ s.Slots p 0 t ∧ (t.port p).lane.prbs = b.1 ∧
      (t.port p).pane.sent = (s.port p).pane.sent ++ [(s.port p).symbols (s.port p).lane.testLanes (beBytes 272 a.2),
        (s.port p).symbols (s.port p).lane.testLanes (beBytes 272 b.2)] := by
  obtain ⟨hfirst, hport⟩ := State.testSlot_prbs hcode hloop ha
  obtain ⟨hsecond, hportLater⟩ := State.testSlot_prbs (s := s.testSlot p) (p := p) (a := b) (by rw [hport, Port.tested_prbsCode]; exact hcode)
    (by rw [hport, Port.tested_nearLoop]; exact hloop) (by rw [hport, Port.tested_prbsCode, Port.tested_prbs]; exact hb)
  rw [hport, Port.tested_testLanes, Port.tested_symbols, Port.tested_tested] at hportLater
  have hdone : s.transmit p = (s.testSlot p).testSlot p := by
    rw [State.transmit, if_pos htest]
    refine if_neg ?_
    rw [hportLater, Port.tested_train, beq_eq_false_iff_ne.mpr hphase]
    exact Bool.false_ne_true
  refine ⟨_, exec_paneTransmit hready htime, ?_⟩
  rw [hdone]
  refine ⟨(hfirst.trans hsecond).kept, ?_⟩
  rw [State.keep_port, hportLater]
  exact ⟨rfl, rfl⟩

end

/-! ### The pair served next (R334) -/

theorem nextInTurn_mem {l : List Nat} {n i : Nat} (h : nextInTurn l n = some i) : i ∈ l := by
  unfold nextInTurn nextAfter at h
  rcases hfound : l.find? (fun i => decide (n < i)) with _ | j
  · rw [hfound] at h
    exact List.mem_of_mem_head? h
  · rw [hfound] at h
    exact Option.some.inj h ▸ List.mem_of_find?_eq_some hfound

theorem nextInTurn_isSome {l : List Nat} {i : Nat} (h : i ∈ l) (n : Nat) : (nextInTurn l n).isSome = true := by
  obtain ⟨a, l, rfl⟩ := List.exists_cons_of_ne_nil (List.ne_nil_of_mem h)
  unfold nextInTurn nextAfter
  cases (a :: l).find? (fun i => decide (n < i)) with
  | none => rfl
  | some j => rfl

theorem Pane.choose_mem {q : Pane} {l : List (Nat × Nat)} {v : Nat × Nat} (h : q.choose l = some v) : v ∈ l := by
  unfold Pane.choose at h
  split at h
  · cases h
  split at h
  · cases h
  obtain ⟨x, hx, rfl⟩ := Option.map_eq_some_iff.mp h
  simpa using (List.mem_filter.mp (nextInTurn_mem hx)).2

theorem Pane.hasUnit_of_choose {q : Pane} {ok : Nat → Bool} {classes : List Nat} {v : Nat × Nat} (h : q.choose (q.readyPairs ok classes) = some v) :
    q.hasUnit ok v.1 v.2 = true := (Bool.and_eq_true_iff.mp (List.mem_filter.mp (Pane.choose_mem h)).2).2

/-- The pair served next has a unit ready under a key that serves. -/
theorem State.nextPair_hasUnit {s : State} {p : PortIx} {v : Nat × Nat} (h : s.nextPair p = some v) :
    (s.port p).pane.hasUnit (s.keyServes p) v.1 v.2 = true := by
  unfold State.nextPair at h
  dsimp only at h
  split at h
  next w hw =>
    cases h
    exact Pane.hasUnit_of_choose hw
  split at h
  next w hw =>
    cases h
    split at hw
    · exact Pane.hasUnit_of_choose hw
    · cases hw
  · exact Pane.hasUnit_of_choose h

section
variable {ok ok' : Nat → Bool} {vc sub : Nat}

theorem grantables_key {m : TxMsg} {e l : List TxMsg} (h : m ∈ grantables vc sub ok e l) : ok m.key = true := by
  induction l generalizing e with
  | nil => cases h
  | cons a l ih =>
    unfold grantables at h
    split at h
    case isTrue hgrant =>
      rcases List.mem_cons.mp h with rfl | h
      · simp only [Bool.and_eq_true, TxMsg.grantable] at hgrant
        exact hgrant.2.1.2
      · exact ih h
    case isFalse => exact ih h

/-- What can be granted under some keys can be under more. -/
theorem grantables_mono (hok : ∀ k, ok k = true → ok' k = true) {m : TxMsg} {e l : List TxMsg} (h : m ∈ grantables vc sub ok e l) :
    m ∈ grantables vc sub ok' e l := by
  induction l generalizing e with
  | nil => cases h
  | cons a l ih =>
    unfold grantables at h ⊢
    split at h
    case isTrue hgrant =>
      have hgrant' : (a.vc = vc && a.sub = sub && a.grantable e ok') = true := by
        simp only [Bool.and_eq_true, TxMsg.grantable] at hgrant ⊢
        exact ⟨hgrant.1, ⟨hgrant.2.1.1, hok _ hgrant.2.1.2⟩, hgrant.2.2⟩
      rw [if_pos hgrant']
      rcases List.mem_cons.mp h with rfl | h
      · exact List.mem_cons_self
      · exact List.mem_cons_of_mem _ (ih h)
    case isFalse =>
      split
      · exact List.mem_cons_of_mem _ (ih h)
      · exact ih h

/-- The next message of a pair is one that can be granted and begun, of a port in turn where it is in transit. -/
theorem Pane.nextMsg_mem {q : Pane} {room : Nat} {m : TxMsg} (h : q.nextMsg ok vc sub room = some m) :
    m ∈ (grantables vc sub ok [] q.txq).filter (fun m => m.startable room) ∧ (sub ≠ 0 → m.inbound < 7) := by
  unfold Pane.nextMsg at h
  dsimp only at h
  split at h
  case isTrue hzero => exact ⟨List.mem_of_mem_head? h, fun hsub => absurd hzero hsub⟩
  case isFalse =>
    split at h
    · cases h
    next i hi =>
      have hport : m.inbound = i := by simpa using List.find?_some h
      have hlt : i < 7 := List.mem_range.mp (List.mem_filter.mp (nextInTurn_mem hi)).1
      exact ⟨List.mem_of_find?_eq_some h, fun _ => hport ▸ hlt⟩

theorem Pane.nextMsg_isSome {q : Pane} {room : Nat} {m : TxMsg} (hmem : m ∈ (grantables vc sub ok [] q.txq).filter (fun m => m.startable room))
    (hport : sub ≠ 0 → m.inbound < 7) : (q.nextMsg ok vc sub room).isSome = true := by
  unfold Pane.nextMsg
  dsimp only
  split
  case isTrue =>
    obtain ⟨a, l, hl⟩ := List.exists_cons_of_ne_nil (List.ne_nil_of_mem hmem)
    rw [hl]
    rfl
  case isFalse hsub =>
    have hturn : m.inbound ∈ (List.range 7).filter (fun i => ((grantables vc sub ok [] q.txq).filter (fun m => m.startable room)).any
        (fun m => m.inbound == i)) :=
      List.mem_filter.mpr ⟨List.mem_range.mpr (hport hsub), List.any_eq_true.mpr ⟨m, hmem, beq_self_eq_true _⟩⟩
    obtain ⟨i, hi⟩ := Option.isSome_iff_exists.mp (nextInTurn_isSome hturn (Table.get 0 q.rrIn (streamIx vc sub)))
    rw [hi]
    obtain ⟨e, he, hinbound⟩ := List.any_eq_true.mp (List.mem_filter.mp (nextInTurn_mem hi)).2
    exact List.find?_isSome.mpr ⟨e, he, hinbound⟩

theorem Pane.nextMsg_key {q : Pane} {room : Nat} {m : TxMsg} (h : q.nextMsg ok vc sub room = some m) : ok m.key = true :=
  grantables_key (List.mem_filter.mp (Pane.nextMsg_mem h).1).1

theorem Pane.nextMsg_mono {q : Pane} {room : Nat} (hok : ∀ k, ok k = true → ok' k = true) (h : (q.nextMsg ok vc sub room).isSome = true) :
    (q.nextMsg ok' vc sub room).isSome = true := by
  obtain ⟨m, hm⟩ := Option.isSome_iff_exists.mp h
  obtain ⟨hmem, hport⟩ := Pane.nextMsg_mem hm
  obtain ⟨hgrant, hstart⟩ := List.mem_filter.mp hmem
  exact Pane.nextMsg_isSome (List.mem_filter.mpr ⟨grantables_mono hok hgrant, hstart⟩) hport

/-- A pair with a unit ready has it under a key that serves. -/
theorem Pane.nextKey_serves {q : Pane} (h : q.hasUnit ok vc sub = true) : ok (q.nextKey ok vc sub) = true := by
  unfold Pane.hasUnit at h
  unfold Pane.nextKey
  dsimp only at h
  split at h
  case isTrue hbusy =>
    rw [if_pos hbusy]
    exact (Bool.and_eq_true_iff.mp h).1
  case isFalse hbusy =>
    rw [if_neg hbusy]
    obtain ⟨m, hm⟩ := Option.isSome_iff_exists.mp h
    rw [hm]
    exact Pane.nextMsg_key hm

theorem Pane.hasUnit_mono {q : Pane} (hok : ∀ k, ok k = true → ok' k = true) (h : q.hasUnit ok vc sub = true) : q.hasUnit ok' vc sub = true := by
  unfold Pane.hasUnit at h ⊢
  dsimp only at h ⊢
  split at h
  case isTrue hbusy =>
    rw [if_pos hbusy, hok _ (Bool.and_eq_true_iff.mp h).1]
    exact (Bool.and_eq_true_iff.mp h).2
  case isFalse hbusy =>
    rw [if_neg hbusy]
    exact Pane.nextMsg_mono hok h

end

/-! ### A sequenced pane sent (R321, R343) -/

/-- Between two states the Cullet of a port, its sequence numbers, its link state and the control panes due stay. -/
structure State.CulletKept (p : PortIx) (s u : State) : Prop where
  cullet : (u.port p).pane.cullet = (s.port p).pane.cullet
  txNext : (u.port p).pane.txNext = (s.port p).pane.txNext
  link : (u.port p).pane.link = (s.port p).pane.link
  ctrlDue : (u.port p).pane.ctrlDue = (s.port p).pane.ctrlDue

namespace State.CulletKept

variable {p : PortIx} {s u v : State}

theorem refl (p : PortIx) (s : State) : s.CulletKept p s := ⟨rfl, rfl, rfl, rfl⟩

theorem trans (h : s.CulletKept p u) (k : u.CulletKept p v) : s.CulletKept p v :=
  ⟨k.cullet.trans h.cullet, k.txNext.trans h.txNext, k.link.trans h.link, k.ctrlDue.trans h.ctrlDue⟩

theorem of_pane (h : (u.port p).pane = (s.port p).pane) : s.CulletKept p u := ⟨by rw [h], by rw [h], by rw [h], by rw [h]⟩

theorem of_ports (h : u.ports = s.ports) : s.CulletKept p u := of_pane (by rw [State.port, State.port, h])

theorem of_unitsMove (h : s.UnitsMove u) : s.CulletKept p u := by
  have hpane := h.pane p
  exact ⟨(congrArg Pane.cullet hpane :), (congrArg Pane.txNext hpane :), (congrArg Pane.link hpane :), (congrArg Pane.ctrlDue hpane :)⟩

theorem of_modPane (s : State) (p : PortIx) {g : Pane → Pane} (hcullet : (g (s.port p).pane).cullet = (s.port p).pane.cullet)
    (htx : (g (s.port p).pane).txNext = (s.port p).pane.txNext) (hlink : (g (s.port p).pane).link = (s.port p).pane.link)
    (hctrl : (g (s.port p).pane).ctrlDue = (s.port p).pane.ctrlDue) : s.CulletKept p (s.modPane p g) := by
  refine ⟨?_, ?_, ?_, ?_⟩ <;> rw [State.modPane_port_same]
  · exact hcullet
  · exact htx
  · exact hlink
  · exact hctrl

theorem of_modKeys (s : State) (p : PortIx) (g : PortKeys → PortKeys) : s.CulletKept p (s.modKeys p g) :=
  of_pane (by rw [State.modKeys_port_same])

theorem of_belvAdd (s : State) (p : PortIx) (scope id n : Nat) : s.CulletKept p (s.belvAdd scope id n) := of_ports rfl

theorem of_emit (s : State) (p : PortIx) (h : Word) (body : List Byte) (badCrc : Bool) : s.CulletKept p (s.emit p h body badCrc) := by
  obtain ⟨items, scr, hport⟩ := s.emit_port_same p h body badCrc
  exact ⟨by rw [hport], by rw [hport], by rw [hport], by rw [hport]⟩

theorem of_sendControl (s : State) (p : PortIx) (type crvc crcount : Nat) (text : List Byte) :
    s.CulletKept p (s.sendControl p type crvc crcount text) := trans (of_modKeys ..) (of_emit ..)

theorem of_sendVector (s : State) (p : PortIx) (type : Nat) : s.CulletKept p (s.sendVector p type) := by
  obtain ⟨vcs, items, scr, -, hport⟩ := s.sendVector_port_same p type
  refine ⟨?_, ?_, ?_, ?_⟩ <;> rw [hport] <;> rfl

theorem of_beginSession (s : State) (p : PortIx) (vc sub : Nat) : s.CulletKept p (s.beginSession p vc sub) := by
  unfold State.beginSession
  dsimp only
  split
  · exact refl p s
  split
  · exact of_modKeys ..
  · exact refl p s

end State.CulletKept

/-- Between two states a new pane enters the Cullet of a port under the next sequence number. -/
structure State.Appends (p : PortIx) (c : CulletPane) (s u : State) : Prop where
  cullet : (u.port p).pane.cullet = (s.port p).pane.cullet ++ [c]
  txNext : (u.port p).pane.txNext = (s.port p).pane.txNext + 1
  seq : c.seq = (s.port p).pane.txNext
  link : (u.port p).pane.link = (s.port p).pane.link
  ctrlDue : (u.port p).pane.ctrlDue = (s.port p).pane.ctrlDue

namespace State.Appends

variable {p : PortIx} {c : CulletPane} {s u v : State}

theorem of_modPane (s : State) (p : PortIx) {g : Pane → Pane} (hcullet : (g (s.port p).pane).cullet = (s.port p).pane.cullet ++ [c])
    (htx : (g (s.port p).pane).txNext = (s.port p).pane.txNext + 1) (hseq : c.seq = (s.port p).pane.txNext)
    (hlink : (g (s.port p).pane).link = (s.port p).pane.link) (hctrl : (g (s.port p).pane).ctrlDue = (s.port p).pane.ctrlDue) :
    s.Appends p c (s.modPane p g) := by
  refine ⟨?_, ?_, hseq, ?_, ?_⟩ <;> rw [State.modPane_port_same]
  · exact hcullet
  · exact htx
  · exact hlink
  · exact hctrl

theorem after (h : s.Appends p c u) (k : u.CulletKept p v) : s.Appends p c v :=
  ⟨k.cullet.trans h.cullet, k.txNext.trans h.txNext, h.seq, k.link.trans h.link, k.ctrlDue.trans h.ctrlDue⟩

theorem before (k : s.CulletKept p u) (h : u.Appends p c v) : s.Appends p c v :=
  ⟨by rw [h.cullet, k.cullet], by rw [h.txNext, k.txNext], h.seq.trans k.txNext, h.link.trans k.link, h.ctrlDue.trans k.ctrlDue⟩

end State.Appends

/-- What a pane reports of its channels changes their counts and the turn of the reports. -/
theorem Pane.reportRet_eq (q : Pane) : ∃ t n, q.reportRet.1 = { q with vcs := t, crRot := n } := by
  unfold Pane.reportRet
  split
  · exact ⟨q.vcs, q.crRot, rfl⟩
  · exact ⟨_, _, rfl⟩

/-- A sequenced pane sent for the first time enters the Cullet. -/
theorem State.sendNew_appends (s : State) (p : PortIx) (fence : Bool) (vc key sub : Nat) (enc : Bool) (body : List Byte) (badCrc badTag : Bool) :
    s.Appends p { seq := (s.port p).pane.txNext, fence := fence, vc := vc, key := key, sub := sub, enc := enc, body := body }
      (s.sendNew p fence vc key sub enc body badCrc badTag) := by
  obtain ⟨t, n, hret⟩ := (s.port p).pane.reportRet_eq
  unfold State.sendNew
  dsimp only
  rw [hret]
  refine .after (.after (.after (.of_modPane s p ?_ ?_ rfl ?_ ?_) (.of_modKeys ..)) (.of_emit ..)) (.of_belvAdd ..)
  all_goals
    split
    · rfl
    · rfl

theorem Pane.pack_sansUnits (ok : Nat → Bool) (vc sub key : Nat) (f room : Nat) (q : Pane) (acc : List LinkUnit) (out : List (Nat × List Nat)) :
    (Pane.pack ok vc sub key f room q acc out).1.sansUnits = q.sansUnits := by
  induction f generalizing room q acc out with
  | zero => rfl
  | succ f ih =>
    unfold Pane.pack
    dsimp only
    split
    · rfl
    split
    · split
      · rfl
      split
      · rfl
      · exact ih ..
    · split
      · exact ih ..
      · rfl

/-! ### DATA panes and fences sent (R334, R352) -/

theorem State.UnitsMove.of_sweepTransit (s : State) (o : PortIx) : s.UnitsMove (s.sweepTransit o) := trans (of_cutQueued ..) (of_cutSending ..)

/-- Where no key serves a pair or its checker finds an injection the Cullet stays, and else a DATA pane of the pair enters it. -/
theorem State.sendData_cases (s : State) (p : PortIx) (vc sub : Nat) :
    (s.CulletKept p (s.sendData p vc sub) ∧ (((s.beginSession p vc sub).port p).keys.tx
      (((s.beginSession p vc sub).port p).pane.nextKey ((s.beginSession p vc sub).keyServes p) vc sub) = none ∨
      (s.beginSession p vc sub).flt.injArmed = true)) ∨
    ∃ c, s.Appends p c (s.sendData p vc sub) ∧ c.fence = false ∧ c.vc = vc ∧ c.sub = sub ∧ c.retx = 0 ∧ c.resend = 0 := by
  have hbegin := State.CulletKept.of_beginSession s p vc sub
  have hleave (u : State) (l : List (Nat × List Nat)) : u.UnitsMove (l.foldl (fun a e => a.leaveIn e.1 e.2) u) := .of_foldl (fun e a => .of_leaveIn a ..) l u
  have hend (u : State) (b : Bool) : u.CulletKept p ((if b then u.injectionDone else u).sweepTransit p) := by
    refine .trans ?_ (.of_unitsMove (.of_sweepTransit ..))
    split
    · exact .of_ports rfl
    · exact .refl p u
  unfold State.sendData
  dsimp only
  generalize s.beginSession p vc sub = t at hbegin ⊢
  cases htx : (t.port p).keys.tx ((t.port p).pane.nextKey (t.keyServes p) vc sub) with
  | none => exact .inl ⟨hbegin, .inl rfl⟩
  | some k =>
    dsimp only
    split
    next hinjected =>
      have harmed : t.flt.injArmed = true := (Bool.and_eq_true_iff.mp (Bool.and_eq_true_iff.mp hinjected).2).1
      exact .inl ⟨hbegin.trans (.of_ports (State.raiseFatal_ports ..)), .inr harmed⟩
    next =>
      refine .inr ?_
      generalize (t.port p).pane.nextKey (t.keyServes p) vc sub = key
      have hpack := (t.port p).pane.pack_sansUnits (t.keyServes p) vc sub key 64 (if k.enc then 14 else 15) [] []
      generalize (t.port p).pane.pack (t.keyServes p) vc sub key 64 (if k.enc then 14 else 15) [] [] = r at hpack ⊢
      have hpacked : t.CulletKept p (t.modPane p (fun _ => r.1)) :=
        .of_modPane t p (congrArg Pane.cullet hpack :) (congrArg Pane.txNext hpack :) (congrArg Pane.link hpack :) (congrArg Pane.ctrlDue hpack :)
      exact ⟨_, .after (.before (hbegin.trans hpacked) (State.sendNew_appends ..)) (.trans (.of_unitsMove (hleave _ r.2.2)) (hend _ _)),
        rfl, rfl, rfl, rfl, rfl⟩

/-- A fence sent enters the Cullet (R352, R353). -/
theorem State.sendFence_appends (s : State) (p : PortIx) (f : FenceDue) : ∃ c, s.Appends p c (s.sendFence p f) := by
  unfold State.sendFence
  dsimp only
  exact ⟨_, .before (.of_modPane s p rfl rfl rfl rfl) (State.sendNew_appends ..)⟩

/-! ### A slot with a unit ready (R334, R343) -/

/-- A session that begins leaves the keys that serve, and key 0 serves in it. -/
theorem State.beginSession_keyServes (s : State) (p : PortIx) (vc sub k : Nat) (h : s.keyServes p k = true) :
    (s.beginSession p vc sub).keyServes p k = true := by
  unfold State.beginSession
  dsimp only
  split
  · exact h
  split
  case h_2.isTrue m _ hdone =>
    have hnext : ((s.port p).keys.index 0).txNext.isSome = true := (Bool.and_eq_true_iff.mp hdone).2
    obtain ⟨htx, hstalled⟩ := Bool.and_eq_true_iff.mp h
    unfold State.keyServes
    rw [State.modKeys_port_same]
    refine Bool.and_eq_true_iff.mpr ⟨?_, hstalled⟩
    unfold PortKeys.tx PortKeys.index PortKeys.beginTx PortKeys.modIndex
    by_cases hk : k = 0
    · subst hk
      dsimp only
      rw [Table.get_put_same]
      exact Option.isSome_map.trans hnext
    · dsimp only
      rw [Table.get_put_other _ _ _ hk]
      exact htx
  · exact h

/-- A session that begins changes keys alone. -/
theorem State.beginSession_keeps (s : State) (p : PortIx) (vc sub : Nat) :
    ((s.beginSession p vc sub).port p).pane = (s.port p).pane ∧ (s.beginSession p vc sub).flt = s.flt := by
  unfold State.beginSession
  dsimp only
  split
  · exact ⟨rfl, rfl⟩
  split
  · exact ⟨by rw [State.modKeys_port_same], rfl⟩
  · exact ⟨rfl, rfl⟩

/-- A pair with a unit ready sends a DATA pane where no injection is armed. -/
theorem State.sendData_appends {s : State} {p : PortIx} {vc sub : Nat} (hunit : (s.port p).pane.hasUnit (s.keyServes p) vc sub = true)
    (harmed : s.flt.injArmed = false) :
    ∃ c, s.Appends p c (s.sendData p vc sub) ∧ c.fence = false ∧ c.vc = vc ∧ c.sub = sub ∧ c.retx = 0 ∧ c.resend = 0 := by
  obtain ⟨hpane, hflt⟩ := s.beginSession_keeps p vc sub
  refine (s.sendData_cases p vc sub).resolve_left ?_
  rintro ⟨-, hnone | hinjects⟩
  · have hserves := Pane.nextKey_serves (Pane.hasUnit_mono (s.beginSession_keyServes p vc sub) hunit)
    rw [hpane] at hnone
    have htx := (Bool.and_eq_true_iff.mp hserves).1
    rw [hnone] at htx
    cases htx
  · rw [hflt, harmed] at hinjects
    exact Bool.false_ne_true hinjects

/-- A clear port whose next pane is a DATA pane: it owes no acknowledgement, may start one, and has a pair to serve. -/
structure State.Loaded (s : State) (p : PortIx) (v : Nat × Nat) : Prop extends s.Clear p where
  ackDue : (s.port p).pane.ackDue = false
  sinceVector : (s.port p).pane.sinceVector < 62
  mayStart : s.mayStart p = true
  nextPair : s.nextPair p = some v

/-- The next pair with a unit ready is served. -/
theorem State.Loaded.paneSlot {s : State} {p : PortIx} {v : Nat × Nat} (h : s.Loaded p v) :
    s.paneSlot p = (s.modPane p (fun q => q.served v (!(s.port p).time.opened.isEmpty))).sendData p v.1 v.2 := by
  have hnew : s.slotNew p = some ((s.modPane p (fun q => q.served v (!(s.port p).time.opened.isEmpty))).sendData p v.1 v.2) := by
    unfold State.slotNew
    dsimp only
    rw [h.noFence, h.nextPair, h.mayStart]
    rfl
  unfold State.paneSlot State.slotService
  rw [h.serving, if_neg (by decide), if_neg h.awake]
  dsimp only
  rw [if_neg (Nat.not_le.mpr h.sinceVector), find_resend_none h.resend, h.ctrlDue, h.nakDue, h.ackDue, hnew, ite_self]
  rfl

/-- A slot of a port with a unit ready takes it into the Cullet. -/
theorem State.Loaded.slot_appends {s : State} {p : PortIx} {v : Nat × Nat} (h : s.Loaded p v) (harmed : s.flt.injArmed = false) :
    ∃ c, s.Appends p c (s.paneSlot p) ∧ c.fence = false ∧ c.vc = v.1 ∧ c.sub = v.2 ∧ c.retx = 0 ∧ c.resend = 0 := by
  rw [h.paneSlot]
  have hkept : s.CulletKept p (s.modPane p (fun q => q.served v (!(s.port p).time.opened.isEmpty))) := .of_modPane s p rfl rfl rfl rfl
  have hunit : ((s.modPane p (fun q => q.served v (!(s.port p).time.opened.isEmpty))).port p).pane.hasUnit
      ((s.modPane p (fun q => q.served v (!(s.port p).time.opened.isEmpty))).keyServes p) v.1 v.2 = true := by
    have hserves : (s.modPane p (fun q => q.served v (!(s.port p).time.opened.isEmpty))).keyServes p = s.keyServes p := by
      funext k
      unfold State.keyServes
      rw [State.modPane_port_same]
      rfl
    rw [hserves, State.modPane_port_same]
    exact State.nextPair_hasUnit h.nextPair
  obtain ⟨c, happends, hpane⟩ := State.sendData_appends hunit harmed
  exact ⟨c, .before hkept happends, hpane⟩

/-! ### The slot after it -/

/-- Between two states the Cullet of a port loses no pane, and its link stays. -/
structure State.CulletGrows (p : PortIx) (s u : State) : Prop where
  cullet : ∀ c ∈ (s.port p).pane.cullet, c ∈ (u.port p).pane.cullet
  txNext : (s.port p).pane.txNext ≤ (u.port p).pane.txNext
  link : (u.port p).pane.link = (s.port p).pane.link

theorem State.CulletKept.grows {p : PortIx} {s u : State} (h : s.CulletKept p u) : s.CulletGrows p u :=
  ⟨fun _ hc => h.cullet ▸ hc, h.txNext ▸ Nat.le_refl _, h.link⟩

theorem State.Appends.grows {p : PortIx} {c : CulletPane} {s u : State} (h : s.Appends p c u) : s.CulletGrows p u :=
  ⟨fun _ hc => h.cullet ▸ List.mem_append_left _ hc, h.txNext ▸ Nat.le_succ _, h.link⟩

theorem State.slotNew_grows {s u : State} {p : PortIx} (h : s.slotNew p = some u) : s.CulletGrows p u := by
  unfold State.slotNew at h
  dsimp only at h
  split at h
  · cases h
  split at h
  next f _ =>
    cases h
    obtain ⟨c, hc⟩ := s.sendFence_appends p f
    exact hc.grows
  next =>
    obtain ⟨v, -, rfl⟩ := Option.map_eq_some_iff.mp h
    have hkept : s.CulletKept p (s.modPane p (fun q => q.served v (!(s.port p).time.opened.isEmpty))) := .of_modPane s p rfl rfl rfl rfl
    rcases State.sendData_cases (s.modPane p (fun q => q.served v (!(s.port p).time.opened.isEmpty))) p v.1 v.2 with ⟨hsent, -⟩ | ⟨c, hsent, -⟩
    · exact (hkept.trans hsent).grows
    · exact (State.Appends.before hkept hsent).grows

/-- A slot of a port in service with no pane to send again and no control pane due takes no pane out of the Cullet. -/
theorem State.paneSlot_grows {s : State} {p : PortIx} (hserving : s.serving p = true) (hresend : ∀ c ∈ (s.port p).pane.cullet, c.resend = 0)
    (hctrl : (s.port p).pane.ctrlDue = []) : s.CulletGrows p (s.paneSlot p) := by
  have hvector (type : Nat) : s.CulletGrows p (s.sendVector p type) := (State.CulletKept.of_sendVector ..).grows
  unfold State.paneSlot
  rw [hserving, if_neg (by decide)]
  split
  · have hport := s.silentSlot_port_same p
    exact (State.CulletKept.mk (by rw [hport]) (by rw [hport]) (by rw [hport]) (by rw [hport])).grows
  · unfold State.slotService
    dsimp only
    rw [find_resend_none hresend, hctrl, ite_self]
    dsimp only
    split
    · exact hvector _
    split
    · exact ((State.CulletKept.of_modPane s p rfl rfl rfl rfl).trans (.of_sendControl ..)).grows
    split
    · exact hvector _
    · cases hnew : s.slotNew p with
      | none => exact hvector _
      | some u => exact State.slotNew_grows hnew

/-- A unit ready under a credit goes out in the next sequenced pane, which stays in the Cullet over the slot after it. -/
theorem paneTransmit_loaded {s : State} {p : PortIx} {v : Nat × Nat} (hready : s.paneReady p = true) (htime : s.timeDue p = false)
    (htest : (s.port p).lane.testing = false) (h : s.Loaded p v) (harmed : s.flt.injArmed = false) :
    ∃ t, exec (.paneTransmit p) s = .next t ∧ (s.port p).pane.txNext < (t.port p).pane.txNext ∧
      ∃ c ∈ (t.port p).pane.cullet, c.seq = (s.port p).pane.txNext ∧ c.fence = false ∧ c.vc = v.1 ∧ c.sub = v.2 ∧ c.retx = 0 := by
  obtain ⟨c, happends, hfence, hvc, hsub, hretx, hresend⟩ := h.slot_appends harmed
  have hserving : (s.paneSlot p).serving p = true := (congrArg LinkState.inService happends.link).trans h.serving
  have hgrows := State.paneSlot_grows hserving
    (fun e he => by
      rw [happends.cullet] at he
      rcases List.mem_append.mp he with hold | hnew
      · exact h.resend e hold
      · exact List.mem_singleton.mp hnew ▸ hresend)
    (happends.ctrlDue.trans h.ctrlDue)
  have hend : (((s.paneSlot p).paneSlot p).noteIdle p).serving p = true := by
    rw [State.serving, State.noteIdle_pane, hgrows.link]
    exact hserving
  refine ⟨_, exec_paneTransmit_slots hready htime htest (State.leadOn_serving hend), ?_⟩
  rw [State.keep_port, State.noteIdle_pane]
  refine ⟨?_, c, hgrows.cullet c ?_, happends.seq, hfence, hvc, hsub, hretx⟩
  · exact Nat.lt_of_lt_of_le (happends.txNext ▸ Nat.lt_succ_self _) hgrows.txNext
  · rw [happends.cullet]
    exact List.mem_append_right _ (List.mem_singleton_self c)

/-- Settles O31: a cycle is two slots; a quiet port sends credit vectors (`Quiet.slot`), a loaded one appends to its Cullet (`Loaded.slot_appends`). -/
theorem panesAreSent : Obligations.PanesAreSent := by
  unfold Obligations.PanesAreSent
  have hsends {s t : State} {p : PortIx} {n : Nat} (h : s.Slots p n t) := And.intro h.slot (And.intro h.cullet (And.intro h.txNext
    (And.intro h.others (And.intro h.counters h.front))))
  refine fun s p hready htime => ⟨fun htest => ⟨fun hserving hlps ⟨hresend, hctrl, hnak, hfences⟩ hpair => ?_,
    fun v hserving hlps ⟨hresend, hctrl, hnak, hfences⟩ hack hsince hstart harmed hpair => ?_, fun hserving hlps => ?_,
    fun m hserving hfollows hans hmsg => ?_, fun hserving hfollows hans hmsg => ?_⟩, fun htest hcode hloop hphase => ?_⟩
  · obtain ⟨t, hexec, hslots, hdone⟩ := paneTransmit_quiet hready htime htest ⟨⟨hserving, hlps, hresend, hctrl, hnak, hfences⟩, hpair⟩
    exact ⟨t, hexec, hsends hslots, hdone, hslots.rxNext⟩
  · exact paneTransmit_loaded hready htime htest
      ⟨⟨hserving, hlps, hresend, hctrl, hnak, hfences⟩, hack, hsince.trans (by decide), hstart, hpair⟩ harmed
  · obtain ⟨t, hexec, hslots, hnone⟩ := paneTransmit_silent hready htime htest hserving hlps
    exact ⟨t, hexec, hsends hslots, hnone⟩
  · obtain ⟨t, hexec, hslots⟩ := paneTransmit_training hready htime htest hserving hfollows hans hmsg
    exact ⟨t, hexec, hsends hslots⟩
  · obtain ⟨t, hexec, hslots⟩ := paneTransmit_idle hready htime htest hserving hfollows hans hmsg
    exact ⟨t, hexec, hsends hslots⟩
  · obtain ⟨t, hexec, hslots, hprbs, hsent⟩ := paneTransmit_prbs hready htime htest hcode hloop hphase rfl rfl
    exact ⟨t, hexec, hsends hslots, hprbs, hsent⟩

end Sys2Proof.Machine
end

section
/-!
SUPPORT. What the operations of lanes, trainings and link states change of a port and of the rest of the block, each said once (R373 to R391).
-/
namespace Sys2Proof.Machine

/-! ### Lanes -/

theorem mem_laneIds {k : Nat} : k ∈ laneIds ↔ k < 13 := List.mem_range

theorem laneIds_nodup : laneIds.Nodup := List.nodup_range

@[simp] theorem LaneUnit.modAt_lane_same (l : LaneUnit) (k : Nat) (f : Lane → Lane) : (l.modAt k f).lane k = f (l.lane k) := Table.get_put_same ..

theorem LaneUnit.modAt_lane_other (l : LaneUnit) {k i : Nat} (h : i ≠ k) (f : Lane → Lane) : (l.modAt k f).lane i = l.lane i :=
  Table.get_put_other _ _ _ h

/-- The lanes after each was changed. -/
def LaneUnit.lanesAfter (l : LaneUnit) (f : Nat → Lane → Lane) : Table Lane := (l.modAll f).lanes

/-- Lanes changed one by one are the one part of the lane unit that changes. -/
theorem LaneUnit.modAll_lanesAfter (l : LaneUnit) (f : Nat → Lane → Lane) : l.modAll f = { l with lanes := l.lanesAfter f } := by
  obtain ⟨t, ht⟩ := l.modAll_eq f
  rw [LaneUnit.lanesAfter, ht]

theorem LaneUnit.foldl_modAt_lane (f : Nat → Lane → Lane) {ks : List Nat} (hks : ks.Nodup) (l : LaneUnit) (i : Nat) :
    (ks.foldl (fun a k => a.modAt k (f k)) l).lane i = if i ∈ ks then f i (l.lane i) else l.lane i := by
  induction ks generalizing l with
  | nil => rfl
  | cons k ks ih =>
    obtain ⟨hk, hks⟩ := List.nodup_cons.mp hks
    rw [List.foldl_cons, ih hks]
    by_cases hi : i = k
    · subst hi
      simp [hk]
    · simp [hi, LaneUnit.modAt_lane_other]

/-- Each lane is changed once. -/
theorem LaneUnit.lanesAfter_lane (l : LaneUnit) (f : Nat → Lane → Lane) {k : Nat} (h : k < 13) : Table.get {} (l.lanesAfter f) k = f k (l.lane k) := by
  have hfold := LaneUnit.foldl_modAt_lane f laneIds_nodup l k
  rw [if_pos (mem_laneIds.mpr h)] at hfold
  exact hfold

theorem LaneUnit.modAll_lane (l : LaneUnit) (f : Nat → Lane → Lane) {k : Nat} (h : k < 13) : (l.modAll f).lane k = f k (l.lane k) :=
  l.lanesAfter_lane f h

/-! ### Masks of lanes -/

theorem testBit_foldl_or (ks : List Nat) (m i : Nat) : (ks.foldl (fun m i => m ||| 1 <<< i) m).testBit i = (m.testBit i || decide (i ∈ ks)) := by
  induction ks generalizing m with
  | nil => simp
  | cons k ks ih =>
    rw [List.foldl_cons, ih, Nat.testBit_or, Nat.one_shiftLeft, Nat.testBit_two_pow, Bool.or_assoc]
    simp [eq_comm]

theorem testBit_maskOf (ks : List Nat) (i : Nat) : (maskOf ks).testBit i = decide (i ∈ ks) := by
  rw [maskOf, testBit_foldl_or, Nat.zero_testBit, Bool.false_or]

theorem LaneUnit.testBit_usable (l : LaneUnit) {k : Nat} (h : k < 13) : l.usable.testBit k = (l.lane k).usable := by
  rw [LaneUnit.usable, testBit_maskOf]
  simp [mem_laneIds, h]

theorem mem_bitsSet {n m i : Nat} : i ∈ bitsSet n m ↔ i < n ∧ m.testBit i = true := by simp [bitsSet]

/-! ### Lanes, trainings and keys of one port -/

theorem State.modLane_modLane (s : State) (p : PortIx) (f g : LaneUnit → LaneUnit) : (s.modLane p f).modLane p g = s.modLane p (fun l => g (f l)) := by
  simp [State.modLane, State.modPort, State.setPort, State.port]

@[simp] theorem State.modTrain_port_same (s : State) (p : PortIx) (g : Train → Train) : (s.modTrain p g).port p =
    { s.port p with lane := { (s.port p).lane with train := g (s.port p).lane.train } } := s.modLane_port_same p _

/-- Between two states one port changes: the other ports and the rest of the block stay, but for the free values taken. -/
structure State.PortChange (p : PortIx) (s u : State) : Prop where
  rest : u = { s with ports := u.ports, freeCount := u.freeCount }
  others : ∀ o, o ≠ p → u.port o = s.port o

namespace State.PortChange

variable {p : PortIx} {s u v : State}

theorem refl (p : PortIx) (s : State) : s.PortChange p s := ⟨rfl, fun _ _ => rfl⟩

theorem trans (h : s.PortChange p u) (k : u.PortChange p v) : s.PortChange p v where
  rest := by rw [k.rest, h.rest]
  others o ho := (k.others o ho).trans (h.others o ho)

theorem of_modPort (s : State) (p : PortIx) (g : Port → Port) : s.PortChange p (s.modPort p g) := ⟨rfl, fun o ho => s.modPort_port_other p o g ho⟩
theorem of_modPane (s : State) (p : PortIx) (g : Pane → Pane) : s.PortChange p (s.modPane p g) := of_modPort ..
theorem of_modLane (s : State) (p : PortIx) (g : LaneUnit → LaneUnit) : s.PortChange p (s.modLane p g) := of_modPort ..
theorem of_modKeys (s : State) (p : PortIx) (g : PortKeys → PortKeys) : s.PortChange p (s.modKeys p g) := of_modPort ..

theorem global (h : s.PortChange p u) : u.global = s.global := (congrArg State.global h.rest :)
theorem counters (h : s.PortChange p u) : u.counters = s.counters := (congrArg State.counters h.rest :)
theorem front (h : s.PortChange p u) : u.front = s.front := (congrArg State.front h.rest :)
theorem xfer (h : s.PortChange p u) : u.xfer = s.xfer := (congrArg State.xfer h.rest :)
theorem topo (h : s.PortChange p u) : u.topo = s.topo := (congrArg State.topo h.rest :)
theorem power (h : s.PortChange p u) : u.power = s.power := (congrArg State.power h.rest :)
theorem lodge (h : s.PortChange p u) : u.lodge = s.lodge := (congrArg State.lodge h.rest :)
theorem now (h : s.PortChange p u) : u.now = s.now := (congrArg State.now h.rest :)

end State.PortChange

/-- Between two states the lanes and the keys of one port change, and its pane layer stays. -/
structure State.LanesChange (p : PortIx) (s u : State) : Prop extends State.PortChange p s u where
  pane : (u.port p).pane = (s.port p).pane

namespace State.LanesChange

variable {p : PortIx} {s u v : State}

theorem refl (p : PortIx) (s : State) : s.LanesChange p s := ⟨.refl p s, rfl⟩

theorem trans (h : s.LanesChange p u) (k : u.LanesChange p v) : s.LanesChange p v :=
  ⟨h.toPortChange.trans k.toPortChange, k.pane.trans h.pane⟩

theorem of_modLane (s : State) (p : PortIx) (g : LaneUnit → LaneUnit) : s.LanesChange p (s.modLane p g) := ⟨.of_modLane .., by rw [State.modLane_port_same]⟩
theorem of_modTrain (s : State) (p : PortIx) (g : Train → Train) : s.LanesChange p (s.modTrain p g) := of_modLane ..
theorem of_modKeys (s : State) (p : PortIx) (g : PortKeys → PortKeys) : s.LanesChange p (s.modKeys p g) := ⟨.of_modKeys .., by rw [State.modKeys_port_same]⟩
theorem of_drawn (p : PortIx) (s : State) : s.LanesChange p s.drawn := ⟨⟨rfl, fun _ _ => rfl⟩, rfl⟩

theorem link (h : s.LanesChange p u) : (u.port p).pane.link = (s.port p).pane.link := congrArg Pane.link h.pane
theorem serving (h : s.LanesChange p u) : u.serving p = s.serving p := congrArg LinkState.inService h.link

end State.LanesChange

/-! ### Rounds (R376, R383) -/

/-- The training of a round that begins. -/
def Train.begun (initial : Bool) (step start now : Nat) (round : BitVec 8) (tseq : BitVec 16) (farSerial : Word) : Train :=
  ({ phase := .lock, initial := initial, identDue := initial, step := step, start := start, roundStart := now, round := round, tseq := tseq,
     prev := { step := step }, farSerial := farSerial } : Train).say (if initial then tmHello else tmRetrain) []

/-- The training of a round that begins within a training: what was heard of the far end is kept (R383). -/
def Train.again (t : Train) (step start now : Nat) (round : BitVec 8) : Train :=
  { Train.begun t.initial step start now round t.tseq 0 with
    heard := t.heard, farSerial := t.farSerial, farSteps := t.farSteps, identDue := t.identDue, authSeen := t.authSeen, noAuthSeen := t.noAuthSeen }

/-- The lane unit as a round finds it. -/
def LaneUnit.inRound (l : LaneUnit) (lanes : Table Lane) (step : Nat) (t : Train) : LaneUnit :=
  { l with lanes := lanes, active := 0, width := 0, step := step, change := none, spareAt := none, consecUncorr := 0, train := t }

theorem State.beginRound_lanesChange (s : State) (p : PortIx) (initial keepTaps : Bool) (step start : Nat) (round : BitVec 8) (tseq : BitVec 16)
    (fresh : Bool) : s.LanesChange p (s.beginRound p initial keepTaps step start round tseq fresh) := by
  unfold State.beginRound
  refine .trans ?_ (.of_modLane ..)
  split
  · exact .of_modKeys ..
  · exact .refl p s

theorem State.beginRound_lane (s : State) (p : PortIx) (initial keepTaps : Bool) (step start : Nat) (round : BitVec 8) (tseq : BitVec 16) (fresh : Bool) :
    ∃ lanes, ((s.beginRound p initial keepTaps step start round tseq fresh).port p).lane =
      (s.port p).lane.inRound lanes step (Train.begun initial step start s.now round tseq (s.port p).lane.farSerial) := by
  have hkeys (f : Bool) : ((if f then s.modKeys p PortKeys.newSegment else s).port p).lane = (s.port p).lane := by
    cases f
    · rfl
    · rw [if_pos rfl, State.modKeys_port_same]
  rw [State.beginRound, State.modLane_port_same]
  dsimp only
  rw [hkeys, State.freshLanes, LaneUnit.modAll_lanesAfter]
  exact ⟨_, rfl⟩

theorem State.newRound_lanesChange (s : State) (p : PortIx) (round : BitVec 8) : s.LanesChange p (s.newRound p round) := by
  rw [State.newRound]
  exact (s.beginRound_lanesChange ..).trans (.of_modTrain ..)

theorem State.newRound_lane (s : State) (p : PortIx) (round : BitVec 8) : ∃ lanes, ((s.newRound p round).port p).lane =
    (s.port p).lane.inRound lanes (s.port p).lane.train.step
      ((s.port p).lane.train.again (s.port p).lane.train.step (s.port p).lane.train.start s.now round) := by
  obtain ⟨lanes, h⟩ := s.beginRound_lane p (s.port p).lane.train.initial (!(s.port p).lane.train.initial) (s.port p).lane.train.step
    (s.port p).lane.train.start round (s.port p).lane.train.tseq false
  rw [State.newRound, State.modTrain_port_same]
  dsimp only
  rw [h]
  exact ⟨lanes, rfl⟩

/-- An attempt that fails above S0, or in an initial training, begins a round, and the link stays in training (R384). -/
theorem State.failAttempt_again {s : State} {p : PortIx} (h : (s.port p).lane.train.initial = true ∨ (s.port p).lane.train.step ≠ 0) :
    s.LanesChange p (s.failAttempt p) ∧ ∃ lanes step start, ((s.failAttempt p).port p).lane =
      (s.port p).lane.inRound lanes step ((s.port p).lane.train.again step start s.now ((s.port p).lane.train.round + 1)) ∧
      ((s.port p).lane.train.initial = false → step = (s.port p).lane.train.step - 1) := by
  unfold State.failAttempt
  dsimp only
  split
  case isTrue hinitial =>
    obtain ⟨lanes, hlane⟩ := s.newRound_lane p ((s.port p).lane.train.round + 1)
    exact ⟨s.newRound_lanesChange .., lanes, _, _, hlane, fun hnot => absurd (hnot.symm.trans hinitial) Bool.false_ne_true⟩
  case isFalse hinitial =>
    rw [if_neg (h.resolve_left hinitial)]
    obtain ⟨lanes, hlane⟩ := s.beginRound_lane p false false ((s.port p).lane.train.step - 1) s.now ((s.port p).lane.train.round + 1)
      (s.port p).lane.train.tseq false
    refine ⟨(s.beginRound_lanesChange ..).trans (.of_modTrain ..), lanes, _, s.now, ?_, fun _ => rfl⟩
    rw [State.modTrain_port_same]
    dsimp only
    rw [hlane]
    simp only [Train.again, Bool.eq_false_iff.mpr hinitial]
    rfl

/-- What the Lodge firmware writes to the engine to switch its outputs (R397). -/
def txDisableOps (off : Bool) : List I3cOp := [.txDisable 0 (if off then 0xFF else 0), .txDisable 1 (if off then 0x1F else 0)]

theorem State.txDisable_lane (s : State) (p : PortIx) (off : Bool) : ((s.txDisable p off).port p).lane =
    { (s.port p).lane with lanes := (s.port p).lane.lanesAfter (fun _ q => { q with txOff := off }), i3c := (s.port p).lane.i3c ++ txDisableOps off } := by
  rw [State.txDisable, State.modLane_port_same]
  generalize (s.port p).lane = l
  show ({ (l.modAll fun _ q => { q with txOff := off }) with i3c := l.i3c ++ txDisableOps off } : LaneUnit) = _
  rw [LaneUnit.modAll_lanesAfter]

theorem State.txDisable_lanesChange (s : State) (p : PortIx) (off : Bool) : s.LanesChange p (s.txDisable p off) := .of_modLane ..

/-! ### Messages said (R376, R383) -/

theorem State.say_lanesChange (s : State) (p : PortIx) (code : Nat) (args : List Byte) (reject : Bool) : s.LanesChange p (s.say p code args reject) :=
  .of_modTrain ..

/-! ### What the leader does next (R382) -/

section
variable {s : State} {p : PortIx}

/-- The leader goes on only in a training it leads, with no answer awaited and its message sent. -/
theorem State.leadOn_waits (h : s.leads p = true → s.inTraining p = true → (s.port p).lane.train.waiting = none → (s.port p).lane.train.out = false) :
    s.leadOn p = s := by
  have hnot : (!(s.inTraining p && s.leads p && (s.port p).lane.train.waiting.isNone && (s.port p).lane.train.out)) = true := by
    by_contra hgo
    simp only [Bool.not_eq_true', Bool.not_eq_false, Bool.and_eq_true, Option.isNone_iff_eq_none] at hgo
    obtain ⟨⟨⟨htraining, hleads⟩, hwaiting⟩, hout⟩ := hgo
    exact Bool.false_ne_true ((h hleads htraining hwaiting).symm.trans hout)
  exact if_pos hnot

theorem State.leadOn_unsent (h : (s.port p).lane.train.out = false) : s.leadOn p = s := State.leadOn_waits fun _ _ _ => h

theorem State.leadOn_follower (h : s.leads p = false) : s.leadOn p = s := State.leadOn_waits fun hleads => absurd (h.symm.trans hleads) Bool.false_ne_true

theorem State.leadOn_outside (h : s.inTraining p = false) : s.leadOn p = s :=
  State.leadOn_waits fun _ htraining => absurd (h.symm.trans htraining) Bool.false_ne_true

theorem State.leadOn_awaiting {n : Nat} (h : (s.port p).lane.train.waiting = some n) : s.leadOn p = s :=
  State.leadOn_waits fun _ _ hwaiting => absurd (h.symm.trans hwaiting) (Option.some_ne_none n)

/-- In the phases in which nothing depends on the leader alone nothing follows. -/
theorem State.leadOn_phase (hlock : (s.port p).lane.train.phase ≠ .lock) (hident : (s.port p).lane.train.phase ≠ .ident)
    (hdone : (s.port p).lane.train.phase ≠ .done) : s.leadOn p = s := by
  unfold State.leadOn
  dsimp only
  split
  · rfl
  split
  · exact absurd ‹_› hlock
  · exact absurd ‹_› hident
  · exact absurd ‹_› hdone
  · rfl

/-- A training whose leader has gone on to its next message. -/
def Train.goesOn (t : Train) (phase : TrainPhase) (msg : Option TrainMsg) (tseq : BitVec 16) (waiting : Option Nat) (out : Bool) : Train :=
  { t with phase := phase, msg := msg, tseq := tseq, waiting := waiting, out := out }

theorem State.ask_goesOn (s : State) (p : PortIx) (code : Nat) (args : List Byte) : ∃ phase msg tseq waiting out,
    s.ask p code args = s.modTrain p (fun t => t.goesOn phase msg tseq waiting out) := ⟨(s.port p).lane.train.phase, _, _, _, _, rfl⟩

/-- Everything the leader can do next: nothing, give the attempt up, or say its next message and await the answer. -/
theorem State.leadOn_cases (s : State) (p : PortIx) : s.leadOn p = s ∨
    (((s.port p).lane.train.phase = .lock ∨ (s.port p).lane.train.phase = .done) ∧ s.leads p = true ∧ s.nextCfg p = none ∧ s.leadOn p = s.failAttempt p) ∨
    ∃ phase msg tseq waiting out, s.leadOn p = s.modTrain p (fun t => t.goesOn phase msg tseq waiting out) := by
  unfold State.leadOn
  dsimp only
  split
  · exact .inl rfl
  case isFalse hgo =>
  have hleads : s.leads p = true := by
    by_contra hfollows
    exact hgo (by rw [Bool.eq_false_iff.mpr hfollows, Bool.and_false]; rfl)
  split
  case h_1 hphase =>
    generalize s.usPassed _ _ = late
    split
    · split
      · exact .inr (.inl ⟨.inl hphase, hleads, ‹_›, rfl⟩)
      · exact .inr (.inr (s.ask_goesOn ..))
    · exact .inl rfl
  case h_2 hphase =>
    split
    · split
      · exact .inr (.inr (s.ask_goesOn ..))
      · obtain ⟨phase, msg, tseq, waiting, out, hask⟩ := (s.modTrain p (fun t => { t with phase := .going })).ask_goesOn p tmGo
          [BitVec.ofNat 8 (s.port p).lane.train.cfg.step]
        rw [hask, State.modTrain, State.modTrain, State.modLane_modLane]
        exact .inr (.inr ⟨phase, msg, tseq, waiting, out, rfl⟩)
    · exact .inl rfl
  case h_3 hphase =>
    split
    · split
      · exact .inr (.inr (s.ask_goesOn ..))
      · exact .inr (.inl ⟨.inr hphase, hleads, ‹_›, rfl⟩)
    · exact .inl rfl
  · exact .inl rfl

end

end Sys2Proof.Machine
end

section
/-!
SUPPORT. The changes of link state (R354, R373, R374, R384, R424): what a port that retrains, trains or goes DOWN is left with, and what the rest of the
block is told.
-/
namespace Sys2Proof.Machine

/-! ### TRAINING and RETRAINING (R373, R384) -/

theorem State.serving_of_inTraining {s : State} {p : PortIx} (h : s.inTraining p = true) : s.serving p = false := by
  unfold State.inTraining at h
  unfold State.serving
  cases hlink : (s.port p).pane.link <;> simp_all [LinkState.inService]

/-- The lane unit of a port that begins to retrain. -/
def LaneUnit.retraining (l : LaneUnit) (own far : Nat) (eventTick : BitVec 32) (lanes : Table Lane) (now : Nat) : LaneUnit :=
  { l.inRound lanes l.step (Train.begun false l.step now now 0 0 l.farSerial) with
    causeOwn := own, causeFar := far, eventTick := eventTick, lpsState := 0, idleSince := none, lpsSent := false, retrainDue := false }

theorem State.retrainWith_lane {s : State} {p : PortIx} (hserving : s.serving p = true) (own far : Nat) :
    ∃ e lanes, ((s.retrainWith p own far).port p).lane = (s.port p).lane.retraining own far e lanes s.now := by
  rw [State.retrainWith, if_pos hserving]
  dsimp only
  obtain ⟨lanes, h⟩ := (((s.modPane p (fun q => { q.stopped with link := .retraining })).setCause p own far true).bump (ctrRetrain p)).beginRound_lane p
    false true (s.port p).lane.step
    (((s.modPane p (fun q => { q.stopped with link := .retraining })).setCause p own far true).bump (ctrRetrain p)).now 0 0 true
  rw [State.modLane_port_same, State.beginTrain]
  dsimp only
  rw [h, State.bump_port, State.setCause, State.modLane_port_same, State.modPane_port_same]
  refine ⟨BitVec.ofNat 32 s.podTime, lanes, ?_⟩
  rw [State.now, State.bump_retained]
  rfl

theorem State.startTraining_portChange (s : State) (p : PortIx) (cause : Nat) : s.PortChange p (s.startTraining p cause) :=
  ((State.PortChange.of_modPane ..).trans (.of_modLane ..)).trans (State.beginRound_lanesChange ..).toPortChange

theorem State.startTraining_pane (s : State) (p : PortIx) (cause : Nat) :
    ((s.startTraining p cause).port p).pane = { (s.port p).pane.stopped with link := .training } := by
  rw [State.startTraining, State.beginTrain, (State.beginRound_lanesChange ..).pane, State.setCause, State.modLane_port_same, State.modPane_port_same]

theorem State.startTraining_lane (s : State) (p : PortIx) (cause : Nat) : ∃ lanes, ((s.startTraining p cause).port p).lane =
    { (s.port p).lane.inRound lanes 0 (Train.begun true 0 s.now s.now 0 0 (s.port p).lane.farSerial) with causeOwn := cause, causeFar := 0 } := by
  obtain ⟨lanes, h⟩ := ((s.modPane p (fun q => { q.stopped with link := .training })).setCause p cause 0 false).beginRound_lane p true false 0
    ((s.modPane p (fun q => { q.stopped with link := .training })).setCause p cause 0 false).now 0 0 true
  refine ⟨lanes, ?_⟩
  rw [State.startTraining, State.beginTrain, h, State.setCause, State.modLane_port_same, State.modPane_port_same]
  rfl

/-! ### What the block is told of a link (R424, R530, R532) -/

/-- Between two states something is reported: notices, errors and messages to the neighbours; what the tables say of the ports stays. -/
structure State.Reports (s u : State) : Prop where
  moves : s.UnitsMove u
  tports : u.topo.ports = s.topo.ports

namespace State.Reports

variable {s u v : State}

theorem refl (s : State) : s.Reports s := ⟨.refl s, rfl⟩

theorem trans (h : s.Reports u) (k : u.Reports v) : s.Reports v :=
  ⟨h.moves.trans k.moves, k.tports.trans h.tports⟩

theorem of_modTopo (s : State) {f : Topo → Topo} (hf : ∀ t, (f t).ports = t.ports) : s.Reports (s.modTopo f) := ⟨.of_ports rfl, hf _⟩

theorem of_notice (s : State) (code : Nat) (data : List Byte) : s.Reports (s.notice code data) := ⟨.of_ports (by simp), by simp⟩

theorem of_sendVia (s : State) (h cls key : Nat) (m : Msg) : s.Reports (s.sendVia h cls key m) := by
  refine ⟨.of_sendVia .., ?_⟩
  unfold State.sendVia
  repeat' split
  all_goals rfl

theorem of_mgmtTo (s : State) (p : PortIx) (mtype sub : Nat) (payload : List LinkUnit) : s.Reports (s.mgmtTo p mtype sub payload) := by
  unfold State.mgmtTo
  split
  · exact refl s
  · exact of_sendVia ..

theorem of_flood (s : State) (mtype sub : Nat) (payload : List LinkUnit) : s.Reports (s.flood mtype sub payload) := by
  refine foldl_keeps refl trans (fun p _ a => ?_) s
  split
  · exact of_mgmtTo ..
  · exact refl a

end State.Reports

/-- STATE and UNREACH settled leave the ports. -/
theorem Topo.settle_ports (t : Topo) : t.settle.ports = t.ports := by
  unfold Topo.settle
  split <;> rfl

theorem State.linkChanged_reports (s : State) (p : PortIx) (up : Bool) : s.Reports (s.linkChanged p up) := by
  unfold State.linkChanged
  split
  · exact .refl s
  split
  · unfold State.applyLinkEvent
    split
    · dsimp only
      refine .trans (.trans (.of_modTopo s fun t => ?_) (.of_notice ..)) (.of_flood ..)
      exact Topo.settle_ports _
    · exact .refl s
  · exact .refl s

/-! ### DOWN (R373, R424) -/

/-- The state of a port that went DOWN, before anything is told of it. -/
def State.downed (s : State) (p : PortIx) (cause : Nat) : State :=
  ((s.modPane p (fun q => { q.stopped with link := .down })).setCause p cause (s.port p).lane.causeFar ((s.port p).pane.link != .down)).modLane p (fun l =>
    { l with active := 0, width := 0, change := none, spareAt := none, train := {}, downSince := s.now, lpsState := if cause = lcPower then l.lpsState else 0 })

theorem State.downed_portChange (s : State) (p : PortIx) (cause : Nat) : s.PortChange p (s.downed p cause) :=
  ((State.PortChange.of_modPane ..).trans (.of_modLane ..)).trans (.of_modLane ..)

theorem State.enterDown_downed (s : State) (p : PortIx) (cause : Nat) : (s.downed p cause).Reports (s.enterDown p cause) := by
  have hlose : (s.downed p cause).Reports (s.downed p cause).loseTime := by
    unfold State.loseTime
    split
    · exact .refl _
    · exact ⟨.of_ports rfl, rfl⟩
  unfold State.enterDown
  dsimp only
  split
  · exact hlose
  · exact hlose.trans (State.linkChanged_reports ..)

section
variable (s : State) (p : PortIx) (cause : Nat)

theorem State.enterDown_pane : ((s.enterDown p cause).port p).pane.sansUnits = ({ (s.port p).pane.stopped with link := .down } : Pane).sansUnits := by
  rw [(s.enterDown_downed p cause).moves.pane, State.downed, State.modLane_port_same, State.setCause, State.modLane_port_same, State.modPane_port_same]

theorem State.enterDown_link : ((s.enterDown p cause).port p).pane.link = .down := (congrArg Pane.link (s.enterDown_pane p cause) :)

theorem State.enterDown_lane : ∃ e, ((s.enterDown p cause).port p).lane = { (s.port p).lane with
    causeOwn := cause, eventTick := e, active := 0, width := 0, change := none, spareAt := none, train := {}, downSince := s.now,
    lpsState := if cause = lcPower then (s.port p).lane.lpsState else 0 } := by
  rw [(s.enterDown_downed p cause).moves.lane, State.downed, State.modLane_port_same, State.setCause, State.modLane_port_same, State.modPane_port_same]
  exact ⟨_, rfl⟩

theorem State.enterDown_link_other {o : PortIx} (ho : o ≠ p) : ((s.enterDown p cause).port o).pane.link = (s.port o).pane.link := by
  have hlink := congrArg Pane.link ((s.enterDown_downed p cause).moves.pane o)
  rwa [(s.downed_portChange p cause).others o ho] at hlink

theorem State.enterDown_tports : (s.enterDown p cause).topo.ports = s.topo.ports := (s.enterDown_downed p cause).tports

end

/-! ### Domains asked for and switched off (R472) -/

@[simp] theorem State.requestDomain_ports (s : State) (d : Nat) : (s.requestDomain d).ports = s.ports := by unfold State.requestDomain; split <;> rfl
@[simp] theorem State.requestDomain_front (s : State) (d : Nat) : (s.requestDomain d).front = s.front := by unfold State.requestDomain; split <;> rfl
@[simp] theorem State.requestDomain_counters (s : State) (d : Nat) : (s.requestDomain d).counters = s.counters := by
  unfold State.requestDomain; split <;> rfl
@[simp] theorem State.requestDomain_engines (s : State) (d : Nat) : (s.requestDomain d).power.engines = s.power.engines := by
  unfold State.requestDomain; split <;> rfl

theorem State.port_congr {s u : State} {p : PortIx} (h : u.ports = s.ports) : u.port p = s.port p := by rw [State.port, State.port, h]

/-- An ON request for a domain is outstanding. -/
def State.asksDomain (s : State) (d : Nat) : Bool := s.power.domReqs.any (fun r => r.domain == d)

theorem State.requestDomain_asks (s : State) (d : Nat) : (s.requestDomain d).asksDomain d = true := by
  unfold State.requestDomain
  split
  · assumption
  · simp [State.asksDomain]

theorem State.requestDomain_still {s : State} {e : Nat} (h : s.asksDomain e = true) (d : Nat) : (s.requestDomain d).asksDomain e = true := by
  unfold State.requestDomain
  split
  · exact h
  · exact List.any_append.trans (Bool.or_eq_true_iff.mpr (.inl h))

theorem State.foldl_requestDomain_ports (l : List Nat) (s : State) : (l.foldl State.requestDomain s).ports = s.ports :=
  foldl_keeps (R := fun a b : State => b.ports = a.ports) (fun _ => rfl) (fun h k => k.trans h) (fun d _ a => a.requestDomain_ports d) s

theorem State.foldl_requestDomain_asks {l : List Nat} {d : Nat} (h : d ∈ l) (s : State) : (l.foldl State.requestDomain s).asksDomain d = true := by
  induction l generalizing s with
  | nil => cases h
  | cons e l ih =>
    rcases List.mem_cons.mp h with rfl | hd
    · exact foldl_keeps (R := fun a b : State => a.asksDomain d = true → b.asksDomain d = true) (fun _ => id) (fun h k => k ∘ h)
        (l := l) (fun e _ a ha => State.requestDomain_still ha e) (s.requestDomain d) (s.requestDomain_asks d)
    · exact ih hd _

@[simp] theorem State.dropDomain_ports (s : State) (d : Nat) : (s.dropDomain d).ports = s.ports := by unfold State.dropDomain; split <;> rfl

theorem State.dropDomain_off (s : State) (d : Nat) : (s.dropDomain d).power.domOn d = false := by
  unfold State.dropDomain
  split
  · simp [Power.domOn]
  · exact Bool.eq_false_iff.mpr ‹_›

theorem State.dropDomain_still {s : State} {e : Nat} (h : s.power.domOn e = false) (d : Nat) : (s.dropDomain d).power.domOn e = false := by
  unfold State.dropDomain
  split
  · exact (BitVec.getLsbD_and ..).trans (Bool.and_eq_false_imp.mpr fun hon => absurd (h.symm.trans hon) Bool.false_ne_true)
  · exact h

theorem State.foldl_dropDomain_ports (l : List Nat) (s : State) : (l.foldl State.dropDomain s).ports = s.ports :=
  foldl_keeps (R := fun a b : State => b.ports = a.ports) (fun _ => rfl) (fun h k => k.trans h) (fun d _ a => a.dropDomain_ports d) s

theorem State.foldl_dropDomain_off {l : List Nat} {d : Nat} (h : d ∈ l) (s : State) : (l.foldl State.dropDomain s).power.domOn d = false := by
  induction l generalizing s with
  | nil => cases h
  | cons e l ih =>
    rcases List.mem_cons.mp h with rfl | hd
    · exact foldl_keeps (R := fun a b : State => a.power.domOn d = false → b.power.domOn d = false) (fun _ => id) (fun h k => k ∘ h)
        (l := l) (fun e _ a ha => State.dropDomain_still ha e) (s.dropDomain d) (s.dropDomain_off d)
    · exact ih hd _

end Sys2Proof.Machine
end

section
/-!
PROOFS. ENABLE, TEST and RETRAIN of TRAIN_CTL (R373, R400, R472, R481): the statement TrainControlMovesTheLink.
-/
namespace Sys2Proof.Machine

theorem exec_trainEnableWrite {s : State} (hopen : s.regsOpen = true) (p : PortIx) (en : Bool) :
    exec (.trainEnableWrite p en) s = .next (s.keep (s.setEnable p en)) := by
  show act s.regsOpen s _ = _
  rw [hopen]
  rfl

theorem exec_trainTestWrite {s : State} (hopen : s.regsOpen = true) (p : PortIx) (on : Bool) :
    exec (.trainTestWrite p on) s = .next (s.keep (s.setTest p on)) := by
  show act s.regsOpen s _ = _
  rw [hopen]
  rfl

theorem exec_trainRetrainWrite {s : State} (hopen : s.regsOpen = true) (p : PortIx) : exec (.trainRetrainWrite p) s = .next (s.keep (s.askRetrain p)) := by
  show act s.regsOpen s _ = _
  rw [hopen]
  rfl

/-! ### Bits of TRAIN_CTL (R400) -/

theorem bit_or_one (w : Word) : bit (w ||| 1#64) 0 = true := by simp [bit]
theorem bit_or_two (w : Word) : bit (w ||| 2#64) 1 = true := by
  rw [bit, BitVec.getLsbD_or]
  simp
theorem bit_without_one (w : Word) : bit (w &&& ~~~1#64) 0 = false := by simp [bit]

/-! ### The domains of a port (R472) -/

/-- The domains of a port asked for: its pane layer and TRAIN_CTL stay, and so do the other ports. -/
theorem State.powerPort_leaves (s : State) (p : PortIx) : ((s.powerPort p).port p).pane = (s.port p).pane ∧
    ((s.powerPort p).port p).lane.trainCtl = (s.port p).lane.trainCtl := by
  unfold State.powerPort
  dsimp only
  split
  · exact ⟨rfl, rfl⟩
  · rw [State.port_congr (State.foldl_requestDomain_ports ..), State.modLane_port_same, State.txDisable_lane]
    exact ⟨(s.txDisable_lanesChange p false).pane, rfl⟩

theorem State.powerPort_asks (s : State) (p : PortIx) {d : Nat} (hd : d ∈ portDomains p) :
    s.power.domOn d = true ∨ (s.powerPort p).asksDomain d = true := by
  cases hon : s.power.domOn d with
  | true => exact .inl rfl
  | false =>
    have hmem : d ∈ (portDomains p).filter (fun d => !s.power.domOn d) := List.mem_filter.mpr ⟨hd, by rw [hon]; rfl⟩
    right
    unfold State.powerPort
    dsimp only
    split
    case isTrue hnone => rw [List.isEmpty_iff.mp hnone] at hmem; cases hmem
    case isFalse => exact State.foldl_requestDomain_asks hmem _

section
variable {s : State} {p : PortIx}

/-! ### ENABLE (R373) -/

/-- ENABLE 1 trains a port that is DOWN and may be powered, its domains asked for. -/
theorem State.setEnable_trains (hfree : (Table.get ({} : TopoPort) s.topo.ports p.val).disabled = false) (hdown : (s.port p).pane.link = .down)
    (htest : (s.port p).lane.testing = false) (hpower : s.power.level < 2 ∨ (portDomains p).all s.power.domOn = true) : s.setEnable p true =
      ((s.modLane p (fun l => { l with trainCtl := l.trainCtl ||| 1#64 })).powerPort p).startTraining p lcInit := by
  have hkeep : (decide (2 ≤ s.power.level) && !(portDomains p).all s.power.domOn) = false := by
    rcases hpower with hlow | hon
    · rw [decide_eq_false (Nat.not_le.mpr hlow), Bool.false_and]
    · rw [hon, Bool.not_true, Bool.and_false]
  simp [State.setEnable, hfree, hdown, htest, hkeep]

/-- ENABLE 1 leaves a port that P4 left off in P4 while the droop level sheds load (R481). -/
theorem State.setEnable_sleeps (hfree : (Table.get ({} : TopoPort) s.topo.ports p.val).disabled = false) (hdown : (s.port p).pane.link = .down)
    (htest : (s.port p).lane.testing = false) (hlevel : 2 ≤ s.power.level) (hoff : (portDomains p).all s.power.domOn = false) : s.setEnable p true =
      (s.modLane p (fun l => { l with trainCtl := l.trainCtl ||| 1#64 })).modLane p (fun l => { l with lpsState := 4, lpsOwn := 4 }) := by
  simp [State.setEnable, hfree, hdown, htest, hlevel, hoff]

/-- ENABLE 0 takes any port DOWN and leaves the links of the others. -/
theorem State.setEnable_false (s : State) (p : PortIx) : ((s.setEnable p false).port p).pane.link = .down ∧
    ((s.setEnable p false).port p).lane.enabled = false ∧ ∀ o, o ≠ p → ((s.setEnable p false).port o).pane.link = (s.port o).pane.link := by
  have hcleared := s.modLane_port_same p (fun l => { l with trainCtl := l.trainCtl &&& ~~~1#64 })
  rw [State.setEnable, Bool.false_and, if_neg Bool.false_ne_true, if_neg Bool.false_ne_true]
  dsimp only
  split
  · refine ⟨State.enterDown_link .., ?_, fun o ho => ?_⟩
    · obtain ⟨e, hlane⟩ := (s.modLane p (fun l => { l with trainCtl := l.trainCtl &&& ~~~1#64 })).enterDown_lane p 0
      rw [hlane, hcleared]
      exact bit_without_one _
    · rw [State.enterDown_link_other _ p 0 ho, State.modLane_port_other _ _ _ _ ho]
  case isFalse hnot =>
    have hdown : (s.port p).pane.link = .down := by simpa using hnot
    split
    · have hreports := ((s.modLane p (fun l => { l with trainCtl := l.trainCtl &&& ~~~1#64 })).modLane p
        (fun l => { l with lpsState := 0 })).linkChanged_reports p false
      have hpane := congrArg Pane.link (hreports.moves.pane p)
      rw [State.modLane_port_same, hcleared] at hpane
      refine ⟨hpane.trans hdown, ?_, fun o ho => ?_⟩
      · rw [hreports.moves.lane, State.modLane_port_same, hcleared]
        exact bit_without_one _
      · have hother := congrArg Pane.link (hreports.moves.pane o)
        rwa [State.modLane_port_other _ _ _ _ ho, State.modLane_port_other _ _ _ _ ho] at hother
    · rw [hcleared]
      exact ⟨hdown, bit_without_one _, fun o ho => by rw [State.modLane_port_other _ _ _ _ ho]⟩

theorem trainEnableWrite_trains (hopen : s.regsOpen = true) (hfree : (Table.get ({} : TopoPort) s.topo.ports p.val).disabled = false)
    (hdown : (s.port p).pane.link = .down) (htest : (s.port p).lane.testing = false)
    (hpower : s.power.level < 2 ∨ (portDomains p).all s.power.domOn = true) :
    ∃ t, exec (.trainEnableWrite p true) s = .next t ∧ (t.port p).pane.link = .training ∧ (t.port p).lane.enabled = true ∧
      ∀ d ∈ portDomains p, s.power.domOn d = true ∨ t.power.domReqs.any (fun r => r.domain == d) = true := by
  have hset := s.modLane_port_same p (fun l => { l with trainCtl := l.trainCtl ||| 1#64 })
  obtain ⟨hpane, hctl⟩ := (s.modLane p (fun l => { l with trainCtl := l.trainCtl ||| 1#64 })).powerPort_leaves p
  refine ⟨_, exec_trainEnableWrite hopen p true, ?_⟩
  rw [State.setEnable_trains hfree hdown htest hpower, State.keep_port, State.startTraining_pane]
  refine ⟨rfl, ?_, fun d hd => ?_⟩
  · obtain ⟨lanes, hlane⟩ := ((s.modLane p (fun l => { l with trainCtl := l.trainCtl ||| 1#64 })).powerPort p).startTraining_lane p lcInit
    rw [hlane]
    change bit (((s.modLane p (fun l => { l with trainCtl := l.trainCtl ||| 1#64 })).powerPort p).port p).lane.trainCtl 0 = true
    rw [hctl, hset]
    exact bit_or_one _
  · rw [State.keep_power, (State.startTraining_portChange ..).power]
    exact (s.modLane p (fun l => { l with trainCtl := l.trainCtl ||| 1#64 })).powerPort_asks p hd

/-! ### TEST and RETRAIN (R399, R400) -/

/-- A far-end loopback asked for changes what the port says in test. -/
theorem State.askLoop_leaves (s : State) (p : PortIx) : s.LanesChange p (s.askLoop p) ∧ ((s.askLoop p).port p).lane.trainCtl = (s.port p).lane.trainCtl := by
  unfold State.askLoop
  dsimp only
  split
  · exact ⟨.refl p s, rfl⟩
  generalize (if bits (s.port p).lane.testCtl 5 4 = 3 then bits (s.port p).lane.testCtl 28 16 else 0) = m
  split
  · exact ⟨.refl p s, rfl⟩
  · exact ⟨.of_modLane .., by rw [State.modLane_port_same]⟩

theorem trainTestWrite_stops (hopen : s.regsOpen = true) (htest : (s.port p).lane.testing = false) :
    ∃ t, exec (.trainTestWrite p true) s = .next t ∧ (t.port p).pane.link = .down ∧ (t.port p).lane.testing = true := by
  refine ⟨_, exec_trainTestWrite hopen p true, ?_⟩
  rw [State.setTest, htest, if_neg Bool.false_ne_true, if_pos rfl, State.keep_port]
  obtain ⟨hlanes, hctl⟩ := State.askLoop_leaves ((((s.enterDown p lcTest).powerPort p).modLane p (fun l => { (l.modAll (fun _ q => { q with check := none })) with
    trainCtl := l.trainCtl ||| 2#64, train := { phase := .tune, tuneStart := s.now } }))) p
  refine ⟨?_, ?_⟩
  · rw [hlanes.pane, State.modLane_port_same, ((s.enterDown p lcTest).powerPort_leaves p).1]
    exact s.enterDown_link p lcTest
  · rw [LaneUnit.testing, hctl, State.modLane_port_same]
    exact bit_or_two _

end

/-- Settles O7: a port is taken to TRAINING by `startTraining`, DOWN by `enterDown`, to RETRAINING by `retrain`; what is told of it leaves the links. -/
theorem trainControlMovesTheLink : Obligations.TrainControlMovesTheLink := by
  unfold Obligations.TrainControlMovesTheLink
  refine fun s p hopen => ⟨fun hdisabled => ?_, fun hfree hdown htest => ⟨fun hpower => ?_, fun hlevel hoff => ?_⟩, ?_, fun htest => ?_, fun hserving => ?_,
    fun hserving hnot => ?_⟩
  · rw [exec_trainEnableWrite hopen, State.setEnable, hdisabled]
    rfl
  · exact trainEnableWrite_trains hopen hfree hdown htest hpower
  · refine ⟨_, exec_trainEnableWrite hopen p true, ?_⟩
    rw [State.setEnable_sleeps hfree hdown htest hlevel hoff, State.keep_port, State.modLane_port_same, State.modLane_port_same]
    exact ⟨hdown, bit_or_one _, rfl, rfl⟩
  · exact ⟨_, exec_trainEnableWrite hopen p false, s.setEnable_false p⟩
  · exact trainTestWrite_stops hopen htest
  · have hretrains : s.askRetrain p = s.retrain p lcSw := if_pos hserving
    obtain ⟨t, hexec, hlink, hcause, -⟩ := retrains (hretrains ▸ exec_trainRetrainWrite hopen p) hserving
    exact ⟨t, hexec, hlink, hcause⟩
  · refine ⟨_, exec_trainRetrainWrite hopen p, ?_⟩
    rw [State.askRetrain, hserving, if_neg Bool.false_ne_true, if_neg (by simpa using hnot), State.keep_port, State.modLane_port_same]
    exact ⟨rfl, rfl⟩

end Sys2Proof.Machine
end

section
/-!
PROOFS. Width changes and spare lanes (R388 to R391): the statement WidthsChange.
-/
namespace Sys2Proof.Machine

/-! ### CTRL panes taken (R321, R337, R357) -/

/-- A CTRL pane was taken off a port: `q` is its pane with CUMACK and the RET value of the header taken; the lanes stay. -/
structure State.CtrlTaken (p : PortIx) (q : Pane) (s a : State) : Prop where
  change : s.PortChange p a
  lane : (a.port p).lane = (s.port p).lane
  pane : ∃ due, (a.port p).pane = { q with ackDue := due }
  link : q.link = (s.port p).pane.link

section
variable {s : State} {p : PortIx} {x : RxPane} {q : Pane}

theorem State.takeCtrl_taken (hserving : s.serving p = true) (hhead : s.rxHead p ptCtrl = some x)
    (hseg : ((s.port p).keys.segOf x.hdr x.slot x.body).isSome = true) (hearly : s.early p = false)
    (htaken : ({ (s.port p).pane with rxq := (s.port p).pane.rxq.drop 1 } : Pane).takeFields x.hdr s.now = some q) :
    ∃ a, s.CtrlTaken p q a ∧ ∀ f, s.takeCtrl p f = f x.body a := by
  obtain ⟨g, hcontrol⟩ := State.takeControl_accepted hseg hearly htaken
  refine ⟨(s.rxPop p).accepted p x q g, ⟨?_, ?_, ?_, ?_⟩, fun f => ?_⟩
  · exact ((State.PortChange.of_modPane ..).trans (.of_modKeys ..)).trans (.of_modPane ..)
  · rw [State.accepted, State.modPane_port_same, State.modKeys_port_same, State.rxPop, State.modPane_port_same]
  · exact ⟨_, (s.rxPop p).accepted_pane p x q g⟩
  · obtain ⟨l, n, e, a, k, t, rfl⟩ := Pane.takeFields_some htaken
    rfl
  · rw [State.takeCtrl, State.takePane_serving hhead hserving]
    exact hcontrol _

/-- A CTRL pane at the head is acted on. -/
theorem act_ctrlHead (hlive : s.linkLive = true) (hhead : s.rxHead p ptCtrl = some x) {code : Nat} (hcode : (x.body.headD 0).toNat = code) (t : State) :
    act (s.linkLive && s.ctrlHead p code) s t = .next (s.keep t) := by
  rw [hlive, State.ctrlHead_of_rxHead hhead hcode]
  rfl

namespace State.CtrlTaken

variable {a : State} (h : s.CtrlTaken p q a)
include h

theorem serving : a.serving p = s.serving p := by
  obtain ⟨due, hpane⟩ := h.pane
  rw [State.serving, State.serving, hpane, h.link]

theorem ctrlDue : (a.port p).pane.ctrlDue = q.ctrlDue := by
  obtain ⟨due, hpane⟩ := h.pane
  rw [hpane]

theorem portLink : (a.port p).pane.link = (s.port p).pane.link := by
  obtain ⟨due, hpane⟩ := h.pane
  rw [hpane, h.link]

theorem idle : (a.port p).pane.idle = q.idle := by
  obtain ⟨due, hpane⟩ := h.pane
  rw [hpane]
  rfl

end State.CtrlTaken

/-- A state from which the link of a port in service retrains. -/
theorem State.retrain_retrains {u : State} (hserving : u.serving p = true) (hfront : u.front = s.front) (cause : Nat) :
    ((u.retrain p cause).port p).pane.link = .retraining ∧ ((u.retrain p cause).port p).lane.causeOwn = cause ∧ (u.retrain p cause).front = s.front := by
  obtain ⟨hpane, hcause⟩ := u.retrainWith_serving p cause 0 hserving
  exact ⟨congrArg Pane.link hpane, hcause, (u.retrainWith_onlyPort p cause 0).front.trans hfront⟩

/-! ### Panes and changes due -/

@[simp] theorem State.ctrl_port_same (s : State) (p : PortIx) (text : List Byte) : (s.ctrl p text).port p =
    { s.port p with pane := { (s.port p).pane with ctrlDue := (s.port p).pane.ctrlDue ++ [text] } } := s.modPane_port_same p _

theorem State.ctrl_portChange (s : State) (p : PortIx) (text : List Byte) : s.PortChange p (s.ctrl p text) := .of_modPane ..

/-- A change asked for by this end. -/
def WidthChange.asked (reason max before since : Nat) : WidthChange :=
  { own := true, reason := reason, max := max, farUsable := 0x1FFF, before := before, since := since }

@[simp] theorem State.askWidth_port_same (s : State) (p : PortIx) (reason usable max : Nat) : (s.askWidth p reason usable max).port p = { s.port p with
    pane := { (s.port p).pane with ctrlDue := (s.port p).pane.ctrlDue ++ [ctrlWidthReq reason usable max s.global.serial] }
    lane := { (s.port p).lane with causeOwn := reason, change := some (WidthChange.asked reason max (s.port p).lane.active s.now) } } := by
  rw [State.askWidth, State.modLane_port_same, State.ctrl_port_same]
  rfl

/-! ### A lane over its error limit (R389) -/

/-- A lane over its error limit. -/
def Lane.overLimit (q : Lane) : Lane := { q with usable := false, fail := 7, errAt := [], berOver := false }

theorem laneBer_asks (hlive : s.linkLive = true) (hserving : s.serving p = true) {k : Nat} (hk : k < 13)
    (hactive : (s.port p).lane.rxActive.testBit k = true) (hover : ((s.port p).lane.lane k).berOver = true) (hnone : (s.port p).lane.change = none) :
    ∃ t, exec (.laneBer p k) s = .next t ∧ ((t.port p).lane.lane k).usable = false ∧ ((t.port p).lane.lane k).fail = 7 ∧
      (t.port p).pane = { (s.port p).pane with ctrlDue := (s.port p).pane.ctrlDue ++ [ctrlWidthReq lcLaneBer (t.port p).lane.usable 12 s.global.serial] } ∧
      ((t.port p).lane.change.map (fun c => (c.own, c.leading, c.acked, c.reason))) = some (true, true, false, lcLaneBer) ∧ t.counters = s.counters := by
  have hexec : exec (.laneBer p k) s = .next (s.keep ((s.modLane p (fun l => l.modAt k Lane.overLimit)).askWidth p lcLaneBer
      ((s.modLane p (fun l => l.modAt k Lane.overLimit)).port p).lane.usable 12)) := by
    show act (s.linkLive && s.serving p && decide (k < 13) && (s.port p).lane.rxActive.testBit k && ((s.port p).lane.lane k).berOver &&
      (s.port p).lane.change.isNone) s _ = _
    rw [hlive, hserving, hactive, hover, hnone, decide_eq_true hk]
    rfl
  have hlane := (s.port p).lane.modAt_lane_same k Lane.overLimit
  refine ⟨_, hexec, ?_⟩
  rw [State.keep_port, State.askWidth_port_same, State.modLane_port_same]
  exact ⟨congrArg Lane.usable hlane, congrArg Lane.fail hlane, rfl, rfl, rfl⟩

/-! ### Changes settled (R389 to R391) -/

/-- A port's lane unit, where a pane may have been queued. -/
theorem State.ite_ctrl_lane (b : Prop) [Decidable b] (s : State) (p : PortIx) (text : List Byte) :
    ((if b then s.ctrl p text else s).port p).lane = (s.port p).lane := by
  split
  · rw [State.ctrl_port_same]
  · rfl

/-- A change settled leaves what is in use in both directions; none is in progress unless the droop level asks for a narrower one. -/
theorem State.settleWidth_lane (s : State) (p : PortIx) (c : WidthChange) :
    let m := ((s.settleWidth p c).port p).lane
    m.rxActive = (s.port p).lane.rxActive ∧ m.rxWidth = (s.port p).lane.rxWidth ∧ m.active = (s.port p).lane.active ∧
      m.width = (s.port p).lane.width ∧ (c.width ≤ droopWidth s.power.level → m.change = none) := by
  by_cases hcap : droopWidth s.power.level < c.width
  · rw [State.settleWidth, if_pos hcap, State.askWidth_port_same]
    dsimp only
    rw [State.ite_ctrl_lane, State.modLane_port_same, State.modPane_port_same]
    exact ⟨rfl, rfl, rfl, rfl, fun h => absurd hcap (Nat.not_lt.mpr h)⟩
  · rw [State.settleWidth, if_neg hcap]
    dsimp only
    rw [State.ite_ctrl_lane, State.modLane_port_same, State.modPane_port_same]
    exact ⟨rfl, rfl, rfl, rfl, fun _ => rfl⟩

/-- The direction received moved to the width a WIDTH_GO states, with a new COUNT (R390). -/
def State.movedIn (s : State) (p : PortIx) (b : List Byte) : State :=
  (s.modLane p (fun l => { (l.modAll (fun _ q => { q with lastCount := none, missed := 0, place := 0 })) with
    rxActive := beAt b 16 2 % 8192, rxWidth := (b.getD 18 0).toNat })).modKeys p (fun k => { k with rxSlot := 0 })

theorem State.movedIn_lanesChange (s : State) (p : PortIx) (b : List Byte) : s.LanesChange p (s.movedIn p b) := .trans (.of_modLane ..) (.of_modKeys ..)

theorem State.movedIn_lane (s : State) (p : PortIx) (b : List Byte) : ∃ lanes, ((s.movedIn p b).port p).lane =
    { (s.port p).lane with lanes := lanes, rxActive := beAt b 16 2 % 8192, rxWidth := (b.getD 18 0).toNat } := by
  rw [State.movedIn, State.modKeys_port_same, State.modLane_port_same]
  dsimp only
  rw [LaneUnit.modAll_lanesAfter]
  exact ⟨_, rfl⟩

/-! ### WIDTH_REQ, WIDTH_ACK and WIDTH_GO (R389, R390) -/

section
variable {a : State} (hlive : s.linkLive = true) (hserving : s.serving p = true) (hhead : s.rxHead p ptCtrl = some x) (ha : s.CtrlTaken p q a)
  (htakes : ∀ f, s.takeCtrl p f = f x.body a)
include hlive hserving hhead ha htakes

/-- A request taken while no change runs is followed: the link retrains where no lane is left, and else the width of R388 is stated. -/
theorem widthReq_follows (hcode : (x.body.headD 0).toNat = 0x10) (hnone : (s.port p).lane.change = none) {why : Nat} {r : Nat × Nat}
    (hwhy : why = reasonOf (x.body.getD 1 0))
    (hr : r = (s.port p).lane.widthCfg (beAt x.body 2 2 % 8192) (x.body.getD 4 0).toNat (why == lcPower)) :
    (r.2 = 0 → ∃ t, exec (.widthReq p) s = .next t ∧ (t.port p).pane.link = .retraining ∧ (t.port p).lane.causeOwn = why ∧ t.front = s.front) ∧
    (r.2 ≠ 0 → ∃ t, exec (.widthReq p) s = .next t ∧ (t.port p).pane.ctrlDue = q.ctrlDue ++ [ctrlWidth 0x11 why r.1 r.2] ∧
      (t.port p).lane.change.map (fun c => (c.leading, c.acked, c.active, c.width)) = some (false, true, r.1, r.2) ∧
      (t.port p).lane.width = (s.port p).lane.width ∧ (t.port p).pane.link = (s.port p).pane.link) := by
  have hexec : exec (.widthReq p) s = .next (s.keep (a.takeWidthReq p x.body)) := (act_ctrlHead hlive hhead hcode _).trans (by rw [htakes])
  have htake : a.takeWidthReq p x.body = (a.modLane p (fun l => { l with causeFar := why, farUsable := beAt x.body 2 2 % 8192 })).followWidth p none why
      (x.body.getD 4 0).toNat (beAt x.body 2 2 % 8192) := by
    rw [State.takeWidthReq, ha.lane, hnone, hwhy]
  have hcfg : ((a.modLane p (fun l => { l with causeFar := why, farUsable := beAt x.body 2 2 % 8192 })).port p).lane.widthCfg (beAt x.body 2 2 % 8192)
      (x.body.getD 4 0).toNat (why == lcPower) = r := by
    rw [State.modLane_port_same, hr, ha.lane]
    rfl
  rw [hexec, htake, State.followWidth]
  simp only [Option.all_none, Bool.and_true, hcfg]
  refine ⟨fun hzero => ⟨_, rfl, ?_⟩, fun hsome => ⟨_, rfl, ?_⟩⟩
  · rw [if_pos hzero]
    exact State.retrain_retrains ((State.LanesChange.of_modLane a p _).serving.trans (ha.serving.trans hserving)) ha.change.front why
  · rw [if_neg hsome, State.keep_port, State.modLane_port_same, State.ctrl_port_same, State.modLane_port_same]
    exact ⟨congrArg (· ++ _) ha.ctrlDue, rfl, (congrArg LaneUnit.width ha.lane :), ha.portLink⟩

/-- The leader's own result and the follower's are compared: agreement is followed by WIDTH_GO, else the link retrains. -/
theorem widthAck_compared (hcode : (x.body.headD 0).toNat = 0x11) {c : WidthChange} (hchange : (s.port p).lane.change = some c) (hleads : c.leading = true)
    (hfirst : c.acked = false) {r : Nat × Nat}
    (hr : r = (s.port p).lane.widthCfg (if c.farReason = 0 then (s.port p).lane.farUsable else c.farUsable) (min c.max c.farMax)
      (c.reason == lcPower && (c.farReason == 0 || c.farReason == lcPower))) :
    (r.2 ≠ 0 → beAt x.body 16 2 = r.1 → (x.body.getD 18 0).toNat = r.2 → ∃ t, exec (.widthAck p) s = .next t ∧
      (t.port p).pane.ctrlDue = q.ctrlDue ++ [ctrlWidth 0x12 0 r.1 r.2] ∧ (t.port p).lane.change = some { c with acked := true, active := r.1, width := r.2 }) ∧
    ((r.2 = 0 ∨ beAt x.body 16 2 ≠ r.1 ∨ (x.body.getD 18 0).toNat ≠ r.2) → ∃ t, exec (.widthAck p) s = .next t ∧
      (t.port p).pane.link = .retraining ∧ (t.port p).lane.causeOwn = lcTimeout ∧ t.front = s.front) := by
  have hexec : exec (.widthAck p) s = .next (s.keep (a.takeWidthAck p x.body)) := (act_ctrlHead hlive hhead hcode _).trans (by rw [htakes])
  have htake : a.takeWidthAck p x.body = if r.2 != 0 && beAt x.body 16 2 == r.1 && (x.body.getD 18 0).toNat == r.2 then
      (a.ctrl p (ctrlWidth 0x12 0 r.1 r.2)).modLane p (fun l => { l with change := some { c with acked := true, active := r.1, width := r.2 } })
      else a.retrain p lcTimeout := by
    rw [State.takeWidthAck, ha.lane, hchange]
    simp only [hleads, hfirst, Bool.not_false, Bool.and_self, if_true, ← hr]
  rw [hexec, htake]
  refine ⟨fun hsome hactive hwidth => ⟨_, rfl, ?_⟩, fun hnot => ⟨_, rfl, ?_⟩⟩
  · have hsame : (r.2 != 0 && beAt x.body 16 2 == r.1 && (x.body.getD 18 0).toNat == r.2) = true := by
      simp only [hactive, hwidth, beq_self_eq_true, Bool.and_true, bne_iff_ne]
      exact hsome
    rw [if_pos hsame, State.keep_port, State.modLane_port_same, State.ctrl_port_same]
    exact ⟨congrArg (· ++ _) ha.ctrlDue, rfl⟩
  · have hdiffer : ¬ (r.2 != 0 && beAt x.body 16 2 == r.1 && (x.body.getD 18 0).toNat == r.2) = true := by
      simp only [Bool.and_eq_true, bne_iff_ne, beq_iff_eq, not_and_or]
      tauto
    rw [if_neg hdiffer]
    exact State.retrain_retrains (ha.serving.trans hserving) ha.change.front lcTimeout

omit hserving in
/-- WIDTH_GO moves the direction received: the leader's change settles, and the follower sends its own WIDTH_GO. -/
theorem widthGo_moves (hcode : (x.body.headD 0).toNat = 0x12) {c : WidthChange} (hchange : (s.port p).lane.change = some c) :
    ∃ t, exec (.widthGo p) s = .next t ∧ (t.port p).lane.rxActive = beAt x.body 16 2 % 8192 ∧ (t.port p).lane.rxWidth = (x.body.getD 18 0).toNat ∧
      (t.port p).lane.active = (s.port p).lane.active ∧ (t.port p).lane.width = (s.port p).lane.width ∧
      (c.leading = true → c.width ≤ droopWidth s.power.level → (t.port p).lane.change = none) ∧
      (c.leading = false → (t.port p).lane.change = some c ∧ (t.port p).pane.ctrlDue = q.ctrlDue ++ [ctrlWidth 0x12 0 c.active c.width]) := by
  have hexec : exec (.widthGo p) s = .next (s.keep (a.takeWidthGo p x.body)) := (act_ctrlHead hlive hhead hcode _).trans (by rw [htakes])
  have htake : a.takeWidthGo p x.body =
      if c.leading then (a.movedIn p x.body).settleWidth p c else (a.movedIn p x.body).ctrl p (ctrlWidth 0x12 0 c.active c.width) := by
    rw [State.takeWidthGo, ha.lane, hchange]
    rfl
  obtain ⟨lanes, hlane⟩ := a.movedIn_lane p x.body
  rw [hexec, htake]
  refine ⟨_, rfl, ?_⟩
  rw [State.keep_port]
  cases hleads : c.leading with
  | true =>
    obtain ⟨hrxActive, hrxWidth, hactive, hwidth, hnone⟩ := (a.movedIn p x.body).settleWidth_lane p c
    rw [if_pos rfl, hrxActive, hrxWidth, hactive, hwidth, hlane, ha.lane]
    exact ⟨rfl, rfl, rfl, rfl, fun _ hcap => hnone (by rwa [(a.movedIn_lanesChange p x.body).power, ha.change.power]), fun h => absurd h (by decide)⟩
  | false =>
    rw [if_neg Bool.false_ne_true, State.ctrl_port_same, hlane, ha.lane, (a.movedIn_lanesChange p x.body).pane]
    exact ⟨rfl, rfl, rfl, rfl, fun h => absurd h (by decide), fun _ => ⟨hchange, congrArg (· ++ _) ha.ctrlDue⟩⟩

end

/-! ### Timers (R389, R391) -/

theorem exec_widthReqTimeout (hlive : s.linkLive = true) (hserving : s.serving p = true) {c : WidthChange} (hchange : (s.port p).lane.change = some c)
    (hown : c.own = true) (hleads : c.leading = true) (hfirst : c.acked = false) (hpassed : s.usPassed c.since 20 = true) :
    exec (.widthReqTimeout p) s = .next (s.keep (s.retrain p lcTimeout)) := by
  show execWidthReqTimeout p s = _
  simp only [execWidthReqTimeout, hchange, hlive, hserving, hown, hleads, hfirst, hpassed, Bool.not_false, Bool.and_self, act_due]

theorem exec_spareIn (hlive : s.linkLive = true) (hlink : (s.port p).pane.link = .degraded) {d : Nat} (hspare : (s.port p).lane.spareAt = some d)
    (hdue : d ≤ s.now) : exec (.spareIn p) s = .next (s.keep (s.retrain p lcSpare)) := by
  show execSpareIn p s = _
  simp only [execSpareIn, hspare, hlive, hlink, hdue, beq_self_eq_true, decide_true, Bool.and_self, act_due]

end

/-- Settles O40: what a CTRL pane of a width change does is said on the state it was taken in (`CtrlTaken`), and the rest retrains. -/
theorem widthsChange : Obligations.WidthsChange := by
  unfold Obligations.WidthsChange
  refine fun s p hlive hserving => ⟨fun k hk hactive hover hnone => ?_, fun x q hhead hseg hearly htaken => ?_, ?_, ?_⟩
  · exact laneBer_asks hlive hserving hk hactive hover hnone
  · obtain ⟨a, ha, htakes⟩ := State.takeCtrl_taken hserving hhead hseg hearly htaken
    refine ⟨fun hcode hnone => ?_, fun c hcode hchange hleads hfirst => ?_, fun c hcode hchange => ?_⟩
    · exact widthReq_follows hlive hserving hhead ha htakes hcode hnone rfl rfl
    · exact widthAck_compared hlive hserving hhead ha htakes hcode hchange hleads hfirst rfl
    · exact widthGo_moves hlive hhead ha htakes hcode hchange
  · intro c hchange hown hleads hfirst hpassed
    obtain ⟨t, hexec, hlink, hcause, -, hfront, -⟩ := retrains (exec_widthReqTimeout hlive hserving hchange hown hleads hfirst hpassed) hserving
    exact ⟨t, hexec, hlink, hcause, hfront⟩
  · intro d hlink hspare hdue
    obtain ⟨t, hexec, hretrains, hcause, -, hfront, -⟩ := retrains (exec_spareIn hlive hlink hspare hdue) hserving
    exact ⟨t, hexec, hretrains, hcause, hfront⟩

end Sys2Proof.Machine
end

section
/-!
PROOFS. Alignment, lost lanes and the timers of training (R371, R374, R375, R383 to R386): the statement LanesAndTrainingTimers.
-/
namespace Sys2Proof.Machine

/-! ### Markers (R370, R371) -/

section
variable {s : State} {p : PortIx} {k : Nat}

theorem exec_alignmentMarker (hlive : s.linkLive = true) (hk : k < 13) {b : List Byte} (hlength : b.length = 272) (hlink : (s.port p).pane.link ≠ .down) :
    exec (.alignmentMarker p k b) s = .next (s.keep (if !markerTaken b then s.missedMarker p k
      else if s.serving p then (if (s.port p).lane.rxActive.testBit k then s.serviceMarker p k (beAt b 21 7)
        else s.modLane p (fun l => l.modAt k (fun q => { q with cdr := true, markers := q.markers + 1, lastCount := some (beAt b 21 7) })))
      else s.trainMarker p k (beAt b 21 7))) := by
  show act (s.linkLive && decide (k < 13) && b.length == 272 && (s.port p).pane.link != .down) s _ = _
  rw [hlive, decide_eq_true hk, hlength, bne_iff_ne.mpr hlink]
  rfl

/-- A lane whose marker was not taken in service: its place and its COUNT go on. -/
def Lane.markerMissed (q : Lane) (n : Nat) : Lane := { q with missed := n, place := q.place + 1, lastCount := q.lastCount.map (fun c => (c + 1) % 2 ^ 56) }

theorem State.missedMarker_serving (hserving : s.serving p = true) (hactive : (s.port p).lane.rxActive.testBit k = true) : s.missedMarker p k =
    if 2 ≤ ((s.port p).lane.lane k).missed + 1 then
      (s.modLane p (fun l => l.modAt k (fun q => q.markerMissed (((s.port p).lane.lane k).missed + 1)))).retrain p lcDeskew
    else s.modLane p (fun l => l.modAt k (fun q => q.markerMissed (((s.port p).lane.lane k).missed + 1))) := by
  rw [State.missedMarker, if_pos hserving]
  dsimp only
  rw [hactive, Bool.true_and]
  simp only [decide_eq_true_eq]
  rfl

theorem alignmentMarker_missed (hserving : s.serving p = true) (hactive : (s.port p).lane.rxActive.testBit k = true) :
    if ((s.port p).lane.lane k).missed = 0 then
      ((s.missedMarker p k).port p).pane = (s.port p).pane ∧ (((s.missedMarker p k).port p).lane.lane k).missed = 1
    else ((s.missedMarker p k).port p).pane.link = .retraining ∧ ((s.missedMarker p k).port p).lane.causeOwn = lcDeskew := by
  rw [State.missedMarker_serving hserving hactive]
  split
  case isTrue hzero =>
    rw [hzero, if_neg (by decide), State.modLane_port_same]
    exact ⟨rfl, congrArg Lane.missed (LaneUnit.modAt_lane_same ..)⟩
  case isFalse hmissed =>
    rw [if_pos (by omega)]
    obtain ⟨hlink, hcause, -⟩ := State.retrain_retrains (s := s) ((State.LanesChange.of_modLane s p _).serving.trans hserving) rfl lcDeskew
    exact ⟨hlink, hcause⟩

/-! ### Markers in service (R370, R371) -/

/-- A COUNT that for its place among the markers of its lane differs from that of another active lane. -/
def LaneUnit.Differs (l : LaneUnit) (k count : Nat) : Prop := ∃ i c, i < 13 ∧ l.rxActive.testBit i = true ∧ i ≠ k ∧ (l.lane i).lastCount = some c ∧
  (c + ((l.lane k).place + 1)) % 2 ^ 56 ≠ (count + (l.lane i).place) % 2 ^ 56

/-- No lane that took the same COUNT did so more than 64 ns ago, in ticks (R371). -/
def LaneUnit.InTime (l : LaneUnit) (count now : Nat) : Prop :=
  ∀ i, i < 13 → (l.lane i).cdr = true → (l.lane i).lastCount = some count → now ≤ (l.lane i).markerTick + 76

/-- A lane lags the others by more than 64 ns. -/
def LaneUnit.lags (l : LaneUnit) (count now : Nat) : Bool := decide (6 * 64 < 5 * (now - l.earliest count now))

theorem LaneUnit.InTime.lags {l : LaneUnit} {count now : Nat} (h : l.InTime count now) : l.lags count now = false := by
  have hfold : ∀ ks : List Nat, (∀ i ∈ ks, i < 13) → ∀ a, now ≤ a + 76 → now ≤ ks.foldl (fun a k =>
      let q := l.lane k; if q.cdr && q.lastCount = some count then min a q.markerTick else a) a + 76 := by
    intro ks hks
    induction ks with
    | nil => exact fun a ha => ha
    | cons i ks ih =>
      intro a ha
      refine ih (fun j hj => hks j (List.mem_cons_of_mem _ hj)) _ ?_
      dsimp only
      split
      case isTrue hsame =>
        simp only [Bool.and_eq_true, decide_eq_true_eq] at hsame
        have hlane := h i (hks i List.mem_cons_self) hsame.1 hsame.2
        omega
      case isFalse => exact ha
  have hearliest := hfold laneIds (fun _ => mem_laneIds.mp) now (by omega)
  rw [LaneUnit.lags, decide_eq_false_iff_not, LaneUnit.earliest]
  omega

/-- A lane on which a marker was taken in service. -/
def Lane.served (q : Lane) (n count now : Nat) (late : Bool) : Lane :=
  let q1 := { q with cdr := true, markers := q.markers + 1, missed := 0, place := n, lastCount := some count, markerTick := now }
  if late && q.usable then { q1 with usable := false, fail := 2 } else q1

theorem Lane.served_eq (q : Lane) (n count now : Nat) (late : Bool) : ∃ u f, q.served n count now late =
    { q with cdr := true, markers := q.markers + 1, missed := 0, place := n, lastCount := some count, markerTick := now, usable := u, fail := f } ∧
    (late = false → u = q.usable ∧ f = q.fail) := by
  unfold Lane.served
  dsimp only
  split
  case isTrue hlate => exact ⟨_, _, rfl, fun hnot => by simp [hnot] at hlate⟩
  case isFalse => exact ⟨_, _, rfl, fun _ => ⟨rfl, rfl⟩⟩

/-- The state once a marker was taken on an active lane in service. -/
def State.markerServed (s : State) (p : PortIx) (k count : Nat) : State := s.modLane p (fun l => l.modAt k (fun q =>
  q.served (((s.port p).lane.lane k).place + 1) count s.now ((s.port p).lane.lags count s.now)))

theorem State.serviceMarker_differs {count : Nat} (h : (s.port p).lane.Differs k count) :
    s.serviceMarker p k count = (s.markerServed p k count).retrain p lcDeskew := by
  obtain ⟨i, c, hi, hbit, hik, hcount, hdiffer⟩ := h
  refine if_pos (List.any_eq_true.mpr ⟨i, mem_bitsSet.mpr ⟨hi, hbit⟩, ?_⟩)
  rw [hcount]
  simp only [bne_iff_ne.mpr hik, bne_iff_ne.mpr hdiffer, Bool.and_self]

theorem State.serviceMarker_agrees {count : Nat} (h : ¬ (s.port p).lane.Differs k count) :
    ((s.serviceMarker p k count).port p).pane = ((s.markerServed p k count).port p).pane ∧
      ((s.serviceMarker p k count).port p).lane = ((s.markerServed p k count).port p).lane := by
  unfold State.serviceMarker
  dsimp only
  split
  case isTrue hany =>
    obtain ⟨i, hi, hdiffer⟩ := List.any_eq_true.mp hany
    obtain ⟨hi, hbit⟩ := mem_bitsSet.mp hi
    obtain ⟨hik, hdiffer⟩ := Bool.and_eq_true_iff.mp hdiffer
    split at hdiffer
    · exact absurd hdiffer Bool.false_ne_true
    · exact absurd ⟨i, _, hi, hbit, bne_iff_ne.mp hik, ‹_›, bne_iff_ne.mp hdiffer⟩ h
  case isFalse =>
    split
    · rw [State.modKeys_port_same]
      exact ⟨rfl, rfl⟩
    · exact ⟨rfl, rfl⟩

theorem serviceMarker_taken {count : Nat} (h : ¬ (s.port p).lane.Differs k count) :
    let t := s.serviceMarker p k count
    let l := (s.port p).lane
    (t.port p).pane = (s.port p).pane ∧ ((t.port p).lane.lane k).cdr = true ∧ ((t.port p).lane.lane k).markers = (l.lane k).markers + 1 ∧
      ((t.port p).lane.lane k).missed = 0 ∧ ((t.port p).lane.lane k).place = (l.lane k).place + 1 ∧
      ((t.port p).lane.lane k).lastCount = some count ∧ ((t.port p).lane.lane k).markerTick = s.now ∧
      (l.InTime count s.now → ((t.port p).lane.lane k).usable = (l.lane k).usable ∧ ((t.port p).lane.lane k).fail = (l.lane k).fail) := by
  dsimp only
  obtain ⟨hpane, hlane⟩ := State.serviceMarker_agrees h
  obtain ⟨u, f, hserved, hkept⟩ := ((s.port p).lane.lane k).served_eq (((s.port p).lane.lane k).place + 1) count s.now ((s.port p).lane.lags count s.now)
  rw [hpane, hlane, State.markerServed, State.modLane_port_same, LaneUnit.modAt_lane_same, hserved]
  exact ⟨rfl, rfl, rfl, rfl, rfl, rfl, rfl, fun hinTime => hkept hinTime.lags⟩

/-! ### Markers in training (R371, R382) -/

theorem widthFor_pos {n : Nat} (h : 1 ≤ n) : widthFor n ≠ 0 := by
  unfold widthFor
  cases hfind : [12, 8, 6, 4, 2, 1].find? (· ≤ n) with
  | none => exact absurd (decide_eq_true h) (List.find?_eq_none.mp hfind 1 (by decide))
  | some w =>
    have hw : ∀ v ∈ [12, 8, 6, 4, 2, 1], v ≠ 0 := by decide
    exact hw w (List.mem_of_find?_eq_some hfind)

/-- A configuration of some lane has a width. -/
theorem trainCfg_width {u i : Nat} (hi : i < 13) (hbit : u.testBit i = true) (step action : Nat) : (trainCfg u step action).width ≠ 0 := by
  have hcount : 1 ≤ popCount 13 u := List.length_pos_of_mem (mem_bitsSet.mpr ⟨hi, hbit⟩)
  exact widthFor_pos (Nat.le_min.mpr ⟨hcount, by decide⟩)

/-- While lanes lock, a lane usable at both ends is a lane to go on with. -/
theorem State.nextCfg_of_lane (hlock : (s.port p).lane.train.phase = .lock) (hk : k < 13) (husable : ((s.port p).lane.lane k).usable = true)
    (hfar : (s.port p).lane.train.farUsable.testBit k = true) : s.nextCfg p ≠ none := by
  have hbit : ((s.port p).lane.usable &&& (s.port p).lane.train.farUsable).testBit k = true := by
    rw [Nat.testBit_and, LaneUnit.testBit_usable _ hk, husable, hfar]
    rfl
  rw [State.nextCfg, hlock]
  dsimp only
  rw [if_neg (trainCfg_width hk hbit _ _)]
  exact Option.some_ne_none _

/-- Where the leader has a configuration to go on with, lanes and link stay. -/
theorem State.leadOn_keeps (hcfg : s.leads p = true → s.nextCfg p ≠ none) : s.LanesChange p (s.leadOn p) ∧
    ((s.leadOn p).port p).lane.lanes = (s.port p).lane.lanes := by
  rcases s.leadOn_cases p with hsame | ⟨-, hleads, hnone, -⟩ | ⟨phase, msg, tseq, waiting, out, hgo⟩
  · rw [hsame]
    exact ⟨.refl p s, rfl⟩
  · exact absurd hnone (hcfg hleads)
  · rw [hgo]
    exact ⟨.of_modTrain .., by rw [State.modTrain_port_same]⟩

/-- A lane on which a marker was taken in training. -/
def Lane.locked (q : Lane) (count now : Nat) (late lock : Bool) : Lane :=
  let n := if q.lastCount = some ((count + 2 ^ 56 - 1) % 2 ^ 56) then q.markers + 1 else 1
  let q1 := { q with cdr := true, pllLost := false, markers := n, lastCount := some count, markerTick := now, slot := count * markerPeriod false }
  if late && (q.usable || lock) then { q1 with usable := false, fail := 2 }
  else if lock && 2 ≤ n && (q.fail = 0 || q.fail = 1) then { q1 with usable := true, fail := 0 } else q1

theorem Lane.locked_usable {q : Lane} {count now : Nat} (hcount : q.lastCount = some ((count + 2 ^ 56 - 1) % 2 ^ 56)) (hmarkers : 1 ≤ q.markers)
    (hfail : q.fail ≤ 1) : (q.locked count now false true).usable = true := by
  have hgood : (q.fail = 0 || q.fail = 1) = true := by
    rw [Bool.or_eq_true, decide_eq_true_eq, decide_eq_true_eq]
    omega
  have hsecond : (true && 2 ≤ q.markers + 1 && (q.fail = 0 || q.fail = 1)) = true := by
    rw [hgood, Bool.and_true, Bool.true_and, decide_eq_true_eq]
    omega
  rw [Lane.locked, if_pos hcount]
  dsimp only
  rw [Bool.false_and, if_neg Bool.false_ne_true, if_pos hsecond]

/-- While lanes lock, a marker is taken on its lane, and the leader may go on. -/
theorem State.trainMarker_lock {count : Nat} (hlock : (s.port p).lane.train.phase = .lock) : s.trainMarker p k count =
    (s.modLane p (fun l => l.modAt k (fun q => q.locked count s.now ((s.port p).lane.lags count s.now) true))).leadOn p := by
  have hlane : s.modLane p (fun l => l.modAt k (fun q => q.locked count s.now ((s.port p).lane.lags count s.now) (l.train.phase == .lock))) =
      s.modLane p (fun l => l.modAt k (fun q => q.locked count s.now ((s.port p).lane.lags count s.now) true)) := by
    rw [State.modLane, State.modPort, hlock]
    rfl
  have hphase : ((s.modLane p (fun l => l.modAt k (fun q =>
      q.locked count s.now ((s.port p).lane.lags count s.now) true))).port p).lane.train.phase = .lock := by
    rw [State.modLane_port_same]
    exact hlock
  have hrelock : State.relockNow (s.modLane p (fun l => l.modAt k (fun q => q.locked count s.now ((s.port p).lane.lags count s.now) true))) p =
      s.modLane p (fun l => l.modAt k (fun q => q.locked count s.now ((s.port p).lane.lags count s.now) true)) := by
    rw [State.relockNow, hphase]
    rfl
  rw [← hrelock, ← hlane]
  rfl

theorem trainMarker_locks {count : Nat} (hlock : (s.port p).lane.train.phase = .lock) (hk : k < 13)
    (hcount : ((s.port p).lane.lane k).lastCount = some ((count + 2 ^ 56 - 1) % 2 ^ 56)) (hmarkers : 1 ≤ ((s.port p).lane.lane k).markers)
    (hfail : ((s.port p).lane.lane k).fail ≤ 1) (hinTime : (s.port p).lane.InTime count s.now)
    (hfar : s.leads p = true → (s.port p).lane.train.farUsable.testBit k = true) :
    (((s.trainMarker p k count).port p).lane.lane k).usable = true ∧ ((s.trainMarker p k count).port p).pane.link = (s.port p).pane.link := by
  have hu := s.modLane_port_same p (fun l => l.modAt k (fun q => q.locked count s.now false true))
  have husable : (((s.modLane p (fun l => l.modAt k (fun q => q.locked count s.now false true))).port p).lane.lane k).usable = true := by
    rw [hu]
    exact (congrArg Lane.usable (LaneUnit.modAt_lane_same ..)).trans (Lane.locked_usable hcount hmarkers hfail)
  rw [State.trainMarker_lock hlock, hinTime.lags]
  obtain ⟨hlanes, hsame⟩ := State.leadOn_keeps (s := s.modLane p (fun l => l.modAt k (fun q => q.locked count s.now false true))) (p := p)
    fun hleads => State.nextCfg_of_lane (by rw [hu]; exact hlock) hk husable (by
      rw [State.leads, hu] at hleads
      rw [hu]
      exact hfar hleads)
  rw [hlanes.link, hu]
  exact ⟨by rw [LaneUnit.lane, hsame]; exact husable, rfl⟩

/-! ### Lanes lost (R374) -/

theorem laneFail_loses (hlive : s.linkLive = true) (hk : k < 13) (why : LaneFault) :
    ∃ t, exec (.laneFail p k why) s = .next t ∧ ((t.port p).lane.lane k).usable = false ∧
      ((t.port p).lane.lane k).fail = (if why = .optics then 4 else 1) ∧
      if s.serving p = true ∧ ((s.port p).lane.active ||| (s.port p).lane.rxActive).testBit k = true then
        (t.port p).pane.link = .retraining ∧ (t.port p).lane.causeOwn = lcLaneFail
      else (t.port p).pane = (s.port p).pane := by
  have hexec : exec (.laneFail p k why) s = .next (s.keep (if s.serving p && ((s.port p).lane.active ||| (s.port p).lane.rxActive).testBit k then
      (s.retrain p lcLaneFail).loseLane p k why else s.loseLane p k why)) := by
    show act (s.linkLive && decide (k < 13)) s _ = _
    rw [hlive, decide_eq_true hk]
    rfl
  have hlost (u : State) : (((u.loseLane p k why).port p).lane.lane k).usable = false ∧
      (((u.loseLane p k why).port p).lane.lane k).fail = if why = .optics then 4 else 1 := by
    rw [State.loseLane, State.modLane_port_same]
    dsimp only
    rw [LaneUnit.modAt_lane_same]
    exact ⟨rfl, by cases why <;> rfl⟩
  refine ⟨_, hexec, ?_⟩
  rw [State.keep_port]
  by_cases hactive : s.serving p = true ∧ ((s.port p).lane.active ||| (s.port p).lane.rxActive).testBit k = true
  · rw [if_pos (Bool.and_eq_true_iff.mpr hactive), if_pos hactive]
    obtain ⟨hlink, hcause, -⟩ := State.retrain_retrains (s := s) hactive.1 rfl lcLaneFail
    refine ⟨(hlost _).1, (hlost _).2, ?_⟩
    rw [State.loseLane, State.modLane_port_same]
    exact ⟨hlink, hcause⟩
  · rw [if_neg (fun h => hactive (Bool.and_eq_true_iff.mp h)), if_neg hactive]
    refine ⟨(hlost _).1, (hlost _).2, ?_⟩
    rw [State.loseLane, State.modLane_port_same]

/-! ### The timers of training (R383, R384) -/

section
variable (hlive : s.linkLive = true) (htraining : s.inTraining p = true)
include hlive htraining

theorem trainingMsgTimeout_round (hattempt : s.attemptLate p = false) (hmsg : s.msgLate p = true) :
    let t := s.keep (s.newRound p ((s.port p).lane.train.round + (if s.leads p then 1 else 0)))
    exec (.trainingMsgTimeout p) s = .next t ∧ ((t.port p).pane.link = (s.port p).pane.link ∧ t.front = s.front) ∧
      (t.port p).lane.train.phase = .lock ∧ (t.port p).lane.train.round = (s.port p).lane.train.round + (if s.leads p then 1 else 0) ∧
      (t.port p).lane.train.msg.map TrainMsg.code = some (if (s.port p).lane.train.initial then tmHello else tmRetrain) := by
  dsimp only
  have hchange := s.newRound_lanesChange p ((s.port p).lane.train.round + (if s.leads p then 1 else 0))
  obtain ⟨lanes, hlane⟩ := s.newRound_lane p ((s.port p).lane.train.round + (if s.leads p then 1 else 0))
  refine ⟨?_, ⟨by rw [State.keep_port, hchange.link], by rw [State.keep_front, hchange.front]⟩, ?_⟩
  · show act (s.linkLive && s.inTraining p && (s.msgLate p || s.attemptLate p)) s _ = _
    rw [hlive, htraining, hmsg, hattempt]
    rfl
  · rw [State.keep_port, hlane]
    exact ⟨rfl, rfl, rfl⟩

theorem trainingMsgTimeout_attempt (hattempt : s.attemptLate p = true) : ∃ t, exec (.trainingMsgTimeout p) s = .next t ∧
    if (s.port p).lane.train.step = 0 then (t.port p).pane.link = .down
    else ((t.port p).pane.link = (s.port p).pane.link ∧ t.front = s.front) ∧ (t.port p).lane.step = (s.port p).lane.train.step - 1 ∧
      (t.port p).lane.train.step = (s.port p).lane.train.step - 1 ∧ (t.port p).lane.train.phase = .lock := by
  have hexec : exec (.trainingMsgTimeout p) s = .next (s.keep (s.failAttempt p)) := by
    show act (s.linkLive && s.inTraining p && (s.msgLate p || s.attemptLate p)) s (if s.attemptLate p then _ else _) = _
    rw [hlive, htraining, hattempt, Bool.or_true]
    rfl
  have hrecovery : (s.port p).lane.train.initial = false := by
    rw [State.attemptLate, Bool.and_eq_true] at hattempt
    exact (Bool.not_eq_true' _).mp hattempt.1
  refine ⟨_, hexec, ?_⟩
  rw [State.keep_port, State.keep_front]
  split
  case isTrue hstep =>
    have hdown : s.failAttempt p = s.enterDown p lcTimeout := by simp only [State.failAttempt, hrecovery, hstep, if_true, Bool.false_eq_true, if_false]
    rw [hdown, State.enterDown_link]
  case isFalse hstep =>
    obtain ⟨hchange, lanes, step, start, hlane, hlower⟩ := State.failAttempt_again (.inr hstep)
    rw [hlane, hlower hrecovery]
    exact ⟨⟨hchange.link, hchange.front⟩, rfl, rfl, rfl⟩

end

/-! ### Judging (R386) -/

theorem LaneUnit.usable_eq_zero {l : LaneUnit} (h : ∀ k, k < 13 → (l.lane k).usable = false) : l.usable = 0 := by
  have hnone : laneIds.filter (fun k => (l.lane k).usable) = [] :=
    List.filter_eq_nil_iff.mpr fun k hk => Bool.eq_false_iff.mp (h k (mem_laneIds.mp hk))
  rw [LaneUnit.usable, hnone]
  rfl

theorem testBit_passMask {r : List (Nat × Nat)} (hlength : r.length = 13) (hk : k < 13) :
    (passMask r).testBit k = decide ((r.getD k (0, 0)).1 * 2 ^ 20 ≤ (r.getD k (0, 0)).2) := by
  have hget : r[k]? = some (r.getD k (0, 0)) := by
    rw [List.getD_eq_getElem?_getD, List.getElem?_eq_getElem (hlength ▸ hk)]
    rfl
  rw [passMask, testBit_maskOf]
  simp only [List.mem_filter, mem_laneIds, hk, hget, true_and, decide_eq_true_eq]

/-- A lane judged by this end. -/
def Lane.judged (q : Lane) (pass : Bool) : Lane := if q.usable && !pass then { q with usable := false, fail := 3 } else q

theorem Lane.judged_usable (q : Lane) (pass : Bool) : (q.judged pass).usable = (q.usable && pass) := by
  unfold Lane.judged
  cases husable : q.usable <;> cases pass <;> simp [husable]

/-- A training whose receiver has judged its lanes and says so. -/
def Train.judged (t : Train) (own : Nat) : Train :=
  { t.say tmTuneDone (beBytes 2 own) with waiting := none, phase := .done, ownPass := some own }

/-- The lane unit once this end has judged: its usable lanes are the judgement it says. -/
def LaneUnit.judged (l : LaneUnit) (lanes : Table Lane) : LaneUnit :=
  { l with lanes := lanes, train := l.train.judged (LaneUnit.usable { l with lanes := lanes }) }

/-- Before the far end has judged, this end's judgement refuses no lane. -/
theorem State.refuse_unjudged (hfar : (s.port p).lane.train.farPass = none) : s.refuse p = s := by
  unfold State.refuse
  rw [hfar]
  split
  · cases ‹(none : Option Nat) = some _›
  · rfl

theorem State.tuneDone_judged (hfar : (s.port p).lane.train.farPass = none) (pass : Nat) :
    s.LanesChange p (s.tuneDone p pass) ∧ ∃ lanes, ((s.tuneDone p pass).port p).lane = (s.port p).lane.judged lanes ∧
      ∀ k, k < 13 → (Table.get {} lanes k).usable = (((s.port p).lane.lane k).usable && pass.testBit k) := by
  have hlanes : (fun l : LaneUnit => l.modAll (fun k q => if q.usable && !pass.testBit k then { q with usable := false, fail := 3 } else q)) =
      fun l => { l with lanes := l.lanesAfter (fun k q => q.judged (pass.testBit k)) } := funext fun l => l.modAll_lanesAfter _
  unfold State.tuneDone
  dsimp only
  rw [hlanes, State.modLane_port_same, State.refuse_unjudged]
  · refine ⟨((State.LanesChange.of_modLane ..).trans (State.say_lanesChange ..)).trans (.of_modTrain ..),
      (s.port p).lane.lanesAfter (fun k q => q.judged (pass.testBit k)), ?_, fun k hk => ?_⟩
    · rw [State.modTrain_port_same, State.say, State.modTrain_port_same, State.modLane_port_same]
      dsimp only
      generalize (s.port p).lane.lanesAfter _ = lanes
      rfl
    · rw [LaneUnit.lanesAfter_lane _ _ hk, Lane.judged_usable]
  · rw [State.modTrain_port_same, State.say, State.modTrain_port_same, State.modLane_port_same]
    exact hfar

/-- A judgement said is not followed at once: it is not yet sent. -/
theorem State.tuneDone_leadOn (hfar : (s.port p).lane.train.farPass = none) (pass : Nat) : (s.tuneDone p pass).leadOn p = s.tuneDone p pass :=
  State.leadOn_unsent (by
    obtain ⟨-, lanes, hlane, -⟩ := State.tuneDone_judged hfar pass
    rw [hlane]
    rfl)

section
variable (hlive : s.linkLive = true) (htraining : s.inTraining p = true)
include hlive htraining

theorem tuningTimeout_judges (hphase : (s.port p).lane.train.phase = .tune) (hlate : s.usPassed (s.port p).lane.train.tuneStart 60000 = true)
    (hfar : (s.port p).lane.train.farPass = none) :
    ∃ t, exec (.tuningTimeout p) s = .next t ∧ ((t.port p).pane.link = (s.port p).pane.link ∧ t.front = s.front) ∧
      (t.port p).lane.train.phase = .done ∧ (t.port p).lane.train.ownPass = some 0 ∧
      (t.port p).lane.train.msg.map TrainMsg.code = some tmTuneDone ∧ ∀ k, k < 13 → ((t.port p).lane.lane k).usable = false := by
  have hexec : exec (.tuningTimeout p) s = .next (s.keep ((s.tuneDone p 0).leadOn p)) := by
    show act (s.linkLive && s.inTraining p && (s.port p).lane.train.phase == .tune && s.usPassed (s.port p).lane.train.tuneStart 60000) s _ = _
    rw [hlive, htraining, hphase, hlate]
    rfl
  obtain ⟨hchange, lanes, hlane, husable⟩ := State.tuneDone_judged hfar 0
  have hnone (k : Nat) (hk : k < 13) : (((s.port p).lane.judged lanes).lane k).usable = false := by
    rw [LaneUnit.lane, LaneUnit.judged, husable k hk, Nat.zero_testBit, Bool.and_false]
  refine ⟨_, hexec, ?_⟩
  rw [State.tuneDone_leadOn hfar, State.keep_port, State.keep_front, hlane]
  exact ⟨⟨hchange.link, hchange.front⟩, rfl, congrArg some (LaneUnit.usable_eq_zero hnone), rfl, hnone⟩

variable {r : List (Nat × Nat)} (hphase : (s.port p).lane.train.phase = .measure) (hlength : r.length = 13)
  (hwindow : ∀ e ∈ r, e.2 = (s.port p).lane.train.window) (hadopt : (s.port p).lane.adopt = false)
include hphase hlength hwindow

theorem exec_marginMeasured : exec (.marginMeasured p r) s = .next (s.keep ((s.judgeLanes p r).leadOn p)) := by
  have hall : r.all (fun e => e.2 == (s.port p).lane.train.window) = true := List.all_eq_true.mpr fun e he => beq_iff_eq.mpr (hwindow e he)
  show act (s.linkLive && s.inTraining p && (s.port p).lane.train.phase == .measure && r.length == 13 &&
    r.all (fun e => e.2 == (s.port p).lane.train.window)) s _ = _
  rw [hlive, htraining, hphase, hlength, hall]
  rfl

include hadopt

theorem marginMeasured_first (hfirst : (s.port p).lane.train.firstPass = none) :
    ∃ t, exec (.marginMeasured p r) s = .next t ∧ ((t.port p).pane.link = (s.port p).pane.link ∧ t.front = s.front) ∧
      (t.port p).lane.train.phase = .tune ∧ (t.port p).lane.train.second = true ∧
      (t.port p).lane.train.msg.map (fun m => (m.code, m.args)) = some (tmTuneReq, presetWords) ∧
      ∃ m, (t.port p).lane.train.firstPass = some m ∧ ∀ k, k < 13 → m.testBit k = decide ((r.getD k (0, 0)).1 * 2 ^ 20 ≤ (r.getD k (0, 0)).2) := by
  have hjudge : s.judgeLanes p r = (s.modTrain p (fun t => { t with
      firstPass := some (passMask r), second := true, phase := .tune, tuneStart := s.now })).ask p tmTuneReq presetWords := by
    unfold State.judgeLanes
    dsimp only
    rw [hadopt, hfirst]
    rfl
  have hwaits : (s.judgeLanes p r).leadOn p = s.judgeLanes p r := State.leadOn_awaiting (n := s.now) (by
    rw [hjudge, State.ask, State.modTrain_port_same]
    rfl)
  refine ⟨_, exec_marginMeasured hlive htraining hphase hlength hwindow, ?_⟩
  rw [hwaits, hjudge, State.keep_port, State.keep_front, State.ask, State.modTrain_port_same, State.modTrain_port_same]
  exact ⟨⟨rfl, rfl⟩, rfl, rfl, rfl, _, rfl, fun k hk => testBit_passMask hlength hk⟩

theorem marginMeasured_second {a : Nat} (hfirst : (s.port p).lane.train.firstPass = some a) (hsecond : (s.port p).lane.train.second = true)
    (hfar : (s.port p).lane.train.farPass = none) :
    ∃ t, exec (.marginMeasured p r) s = .next t ∧ ((t.port p).pane.link = (s.port p).pane.link ∧ t.front = s.front) ∧
      (t.port p).lane.train.phase = .done ∧ (t.port p).lane.train.msg.map TrainMsg.code = some tmTuneDone ∧
      ∀ k, k < 13 → ((t.port p).lane.lane k).usable =
        (((s.port p).lane.lane k).usable && a.testBit k && decide ((r.getD k (0, 0)).1 * 2 ^ 20 ≤ (r.getD k (0, 0)).2)) := by
  have hjudge : s.judgeLanes p r = s.tuneDone p (a &&& passMask r) := by
    unfold State.judgeLanes
    dsimp only
    rw [hadopt, hfirst, hsecond]
    rfl
  obtain ⟨hchange, lanes, hlane, husable⟩ := State.tuneDone_judged hfar (a &&& passMask r)
  refine ⟨_, exec_marginMeasured hlive htraining hphase hlength hwindow, ?_⟩
  rw [hjudge, State.tuneDone_leadOn hfar, State.keep_port, State.keep_front, hlane]
  refine ⟨⟨hchange.link, hchange.front⟩, rfl, rfl, fun k hk => ?_⟩
  rw [LaneUnit.lane, LaneUnit.judged, husable k hk, Nat.testBit_and, testBit_passMask hlength hk, Bool.and_assoc]

end

/-! ### A port that is DOWN trains again (R375) -/

theorem downRetry_trains (hlive : s.linkLive = true) (hlink : (s.port p).pane.link = .down) (henabled : (s.port p).lane.enabled = true)
    (htesting : (s.port p).lane.testing = false) (hstate : (s.port p).lane.lpsState ≠ 4)
    (hretry : s.usPassed (s.port p).lane.downSince (10000 * (s.port p).lane.retry10ms) = true) :
    ∃ t, exec (.downRetry p) s = .next t ∧ (t.port p).pane.link = .training ∧ (t.port p).lane.causeOwn = lcInit ∧ ∀ q, q ≠ p → t.port q = s.port q := by
  have hexec : exec (.downRetry p) s = .next (s.keep (s.startTraining p lcInit)) := by
    show act (s.linkLive && (s.port p).pane.link == .down && (s.port p).lane.enabled && !(s.port p).lane.testing && (s.port p).lane.lpsState != 4 &&
      s.usPassed (s.port p).lane.downSince (10000 * (s.port p).lane.retry10ms)) s _ = _
    rw [hlive, hlink, henabled, htesting, bne_iff_ne.mpr hstate, hretry]
    rfl
  obtain ⟨lanes, hlane⟩ := s.startTraining_lane p lcInit
  refine ⟨_, hexec, ?_, ?_, fun q hq => ?_⟩
  · rw [State.keep_port, State.startTraining_pane]
  · rw [State.keep_port, hlane]
  · rw [State.keep_port, (s.startTraining_portChange p lcInit).others q hq]

end

/-! ### The statement -/

theorem missedMarker_training {s : State} {p : PortIx} {k : Nat} (hserving : s.serving p = false) :
    s.missedMarker p k = s.modLane p (fun l => l.modAt k (fun q => { q with markers := 0, lastCount := none })) := by
  rw [State.missedMarker, if_neg (Bool.eq_false_iff.mp hserving)]

/-- Settles O39: a marker by whether it was taken and by the link's state, a lost lane, and each timer of training by the rule of its operation. -/
theorem lanesAndTrainingTimers : Obligations.LanesAndTrainingTimers := by
  unfold Obligations.LanesAndTrainingTimers
  refine ⟨fun s p k hlive hk => ⟨fun b hlength hlink => ⟨fun htaken => ?_, fun htaken => ?_⟩, laneFail_loses hlive hk⟩, fun s p hlive => ?_⟩
  · have hexec := exec_alignmentMarker hlive hk hlength hlink
    rw [htaken, Bool.not_false, if_pos rfl] at hexec
    refine ⟨fun hserving => ⟨_, hexec, ?_⟩, fun hserving hactive => ⟨_, hexec, alignmentMarker_missed hserving hactive⟩⟩
    rw [State.keep_port, missedMarker_training hserving, State.modLane_port_same]
    exact ⟨LaneUnit.modAt_lane_same .., rfl, fun i hi => LaneUnit.modAt_lane_other _ hi _⟩
  · have hexec := exec_alignmentMarker hlive hk hlength hlink
    rw [htaken, Bool.not_true, if_neg Bool.false_ne_true] at hexec
    refine ⟨fun hserving hactive => ?_, fun htraining hlock hcount hmarkers hfail hinTime hfar => ?_⟩
    · rw [if_pos hserving, if_pos hactive] at hexec
      refine ⟨fun hdiffers => ⟨_, hexec, ?_⟩, fun hagrees => ⟨_, hexec, serviceMarker_taken hagrees⟩⟩
      rw [State.keep_port, State.serviceMarker_differs hdiffers]
      obtain ⟨hretrain, hcause, -⟩ := State.retrain_retrains (s := s) (u := s.markerServed p k (beAt b 21 7))
        ((State.LanesChange.of_modLane s p _).serving.trans hserving) rfl lcDeskew
      exact ⟨hretrain, hcause⟩
    · rw [if_neg (Bool.eq_false_iff.mp (State.serving_of_inTraining htraining))] at hexec
      refine ⟨_, hexec, ?_⟩
      rw [State.keep_port]
      exact trainMarker_locks hlock hk hcount hmarkers hfail hinTime hfar
  · refine ⟨fun htraining => ⟨fun hattempt hmsg => ⟨_, trainingMsgTimeout_round hlive htraining hattempt hmsg⟩,
      trainingMsgTimeout_attempt hlive htraining, tuningTimeout_judges hlive htraining, fun r hphase hlength hwindow hadopt =>
        ⟨marginMeasured_first hlive htraining hphase hlength hwindow hadopt,
          fun a => marginMeasured_second hlive htraining hphase hlength hwindow hadopt⟩⟩, downRetry_trains hlive⟩

end Sys2Proof.Machine
end

section
/-!
PROOFS. Lane power states (R392 to R395, R474): the first part of the statement LanesOpticsAndDomains.
-/
namespace Sys2Proof.Machine

section
variable {s : State} {p : PortIx}

/-! ### Entered and left (R392 to R394) -/

theorem State.txDisable_off (s : State) (p : PortIx) (off : Bool) {k : Nat} (hk : k < 13) : (((s.txDisable p off).port p).lane.lane k).txOff = off := by
  rw [State.txDisable_lane, LaneUnit.lane]
  dsimp only
  rw [LaneUnit.lanesAfter_lane _ _ hk]

/-- A port about to return to P0: its slots aligned, or its outputs enabled. -/
def State.lpsReady (s : State) (p : PortIx) : State :=
  if (s.port p).lane.lpsState = 1 then s.modPort p Port.alignSlot else if (s.port p).lane.lpsState = 3 then s.txDisable p false else s

theorem State.lpsReady_lanesChange (s : State) (p : PortIx) : s.LanesChange p (s.lpsReady p) := by
  unfold State.lpsReady
  split
  · exact ⟨.of_modPort .., by rw [State.modPort_port_same]; rfl⟩
  split
  · exact s.txDisable_lanesChange p false
  · exact .refl p s

/-- The port of a state back in P0, and its pane layer with the LPS_EXIT it sends. -/
theorem State.lpsLeave_p0 (s : State) (p : PortIx) (say : Bool) : s.PortChange p (s.lpsLeave p say) ∧
    ((s.lpsLeave p say).port p).pane = { (s.port p).pane with creditStart := s.now, ctrlDue := (s.port p).pane.ctrlDue ++
      (if say then [ctrlLps 0x15 (s.port p).lane.lpsState 0] else []) } ∧
    ((s.lpsLeave p say).port p).lane.lpsState = 0 ∧ ((s.lpsLeave p say).port p).lane.lpsFar = 0 := by
  have hready := s.lpsReady_lanesChange p
  have hleft : s.PortChange p (((s.lpsReady p).modLane p (fun l => { l with lpsState := 0, lpsOwn := 0, lpsFar := 0, lpsSent := false })).modPane p
      (fun q => { q with creditStart := s.now })) := (hready.toPortChange.trans (.of_modLane ..)).trans (.of_modPane ..)
  have hnow : (s.lpsReady p).now = s.now := hready.now
  rw [State.lpsReady] at hleft hready hnow
  unfold State.lpsLeave
  dsimp only
  cases say with
  | true =>
    rw [if_pos rfl, if_pos rfl, State.ctrl_port_same, State.modPane_port_same, State.modLane_port_same]
    refine ⟨hleft.trans (State.ctrl_portChange ..), ?_, rfl, rfl⟩
    dsimp only
    rw [hready.pane]
  | false =>
    rw [if_neg Bool.false_ne_true, if_neg Bool.false_ne_true, State.modPane_port_same, State.modLane_port_same, List.append_nil]
    refine ⟨hleft, ?_, rfl, rfl⟩
    dsimp only
    rw [hready.pane]

/-- P2 is entered at once where the width in use is no wider. -/
theorem State.lpsEnter_p2 {w : Nat} (hwidth : (s.port p).lane.width ≤ w) (ask : Bool) :
    s.lpsEnter p 2 w ask = s.modLane p (fun l => { l with lpsState := 2 }) := by
  unfold State.lpsEnter
  dsimp only
  rw [if_pos rfl, if_pos hwidth]

/-- No other state is entered with something to send. -/
theorem State.lpsEnter_busy (hbusy : (s.port p).pane.idle = false) {st : Nat} (hst : st ≠ 2) (w : Nat) (ask : Bool) : s.lpsEnter p st w ask = s := by
  unfold State.lpsEnter
  dsimp only
  rw [if_neg hst, hbusy]
  rfl

theorem State.lpsEnter_p1 (hidle : (s.port p).pane.idle = true) (w : Nat) (ask : Bool) :
    s.lpsEnter p 1 w ask = s.modLane p (fun l => { l with lpsState := 1 }) := by
  unfold State.lpsEnter
  dsimp only
  rw [hidle]
  rfl

theorem State.lpsEnter_p3 (hidle : (s.port p).pane.idle = true) (w : Nat) (ask : Bool) :
    s.lpsEnter p 3 w ask = (s.modLane p (fun l => { l with lpsState := 3 })).txDisable p true := by
  unfold State.lpsEnter
  dsimp only
  rw [hidle]
  rfl

/-- A port in P4, before its domains are dropped. -/
def State.lpsOff (s : State) (p : PortIx) : State := ((s.enterDown p lcPower).modLane p (fun l => { l with lpsState := 4 })).txDisable p true

theorem State.lpsEnter_p4 (hidle : (s.port p).pane.idle = true) (w : Nat) (ask : Bool) :
    s.lpsEnter p 4 w ask = (portDomains p).foldl State.dropDomain (s.lpsOff p) := by
  unfold State.lpsEnter
  dsimp only
  rw [hidle]
  rfl

theorem State.lpsOff_link (s : State) (p : PortIx) : ((s.lpsOff p).port p).pane.link = .down := by
  rw [State.lpsOff, (State.txDisable_lanesChange ..).link, State.modLane_port_same, State.enterDown_link]

theorem State.lpsOff_lane (s : State) (p : PortIx) : ((s.lpsOff p).port p).lane.lpsState = 4 ∧
    ((s.lpsOff p).port p).lane.lpsSent = (s.port p).lane.lpsSent := by
  obtain ⟨e, hlane⟩ := s.enterDown_lane p lcPower
  rw [State.lpsOff, State.txDisable_lane, State.modLane_port_same, hlane]
  exact ⟨rfl, rfl⟩

/-- A state entered leaves what was stated last. -/
theorem State.lpsEnter_sent (s : State) (p : PortIx) (st w : Nat) (ask : Bool) :
    ((s.lpsEnter p st w ask).port p).lane.lpsSent = (s.port p).lane.lpsSent := by
  by_cases hst : st = 4 ∧ (s.port p).pane.idle = true
  · obtain ⟨rfl, hidle⟩ := hst
    rw [State.lpsEnter_p4 hidle, State.port_congr (State.foldl_dropDomain_ports ..)]
    exact (s.lpsOff_lane p).2
  · unfold State.lpsEnter
    dsimp only
    split
    · split
      · rw [State.modLane_port_same]
      split
      · rw [State.askWidth_port_same]
      · rfl
    split
    · rfl
    case isFalse hidle =>
    have hst : st ≠ 4 := fun h => hst ⟨h, by simpa using hidle⟩
    split
    · rw [State.modLane_port_same]
    split
    · rw [State.txDisable_lane, State.modLane_port_same]
    · rfl

/-! ### LPS_REQ, LPS_ACK and LPS_EXIT (R393, R394) -/

section
variable {x : RxPane} {q : Pane} {a : State} (hlive : s.linkLive = true) (hhead : s.rxHead p ptCtrl = some x) (ha : s.CtrlTaken p q a)
  (htakes : ∀ f, s.takeCtrl p f = f x.body a)
include hlive hhead ha htakes

theorem lpsReq_answered (hcode : (x.body.headD 0).toNat = 0x13) {st w : Nat} (hst : (x.body.getD 1 0).toNat = st) (hw : (x.body.getD 2 0).toNat = w) :
    ∃ t, exec (.lpsReq p) s = .next t ∧
      (t.port p).pane.ctrlDue.getLast? = some (ctrlLps 0x14 (min (s.port p).lane.lpsOwn st) (max (s.p2Width p) w)) ∧
      ((s.port p).lane.lpsState ≤ min (s.port p).lane.lpsOwn st →
        (t.port p).lane = { (s.port p).lane with lpsFar := st, lpsFarWidth := w, lpsOwnWidth := s.p2Width p }) := by
  have hexec : exec (.lpsReq p) s = .next (s.keep (a.takeLpsReq p x.body)) := (act_ctrlHead hlive hhead hcode _).trans (by rw [htakes])
  have hp2 : a.p2Width p = s.p2Width p := by rw [State.p2Width, State.p2Width, ha.change.power]
  refine ⟨_, hexec, ?_⟩
  rw [State.keep_port, State.takeLpsReq]
  dsimp only
  rw [hst, hw, hp2, ha.lane, State.ctrl_port_same]
  refine ⟨List.getLast?_concat .., fun hdeep => ?_⟩
  dsimp only
  rw [if_neg (Nat.not_lt.mpr hdeep), State.modLane_port_same]
  dsimp only
  rw [ha.lane]

theorem lpsAck_enters (hcode : (x.body.headD 0).toNat = 0x14) {st w : Nat} (hst : (x.body.getD 1 0).toNat = st) (hw : (x.body.getD 2 0).toNat = w) :
    ∃ t, exec (.lpsAck p) s = .next t ∧ (t.port p).lane.lpsSent = false ∧
      (st = 2 → (s.port p).lane.width ≤ w → (t.port p).lane.lpsState = 2 ∧ (t.port p).pane.link = q.link) ∧
      ((st = 1 ∨ st = 3 ∨ st = 4) → q.idle = false → (t.port p).lane.lpsState = (s.port p).lane.lpsState ∧ (t.port p).pane.link = q.link) ∧
      ((st = 1 ∨ st = 3) → q.idle = true → (t.port p).lane.lpsState = st ∧ (t.port p).pane.link = q.link ∧
        (st = 3 → ∀ k, k < 13 → ((t.port p).lane.lane k).txOff = true)) ∧
      (st = 4 → q.idle = true → (t.port p).lane.lpsState = 4 ∧ (∀ k, k < 13 → ((t.port p).lane.lane k).txOff = true) ∧ (t.port p).pane.link = .down ∧
        ∀ d ∈ portDomains p, t.power.domOn d = false) := by
  have hexec : exec (.lpsAck p) s = .next (s.keep ((a.modLane p (fun l => { l with lpsSent := false })).lpsEnter p (x.body.getD 1 0).toNat
      (x.body.getD 2 0).toNat true)) := (act_ctrlHead hlive hhead hcode _).trans (by rw [htakes])
  rw [hst, hw] at hexec
  have hu := a.modLane_port_same p (fun l => { l with lpsSent := false })
  have hlink : ((a.modLane p (fun l => { l with lpsSent := false })).port p).pane.link = q.link := by rw [hu]; exact ha.portLink.trans ha.link.symm
  have hidles : ((a.modLane p (fun l => { l with lpsSent := false })).port p).pane.idle = q.idle := by rw [hu]; exact ha.idle
  have hstate : ((a.modLane p (fun l => { l with lpsSent := false })).port p).lane.lpsState = (s.port p).lane.lpsState := by
    rw [hu]
    exact (congrArg LaneUnit.lpsState ha.lane :)
  have hwidth : ((a.modLane p (fun l => { l with lpsSent := false })).port p).lane.width = (s.port p).lane.width := by
    rw [hu]
    exact (congrArg LaneUnit.width ha.lane :)
  have hsent : ((a.modLane p (fun l => { l with lpsSent := false })).port p).lane.lpsSent = false := by rw [hu]
  generalize a.modLane p (fun l => { l with lpsSent := false }) = u at *
  refine ⟨_, hexec, ?_⟩
  rw [State.keep_port, State.keep_power]
  refine ⟨(u.lpsEnter_sent p st w true).trans hsent, fun hst hnarrow => ?_, fun hst hbusy => ?_, fun hst hidle => ?_, fun hst hidle => ?_⟩
  · rw [hst, State.lpsEnter_p2 (hwidth.le.trans hnarrow), State.modLane_port_same]
    exact ⟨rfl, hlink⟩
  · rw [State.lpsEnter_busy (hidles.trans hbusy) (by omega)]
    exact ⟨hstate, hlink⟩
  · rcases hst with rfl | rfl
    · rw [State.lpsEnter_p1 (hidles.trans hidle), State.modLane_port_same]
      exact ⟨rfl, hlink, fun h => absurd h (by decide)⟩
    · rw [State.lpsEnter_p3 (hidles.trans hidle)]
      refine ⟨?_, ?_, fun _ k hk => State.txDisable_off _ p true hk⟩
      · rw [State.txDisable_lane, State.modLane_port_same]
      · rw [(State.txDisable_lanesChange ..).link, State.modLane_port_same]
        exact hlink
  · rw [hst, State.lpsEnter_p4 (hidles.trans hidle), State.port_congr (State.foldl_dropDomain_ports ..)]
    exact ⟨(u.lpsOff_lane p).1, fun k hk => State.txDisable_off _ p true hk, u.lpsOff_link p, fun d hd => State.foldl_dropDomain_off hd _⟩

theorem lpsExit_leaves (hcode : (x.body.headD 0).toNat = 0x15) : ∃ t, exec (.lpsExit p) s = .next t ∧
    ((t.port p).lane.lpsState = 0 ∧ (t.port p).lane.lpsFar = 0 ∧ (t.port p).pane.creditStart = s.now) ∧ (t.port p).pane.ctrlDue = q.ctrlDue ∧
    t.front = s.front := by
  have hexec : exec (.lpsExit p) s = .next (s.keep (a.lpsLeave p false)) := (act_ctrlHead hlive hhead hcode _).trans (by rw [htakes])
  obtain ⟨hchange, hpane, hstate, hfar⟩ := a.lpsLeave_p0 p false
  refine ⟨_, hexec, ?_⟩
  rw [State.keep_port, State.keep_front, hpane, hstate, hfar]
  refine ⟨⟨rfl, rfl, ha.change.now⟩, ?_, hchange.front.trans ha.change.front⟩
  rw [if_neg Bool.false_ne_true]
  exact (List.append_nil _).trans ha.ctrlDue

end

/-! ### The state chosen (R474) -/

/-- The state of a port on which another lane power state is chosen and stated. -/
def State.lpsStated (s : State) (p : PortIx) (c w : Nat) : State :=
  ((s.modPower (fun x => { x with chosen := Table.put 0 x.chosen p.val c })).ctrl p (ctrlLps 0x13 c w)).modLane p (fun l =>
    { l with lpsOwn := c, lpsOwnWidth := w, lpsSent := true })

theorem State.lpsStated_port (s : State) (p : PortIx) (c w : Nat) : (s.lpsStated p c w).port p = { s.port p with
    pane := { (s.port p).pane with ctrlDue := (s.port p).pane.ctrlDue ++ [ctrlLps 0x13 c w] }
    lane := { (s.port p).lane with lpsOwn := c, lpsOwnWidth := w, lpsSent := true } } := by
  rw [State.lpsStated, State.modLane_port_same, State.ctrl_port_same]
  rfl

theorem State.lpsStated_front (s : State) (p : PortIx) (c w : Nat) : (s.lpsStated p c w).front = s.front := rfl

theorem exec_lpsChoose (hlive : s.linkLive = true) (hserving : s.serving p = true) (hchoice : s.lpsChoice p ≠ (s.port p).lane.lpsOwn) {u : State}
    (hu : (if s.lpsChoice p < (s.port p).lane.lpsState || (s.port p).lane.lpsState = 1 || (s.port p).lane.lpsState = 3 then s.lpsWake p else s) = u)
    (hlink : (u.port p).pane.link = (s.port p).pane.link) :
    exec (.lpsChoose p) s = .next (s.keep (u.lpsStated p (s.lpsChoice p) (s.p2Width p))) := by
  have hstays : (u.modPower (fun x => { x with chosen := Table.put 0 x.chosen p.val (s.lpsChoice p) })).serving p = true :=
    (congrArg LinkState.inService hlink).trans hserving
  show execLpsChoose p s = _
  unfold execLpsChoose
  dsimp only
  rw [hu, if_pos hstays, hlive, hserving, bne_iff_ne.mpr hchoice]
  rfl

theorem lpsChoose_states (hlive : s.linkLive = true) (hserving : s.serving p = true) (hchoice : s.lpsChoice p ≠ (s.port p).lane.lpsOwn)
    (hdeeper : (s.port p).lane.lpsState ≤ s.lpsChoice p) (hp1 : (s.port p).lane.lpsState ≠ 1) (hp3 : (s.port p).lane.lpsState ≠ 3) :
    ∃ t, exec (.lpsChoose p) s = .next t ∧ (t.port p).pane.ctrlDue = (s.port p).pane.ctrlDue ++ [ctrlLps 0x13 (s.lpsChoice p) (s.p2Width p)] ∧
      (t.port p).lane = { (s.port p).lane with lpsOwn := s.lpsChoice p, lpsOwnWidth := s.p2Width p, lpsSent := true } ∧ t.front = s.front := by
  have hstays : (if s.lpsChoice p < (s.port p).lane.lpsState || (s.port p).lane.lpsState = 1 || (s.port p).lane.lpsState = 3 then s.lpsWake p else s) = s :=
    if_neg (by simp [hdeeper, hp1, hp3])
  refine ⟨_, exec_lpsChoose hlive hserving hchoice hstays rfl, ?_⟩
  rw [State.keep_port, State.keep_front, State.lpsStated_port, State.lpsStated_front]
  exact ⟨rfl, rfl, rfl⟩

/-- From P1 and P3 a port is woken at once. -/
theorem State.lpsWake_leaves (h : (s.port p).lane.lpsState = 1 ∨ (s.port p).lane.lpsState = 3) : s.lpsWake p = s.lpsLeave p true := by
  unfold State.lpsWake
  dsimp only
  rw [if_neg (by omega), if_neg (by simp; omega), if_neg (by omega)]

theorem lpsChoose_wakes (hlive : s.linkLive = true) (hserving : s.serving p = true) (hchoice : s.lpsChoice p ≠ (s.port p).lane.lpsOwn)
    (hstate : (s.port p).lane.lpsState = 1 ∨ (s.port p).lane.lpsState = 3) :
    ∃ t, exec (.lpsChoose p) s = .next t ∧ (t.port p).pane.ctrlDue = (s.port p).pane.ctrlDue ++
        [ctrlLps 0x15 (s.port p).lane.lpsState 0, ctrlLps 0x13 (s.lpsChoice p) (s.p2Width p)] ∧
      (t.port p).lane.lpsState = 0 ∧ (t.port p).lane.lpsOwn = s.lpsChoice p := by
  obtain ⟨-, hpane, hleft, -⟩ := s.lpsLeave_p0 p true
  have hwakes : (if s.lpsChoice p < (s.port p).lane.lpsState || (s.port p).lane.lpsState = 1 || (s.port p).lane.lpsState = 3 then s.lpsWake p else s) =
      s.lpsLeave p true := (if_pos (by rcases hstate with h | h <;> simp [h])).trans (State.lpsWake_leaves hstate)
  refine ⟨_, exec_lpsChoose hlive hserving hchoice hwakes (congrArg Pane.link hpane :), ?_⟩
  rw [State.keep_port, State.lpsStated_port]
  refine ⟨?_, hleft, rfl⟩
  dsimp only
  rw [hpane]
  exact List.append_assoc ..

/-! ### Ports woken (R394, R480, R481) -/

theorem exec_lpsWake (hlive : s.linkLive = true) (hpane : s.hasPane p = true) (hstate : (s.port p).lane.lpsState ≠ 0) :
    exec (.lpsWake p) s = .next (s.keep (s.lpsWake p)) := by
  show act (s.linkLive && (s.port p).lane.lpsState != 0 && (s.hasPane p || ((s.port p).lane.lpsState == 1 && s.timeWaits p))) s _ = _
  rw [hlive, hpane, bne_iff_ne.mpr hstate]
  rfl

theorem lpsWake_leaves (hlive : s.linkLive = true) (hpane : s.hasPane p = true)
    (hstate : (s.port p).lane.lpsState = 1 ∨ (s.port p).lane.lpsState = 3) : ∃ t, exec (.lpsWake p) s = .next t ∧
    ((t.port p).lane.lpsState = 0 ∧ (t.port p).lane.lpsFar = 0 ∧ (t.port p).pane.creditStart = s.now) ∧
    (t.port p).pane.ctrlDue = (s.port p).pane.ctrlDue ++ [ctrlLps 0x15 (s.port p).lane.lpsState 0] ∧ t.front = s.front := by
  obtain ⟨hchange, hleft, hp0, hfar⟩ := s.lpsLeave_p0 p true
  refine ⟨_, exec_lpsWake hlive hpane (by omega), ?_⟩
  rw [State.lpsWake_leaves hstate, State.keep_port, State.keep_front, hleft, hp0, hfar]
  exact ⟨⟨rfl, rfl, rfl⟩, rfl, hchange.front⟩

theorem droopWidth_le (level : Nat) : droopWidth level ≤ 12 := by
  unfold droopWidth
  repeat' split
  all_goals omega

theorem lpsWake_widens (hlive : s.linkLive = true) (hpane : s.hasPane p = true) (hstate : (s.port p).lane.lpsState = 2)
    (hnone : (s.port p).lane.change = none) (hnarrow : (s.port p).lane.width < droopWidth s.power.level) :
    ∃ t, exec (.lpsWake p) s = .next t ∧ (t.port p).lane.lpsOwn = 0 ∧ (t.port p).pane.ctrlDue = (s.port p).pane.ctrlDue ++
      [ctrlWidthReq lcPower (s.port p).lane.usable (droopWidth s.power.level) s.global.serial] ∧ (t.port p).lane.lpsState = 2 := by
  have hcap : (s.modLane p (fun l => { l with lpsOwn := 0 })).widthCap p = droopWidth s.power.level := by
    rw [State.widthCap, State.modLane_port_same]
    dsimp only
    rw [if_neg (by simp)]
    exact Nat.min_eq_left (droopWidth_le _)
  have hwake : s.lpsWake p = (s.modLane p (fun l => { l with lpsOwn := 0 })).askWidth p lcPower (s.port p).lane.usable (droopWidth s.power.level) := by
    unfold State.lpsWake
    dsimp only
    rw [if_pos hstate, hcap, if_pos hnarrow, hnone]
    rfl
  refine ⟨_, exec_lpsWake hlive hpane (by omega), ?_⟩
  rw [hwake, State.keep_port, State.askWidth_port_same, State.modLane_port_same]
  exact ⟨rfl, rfl, hstate⟩

section
variable (hlive : s.linkLive = true) (hpane : s.hasPane p = true) (hstate : (s.port p).lane.lpsState = 4) (henabled : (s.port p).lane.enabled = true)
  (hlevel : s.power.level < 2)
include hlive hpane hstate henabled hlevel

/-- A port in P4 that may be woken trains where its domains are on, and asks for them where they are not. -/
theorem exec_lpsWake_p4 : exec (.lpsWake p) s = .next (s.keep (if (portDomains p).all s.power.domOn then
      (if (s.port p).pane.link == .down then (s.txDisable p false).startTraining p lcPower else s)
    else ((portDomains p).filter (fun d => !s.power.domOn d)).foldl State.requestDomain s)) := by
  have hmay : ¬ ((s.port p).lane.lpsState = 4 && (!(s.port p).lane.enabled || 2 ≤ s.power.level)) = true := by simp [henabled, hlevel]
  rw [exec_lpsWake hlive hpane (by omega), State.lpsWake]
  dsimp only
  rw [if_neg (by omega), if_neg hmay, if_pos hstate]

theorem lpsWake_trains (hlink : (s.port p).pane.link = .down) (hon : (portDomains p).all s.power.domOn = true) :
    ∃ t, exec (.lpsWake p) s = .next t ∧ (t.port p).pane.link = .training ∧ (t.port p).lane.causeOwn = lcPower := by
  obtain ⟨lanes, hlane⟩ := (s.txDisable p false).startTraining_lane p lcPower
  refine ⟨_, exec_lpsWake_p4 hlive hpane hstate henabled hlevel, ?_⟩
  rw [if_pos hon, if_pos (by rw [hlink]; rfl), State.keep_port, State.startTraining_pane, hlane]
  exact ⟨rfl, rfl⟩

theorem lpsWake_asks (hoff : (portDomains p).all s.power.domOn = false) : ∃ t, exec (.lpsWake p) s = .next t ∧ t.ports = s.ports ∧
    ∀ d ∈ portDomains p, s.power.domOn d = true ∨ t.power.domReqs.any (fun r => r.domain == d) = true := by
  refine ⟨_, exec_lpsWake_p4 hlive hpane hstate henabled hlevel, ?_⟩
  rw [if_neg (Bool.eq_false_iff.mp hoff)]
  refine ⟨State.foldl_requestDomain_ports .., fun d hd => ?_⟩
  cases hon : s.power.domOn d with
  | true => exact .inl rfl
  | false => exact .inr (State.foldl_requestDomain_asks (List.mem_filter.mpr ⟨hd, by rw [hon]; rfl⟩) s)

end

theorem p3SignalReturn_leaves (hlive : s.linkLive = true) (hstate : (s.port p).lane.lpsState = 3) : ∃ t, exec (.p3SignalReturn p) s = .next t ∧
    ((t.port p).lane.lpsState = 0 ∧ (t.port p).lane.lpsFar = 0 ∧ (t.port p).pane.creditStart = s.now) ∧
    (t.port p).pane.ctrlDue = (s.port p).pane.ctrlDue ++ [] ∧ ∀ q, q ≠ p → t.port q = s.port q := by
  have hexec : exec (.p3SignalReturn p) s = .next (s.keep (s.lpsLeave p false)) := by
    show act (s.linkLive && (s.port p).lane.lpsState == 3) s _ = _
    rw [hlive, hstate]
    rfl
  obtain ⟨hchange, hpane, hp0, hfar⟩ := s.lpsLeave_p0 p false
  refine ⟨_, hexec, ?_⟩
  rw [State.keep_port, hpane, hp0, hfar]
  exact ⟨⟨rfl, rfl, rfl⟩, rfl, hchange.others⟩

end

end Sys2Proof.Machine
end

section
/-!
PROOFS. Optical engines (R396 to R398): the second part of the statement LanesOpticsAndDomains.
-/
namespace Sys2Proof.Machine

section
variable {s : State} {p : PortIx}

/-! ### The address of an engine (R396) -/

/-- The lane unit after transactions on the bus of its engine. -/
def LaneUnit.onBus (l : LaneUnit) (addr : Option Nat) (ops : List I3cOp) : LaneUnit := { l with dynAddr := addr, i3c := l.i3c ++ ops }

/-- An engine with an address keeps it, and one without is given one by SETDASA, which it has once it answers. -/
theorem State.assignAddr_onBus (s : State) (p : PortIx) (answered : Bool) : s.LanesChange p (s.assignAddr p answered) ∧
    ∃ addr ops, ((s.assignAddr p answered).port p).lane = (s.port p).lane.onBus addr ops ∧ (answered = true → addr.isSome = true) ∧
      (answered = false → addr = (s.port p).lane.dynAddr) ∧ ((s.port p).lane.dynAddr.isSome = true → ops = []) ∧
      (answered = false → (s.port p).lane.dynAddr = none → ∃ a, a < 128 ∧ ops = [.setdasa (s.staticAddr p) a]) := by
  cases haddr : (s.port p).lane.dynAddr with
  | some a =>
    rw [State.assignAddr, if_pos (by rw [haddr]; rfl)]
    exact ⟨.refl p s, some a, [], by rw [LaneUnit.onBus, List.append_nil, ← haddr], fun _ => rfl, fun _ => rfl, fun _ => rfl, fun _ h => nomatch h⟩
  | none =>
    rw [State.assignAddr, if_neg (by rw [haddr]; exact Bool.false_ne_true)]
    have hasked : s.LanesChange p (s.drawn.i3c p [.setdasa (s.staticAddr p) (s.freeVal .dynAddr % 128)]) := (State.LanesChange.of_drawn p s).trans (.of_modLane ..)
    dsimp only
    cases answered with
    | true =>
      rw [if_pos rfl]
      refine ⟨(hasked.trans (.of_modLane ..)).trans (.of_modLane ..), some (s.freeVal .dynAddr % 128),
        [.setdasa (s.staticAddr p) (s.freeVal .dynAddr % 128), .read .identity], ?_, fun _ => rfl, nofun, nofun, nofun⟩
      rw [State.i3c, State.modLane_port_same, State.modLane_port_same, State.i3c, State.modLane_port_same]
      dsimp only
      rw [List.append_assoc]
      rfl
    | false =>
      rw [if_neg Bool.false_ne_true]
      refine ⟨hasked, none, [.setdasa (s.staticAddr p) (s.freeVal .dynAddr % 128)], ?_, nofun, fun _ => rfl, nofun, fun _ _ => ⟨_, Nat.mod_lt _ (by decide), rfl⟩⟩
      rw [State.i3c, State.modLane_port_same, LaneUnit.onBus, ← haddr]
      rfl

/-! ### Readings (R398) -/

/-- What one reading of an engine reads. -/
def opticsPages : List I3cOp := [.read .lower, .read (.status 0), .read (.status 1)]

/-- The state in which an engine has been read. -/
def State.opticsRead (s : State) (p : PortIx) (answered : Bool) : State :=
  ((s.assignAddr p answered).i3c p opticsPages).modLane p (fun l => { l with lastPoll := s.now })

theorem State.opticsRead_lanesChange (s : State) (p : PortIx) (answered : Bool) : s.LanesChange p (s.opticsRead p answered) :=
  ((s.assignAddr_onBus p answered).1.trans (.of_modLane ..)).trans (.of_modLane ..)

theorem State.opticsRead_lane {answered : Bool} {addr : Option Nat} {ops : List I3cOp}
    (h : ((s.assignAddr p answered).port p).lane = (s.port p).lane.onBus addr ops) :
    ((s.opticsRead p answered).port p).lane = { (s.port p).lane.onBus addr (ops ++ opticsPages) with lastPoll := s.now } := by
  rw [State.opticsRead, State.modLane_port_same, State.i3c, State.modLane_port_same]
  dsimp only
  rw [h, LaneUnit.onBus, LaneUnit.onBus]
  dsimp only
  rw [List.append_assoc]

theorem State.readOptics_failed_eq (s : State) (p : PortIx) : s.readOptics p .failed = (s.opticsRead p false).modLane p (fun l => { l with
    i3cFails := if (s.port p).lane.i3cFails + 1 < 3 then (s.port p).lane.i3cFails + 1 else 0,
    mgmtLost := l.mgmtLost || decide (3 ≤ (s.port p).lane.i3cFails + 1) }) := rfl

/-- A reading that fails: the third in a row marks the engine MGMT_LOST. -/
theorem readOptics_failed (s : State) (p : PortIx) : let l := (s.port p).lane
    let t := s.readOptics p .failed
    (t.port p).lane = { l with lastPoll := s.now, i3cFails := (if l.i3cFails + 1 < 3 then l.i3cFails + 1 else 0),
                               mgmtLost := l.mgmtLost || decide (3 ≤ l.i3cFails + 1), i3c := (t.port p).lane.i3c } ∧
      ((l.dynAddr.isSome = true → (t.port p).lane.i3c = l.i3c ++ opticsPages) ∧
        (l.dynAddr = none → ∃ a, a < 128 ∧ (t.port p).lane.i3c = l.i3c ++ .setdasa (s.staticAddr p) a :: opticsPages)) ∧
      (t.port p).pane = (s.port p).pane ∧ (∀ q, q ≠ p → t.port q = s.port q) ∧ t.lodge = s.lodge := by
  obtain ⟨-, addr, ops, hlane, -, hkept, hhas, hgiven⟩ := s.assignAddr_onBus p false
  have hchange : s.LanesChange p (s.readOptics p .failed) := by
    rw [State.readOptics_failed_eq]
    exact (s.opticsRead_lanesChange p false).trans (.of_modLane ..)
  have hread : ((s.readOptics p .failed).port p).lane = { (s.port p).lane.onBus addr (ops ++ opticsPages) with
      lastPoll := s.now, i3cFails := if (s.port p).lane.i3cFails + 1 < 3 then (s.port p).lane.i3cFails + 1 else 0,
      mgmtLost := (s.port p).lane.mgmtLost || decide (3 ≤ (s.port p).lane.i3cFails + 1) } := by
    rw [State.readOptics_failed_eq, State.modLane_port_same]
    dsimp only
    rw [State.opticsRead_lane hlane]
    rfl
  dsimp only
  refine ⟨?_, ?_, hchange.pane, hchange.others, hchange.lodge⟩
  · rw [hread, hkept rfl]
    rfl
  · rw [hread]
    refine ⟨fun hsome => ?_, fun hnone => ?_⟩
    · rw [hhas hsome]
      rfl
    · obtain ⟨a, ha, hops⟩ := hgiven rfl hnone
      rw [hops]
      exact ⟨a, ha, rfl⟩

/-- The lanes an engine reports faulty are on an active lane of a link in service. -/
def State.faultActive (s : State) (p : PortIx) (ks : List Nat) : Bool := s.serving p && ks.any (fun k => (s.port p).lane.active.testBit k)

/-- A lane an engine reports faulty. -/
def Lane.faulted (q : Lane) : Lane := { q with markers := 0, lastCount := none, usable := false, fail := 4 }

theorem State.laneFaults_eq (s : State) (p : PortIx) (ks : List Nat) : s.laneFaults p ks =
    (if s.faultActive p ks then s.retrain p lcLaneFail else s).modLane p (fun l => l.modAll (fun k q => if k ∈ ks then q.faulted else q)) := rfl

/-- What an engine's readings give: its module state, that it is there, its failures, when it was read and its address. -/
def LaneUnit.readings (l : LaneUnit) : Byte × Bool × Nat × Nat × Option Nat := (l.moduleState, l.present, l.i3cFails, l.lastPoll, l.dynAddr)

theorem State.laneFaults_readings (s : State) (p : PortIx) (ks : List Nat) :
    ((s.laneFaults p ks).port p).lane.readings = (s.port p).lane.readings := by
  rw [State.laneFaults_eq, State.modLane_port_same]
  dsimp only
  rw [LaneUnit.modAll_lanesAfter]
  generalize LaneUnit.lanesAfter _ _ = lanes
  split
  case isTrue hactive =>
    obtain ⟨e, fresh, hlane⟩ := State.retrainWith_lane (Bool.and_eq_true_iff.mp hactive).1 lcLaneFail 0
    rw [State.retrain, hlane]
    rfl
  case isFalse => rfl

theorem State.laneFaults_lane (s : State) (p : PortIx) {ks : List Nat} {k : Nat} (hmem : k ∈ ks) (hk : k < 13) :
    ∃ q, ((s.laneFaults p ks).port p).lane.lane k = Lane.faulted q := by
  rw [State.laneFaults_eq, State.modLane_port_same]
  dsimp only
  rw [LaneUnit.modAll_lane _ _ hk, if_pos hmem]
  exact ⟨_, rfl⟩

/-- One on an active lane retrains the link. -/
theorem State.laneFaults_link (s : State) (p : PortIx) (ks : List Nat) :
    if s.faultActive p ks = true then ((s.laneFaults p ks).port p).pane.link = .retraining ∧ ((s.laneFaults p ks).port p).lane.causeOwn = lcLaneFail
    else ((s.laneFaults p ks).port p).pane = (s.port p).pane := by
  rw [State.laneFaults_eq, State.modLane_port_same]
  dsimp only
  rw [LaneUnit.modAll_lanesAfter]
  generalize LaneUnit.lanesAfter _ _ = lanes
  split
  case isTrue hactive =>
    obtain ⟨hlink, hcause, -⟩ := State.retrain_retrains (s := s) (Bool.and_eq_true_iff.mp hactive).1 rfl lcLaneFail
    exact ⟨hlink, hcause⟩
  case isFalse => rfl

theorem readOptics_status (s : State) (p : PortIx) (st : Byte) (faulty : List Nat) (mons : List (Nat × Nat × Nat × Nat)) :
    let t := s.readOptics p (.status st faulty mons)
    (t.port p).lane.moduleState = st ∧ (t.port p).lane.present = true ∧ (t.port p).lane.i3cFails = 0 ∧ (t.port p).lane.lastPoll = s.now ∧
      (t.port p).lane.dynAddr.isSome = true ∧
      (∀ k ∈ faulty, k < 13 → ((t.port p).lane.lane k).usable = false ∧ ((t.port p).lane.lane k).fail = 4) ∧
      if s.serving p = true ∧ faulty.any (fun k => decide (k < 13) && (s.port p).lane.active.testBit k) = true then
        (t.port p).pane.link = .retraining ∧ (t.port p).lane.causeOwn = lcLaneFail
      else (t.port p).pane = (s.port p).pane := by
  obtain ⟨-, addr, ops, hlane, hhas, -⟩ := s.assignAddr_onBus p true
  have hu := (s.opticsRead p true).modLane_port_same p (fun l => { l with present := true, moduleState := st, i3cFails := 0 })
  rw [State.opticsRead_lane hlane] at hu
  have hpane := (s.opticsRead_lanesChange p true).pane
  have hport : (s.readOptics p (.status st faulty mons)).port p = (((s.opticsRead p true).modLane p (fun l => { l with
      present := true, moduleState := st, i3cFails := 0 })).laneFaults p (laneIds.filter (fun k => k ∈ faulty))).port p := by
    have hread : s.readOptics p (.status st faulty mons) = if s.monitorsBad p mons then
        (((s.opticsRead p true).modLane p (fun l => { l with present := true, moduleState := st, i3cFails := 0 })).laneFaults p
          (laneIds.filter (fun k => k ∈ faulty))).notice 0x05 (leBytes 2 0x3FF ++ [0, 0] ++ leBytes 4 0)
        else ((s.opticsRead p true).modLane p (fun l => { l with present := true, moduleState := st, i3cFails := 0 })).laneFaults p
          (laneIds.filter (fun k => k ∈ faulty)) := rfl
    rw [hread]
    split
    · exact State.port_congr (State.notice_ports ..)
    · rfl
  dsimp only
  rw [hport]
  generalize (s.opticsRead p true).modLane p (fun l => { l with present := true, moduleState := st, i3cFails := 0 }) = u at hu
  have hreadings := u.laneFaults_readings p (laneIds.filter (fun k => k ∈ faulty))
  have hlink := u.laneFaults_link p (laneIds.filter (fun k => k ∈ faulty))
  rw [hu] at hreadings
  have hactive : u.faultActive p (laneIds.filter (fun k => k ∈ faulty)) = true ↔
      s.serving p = true ∧ faulty.any (fun k => decide (k < 13) && (s.port p).lane.active.testBit k) = true := by
    rw [State.faultActive, State.serving, hu, State.serving, ← hpane, Bool.and_eq_true]
    simp only [LaneUnit.onBus, List.any_eq_true, List.mem_filter, mem_laneIds, decide_eq_true_eq, Bool.and_eq_true]
    exact and_congr_right fun _ => exists_congr fun k => by tauto
  have husable (k : Nat) (hmem : k ∈ faulty) (hk : k < 13) :
      (((u.laneFaults p (laneIds.filter (fun k => k ∈ faulty))).port p).lane.lane k).usable = false ∧
        (((u.laneFaults p (laneIds.filter (fun k => k ∈ faulty))).port p).lane.lane k).fail = 4 := by
    have hin : k ∈ laneIds.filter (fun k => k ∈ faulty) := List.mem_filter.mpr ⟨mem_laneIds.mpr hk, decide_eq_true hmem⟩
    obtain ⟨q, hq⟩ := u.laneFaults_lane p hin hk
    rw [hq]
    exact ⟨rfl, rfl⟩
  simp only [LaneUnit.readings, Prod.mk.injEq] at hreadings
  obtain ⟨hstate, hpresent, hfails, hpoll, haddr⟩ := hreadings
  refine ⟨hstate, hpresent, hfails, hpoll, haddr ▸ hhas rfl, husable, ?_⟩
  rw [if_congr hactive rfl rfl, hu, hpane] at hlink
  exact hlink

theorem exec_opticsIbi (hreads : s.readsOptics p = true) (r : OpticsReading) : exec (.opticsIbi p r) s = .next (s.keep (s.readOptics p r)) := by
  show act (s.readsOptics p) s _ = _
  rw [hreads]
  rfl

theorem exec_opticsPoll (hreads : s.readsOptics p = true) (hpassed : s.usPassed (s.port p).lane.lastPoll 10000 = true) (r : OpticsReading) :
    exec (.opticsPoll p r) s = .next (s.keep (s.readOptics p r)) := by
  show act (s.readsOptics p && s.usPassed (s.port p).lane.lastPoll 10000) s _ = _
  rw [hreads, hpassed]
  rfl

theorem opticsMgmtRetry_tries (hlive : s.linkLive = true) (hrunning : s.lodge.running = true) (hlost : (s.port p).lane.mgmtLost = true)
    (hpassed : s.usPassed (s.port p).lane.lastPoll 1000000 = true) (a : Bool) : ∃ t, exec (.opticsMgmtRetry p a) s = .next t ∧
    (t.port p).lane = { (s.port p).lane with
      lastPoll := s.now, mgmtLost := !a, i3cFails := 0, dynAddr := (t.port p).lane.dynAddr, i3c := (t.port p).lane.i3c } ∧
    (∀ q, q ≠ p → t.port q = s.port q) ∧ t.counters = s.counters := by
  have hexec : exec (.opticsMgmtRetry p a) s = .next (s.keep (((s.assignAddr p a).i3c p [.read .lower]).modLane p (fun l => { l with
      lastPoll := s.now, mgmtLost := !a, i3cFails := 0 }))) := by
    show act (s.linkLive && s.lodge.running && (s.port p).lane.mgmtLost && s.usPassed (s.port p).lane.lastPoll 1000000) s _ = _
    rw [hlive, hrunning, hlost, hpassed]
    rfl
  obtain ⟨hassigned, addr, ops, hlane, -⟩ := s.assignAddr_onBus p a
  have hchange : s.LanesChange p (((s.assignAddr p a).i3c p [.read .lower]).modLane p (fun l => { l with
    lastPoll := s.now, mgmtLost := !a, i3cFails := 0 })) := (hassigned.trans (.of_modLane ..)).trans (.of_modLane ..)
  refine ⟨_, hexec, ?_, hchange.others, hchange.counters⟩
  rw [State.keep_port, State.modLane_port_same, State.i3c, State.modLane_port_same]
  dsimp only
  rw [hlane]
  rfl

end

/-- The part of the statement on optical engines. -/
theorem optics_read (s : State) (p : PortIx) (c : OpticsReading → Instr) (hexec : ∀ r, exec (c r) s = .next (s.keep (s.readOptics p r))) :
    let l := (s.port p).lane
    (∃ t, exec (c .failed) s = .next t ∧
      (t.port p).lane = { l with lastPoll := s.now, i3cFails := (if l.i3cFails + 1 < 3 then l.i3cFails + 1 else 0),
                                 mgmtLost := l.mgmtLost || decide (3 ≤ l.i3cFails + 1), i3c := (t.port p).lane.i3c } ∧
      ((l.dynAddr.isSome = true → (t.port p).lane.i3c = l.i3c ++ opticsPages) ∧
        (l.dynAddr = none → ∃ a, a < 128 ∧ (t.port p).lane.i3c = l.i3c ++ .setdasa (s.staticAddr p) a :: opticsPages)) ∧
      (t.port p).pane = (s.port p).pane ∧ (∀ q, q ≠ p → t.port q = s.port q) ∧ t.lodge = s.lodge) ∧
    (∀ st faulty mons, ∃ t, exec (c (.status st faulty mons)) s = .next t ∧ (t.port p).lane.moduleState = st ∧ (t.port p).lane.present = true ∧
      (t.port p).lane.i3cFails = 0 ∧ (t.port p).lane.lastPoll = s.now ∧ (t.port p).lane.dynAddr.isSome = true ∧
      (∀ k ∈ faulty, k < 13 → ((t.port p).lane.lane k).usable = false ∧ ((t.port p).lane.lane k).fail = 4) ∧
      (if s.serving p = true ∧ faulty.any (fun k => decide (k < 13) && l.active.testBit k) = true then
          (t.port p).pane.link = .retraining ∧ (t.port p).lane.causeOwn = lcLaneFail
        else (t.port p).pane = (s.port p).pane)) :=
  ⟨⟨_, hexec _, readOptics_failed s p⟩, fun st faulty mons => ⟨_, hexec _, readOptics_status s p st faulty mons⟩⟩

end Sys2Proof.Machine
end

section
/-!
PROOFS. Power domains and engine states (R470 to R475, R563), and the statement LanesOpticsAndDomains.
-/
namespace Sys2Proof.Machine

theorem Power.modEngine_same (w : Power) (e : Nat) (f : Engine → Engine) : (w.modEngine e f).engine e = f (w.engine e) := Table.get_put_same ..

theorem Power.modEngine_other (w : Power) {e d : Nat} (h : d ≠ e) (f : Engine → Engine) : (w.modEngine e f).engine d = w.engine d :=
  Table.get_put_other _ _ _ h

section
variable {s : State}

/-! ### Domains (R472, R563) -/

/-- The clocks and power once a domain is acknowledged: it is on, and an engine in it wakes. -/
def Power.acked (w : Power) (d : Nat) : Power :=
  let w1 := { w with domReqs := w.domReqs.filter (fun r => r.domain != d), domainsOn := w.domainsOn ||| (1#96 <<< d) }
  if 84 ≤ d then w1.modEngine (d - 84) (fun _ => {}) else w1

theorem Power.acked_domReqs (w : Power) (d : Nat) : (w.acked d).domReqs = w.domReqs.filter (fun r => r.domain != d) := by
  unfold Power.acked
  dsimp only
  split <;> rfl

theorem Power.acked_domainsOn (w : Power) (d : Nat) : (w.acked d).domainsOn = w.domainsOn ||| (1#96 <<< d) := by
  unfold Power.acked
  dsimp only
  split <;> rfl

theorem Power.acked_domOn_same (w : Power) {d : Nat} (hd : d < 96) : (w.acked d).domOn d = true := by
  rw [Power.domOn, Power.acked_domainsOn]
  simp [hd]

theorem Power.acked_domOn_other (w : Power) {d e : Nat} (h : e ≠ d) : (w.acked d).domOn e = w.domOn e := by
  rw [Power.domOn, Power.acked_domainsOn, Power.domOn, BitVec.getLsbD_or]
  have hshift : (1#96 <<< d).getLsbD e = false := by
    rw [BitVec.getLsbD_shiftLeft, BitVec.getLsbD_one]
    by_cases hlt : e < d
    · simp [hlt]
    · have hne : e - d ≠ 0 := by omega
      simp [hne]
  rw [hshift, Bool.or_false]

theorem Power.acked_engine (w : Power) {d : Nat} (h : 84 ≤ d) : ((w.acked d).engine (d - 84)).state = 0 := by
  rw [Power.acked, if_pos h, Power.modEngine_same]

theorem pwrmDomAck_wakes {d : Nat} (hd : d < 96) (hasked : s.power.domReqs.any (fun r => r.domain == d) = true) :
    ∃ t, exec (.pwrmDomAck d) s = .next t ∧ t.power.domReqs = s.power.domReqs.filter (fun r => r.domain != d) ∧ t.power.domOn d = true ∧
      (∀ e, e ≠ d → t.power.domOn e = s.power.domOn e) ∧ (84 ≤ d → (t.power.engine (d - 84)).state = 0) ∧
      t.ports = s.ports ∧ t.front = s.front ∧ t.counters = s.counters := by
  have hexec : exec (.pwrmDomAck d) s = .next (s.keep (s.modPower (fun w => w.acked d))) := by
    show act (s.power.domReqs.any (fun r => r.domain == d)) s _ = _
    rw [hasked]
    rfl
  exact ⟨_, hexec, s.power.acked_domReqs d, s.power.acked_domOn_same hd, fun e => s.power.acked_domOn_other, s.power.acked_engine, rfl, rfl, rfl⟩

theorem pwrmNoAck_reports {d : Nat} (hclocked : s.clocked = true)
    (hlate : s.power.domReqs.any (fun r => r.domain == d && !r.reported && s.usPassed r.since 1000) = true) :
    ∃ t, exec (.pwrmNoAck d) s = .next t ∧ t.power.domReqs = s.power.domReqs.map (fun r => if r.domain = d then { r with reported := true } else r) ∧
      t.flt.contained = true ∧ (s.flt.capture = none → t.flt.capture.map (fun c => (c.cls, c.report.cause)) = some (.contained, 0x19#8)) ∧
      t.ports = s.ports := by
  have hexec : exec (.pwrmNoAck d) s = .next (s.keep ((s.modPower (fun w => { w with
      domReqs := w.domReqs.map (fun r => if r.domain = d then { r with reported := true } else r) })).raiseContained
      (mkReport 0x19 (unit := 0x10) (engine := d)))) := by
    show act (s.clocked && _) s _ = _
    rw [hclocked, hlate]
    rfl
  refine ⟨_, hexec, ?_, State.raiseContained_contained .., fun hempty => ?_, State.raiseContained_ports ..⟩
  · rw [State.keep_power, State.raiseContained_power]
    rfl
  · rw [State.keep_flt, State.raiseContained_captures (s := s.modPower _) hempty]
    rfl

/-! ### Engines (R470, R471, R475) -/

theorem engineIdleE1_idles {e i : Nat} (hclocked : s.clocked = true) (he : e < 12) (hstate : (s.power.engine e).state = 0)
    (hidle : (s.power.engine e).idleSince = some i) (hdue : i + bits s.power.engLtr 31 16 ≤ s.now) (hwork : s.engineWork e = false) :
    ∃ t, exec (.engineIdleE1 e) s = .next t ∧ t.power.engine e = { s.power.engine e with state := 1 } ∧
      (∀ d, d ≠ e → t.power.engine d = s.power.engine d) ∧ t.ports = s.ports ∧ t.front = s.front ∧ t.counters = s.counters := by
  have hexec : exec (.engineIdleE1 e) s = .next (s.keep (s.modPower (fun w => w.modEngine e (fun q => { q with state := 1 })))) := by
    show execEngineIdleE1 e s = _
    simp only [execEngineIdleE1, hclocked, he, hstate, hidle, hdue, hwork, decide_true, beq_self_eq_true, Bool.not_false, Bool.and_self, act_due]
  exact ⟨_, hexec, Power.modEngine_same .., fun d hd => Power.modEngine_other _ hd _, rfl, rfl, rfl⟩

/-- A domain dropped changes the domains that are on and the request to PWRM, and tells PWRM of a domain that was on. -/
theorem State.dropDomain_rest (s : State) (d : Nat) : (s.dropDomain d).power.engines = s.power.engines ∧ (s.dropDomain d).front = s.front ∧
    (s.dropDomain d).counters = s.counters ∧
    (s.dropDomain d).pins.domReq = s.pins.domReq ++ (if s.power.domOn d then [{ on := false, domain := d }] else []) := by
  unfold State.dropDomain
  split
  · exact ⟨rfl, rfl, rfl, rfl⟩
  · exact ⟨rfl, rfl, rfl, (List.append_nil _).symm⟩

theorem engineDeepSleep_sleeps {e : Nat} (hclocked : s.clocked = true) (he : e < 12) (hstate : 1 ≤ (s.power.engine e).state)
    (hchoice : 2 ≤ s.engineChoice e) (hdeeper : (s.power.engine e).state < s.engineChoice e) :
    ∃ t, exec (.engineDeepSleep e) s = .next t ∧ (t.power.engine e).state = s.engineChoice e ∧ t.power.domOn (84 + e) = false ∧
      (t.ports = s.ports ∧ t.front = s.front ∧ t.counters = s.counters) ∧
      t.pins.domReq = s.pins.domReq ++ (if s.power.domOn (84 + e) then [{ on := false, domain := 84 + e }] else []) := by
  have hexec : exec (.engineDeepSleep e) s = .next (s.keep ((s.modPower (fun w => w.modEngine e (fun q => { q with
      state := s.engineChoice e }))).dropDomain (84 + e))) := by
    show execEngineDeepSleep e s = _
    simp only [execEngineDeepSleep, hclocked, he, hstate, hchoice, hdeeper, decide_true, Bool.and_self, act_due]
  obtain ⟨hengines, hfront, hcounters, hpins⟩ := (s.modPower (fun w => w.modEngine e (fun q => { q with
    state := s.engineChoice e }))).dropDomain_rest (84 + e)
  refine ⟨_, hexec, ?_, State.dropDomain_off .., ⟨State.dropDomain_ports .., hfront, hcounters⟩, hpins⟩
  rw [State.keep_power, Power.engine, hengines]
  exact congrArg Engine.state (Power.modEngine_same ..)

theorem engineWake_wakes {e : Nat} (hclocked : s.clocked = true) (he : e < 12) (hwork : s.engineWork e = true) (hstate : (s.power.engine e).state = 1) :
    ∃ t, exec (.engineWake e) s = .next t ∧ (t.power.engine e).state = 0 ∧ t.pins = s.pins ∧
      t.ports = s.ports ∧ t.front = s.front ∧ t.counters = s.counters := by
  have hexec : exec (.engineWake e) s = .next (s.keep (s.modPower (fun w => w.modEngine e (fun _ => {})))) := by
    show execEngineWake e s = _
    simp only [execEngineWake, hclocked, he, hstate, hwork, decide_true, if_true, Nat.one_lt_ofNat, Bool.true_or, Bool.and_true,
      Bool.and_self]
    rfl
  refine ⟨_, hexec, ?_, rfl, rfl, rfl, rfl⟩
  exact congrArg Engine.state (Power.modEngine_same s.power e (fun _ => {}))

theorem engineWake_asks {e : Nat} (hclocked : s.clocked = true) (he : e < 12) (hwork : s.engineWork e = true) (hstate : 2 ≤ (s.power.engine e).state)
    (hpermitted : s.workPermitted e = true) : ∃ t, exec (.engineWake e) s = .next t ∧ t.power.domReqs.any (fun r => r.domain == 84 + e) = true ∧
      t.power.engine e = { s.power.engine e with waking := some s.now } ∧ t.ports = s.ports ∧ t.front = s.front ∧ t.counters = s.counters := by
  have hexec : exec (.engineWake e) s = .next (s.keep ((s.modPower (fun w => w.modEngine e (fun q => { q with
      waking := some s.now }))).requestDomain (84 + e))) := by
    have hasleep : ((s.power.engine e).state != 0) = true := bne_iff_ne.mpr (by omega)
    have hdeep : (s.power.engine e).state ≠ 1 := by omega
    show execEngineWake e s = _
    simp only [execEngineWake, hclocked, he, hasleep, hdeep, hwork, hpermitted, decide_true, Bool.or_true, Bool.and_self, if_false, act_due]
  refine ⟨_, hexec, State.requestDomain_asks .., ?_, State.requestDomain_ports .., State.requestDomain_front .., State.requestDomain_counters ..⟩
  rw [State.keep_power, Power.engine, State.requestDomain_engines]
  exact Power.modEngine_same s.power e (fun q => { q with waking := some s.now })

end

/-- Settles O41: the lane power states, the optical engines, and the domains and engine states, each by the rules of its own operations. -/
theorem lanesOpticsAndDomains : Obligations.LanesOpticsAndDomains := by
  unfold Obligations.LanesOpticsAndDomains
  refine ⟨fun s p hlive => ⟨fun x q hserving hhead hseg hearly htaken => ?_, fun hserving hchoice => ⟨?_, ?_⟩, fun hpane => ⟨?_, ?_, ?_, ?_⟩, ?_⟩,
    fun s p => ⟨fun hreads => ?_, fun hreads hpassed => ?_, fun a hlive hrunning hlost hpassed => ?_⟩,
    fun s => ⟨fun d hd hasked => ?_, fun d hclocked hlate => ?_, fun h hclocks hfrozen => ?_, fun e i hclocked he hstate hidle hdue hwork => ?_,
      fun e hclocked he => ⟨fun hstate hchoice hdeeper => ?_, fun hwork hstate => ?_, fun hwork hstate hpermitted => ?_⟩⟩⟩
  · obtain ⟨a, ha, htakes⟩ := State.takeCtrl_taken hserving hhead hseg hearly htaken
    exact ⟨fun hcode => lpsReq_answered hlive hhead ha htakes hcode rfl rfl, fun hcode => lpsAck_enters hlive hhead ha htakes hcode rfl rfl,
      fun hcode => lpsExit_leaves hlive hhead ha htakes hcode⟩
  · exact lpsChoose_states hlive hserving hchoice
  · exact lpsChoose_wakes hlive hserving hchoice
  · exact lpsWake_leaves hlive hpane
  · exact lpsWake_widens hlive hpane
  · exact lpsWake_trains hlive hpane
  · exact lpsWake_asks hlive hpane
  · exact p3SignalReturn_leaves hlive
  · exact optics_read s p _ (exec_opticsIbi hreads)
  · exact optics_read s p _ (exec_opticsPoll hreads hpassed)
  · exact opticsMgmtRetry_tries hlive hrunning hlost hpassed a
  · exact pwrmDomAck_wakes hd hasked
  · exact pwrmNoAck_reports hclocked hlate
  · show act (!s.power.clocksLost && !s.power.frozen) s _ = _
    rw [hclocks, hfrozen]
    rfl
  · exact engineIdleE1_idles hclocked he hstate hidle hdue hwork
  · exact engineDeepSleep_sleeps hclocked he hstate hchoice hdeeper
  · exact engineWake_wakes hclocked he hwork hstate
  · exact engineWake_asks hclocked he hwork hstate hpermitted

end Sys2Proof.Machine
end

section
/-!
SUPPORT. TRAIN panes taken (R376 to R384): what each notes of the far end, and what of it a training keeps as it goes on.
-/
namespace Sys2Proof.Machine

/-! ### What is noted of the far end (R374, R377, R380) -/

/-- What a lane unit notes of the far end: its cause, its usable lanes, who leads, and its serial number. -/
def LaneUnit.farNote (l : LaneUnit) : Nat × Nat × Bool × Word := (l.causeFar, l.farUsable, l.leader, l.train.farSerial)

/-- Between two states a training goes on: the lanes and keys of one port change, and what is noted of the far end stays. -/
structure State.TrainChange (p : PortIx) (s u : State) : Prop extends State.LanesChange p s u where
  note : (u.port p).lane.farNote = (s.port p).lane.farNote

namespace State.TrainChange

variable {p : PortIx} {s u v : State}

theorem refl (p : PortIx) (s : State) : s.TrainChange p s := ⟨.refl p s, rfl⟩

theorem trans (h : s.TrainChange p u) (k : u.TrainChange p v) : s.TrainChange p v := ⟨h.toLanesChange.trans k.toLanesChange, k.note.trans h.note⟩

theorem of_modTrain (s : State) (p : PortIx) {g : Train → Train} (hg : ∀ t, (g t).farSerial = t.farSerial := by exact fun _ => rfl) :
    s.TrainChange p (s.modTrain p g) := by
  refine ⟨.of_modTrain .., ?_⟩
  rw [State.modTrain_port_same, LaneUnit.farNote, hg, LaneUnit.farNote]

theorem of_modAll (s : State) (p : PortIx) (f : Nat → Lane → Lane) : s.TrainChange p (s.modLane p (fun l => l.modAll f)) := by
  refine ⟨.of_modLane .., ?_⟩
  rw [State.modLane_port_same]
  dsimp only
  rw [LaneUnit.modAll_lanesAfter]
  generalize LaneUnit.lanesAfter _ _ = lanes
  rfl

theorem of_inRound {lanes : Table Lane} {step start now : Nat} {round : BitVec 8} (h : s.LanesChange p u)
    (hlane : (u.port p).lane = (s.port p).lane.inRound lanes step ((s.port p).lane.train.again step start now round)) : s.TrainChange p u :=
  ⟨h, by rw [hlane]; rfl⟩

theorem of_newRound (s : State) (p : PortIx) (round : BitVec 8) : s.TrainChange p (s.newRound p round) := by
  obtain ⟨lanes, hlane⟩ := s.newRound_lane p round
  exact of_inRound (s.newRound_lanesChange p round) hlane

theorem of_failAttempt (h : (s.port p).lane.train.initial = true ∨ (s.port p).lane.train.step ≠ 0) : s.TrainChange p (s.failAttempt p) := by
  obtain ⟨hchange, lanes, step, start, hlane, -⟩ := State.failAttempt_again h
  exact of_inRound hchange hlane

/-- The leader's next message leaves the link in training, but where an attempt at S0 fails. -/
theorem of_leadOn (h : (s.port p).lane.train.initial = true ∨ (s.port p).lane.train.step ≠ 0) : s.TrainChange p (s.leadOn p) := by
  rcases s.leadOn_cases p with hsame | ⟨-, -, -, hfail⟩ | ⟨phase, msg, tseq, waiting, out, hgo⟩
  · rw [hsame]
    exact refl p s
  · rw [hfail]
    exact of_failAttempt h
  · rw [hgo]
    exact of_modTrain s p

theorem leads (h : s.TrainChange p u) : u.leads p = s.leads p := by
  have hserial : (u.port p).lane.train.farSerial = (s.port p).lane.train.farSerial := congrArg (fun n => n.2.2.2) h.note
  rw [State.leads, State.leads, h.global, hserial]

end State.TrainChange

/-! ### A TRAIN pane heard (R377 to R384) -/

/-- The training that heard a TRAIN pane, where `known` is the serial number known of the far end. -/
def Train.hears (t : Train) (b : List Byte) (known : Word) : Train := { t with
  farSerial := BitVec.ofNat 64 (beAt b 4 8), farUsable := beAt b 12 2 % 8192, farSteps := bits (b.getD 14 0) 3 0, farHeard := true,
  identDue := t.identDue || (BitVec.ofNat 64 (beAt b 4 8) != known),
  authSeen := t.authSeen || bit (b.getD 1 0) 0, noAuthSeen := t.noAuthSeen || !bit (b.getD 1 0) 0,
  heard := Table.put 0 t.heard (b.headD 0).toNat (beAt b 2 2 + 1) }

/-- The lane unit that notes what a TRAIN pane says of the far end. -/
def LaneUnit.noting (l : LaneUnit) (b : List Byte) (leads : Bool) (target : Nat) : LaneUnit :=
  { l with causeFar := reasonOf (b.getD 16 0), leader := leads, target := target, farUsable := beAt b 12 2 % 8192 }

/-- The lane unit once its training heard a TRAIN pane. -/
def LaneUnit.hearing (l : LaneUnit) (b : List Byte) : LaneUnit := { l with train := l.train.hears b l.farSerial }

/-- The lane unit of a follower that enters the round it heard. -/
def LaneUnit.entering (l : LaneUnit) (b : List Byte) (lanes : Table Lane) (now : Nat) : LaneUnit :=
  (l.hearing b).inRound lanes l.train.step
    { (l.hearing b).train.again l.train.step l.train.start now (b.getD 17 0) with farUsable := beAt b 12 2 % 8192, farHeard := true }

/-- Whether this end leads by the serial number a TRAIN pane states (R380). -/
def State.leadsBy (s : State) (b : List Byte) : Bool := decide (s.global.serial.toNat < (BitVec.ofNat 64 (beAt b 4 8)).toNat)

section
variable {s : State} {p : PortIx} {b : List Byte}

/-- The state in which a TRAIN pane was heard, in the round it is of. -/
def State.heardIn (s : State) (p : PortIx) (b : List Byte) : State :=
  let s1 := s.modTrain p (fun t => t.hears b (s.port p).lane.farSerial)
  if !s1.leads p && (s1.port p).lane.train.round != b.getD 17 0 then
    (s1.newRound p (b.getD 17 0)).modTrain p (fun t => { t with farUsable := beAt b 12 2 % 8192, farHeard := true })
  else s1

theorem State.heardTrain_eq (s : State) (p : PortIx) (b : List Byte) : s.heardTrain p b =
    (s.heardIn p b).modLane p (fun l => l.noting b ((s.heardIn p b).leads p) ((s.heardIn p b).targetStep p)) := rfl

/-- A follower enters the round heard. -/
theorem State.heardIn_lane (s : State) (p : PortIx) (b : List Byte) : s.LanesChange p (s.heardIn p b) ∧
    (((s.heardIn p b).port p).lane = (s.port p).lane.hearing b ∨ (s.leadsBy b = false ∧ (s.port p).lane.train.round ≠ b.getD 17 0 ∧
      ∃ lanes, ((s.heardIn p b).port p).lane = (s.port p).lane.entering b lanes s.now)) := by
  have hlane : ((s.modTrain p (fun t => t.hears b (s.port p).lane.farSerial)).port p).lane = (s.port p).lane.hearing b := by
    rw [State.modTrain_port_same, LaneUnit.hearing]
  have hhears : s.LanesChange p (s.modTrain p (fun t => t.hears b (s.port p).lane.farSerial)) := .of_modTrain ..
  have hleads : (s.modTrain p (fun t => t.hears b (s.port p).lane.farSerial)).leads p = s.leadsBy b := by
    rw [State.leads, hlane, hhears.global]
    rfl
  unfold State.heardIn
  dsimp only
  rw [hleads, hlane]
  split
  case isTrue hfollows =>
    obtain ⟨hfollows, hround⟩ := Bool.and_eq_true_iff.mp hfollows
    obtain ⟨lanes, hentered⟩ := (s.modTrain p (fun t => t.hears b (s.port p).lane.farSerial)).newRound_lane p (b.getD 17 0)
    refine ⟨(hhears.trans (State.newRound_lanesChange ..)).trans (.of_modTrain ..), .inr ⟨(Bool.not_eq_true' _).mp hfollows, bne_iff_ne.mp hround, lanes, ?_⟩⟩
    rw [State.modTrain_port_same, hentered, hlane]
    rfl
  case isFalse => exact ⟨hhears, .inl hlane⟩

/-- Every end notes what it heard. -/
theorem State.heardTrain_lane (s : State) (p : PortIx) (b : List Byte) : ∃ l target,
    ((s.heardTrain p b).port p).lane = l.noting b (s.leadsBy b) target ∧ (l = (s.port p).lane.hearing b ∨
      (s.leadsBy b = false ∧ (s.port p).lane.train.round ≠ b.getD 17 0 ∧ ∃ lanes, l = (s.port p).lane.entering b lanes s.now)) := by
  obtain ⟨hchange, hlane⟩ := s.heardIn_lane p b
  have hserial : ((s.heardIn p b).port p).lane.train.farSerial = BitVec.ofNat 64 (beAt b 4 8) := by
    rcases hlane with hlane | ⟨-, -, lanes, hlane⟩
    · rw [hlane]
      rfl
    · rw [hlane]
      rfl
  refine ⟨_, (s.heardIn p b).targetStep p, ?_, hlane⟩
  rw [State.heardTrain_eq, State.modLane_port_same, State.leads, hserial, hchange.global]
  rfl

theorem State.heardTrain_lanesChange (s : State) (p : PortIx) (b : List Byte) : s.LanesChange p (s.heardTrain p b) := by
  rw [State.heardTrain_eq]
  exact (s.heardIn_lane p b).1.trans (.of_modLane ..)

/-- What is noted of the far end once a TRAIN pane was heard. -/
theorem State.heardTrain_note (s : State) (p : PortIx) (b : List Byte) : ((s.heardTrain p b).port p).lane.farNote =
    (reasonOf (b.getD 16 0), beAt b 12 2 % 8192, s.leadsBy b, BitVec.ofNat 64 (beAt b 4 8)) := by
  obtain ⟨l, target, hlane, rfl | ⟨-, -, lanes, rfl⟩⟩ := s.heardTrain_lane p b
  · rw [hlane]
    rfl
  · rw [hlane]
    rfl

theorem State.heardTrain_leads (s : State) (p : PortIx) (b : List Byte) : (s.heardTrain p b).leads p = s.leadsBy b := by
  have hserial : ((s.heardTrain p b).port p).lane.train.farSerial = BitVec.ofNat 64 (beAt b 4 8) := congrArg (fun n => n.2.2.2) (s.heardTrain_note p b)
  rw [State.leads, hserial, (s.heardTrain_lanesChange p b).global]
  rfl

/-- An attempt that may be taken again may be so once a TRAIN pane was heard. -/
theorem State.heardTrain_again (h : (s.port p).lane.train.initial = true ∨ (s.port p).lane.train.step ≠ 0) :
    ((s.heardTrain p b).port p).lane.train.initial = true ∨ ((s.heardTrain p b).port p).lane.train.step ≠ 0 := by
  obtain ⟨l, target, hlane, rfl | ⟨-, -, lanes, rfl⟩⟩ := s.heardTrain_lane p b
  · rw [hlane]
    exact h
  · rw [hlane]
    exact h

/-- A training that has just begun has yet to send its message once a TRAIN pane was heard. -/
theorem State.heardTrain_begun (hphase : (s.port p).lane.train.phase = .lock) (hout : (s.port p).lane.train.out = false) :
    ((s.heardTrain p b).port p).lane.train.phase = .lock ∧ ((s.heardTrain p b).port p).lane.train.out = false ∧
      ((s.heardTrain p b).port p).lane.causeOwn = (s.port p).lane.causeOwn := by
  obtain ⟨l, target, hlane, rfl | ⟨-, -, lanes, rfl⟩⟩ := s.heardTrain_lane p b
  · rw [hlane]
    exact ⟨hphase, hout, rfl⟩
  · rw [hlane]
    exact ⟨rfl, rfl, rfl⟩

/-- A pane of the round in progress is heard in it. -/
theorem State.heardTrain_ours (hours : s.leadsBy b = true ∨ (s.port p).lane.train.round = b.getD 17 0) : ∃ target,
    ((s.heardTrain p b).port p).lane = ((s.port p).lane.hearing b).noting b (s.leadsBy b) target := by
  obtain ⟨l, target, hlane, rfl | ⟨hfollows, hround, -⟩⟩ := s.heardTrain_lane p b
  · exact ⟨target, hlane⟩
  · rcases hours with hleads | hsame
    · exact absurd (hfollows.symm.trans hleads) Bool.false_ne_true
    · exact absurd hsame hround

end

end Sys2Proof.Machine
end

section
/-!
PROOFS. TRAIN messages that agree on a configuration (R376, R380 to R384): the first part of the statement TrainingMessages.
-/
namespace Sys2Proof.Machine

section
variable {s : State} {p : PortIx} {x : RxPane}

/-! ### TRAIN panes at the head (R376, R384) -/

theorem act_trainHead (hlive : s.linkLive = true) {code : Nat} (hcode : s.trainHead p code = true) (t : State) :
    act (s.linkLive && s.trainHead p code) s t = .next (s.keep t) := by
  rw [hlive, hcode]
  rfl

theorem State.trainHead_code (hhead : s.rxHead p ptTrain = some x) {code : Nat} (h : s.trainHead p code = true) : (x.body.headD 0).toNat = code := by
  rw [State.trainHead, hhead] at h
  exact beq_iff_eq.mp h

theorem State.rxPop_lane (s : State) (p : PortIx) : ((s.rxPop p).port p).lane = (s.port p).lane := by
  rw [State.rxPop, State.modPane_port_same]

theorem State.rxPop_link (s : State) (p : PortIx) : ((s.rxPop p).port p).pane.link = (s.port p).pane.link := by
  rw [State.rxPop, State.modPane_port_same]

/-- A message not heard before, in a training, is heard and acted on, and the leader may go on. -/
theorem State.takeTrain_fresh (hhead : s.rxHead p ptTrain = some x) {code : Nat} (hcode : s.trainHead p code = true) (htraining : s.inTraining p = true)
    (hfresh : (s.port p).lane.train.repeats (x.body.headD 0).toNat (beAt x.body 2 2) = false) (f : List Byte → State → State) :
    s.takeTrain p code f = (f x.body ((s.rxPop p).heardTrain p x.body)).leadOn p := by
  have hpopped : (s.rxPop p).inTraining p = true := by rwa [State.inTraining, s.rxPop_link p]
  rw [State.trainHead_code hhead hcode] at hfresh
  unfold State.takeTrain
  rw [hhead]
  dsimp only
  rw [State.serving_of_inTraining hpopped, Bool.false_and, if_neg Bool.false_ne_true, if_pos hpopped, State.rxPop_lane, hfresh, if_neg Bool.false_ne_true]

/-- A training that goes on from a TRAIN pane heard leaves the link as it was, and what the pane says of the far end noted. -/
theorem State.TrainChange.noted {b : List Byte} {t : State} (h : ((s.rxPop p).heardTrain p b).TrainChange p t) :
    ((s.keep t).port p).pane.link = (s.port p).pane.link ∧ ((s.keep t).port p).lane.causeFar = reasonOf (b.getD 16 0) ∧
      ((s.keep t).port p).lane.farUsable = beAt b 12 2 % 8192 ∧
      ((s.keep t).port p).lane.leader = decide (s.global.serial.toNat < (BitVec.ofNat 64 (beAt b 4 8)).toNat) ∧
      ((s.keep t).port p).pane.rxq = (s.port p).pane.rxq.drop 1 ∧ (s.keep t).front = s.front ∧ (s.keep t).xfer = s.xfer ∧
      (s.keep t).counters = s.counters := by
  have hchange : (s.rxPop p).LanesChange p t := ((s.rxPop p).heardTrain_lanesChange p b).trans h.toLanesChange
  have hnote := h.note.trans ((s.rxPop p).heardTrain_note p b)
  simp only [LaneUnit.farNote, Prod.mk.injEq] at hnote
  obtain ⟨hcause, husable, hleader, -⟩ := hnote
  rw [State.keep_port, State.keep_front, State.keep_xfer, State.keep_counters]
  refine ⟨hchange.link.trans (s.rxPop_link p), hcause, husable, hleader, ?_, hchange.front, hchange.xfer, hchange.counters⟩
  rw [hchange.pane, State.rxPop, State.modPane_port_same]

/-! ### HELLO and RETRAIN (R382 to R384) -/

/-- HELLO and RETRAIN begin a new round where this end leads and has left the first phase. -/
theorem State.takeHello_trainChange (s : State) (p : PortIx) : s.TrainChange p (s.takeHello p) := by
  unfold State.takeHello
  split
  · exact .of_newRound ..
  · exact .refl p s

theorem State.takeHello_again (h : (s.port p).lane.train.initial = true ∨ (s.port p).lane.train.step ≠ 0) :
    ((s.takeHello p).port p).lane.train.initial = true ∨ ((s.takeHello p).port p).lane.train.step ≠ 0 := by
  unfold State.takeHello
  split
  · obtain ⟨lanes, hlane⟩ := s.newRound_lane p ((s.port p).lane.train.round + 1)
    rw [hlane]
    exact h
  · exact h

theorem State.takeHello_lock (h : (s.port p).lane.train.phase = .lock) : s.takeHello p = s := by
  refine if_neg ?_
  rw [h, bne_self_eq_false, Bool.and_false]
  exact Bool.false_ne_true

/-- In service the link first retrains, and a training that has just begun has nothing to do but note what it heard. -/
theorem State.takeTrain_serving (hhead : s.rxHead p ptTrain = some x) (hserving : s.serving p = true) {code : Nat}
    (hhello : code = tmHello ∨ code = tmRetrain) : s.takeTrain p code (fun _ t => t.takeHello p) =
      ((s.rxPop p).retrainWith p 0 (reasonOf (x.body.getD 16 0))).heardTrain p x.body := by
  have hpopped : (s.rxPop p).serving p = true := by rwa [State.serving, s.rxPop_link p]
  have hcalls : (code != tmHello && code != tmRetrain) = false := by rcases hhello with rfl | rfl <;> rfl
  obtain ⟨hpane, -⟩ := (s.rxPop p).retrainWith_serving p 0 (reasonOf (x.body.getD 16 0)) hpopped
  obtain ⟨e, lanes, hlane⟩ := State.retrainWith_lane hpopped 0 (reasonOf (x.body.getD 16 0))
  have htraining : ((s.rxPop p).retrainWith p 0 (reasonOf (x.body.getD 16 0))).inTraining p = true := by
    rw [State.inTraining, hpane]
    rfl
  obtain ⟨hlock, hout, -⟩ := State.heardTrain_begun (s := (s.rxPop p).retrainWith p 0 (reasonOf (x.body.getD 16 0))) (p := p) (b := x.body)
    (by rw [hlane]; rfl) (by rw [hlane]; rfl)
  unfold State.takeTrain
  rw [hhead]
  dsimp only
  rw [hcalls, Bool.false_and, hpopped, Bool.not_false, Bool.and_true, if_pos rfl, if_pos htraining, State.takeHello_lock hlock, ite_self,
    State.leadOn_unsent hout]

/-- In service HELLO and RETRAIN take the link to RETRAINING with the far end's cause; in training they are noted. -/
theorem hello_begins (hhead : s.rxHead p ptTrain = some x) {code : Nat} (hcode : s.trainHead p code = true) (hhello : code = tmHello ∨ code = tmRetrain)
    {c : Instr} (hexec : exec c s = .next (s.keep (s.takeTrain p code (fun _ t => t.takeHello p)))) :
    (s.serving p = true → ∃ t, exec c s = .next t ∧ (t.port p).pane.link = .retraining ∧ (t.port p).lane.causeOwn = 0 ∧
      (t.port p).lane.causeFar = reasonOf (x.body.getD 16 0) ∧ t.front = s.front) ∧
    (s.inTraining p = true ∧ (s.port p).lane.train.repeats (x.body.headD 0).toNat (beAt x.body 2 2) = false ∧
        ((s.port p).lane.train.initial = true ∨ (s.port p).lane.train.step ≠ 0) →
      ∃ t, exec c s = .next t ∧ (t.port p).pane.link = (s.port p).pane.link ∧ (t.port p).lane.causeFar = reasonOf (x.body.getD 16 0) ∧
        (t.port p).lane.farUsable = beAt x.body 12 2 % 8192 ∧
        (t.port p).lane.leader = decide (s.global.serial.toNat < (BitVec.ofNat 64 (beAt x.body 4 8)).toNat) ∧
        (t.port p).pane.rxq = (s.port p).pane.rxq.drop 1 ∧ t.front = s.front ∧ t.xfer = s.xfer ∧ t.counters = s.counters) := by
  refine ⟨fun hserving => ⟨_, hexec, ?_⟩, fun ⟨htraining, hfresh, hagain⟩ => ⟨_, hexec, ?_⟩⟩
  · rw [State.takeTrain_serving hhead hserving hhello]
    have hpopped : (s.rxPop p).serving p = true := by rwa [State.serving, s.rxPop_link p]
    obtain ⟨hpane, hown⟩ := (s.rxPop p).retrainWith_serving p 0 (reasonOf (x.body.getD 16 0)) hpopped
    obtain ⟨e, lanes, hlane⟩ := State.retrainWith_lane hpopped 0 (reasonOf (x.body.getD 16 0))
    obtain ⟨-, -, hcause⟩ := State.heardTrain_begun (s := (s.rxPop p).retrainWith p 0 (reasonOf (x.body.getD 16 0))) (p := p) (b := x.body)
      (by rw [hlane]; rfl) (by rw [hlane]; rfl)
    have hheard := ((s.rxPop p).retrainWith p 0 (reasonOf (x.body.getD 16 0))).heardTrain_lanesChange p x.body
    rw [State.keep_port, State.keep_front, hheard.link, hpane, hcause, hown, hheard.front]
    exact ⟨rfl, rfl, congrArg (fun n => n.1) (State.heardTrain_note ..), ((s.rxPop p).retrainWith_onlyPort p 0 _).front⟩
  · rw [State.takeTrain_fresh hhead hcode htraining hfresh]
    refine State.TrainChange.noted (((s.rxPop p).heardTrain p x.body).takeHello_trainChange p |>.trans (.of_leadOn ?_))
    exact State.takeHello_again (State.heardTrain_again (by rwa [State.rxPop_lane]))

/-! ### Configurations (R381, R382) -/

/-- A configuration taken leaves the link in training. -/
theorem State.configured_trainChange (s : State) (p : PortIx) (c : TrainCfg) (leader : Bool) : s.TrainChange p (s.configured p c leader) := by
  unfold State.configured
  dsimp only
  split
  · split
    · exact .trans (.trans (.of_modTrain ..) (.of_modTrain ..)) (.of_modTrain ..)
    · exact .of_modTrain ..
  · have hlanes (b : Bool) (f : Nat → Lane → Lane) : s.TrainChange p (if b then s.modLane p (fun l => l.modAll f) else s) := by
      cases b
      · exact .refl p s
      · exact .of_modAll ..
    split
    · exact (hlanes ..).trans (.of_modTrain ..)
    split
    · exact ((hlanes ..).trans (.of_modTrain ..)).trans (.of_modTrain ..)
    · exact ((hlanes ..).trans (.of_modTrain ..)).trans (.of_modTrain ..)

theorem config_answered (hlive : s.linkLive = true) (hhead : s.rxHead p ptTrain = some x) (hcode : s.trainHead p tmConfig = true)
    (htraining : s.inTraining p = true) (hfresh : (s.port p).lane.train.repeats (x.body.headD 0).toNat (beAt x.body 2 2) = false)
    (hfollows : ((s.rxPop p).heardTrain p x.body).leads p = false) :
    ∃ t, exec (.config p) s = .next (s.keep t) ∧ ((s.rxPop p).heardTrain p x.body).TrainChange p t ∧
      (t.port p).lane.train.msg.map (fun m => (m.code, m.reject, m.args)) = some (tmConfigAck,
        decide (((s.rxPop p).heardTrain p x.body).nextCfg p ≠ some (TrainCfg.ofBody x.body)), slice x.body 24 5) := by
  have hexec : exec (.config p) s = .next (s.keep ((((s.rxPop p).heardTrain p x.body).takeConfig p x.body).leadOn p)) :=
    (act_trainHead hlive hcode _).trans (by rw [State.takeTrain_fresh hhead hcode htraining hfresh])
  generalize (s.rxPop p).heardTrain p x.body = h at *
  have hanswer (reject : Bool) {u : State} (hu : h.TrainChange p u) : h.TrainChange p (u.say p tmConfigAck (slice x.body 24 5) reject) ∧
      (u.say p tmConfigAck (slice x.body 24 5) reject).leadOn p = u.say p tmConfigAck (slice x.body 24 5) reject ∧
      ((u.say p tmConfigAck (slice x.body 24 5) reject).port p).lane.train.msg.map (fun m => (m.code, m.reject, m.args)) =
        some (tmConfigAck, reject, slice x.body 24 5) := by
    have hsaid := hu.trans (.of_modTrain u p (g := fun t => { t.say tmConfigAck (slice x.body 24 5) reject with waiting := none }))
    refine ⟨hsaid, State.leadOn_follower (hsaid.leads.trans hfollows), ?_⟩
    rw [State.say, State.modTrain_port_same]
    rfl
  by_cases hsame : h.nextCfg p = some (TrainCfg.ofBody x.body)
  · obtain ⟨hchange, hwaits, hmsg⟩ := hanswer false (h.configured_trainChange p (TrainCfg.ofBody x.body) false)
    have htake : h.takeConfig p x.body = (h.configured p (TrainCfg.ofBody x.body) false).say p tmConfigAck (slice x.body 24 5) := by
      rw [State.takeConfig, if_neg (Bool.eq_false_iff.mp hfollows), if_pos (beq_iff_eq.mpr hsame)]
    rw [htake, hwaits] at hexec
    exact ⟨_, hexec, hchange, by rw [hmsg, decide_eq_false (not_not.mpr hsame)]⟩
  · obtain ⟨hchange, hwaits, hmsg⟩ := hanswer true (.refl p h)
    have htake : h.takeConfig p x.body = h.say p tmConfigAck (slice x.body 24 5) true := by
      rw [State.takeConfig, if_neg (Bool.eq_false_iff.mp hfollows), if_neg (fun h => hsame (beq_iff_eq.mp h))]
    rw [htake, hwaits] at hexec
    exact ⟨_, hexec, hchange, by rw [hmsg, decide_eq_true hsame]⟩

/-! ### CONFIG_ACK (R382) -/

/-- A configuration the leader holds with ACTION 1 is followed by READY. -/
theorem State.configured_service (s : State) (p : PortIx) {c : TrainCfg} (h : c.action = 1) : ∃ t,
    ((s.configured p c true).port p).lane = { (s.port p).lane with train := t } ∧ t.phase = .service ∧ t.msg.map TrainMsg.code = some tmReady ∧
      t.cfg = c := by
  unfold State.configured
  dsimp only
  rw [if_pos h, if_pos rfl, State.modTrain_port_same, State.say, State.modTrain_port_same, State.modTrain_port_same]
  exact ⟨_, rfl, rfl, rfl, rfl⟩

/-- Any other is followed by the identity exchange or by GO, which wait for their answers. -/
theorem State.configured_step (s : State) (p : PortIx) {c : TrainCfg} (h : c.action ≠ 1) : ∃ lanes t,
    ((s.configured p c true).port p).lane = { (s.port p).lane with lanes := lanes, train := t } ∧ t.waiting = some s.now ∧
      t.msg.map TrainMsg.code = some (if t.phase = .ident then tmIdent else tmGo) ∧ t.cfg = c := by
  have hlanes (b : Bool) (f : Nat → Lane → Lane) : ∃ lanes, ((if b then s.modLane p (fun l => l.modAll f) else s).port p).lane =
      { (s.port p).lane with lanes := lanes } ∧ (if b then s.modLane p (fun l => l.modAll f) else s).now = s.now := by
    cases b
    · exact ⟨_, rfl, rfl⟩
    · rw [if_pos rfl, State.modLane_port_same]
      dsimp only
      rw [LaneUnit.modAll_lanesAfter]
      exact ⟨_, rfl, rfl⟩
  obtain ⟨lanes, hlane, hnow⟩ := hlanes ((s.port p).lane.train.phase == .lock) (fun _ q => if !q.usable && q.fail = 0 then { q with fail := 1 } else q)
  unfold State.configured
  dsimp only
  generalize ((if (s.port p).lane.train.phase == .lock then s.modLane p (fun l => l.modAll (fun _ q =>
    if !q.usable && q.fail = 0 then { q with fail := 1 } else q)) else s) : State) = u at hlane hnow ⊢
  rw [if_neg h, Bool.not_true, if_neg Bool.false_ne_true]
  split
  case isTrue =>
    rw [State.ask, State.modTrain_port_same, State.modTrain_port_same, hlane]
    exact ⟨lanes, _, rfl, congrArg some hnow, rfl, rfl⟩
  case isFalse =>
    rw [State.ask, State.modTrain_port_same, State.modTrain_port_same, hlane]
    exact ⟨lanes, _, rfl, congrArg some hnow, rfl, rfl⟩

section
variable (hlive : s.linkLive = true) (hhead : s.rxHead p ptTrain = some x) (hcode : s.trainHead p tmConfigAck = true)
  (htraining : s.inTraining p = true) (hfresh : (s.port p).lane.train.repeats (x.body.headD 0).toNat (beAt x.body 2 2) = false)
  (hleads : ((s.rxPop p).heardTrain p x.body).leads p = true) {m : TrainMsg} (hmsg : (s.port p).lane.train.msg = some m) (hconfig : m.code = tmConfig)
include hlive hhead hcode htraining hfresh hleads hmsg hconfig

/-- The leader takes a CONFIG_ACK for the CONFIG it said: REJECT begins a round, and a copy is taken. -/
theorem exec_configAck : exec (.configAck p) s = .next (s.keep ((if bit (x.body.getD 1 0) 1 then
      ((s.rxPop p).heardTrain p x.body).newRound p ((((s.rxPop p).heardTrain p x.body).port p).lane.train.round + 1)
    else if slice x.body 24 5 == m.args then ((s.rxPop p).heardTrain p x.body).configured p (TrainCfg.ofBody x.body) true
    else (s.rxPop p).heardTrain p x.body).leadOn p)) := by
  obtain ⟨target, hlane⟩ := State.heardTrain_ours (s := s.rxPop p) (p := p) (b := x.body) (.inl ((State.heardTrain_leads ..).symm.trans hleads))
  have hsaid : (((s.rxPop p).heardTrain p x.body).port p).lane.train.msg = some m := by
    rw [hlane, State.rxPop_lane]
    exact hmsg
  have hexec : exec (.configAck p) s = .next (s.keep ((((s.rxPop p).heardTrain p x.body).takeConfigAck p x.body).leadOn p)) :=
    (act_trainHead hlive hcode _).trans (by rw [State.takeTrain_fresh hhead hcode htraining hfresh])
  rw [hexec, State.takeConfigAck, hsaid]
  dsimp only
  rw [hleads, hconfig, bne_self_eq_false]
  rfl

theorem configAck_rejected (hreject : bit (x.body.getD 1 0) 1 = true) : ∃ t, exec (.configAck p) s = .next (s.keep t) ∧
    ((s.rxPop p).heardTrain p x.body).TrainChange p t ∧ (t.port p).lane.train.round = (s.port p).lane.train.round + 1 ∧
    (t.port p).lane.train.phase = .lock ∧
    (t.port p).lane.train.msg.map TrainMsg.code = some (if (s.port p).lane.train.initial then tmHello else tmRetrain) := by
  obtain ⟨target, hlane⟩ := State.heardTrain_ours (s := s.rxPop p) (p := p) (b := x.body) (.inl ((State.heardTrain_leads ..).symm.trans hleads))
  obtain ⟨lanes, hround⟩ := ((s.rxPop p).heardTrain p x.body).newRound_lane p ((((s.rxPop p).heardTrain p x.body).port p).lane.train.round + 1)
  have hexec := exec_configAck hlive hhead hcode htraining hfresh hleads hmsg hconfig
  rw [if_pos hreject, State.leadOn_unsent (by rw [hround]; rfl)] at hexec
  refine ⟨_, hexec, .of_newRound .., ?_⟩
  rw [hround, hlane, State.rxPop_lane]
  exact ⟨rfl, rfl, rfl⟩

theorem configAck_copied (haccept : bit (x.body.getD 1 0) 1 = false) (hcopy : slice x.body 24 5 = m.args) :
    ∃ t, exec (.configAck p) s = .next (s.keep t) ∧ ((s.rxPop p).heardTrain p x.body).TrainChange p t ∧
      ((TrainCfg.ofBody x.body).action = 1 → (t.port p).lane.train.phase = .service ∧ (t.port p).lane.train.msg.map TrainMsg.code = some tmReady) ∧
      ((TrainCfg.ofBody x.body).action ≠ 1 → (t.port p).lane.train.waiting = some s.now ∧ (t.port p).lane.train.msg.map TrainMsg.code =
        some (if (t.port p).lane.train.phase = .ident then tmIdent else tmGo)) ∧
      (t.port p).lane.train.cfg = TrainCfg.ofBody x.body := by
  have hexec := exec_configAck hlive hhead hcode htraining hfresh hleads hmsg hconfig
  rw [if_neg (Bool.eq_false_iff.mp haccept), if_pos (beq_iff_eq.mpr hcopy)] at hexec
  have hnow : ((s.rxPop p).heardTrain p x.body).now = s.now := ((s.rxPop p).heardTrain_lanesChange p x.body).now
  by_cases haction : (TrainCfg.ofBody x.body).action = 1
  · obtain ⟨t, hlane, hphase, hready, hcfg⟩ := ((s.rxPop p).heardTrain p x.body).configured_service p haction
    have hwaits := State.leadOn_phase (s := ((s.rxPop p).heardTrain p x.body).configured p (TrainCfg.ofBody x.body) true) (p := p)
      (by rw [hlane, hphase]; decide) (by rw [hlane, hphase]; decide) (by rw [hlane, hphase]; decide)
    rw [hwaits] at hexec
    refine ⟨_, hexec, State.configured_trainChange .., ?_⟩
    rw [hlane]
    exact ⟨fun _ => ⟨hphase, hready⟩, fun hnot => absurd haction hnot, hcfg⟩
  · obtain ⟨lanes, t, hlane, hwaiting, hsaid, hcfg⟩ := ((s.rxPop p).heardTrain p x.body).configured_step p haction
    have hwaits := State.leadOn_awaiting (s := ((s.rxPop p).heardTrain p x.body).configured p (TrainCfg.ofBody x.body) true) (p := p)
      (by rw [hlane]; exact hwaiting)
    rw [hwaits] at hexec
    refine ⟨_, hexec, State.configured_trainChange .., ?_⟩
    rw [hlane]
    exact ⟨fun h => absurd h haction, fun _ => ⟨hwaiting.trans (congrArg some hnow), hsaid⟩, hcfg⟩

end

end

end Sys2Proof.Machine
end

section
/-!
PROOFS. The identity exchange of a training (R409 to R411): the second part of the statement TrainingMessages.
-/
namespace Sys2Proof.Machine

section
variable {s : State} {p : PortIx}

/-! ### The leader after the lock and before the last judgement (R382) -/

/-- Outside the first phase and the last the leader's attempt does not fail. -/
theorem State.leadOn_goesOn (hlock : (s.port p).lane.train.phase ≠ .lock) (hdone : (s.port p).lane.train.phase ≠ .done) :
    s.LanesChange p (s.leadOn p) ∧ ∃ phase msg tseq waiting out,
      ((s.leadOn p).port p).lane = { (s.port p).lane with train := (s.port p).lane.train.goesOn phase msg tseq waiting out } := by
  rcases s.leadOn_cases p with hsame | ⟨hphase, -⟩ | ⟨phase, msg, tseq, waiting, out, hgo⟩
  · rw [hsame]
    exact ⟨.refl p s, (s.port p).lane.train.phase, (s.port p).lane.train.msg, (s.port p).lane.train.tseq, (s.port p).lane.train.waiting,
      (s.port p).lane.train.out, rfl⟩
  · exact absurd hphase (not_or.mpr ⟨hlock, hdone⟩)
  · rw [hgo, State.modTrain_port_same]
    exact ⟨.of_modTrain .., phase, msg, tseq, waiting, out, rfl⟩

/-! ### Ports disabled (R411, R442) -/

/-- A slot taken by a message of a training. -/
theorem State.slotTraining_port (s : State) (p : PortIx) : ∃ items n scr k out, (s.slotTraining p).port p = { s.port p with
    pane := { (s.port p).pane with sent := items, sinceVector := n },
    lane := { (s.port p).lane with txScr := scr, train := { (s.port p).lane.train with out := out } },
    keys := { (s.port p).keys with slot := k } } := by
  unfold State.slotTraining
  dsimp only
  split
  · exact ⟨_, _, _, _, _, rfl⟩
  · rw [State.modTrain_port_same]
    obtain ⟨items, scr, hport⟩ := s.emit_port_same p (mkPaneHdr ptTrain 0 0 0 0 0 0 0) _ false
    rw [hport]
    exact ⟨_, _, _, _, _, rfl⟩

theorem State.emit_rest (s : State) (p : PortIx) (h : Word) (body : List Byte) :
    (s.emit p h body).topo = s.topo ∧ (s.emit p h body).front = s.front ∧ (s.emit p h body).now = s.now := ⟨rfl, rfl, rfl⟩

theorem State.modTrain_rest (s : State) (p : PortIx) (g : Train → Train) :
    (s.modTrain p g).topo = s.topo ∧ (s.modTrain p g).front = s.front ∧ (s.modTrain p g).now = s.now := ⟨rfl, rfl, rfl⟩

theorem State.slotTraining_rest (s : State) (p : PortIx) :
    (s.slotTraining p).topo = s.topo ∧ (s.slotTraining p).front = s.front ∧ (s.slotTraining p).now = s.now := by
  unfold State.slotTraining
  dsimp only
  split
  · exact ⟨rfl, rfl, rfl⟩
  · obtain ⟨htopo, hfront, hnow⟩ := s.emit_rest p (mkPaneHdr ptTrain 0 0 0 0 0 0 0) _
    obtain ⟨htopo', hfront', hnow'⟩ := State.modTrain_rest _ p _
    exact ⟨htopo'.trans htopo, hfront'.trans hfront, hnow'.trans hnow⟩

theorem State.answerNow_keeps (s : State) (p : PortIx) : (s.answerNow p).topo = s.topo ∧
    ((s.answerNow p).port p).pane.rxq = (s.port p).pane.rxq := by
  obtain ⟨items, n, scr, k, out, hport⟩ := (s.modTrain p (fun t => { t with msg := t.ans, ans := none })).slotTraining_port p
  refine ⟨(State.slotTraining_rest ..).1, ?_⟩
  rw [State.answerNow, hport, State.modTrain_port_same]

@[simp] theorem State.modTPort_port (s : State) (p : PortIx) (f : TopoPort → TopoPort) (q : PortIx) : (s.modTPort p f).port q = s.port q := rfl

theorem State.modTPort_tport (s : State) (p : PortIx) (f : TopoPort → TopoPort) : (s.modTPort p f).topo.port p = f (s.topo.port p) := Table.get_put_same ..

/-- The node's own record of a missing link leaves what the tables say of the ports. -/
theorem State.markMissing_keeps (s : State) (p : PortIx) : (s.markMissing p).topo.ports = s.topo.ports ∧ (s.markMissing p).ports = s.ports := by
  unfold State.markMissing
  split
  · exact ⟨rfl, rfl⟩
  · exact ⟨Topo.settle_ports _, rfl⟩

/-- A port disabled is DOWN with ENABLE 0, and its table entry says so. -/
theorem State.disablePort_disables (s : State) (p : PortIx) (miswired : Bool) : ((s.disablePort p miswired).port p).pane.link = .down ∧
    ((s.disablePort p miswired).port p).lane.enabled = false ∧
    (s.disablePort p miswired).topo.port p = { s.topo.port p with disabled := true, miswired := miswired } ∧
    ((s.disablePort p miswired).port p).pane.rxq = (s.port p).pane.rxq := by
  have hdisabled : s.disablePort p miswired = ((((((s.modLane p (fun l => { l with trainCtl := l.trainCtl &&& ~~~1#64 })).enterDown p 0).modKeys p
      (fun k => { k with disabled := true })).modTPort p (fun q => { q with disabled := true, miswired := miswired })).markMissing p).raiseContained
        (mkReport 0x1A (unit := 0x0C) (engine := p.val))) := rfl
  obtain ⟨e, hlane⟩ := (s.modLane p (fun l => { l with trainCtl := l.trainCtl &&& ~~~1#64 })).enterDown_lane p 0
  have hpane := (s.modLane p (fun l => { l with trainCtl := l.trainCtl &&& ~~~1#64 })).enterDown_pane p 0
  have htports := (s.modLane p (fun l => { l with trainCtl := l.trainCtl &&& ~~~1#64 })).enterDown_tports p 0
  rw [State.modLane_port_same] at hlane hpane
  rw [hdisabled]
  generalize (s.modLane p (fun l => { l with trainCtl := l.trainCtl &&& ~~~1#64 })).enterDown p 0 = u at *
  obtain ⟨hmissing, hports⟩ := ((u.modKeys p (fun k => { k with disabled := true })).modTPort p (fun q => { q with
    disabled := true, miswired := miswired })).markMissing_keeps p
  rw [State.raiseContained_port, State.port_congr hports]
  rw [State.modTPort_port, State.modKeys_port_same]
  refine ⟨(congrArg Pane.link hpane :), ?_, ?_, (congrArg Pane.rxq hpane :)⟩
  · dsimp only
    rw [hlane]
    exact bit_without_one _
  · rw [State.raiseContained_topo, Topo.port, hmissing]
    refine (Table.get_put_same ..).trans ?_
    rw [Topo.port, Topo.port]
    exact congrArg (fun t => ({ Table.get {} t p.val with disabled := true, miswired := miswired } : TopoPort)) htports

/-! ### Results judged (R411) -/

/-- A port whose two results are not both MATCH. -/
theorem State.judgeIdent_disables {a b : Nat} (hown : (s.port p).lane.train.identOwn = some a) (hfar : (s.port p).lane.train.identFar = some b)
    (h : ¬ (a = 1 ∧ b = 1)) : (((s.judgeIdent p).leadOn p).port p).pane.link = .down ∧ (((s.judgeIdent p).leadOn p).port p).lane.enabled = false ∧
      ((s.judgeIdent p).leadOn p).topo.port p = { s.topo.port p with disabled := true, miswired := true } ∧
      (((s.judgeIdent p).leadOn p).port p).pane.rxq = (s.port p).pane.rxq := by
  have hjudge : s.judgeIdent p = (if (s.port p).lane.train.ans.isSome then s.answerNow p else s).disablePort p true := by
    unfold State.judgeIdent
    dsimp only
    rw [hown, hfar]
    exact if_neg (by simpa using h)
  have hsaid : (if (s.port p).lane.train.ans.isSome then s.answerNow p else s).topo = s.topo ∧
      ((if (s.port p).lane.train.ans.isSome then s.answerNow p else s).port p).pane.rxq = (s.port p).pane.rxq := by
    split
    · exact s.answerNow_keeps p
    · exact ⟨rfl, rfl⟩
  rw [hjudge]
  generalize (if (s.port p).lane.train.ans.isSome then s.answerNow p else s) = u at hsaid
  obtain ⟨hlink, henabled, htport, hrxq⟩ := u.disablePort_disables p true
  rw [State.leadOn_outside (by rw [State.inTraining, hlink]; rfl)]
  exact ⟨hlink, henabled, by rw [htport, hsaid.1], hrxq.trans hsaid.2⟩

/-- Until the far end's result is known, or where both are MATCH, the training goes on. -/
theorem State.judgeIdent_goesOn (h : ∀ a b, (s.port p).lane.train.identOwn = some a → (s.port p).lane.train.identFar = some b → a = 1 ∧ b = 1) :
    s.judgeIdent p = s := by
  unfold State.judgeIdent
  dsimp only
  split
  · rename_i a b hown hfar
    obtain ⟨rfl, rfl⟩ := h a b hown hfar
    rfl
  · rfl

/-! ### IDENT (R409, R410) -/

/-- The training of a port has answered an IDENT with its result `r`. -/
structure LaneUnit.Identified (l : LaneUnit) (r : Nat) (b : List Byte) (m : LaneUnit) : Prop where
  own : m.train.identOwn = some r
  far : m.train.identFar = l.train.identFar
  answer : m.train.ans.map (fun m => (m.code, m.args)) = some (tmIdentAck, BitVec.ofNat 8 r :: slice b 24 3)
  phase : m.train.phase = l.train.phase

theorem State.takeIdent_identifies (s : State) (p : PortIx) (b : List Byte) : ∃ u : State, s.takeIdent p b = u.judgeIdent p ∧
    (s.port p).lane.Identified (s.identResult p b) b (u.port p).lane ∧ (u.port p).pane = (s.port p).pane ∧
    u.topo.port p = { s.topo.port p with seenNode := beAt b 24 2 % 8192, seenPort := beAt b 26 1 % 8, ownResult := s.identResult p b } := by
  refine ⟨_, rfl, ?_, ?_, ?_⟩
  · rw [State.modTrain_port_same]
    split
    · rw [State.ask, State.modTrain_port_same]
      exact ⟨rfl, rfl, rfl, rfl⟩
    · exact ⟨rfl, rfl, rfl, rfl⟩
  · rw [State.modTrain_port_same]
    split
    · rw [State.ask, State.modTrain_port_same]
      rfl
    · rfl
  · rw [State.modTrain, State.modLane_topo]
    split
    · rw [State.ask, State.modTrain, State.modLane_topo]
      exact State.modTPort_tport ..
    · exact State.modTPort_tport ..

/-- An identity exchange in progress, as a TRAIN pane of its round finds it. -/
theorem State.heardTrain_ident {x : RxPane} (hround : (s.port p).lane.train.round = x.body.getD 17 0) :
    ((((s.rxPop p).heardTrain p x.body).port p).lane.train.phase = (s.port p).lane.train.phase ∧
      (((s.rxPop p).heardTrain p x.body).port p).lane.train.identOwn = (s.port p).lane.train.identOwn ∧
      (((s.rxPop p).heardTrain p x.body).port p).lane.train.identFar = (s.port p).lane.train.identFar) ∧
    (((s.rxPop p).heardTrain p x.body).port p).pane = { (s.port p).pane with rxq := (s.port p).pane.rxq.drop 1 } ∧
    ((s.rxPop p).heardTrain p x.body).topo = s.topo := by
  obtain ⟨target, hlane⟩ := State.heardTrain_ours (s := s.rxPop p) (p := p) (b := x.body) (.inr (by rwa [State.rxPop_lane]))
  have hheard := (s.rxPop p).heardTrain_lanesChange p x.body
  rw [hlane, State.rxPop_lane, hheard.pane, State.rxPop, State.modPane_port_same]
  exact ⟨⟨rfl, rfl, rfl⟩, rfl, hheard.topo⟩

theorem State.identResult_congr {u : State} (h : u.topo = s.topo) (b : List Byte) : u.identResult p b = s.identResult p b := by
  rw [State.identResult, State.identResult, State.present, State.present, h]

section
variable {x : RxPane} (hlive : s.linkLive = true) (hhead : s.rxHead p ptTrain = some x) (htraining : s.inTraining p = true)
  (hfresh : (s.port p).lane.train.repeats (x.body.headD 0).toNat (beAt x.body 2 2) = false) (hphase : (s.port p).lane.train.phase = .ident)
  (hround : (s.port p).lane.train.round = x.body.getD 17 0)
include hlive hhead htraining hfresh hphase hround

theorem exec_ident (hcode : s.trainHead p tmIdent = true) : ∃ u : State, exec (.ident p) s = .next (s.keep ((u.judgeIdent p).leadOn p)) ∧
    (u.port p).lane.train.phase = .ident ∧ (u.port p).lane.train.identOwn = some (s.identResult p x.body) ∧
    (u.port p).lane.train.identFar = (s.port p).lane.train.identFar ∧
    (u.port p).lane.train.ans.map (fun m => (m.code, m.args)) = some (tmIdentAck, BitVec.ofNat 8 (s.identResult p x.body) :: slice x.body 24 3) ∧
    (u.port p).pane = { (s.port p).pane with rxq := (s.port p).pane.rxq.drop 1 } ∧
    (u.topo.port p).ownResult = s.identResult p x.body ∧ (u.topo.port p).seenNode = beAt x.body 24 2 % 8192 ∧
    (u.topo.port p).seenPort = beAt x.body 26 1 % 8 := by
  obtain ⟨⟨hheardPhase, -, hheardFar⟩, hheardPane, htopo⟩ := State.heardTrain_ident hround
  obtain ⟨u, htake, hidentified, hpane, htport⟩ := ((s.rxPop p).heardTrain p x.body).takeIdent_identifies p x.body
  rw [State.identResult_congr htopo] at hidentified htport
  refine ⟨u, (act_trainHead hlive hcode _).trans ?_, hidentified.phase.trans (hheardPhase.trans hphase), hidentified.own,
    hidentified.far.trans hheardFar, hidentified.answer, hpane.trans hheardPane, ?_⟩
  · rw [State.takeTrain_fresh hhead hcode htraining hfresh, htake]
  · rw [htport]
    exact ⟨rfl, rfl, rfl⟩

/-- An IDENT is answered with its result, and the training goes on unless a result known is not MATCH. -/
theorem ident_told (hcode : s.trainHead p tmIdent = true)
    (hmatch : ∀ f, (s.port p).lane.train.identFar = some f → s.identResult p x.body = 1 ∧ f = 1) : ∃ t, exec (.ident p) s = .next t ∧
    (t.topo.port p).ownResult = s.identResult p x.body ∧ (t.topo.port p).seenNode = beAt x.body 24 2 % 8192 ∧
    (t.topo.port p).seenPort = beAt x.body 26 1 % 8 ∧ (t.port p).pane.rxq = (s.port p).pane.rxq.drop 1 ∧
    (t.port p).lane.train.identOwn = some (s.identResult p x.body) ∧ (t.port p).pane.link = (s.port p).pane.link ∧
    (t.port p).lane.train.ans.map (fun m => (m.code, m.args)) = some (tmIdentAck, BitVec.ofNat 8 (s.identResult p x.body) :: slice x.body 24 3) := by
  obtain ⟨u, hexec, huPhase, hown, hfar, hans, hpane, hseen⟩ := exec_ident hlive hhead htraining hfresh hphase hround hcode
  rw [State.judgeIdent_goesOn (fun a b ha hb => by
    rw [hown] at ha
    rw [hfar] at hb
    obtain ⟨hr, hf⟩ := hmatch b hb
    exact ⟨(Option.some.inj ha).symm.trans hr, hf⟩)] at hexec
  obtain ⟨hchange, phase, msg, tseq, waiting, out, hlane⟩ := State.leadOn_goesOn (s := u) (p := p) (by rw [huPhase]; decide) (by rw [huPhase]; decide)
  refine ⟨_, hexec, ?_⟩
  rw [State.keep_topo, State.keep_port, hchange.topo, hchange.pane, hpane, hlane]
  exact ⟨hseen.1, hseen.2.1, hseen.2.2, rfl, hown, rfl, hans⟩

theorem ident_disables (hcode : s.trainHead p tmIdent = true) {f : Nat} (hfar : (s.port p).lane.train.identFar = some f)
    (hdiffer : ¬ (s.identResult p x.body = 1 ∧ f = 1)) : ∃ t, exec (.ident p) s = .next t ∧
    (t.topo.port p).ownResult = s.identResult p x.body ∧ (t.topo.port p).seenNode = beAt x.body 24 2 % 8192 ∧
    (t.topo.port p).seenPort = beAt x.body 26 1 % 8 ∧ (t.port p).pane.rxq = (s.port p).pane.rxq.drop 1 ∧
    (t.port p).pane.link = .down ∧ (t.port p).lane.enabled = false ∧ (t.topo.port p).disabled = true := by
  obtain ⟨u, hexec, -, hown, hsame, -, hpane, hseen⟩ := exec_ident hlive hhead htraining hfresh hphase hround hcode
  obtain ⟨hlink, henabled, htport, hrxq⟩ := State.judgeIdent_disables hown (hsame.trans hfar) hdiffer
  refine ⟨_, hexec, ?_⟩
  rw [State.keep_topo, State.keep_port, htport, hrxq, hpane]
  exact ⟨hseen.1, hseen.2.1, hseen.2.2, rfl, hlink, henabled, rfl⟩

/-! ### IDENT_ACK (R411) -/

theorem exec_identAck (hcode : s.trainHead p tmIdentAck = true) : ∃ u : State, exec (.identAck p) s = .next (s.keep ((u.judgeIdent p).leadOn p)) ∧
    (u.port p).lane.train.phase = .ident ∧ (u.port p).lane.train.identOwn = (s.port p).lane.train.identOwn ∧
    (u.port p).lane.train.identFar = some (beAt x.body 24 1 % 8) ∧ (u.port p).pane.link = (s.port p).pane.link ∧
    (u.topo.port p).farResult = beAt x.body 24 1 % 8 := by
  obtain ⟨⟨hheardPhase, hheardOwn, -⟩, hheardPane, -⟩ := State.heardTrain_ident hround
  refine ⟨(((s.rxPop p).heardTrain p x.body).modTPort p (fun q => { q with farResult := beAt x.body 24 1 % 8 })).modTrain p (fun t => { t with
    identFar := some (beAt x.body 24 1 % 8), waiting := none }), (act_trainHead hlive hcode _).trans ?_, ?_⟩
  · rw [State.takeTrain_fresh hhead hcode htraining hfresh]
    rfl
  · rw [State.modTrain_port_same, State.modTPort_port, State.modTrain, State.modLane_topo, State.modTPort_tport]
    exact ⟨hheardPhase.trans hphase, hheardOwn, rfl, (congrArg Pane.link hheardPane :), rfl⟩

/-- Once both results are known anything but two times MATCH takes the port out of use. -/
theorem identAck_judged (hcode : s.trainHead p tmIdentAck = true) : ∃ t, exec (.identAck p) s = .next t ∧
    (t.topo.port p).farResult = beAt x.body 24 1 % 8 ∧
    if (s.port p).lane.train.identOwn.all (fun v => v == 1 && beAt x.body 24 1 % 8 == 1) = true then
      (t.port p).lane.train.identFar = some (beAt x.body 24 1 % 8) ∧ (t.port p).pane.link = (s.port p).pane.link
    else (t.port p).pane.link = .down ∧ (t.port p).lane.enabled = false ∧ (t.topo.port p).disabled = true := by
  obtain ⟨u, hexec, huPhase, hown, hfar, hlink, hresult⟩ := exec_identAck hlive hhead htraining hfresh hphase hround hcode
  by_cases hall : (s.port p).lane.train.identOwn.all (fun v => v == 1 && beAt x.body 24 1 % 8 == 1) = true
  · rw [State.judgeIdent_goesOn (fun a b ha hb => by
      rw [hown] at ha
      rw [ha, Option.all_some, Bool.and_eq_true, beq_iff_eq, beq_iff_eq] at hall
      rw [hfar] at hb
      exact ⟨hall.1, (Option.some.inj hb).symm.trans hall.2⟩)] at hexec
    obtain ⟨hchange, phase, msg, tseq, waiting, out, hlane⟩ := State.leadOn_goesOn (s := u) (p := p) (by rw [huPhase]; decide) (by rw [huPhase]; decide)
    refine ⟨_, hexec, ?_⟩
    rw [if_pos hall, State.keep_topo, State.keep_port, hchange.topo, hchange.link, hlane]
    exact ⟨hresult, hfar, hlink⟩
  · cases hknown : (s.port p).lane.train.identOwn with
    | none => exact absurd (by rw [hknown]; rfl) hall
    | some a =>
      rw [hknown] at hall
      have hdiffer : ¬ (a = 1 ∧ beAt x.body 24 1 % 8 = 1) := by
        rwa [ Option.all_some, Bool.and_eq_true, beq_iff_eq, beq_iff_eq] at hall
      obtain ⟨hdown, henabled, htport, -⟩ := State.judgeIdent_disables (hown.trans hknown) hfar hdiffer
      refine ⟨_, hexec, ?_⟩
      rw [if_neg hall, State.keep_topo, State.keep_port, htport]
      exact ⟨hresult, hdown, henabled, rfl⟩

end

end

end Sys2Proof.Machine
end

section
/-!
PROOFS. TRAIN messages that tune and start (R382, R385, R386, R399), and the statement TrainingMessages.
-/
namespace Sys2Proof.Machine

section
variable {s : State} {p : PortIx} {x : RxPane}

/-- A TRAIN pane of the round in progress is heard in it. -/
theorem State.heardTrain_round (hround : (s.port p).lane.train.round = x.body.getD 17 0) : ∃ leads target,
    (((s.rxPop p).heardTrain p x.body).port p).lane = ((s.port p).lane.hearing x.body).noting x.body leads target := by
  obtain ⟨target, hlane⟩ := State.heardTrain_ours (s := s.rxPop p) (p := p) (b := x.body) (.inr (by rwa [State.rxPop_lane]))
  rw [State.rxPop_lane] at hlane
  exact ⟨_, target, hlane⟩

/-- A training that goes on from a TRAIN pane heard leaves the link, the front end and the counters. -/
theorem State.LanesChange.stays {b : List Byte} {t : State} (h : ((s.rxPop p).heardTrain p b).LanesChange p t) :
    ((s.keep t).port p).pane.link = (s.port p).pane.link ∧ ((s.keep t).port p).pane.rxq = (s.port p).pane.rxq.drop 1 ∧
      (s.keep t).front = s.front ∧ (s.keep t).counters = s.counters := by
  have hchange := ((s.rxPop p).heardTrain_lanesChange p b).trans h
  rw [State.keep_port, State.keep_front, State.keep_counters]
  refine ⟨hchange.link.trans (s.rxPop_link p), ?_, hchange.front, hchange.counters⟩
  rw [hchange.pane, State.rxPop, State.modPane_port_same]

/-! ### Tuning (R385, R386) -/

theorem State.applyTune_lane (s : State) (p : PortIx) (b : List Byte) : s.LanesChange p (s.applyTune p b) ∧ ∃ lanes t,
    ((s.applyTune p b).port p).lane = { (s.port p).lane with lanes := lanes, train := t } ∧ t.phase = (s.port p).lane.train.phase ∧
    t.ans.map TrainMsg.code = some tmTuneRsp ∧ ∀ k, k < 13 → (Table.get {} lanes k).taps =
      (((s.port p).lane.lane k).taps.apply (s.boardTaps p k (s.port p).lane.step) (beAt b (24 + 2 * k) 2)).1 := by
  unfold State.applyTune
  dsimp only
  refine ⟨.trans (.of_modLane ..) (.of_modTrain ..), ?_⟩
  rw [State.modTrain_port_same, State.modLane_port_same]
  dsimp only
  rw [LaneUnit.modAll_lanesAfter]
  exact ⟨_, _, rfl, rfl, rfl, fun k hk => by rw [LaneUnit.lanesAfter_lane _ _ hk]⟩

/-- Everything a TUNE_RSP that is awaited leads to. -/
theorem State.takeTuneRsp_cases {u : State} (htesting : (u.port p).lane.testing = false) (hphase : (u.port p).lane.train.phase = .tune)
    (hwaiting : (u.port p).lane.train.waiting.isSome = true) : u.LanesChange p (u.takeTuneRsp p) ∧
      ((((u.takeTuneRsp p).port p).lane.train.phase = .measure ∧ ((u.takeTuneRsp p).port p).lane.train.waiting = none) ∨
        ((u.port p).lane.train.second = false ∧ ((u.takeTuneRsp p).port p).lane.train.phase = .tune ∧
          ((u.takeTuneRsp p).port p).lane.train.waiting = some u.now ∧
          ((u.takeTuneRsp p).port p).lane.train.msg.map TrainMsg.code = some tmTuneReq)) := by
  have hawaited : (u.port p).lane.train.waiting.isNone = false := by
    rw [← Option.not_isSome, hwaiting]
    rfl
  have hbusy : ¬ ((u.port p).lane.train.phase != .tune || (u.port p).lane.train.waiting.isNone) = true := by
    rw [hphase, hawaited]
    decide
  unfold State.takeTuneRsp
  dsimp only
  rw [if_neg hbusy, htesting, if_neg Bool.false_ne_true]
  split
  case isTrue =>
    have hdrawn : u.LanesChange p (if (u.port p).lane.train.second then u else u.drawn) := by
      split
      · exact .refl p u
      · exact .of_drawn p u
    refine ⟨hdrawn.trans (.of_modTrain ..), .inl ?_⟩
    rw [State.modTrain_port_same]
    exact ⟨rfl, rfl⟩
  case isFalse hgoesOn =>
    rw [State.tuneNext, State.ask]
    refine ⟨((State.LanesChange.of_drawn p u).trans (.of_drawn p _)).trans (.of_modTrain ..), .inr ⟨?_, ?_⟩⟩
    · by_contra hsecond
      exact hgoesOn (by rw [Bool.not_eq_false _ |>.mp hsecond]; rfl)
    · rw [State.modTrain_port_same]
      exact ⟨hphase, rfl, rfl⟩

/-- Lanes refused are the one part of the lane unit that changes. -/
theorem State.refuse_lane (s : State) (p : PortIx) : s.LanesChange p (s.refuse p) ∧ ∃ lanes, ((s.refuse p).port p).lane = { (s.port p).lane with lanes := lanes } := by
  unfold State.refuse
  split
  · rw [State.modLane_port_same]
    dsimp only
    rw [LaneUnit.modAll_lanesAfter]
    exact ⟨.of_modLane .., _, rfl⟩
  · exact ⟨.refl p s, _, rfl⟩

/-! ### Messages said at once and steps entered (R382) -/

theorem State.enterStep_lane (s : State) (p : PortIx) : s.LanesChange p (s.enterStep p) ∧ ∃ lanes, ((s.enterStep p).port p).lane = { (s.port p).lane with
    lanes := lanes, step := (s.port p).lane.train.cfg.step,
    train := { (s.port p).lane.train with phase := .relock, ans := none, waiting := none, tuneStart := s.now } } := by
  unfold State.enterStep
  dsimp only
  split
  · rw [State.modLane_port_same]
    exact ⟨.of_modLane .., _, rfl⟩
  · rw [State.modLane_port_same, State.modKeys_port_same]
    dsimp only
    rw [LaneUnit.modAll_lanesAfter]
    exact ⟨.trans (.of_modKeys ..) (.of_modLane ..), _, rfl⟩

/-- A message said at once takes one slot: what is noted in the lane unit stays but for the training's messages. -/
theorem State.saidNow_port (s : State) (p : PortIx) (code : Nat) (args : List Byte) : ∃ items n scr msg tseq out k,
    ((s.say p code args).sayNow p).port p = { s.port p with
      pane := { (s.port p).pane with sent := items, sinceVector := n },
      lane := { (s.port p).lane with txScr := scr, train := { (s.port p).lane.train with
        msg := msg, tseq := tseq, out := out, waiting := none, ans := none } },
      keys := { (s.port p).keys with slot := k } } := by
  obtain ⟨items, n, scr, k, out, hport⟩ := ((s.say p code args).modTrain p (fun t => { t with ans := none })).slotTraining_port p
  rw [State.sayNow, hport, State.modTrain_port_same, State.say, State.modTrain_port_same]
  exact ⟨_, _, _, _, _, _, _, rfl⟩

theorem State.saidNow_rest (s : State) (p : PortIx) (code : Nat) (args : List Byte) :
    ((s.say p code args).sayNow p).front = s.front ∧ ((s.say p code args).sayNow p).now = s.now := by
  obtain ⟨-, hfront, hnow⟩ := ((s.say p code args).modTrain p (fun t => { t with ans := none })).slotTraining_rest p
  exact ⟨hfront, hnow⟩

/-! ### Service entered (R373, R358) -/

theorem State.UnitsMove.of_drawn (s : State) : s.UnitsMove s.drawn := .of_ports rfl

/-- A handshake begun and a key offered move units of the MGMT class alone. -/
theorem State.UnitsMove.of_startHandshake (s : State) (p : PortIx) : s.UnitsMove (s.startHandshake p) := by
  unfold State.startHandshake
  dsimp only
  split
  · rw [State.secTo]
    exact .trans (.trans (.trans (.trans (.of_drawn s) (.of_drawn _)) (.of_drawn _)) (.of_modKeys ..)) (.of_mgmtTo ..)
  · exact .of_modKeys ..

theorem State.UnitsMove.of_offerTenant (s : State) (p : PortIx) : s.UnitsMove (s.offerTenant p) := by
  unfold State.offerTenant
  split
  · dsimp only
    split
    · rw [State.offer, State.secTo]
      exact .trans (.trans (.of_drawn s) (.of_modKeys ..)) (.of_mgmtTo ..)
    · exact .refl s
  · exact .refl s

/-- Between two states a port enters service with the configuration of its training. -/
structure State.Serves (p : PortIx) (s u : State) : Prop where
  active : (u.port p).lane.active = (s.port p).lane.train.cfg.active
  width : (u.port p).lane.width = (s.port p).lane.train.cfg.width
  rxActive : (u.port p).lane.rxActive = (s.port p).lane.train.cfg.active
  rxWidth : (u.port p).lane.rxWidth = (s.port p).lane.train.cfg.width
  step : (u.port p).lane.step = (s.port p).lane.train.cfg.step
  target : (u.port p).lane.target = (s.port p).lane.target
  retrainDue : (u.port p).lane.retrainDue = (s.port p).lane.retrainDue
  link : (u.port p).pane.link = if (s.port p).lane.train.cfg.width = 12 && (s.port p).lane.train.cfg.step = (s.port p).lane.target then .up else .degraded
  resuming : (u.port p).pane.resuming = true
  creditStart : (u.port p).pane.creditStart = s.now

/-- What a port is left with in service does not depend on units that move. -/
theorem State.Serves.of_moves {s u v : State} {p : PortIx} (h : s.Serves p u) (hmoves : u.UnitsMove v) : s.Serves p v := by
  have hpane := hmoves.pane p
  obtain ⟨hactive, hwidth, hrxActive, hrxWidth, hstep, htarget, hdue, hlink, hresuming, hcredit⟩ := h
  rw [← hmoves.lane p] at hactive hwidth hrxActive hrxWidth hstep htarget hdue
  exact ⟨hactive, hwidth, hrxActive, hrxWidth, hstep, htarget, hdue, (congrArg Pane.link hpane :).trans hlink,
    (congrArg Pane.resuming hpane :).trans hresuming, (congrArg Pane.creditStart hpane :).trans hcredit⟩

/-- Nor on a width change asked for. -/
theorem State.Serves.ite_askWidth {s u : State} {p : PortIx} (h : s.Serves p u) (b : Prop) [Decidable b] (reason usable max : Nat) :
    s.Serves p (if b then u.askWidth p reason usable max else u) := by
  split
  · obtain ⟨hactive, hwidth, hrxActive, hrxWidth, hstep, htarget, hdue, hlink, hresuming, hcredit⟩ := h
    refine ⟨?_, ?_, ?_, ?_, ?_, ?_, ?_, ?_, ?_, ?_⟩
    all_goals rw [State.askWidth_port_same]
    all_goals assumption
  · exact h

theorem State.enterService_serves {s : State} {p : PortIx} (hdue : (s.port p).lane.retrainDue = false) : s.Serves p (s.enterService p) := by
  unfold State.enterService
  dsimp only
  generalize hs : State.modKeys (State.modKeys _ p _) p (fun k => { k with attempts := 0 }) = u
  have hport := congrArg (State.port · p) hs
  rw [State.modKeys_port_same, State.modKeys_port_same, State.modLane_port_same] at hport
  dsimp only at hport
  rw [LaneUnit.modAll_lanesAfter, State.modPane_port_same] at hport
  have hu : s.Serves p u := by
    refine ⟨?_, ?_, ?_, ?_, ?_, ?_, ?_, ?_, ?_, ?_⟩
    all_goals rw [← hport]
  clear hs hport
  have hmoves : u.UnitsMove (if (u.port p).keys.hasSession then (u.linkChanged p true).offerTenant p
      else if (u.port p).keys.disabled then u else u.startHandshake p) := by
    split
    · exact (u.linkChanged_reports p true).moves.trans (.of_offerTenant ..)
    split
    · exact .refl u
    · exact .of_startHandshake ..
  have hserves (b : Prop) [Decidable b] := (hu.of_moves hmoves).ite_askWidth b lcPower
  rw [if_neg (Bool.eq_false_iff.mp ((hserves ..).retrainDue.trans hdue))]
  exact hserves ..

section
variable (hlive : s.linkLive = true) (hhead : s.rxHead p ptTrain = some x) (htraining : s.inTraining p = true)
  (hfresh : (s.port p).lane.train.repeats (x.body.headD 0).toNat (beAt x.body 2 2) = false)
  (hround : (s.port p).lane.train.round = x.body.getD 17 0)
include hlive hhead htraining hfresh hround

theorem tuneReq_answered (hcode : s.trainHead p tmTuneReq = true) (hdone : (s.port p).lane.train.phase ≠ .done)
    (hlock : (s.port p).lane.train.phase ≠ .lock) : ∃ t, exec (.tuneReq p) s = .next t ∧
      ((t.port p).pane.link = (s.port p).pane.link ∧ (t.port p).pane.rxq = (s.port p).pane.rxq.drop 1 ∧ t.front = s.front ∧ t.counters = s.counters) ∧
      (t.port p).lane.train.ans.map TrainMsg.code = some tmTuneRsp ∧ ∀ k, k < 13 → ((t.port p).lane.lane k).taps =
        (((s.port p).lane.lane k).taps.apply (s.boardTaps p k (s.port p).lane.step) (beAt x.body (24 + 2 * k) 2)).1 := by
  have hexec : exec (.tuneReq p) s = .next (s.keep ((((s.rxPop p).heardTrain p x.body).applyTune p x.body).leadOn p)) :=
    (act_trainHead hlive hcode _).trans (by rw [State.takeTrain_fresh hhead hcode htraining hfresh])
  obtain ⟨leads, target, hheard⟩ := State.heardTrain_round hround
  have hboard (k step : Nat) : ((s.rxPop p).heardTrain p x.body).boardTaps p k step = s.boardTaps p k step := by
    rw [State.boardTaps, State.boardTaps, ((s.rxPop p).heardTrain_lanesChange p x.body).topo]
    rfl
  obtain ⟨htuned, lanes, t, hlane, hphase, hans, htaps⟩ := ((s.rxPop p).heardTrain p x.body).applyTune_lane p x.body
  rw [hheard] at hphase htaps
  obtain ⟨hchange, phase, msg, tseq, waiting, out, hled⟩ := State.leadOn_goesOn (s := ((s.rxPop p).heardTrain p x.body).applyTune p x.body) (p := p)
    (by rw [hlane, hphase]; exact hlock) (by rw [hlane, hphase]; exact hdone)
  refine ⟨_, hexec, (htuned.trans hchange).stays, ?_⟩
  rw [State.keep_port, hled, hlane]
  exact ⟨hans, fun k hk => (htaps k hk).trans (by rw [hboard]; rfl)⟩

theorem tuneRsp_goesOn (hcode : s.trainHead p tmTuneRsp = true) (htesting : (s.port p).lane.testing = false)
    (hphase : (s.port p).lane.train.phase = .tune) (hwaiting : (s.port p).lane.train.waiting.isSome = true) : ∃ t, exec (.tuneRsp p) s = .next t ∧
      ((t.port p).pane.link = (s.port p).pane.link ∧ (t.port p).pane.rxq = (s.port p).pane.rxq.drop 1 ∧ t.front = s.front ∧ t.counters = s.counters) ∧
      ((s.port p).lane.train.second = true → (t.port p).lane.train.phase = .measure) ∧
      (((t.port p).lane.train.phase = .measure ∧ (t.port p).lane.train.waiting = none) ∨
        ((t.port p).lane.train.phase = .tune ∧ (t.port p).lane.train.waiting = some s.now ∧
          (t.port p).lane.train.msg.map TrainMsg.code = some tmTuneReq)) := by
  have hexec : exec (.tuneRsp p) s = .next (s.keep ((((s.rxPop p).heardTrain p x.body).takeTuneRsp p).leadOn p)) :=
    (act_trainHead hlive hcode _).trans (by rw [State.takeTrain_fresh hhead hcode htraining hfresh])
  obtain ⟨leads, target, hheard⟩ := State.heardTrain_round hround
  have hnow : ((s.rxPop p).heardTrain p x.body).now = s.now := ((s.rxPop p).heardTrain_lanesChange p x.body).now
  obtain ⟨hchange, hcases⟩ := State.takeTuneRsp_cases (u := (s.rxPop p).heardTrain p x.body) (p := p) (by rw [hheard]; exact htesting)
    (by rw [hheard]; exact hphase) (by rw [hheard]; exact hwaiting)
  have hstays : (((s.rxPop p).heardTrain p x.body).takeTuneRsp p).leadOn p = ((s.rxPop p).heardTrain p x.body).takeTuneRsp p := by
    rcases hcases with ⟨hmeasure, -⟩ | ⟨-, htune, -⟩
    · exact State.leadOn_phase (by rw [hmeasure]; decide) (by rw [hmeasure]; decide) (by rw [hmeasure]; decide)
    · exact State.leadOn_phase (by rw [htune]; decide) (by rw [htune]; decide) (by rw [htune]; decide)
  rw [hstays] at hexec
  refine ⟨_, hexec, hchange.stays, ?_⟩
  rw [State.keep_port]
  rcases hcases with ⟨hmeasure, hanswered⟩ | ⟨hfirst, htune, hasked, hsaid⟩
  · exact ⟨fun _ => hmeasure, .inl ⟨hmeasure, hanswered⟩⟩
  · rw [hheard] at hfirst
    rw [hnow] at hasked
    exact ⟨fun hsecond => absurd (hfirst.symm.trans hsecond) Bool.false_ne_true, .inr ⟨htune, hasked, hsaid⟩⟩

theorem tuneDone_judges (hcode : s.trainHead p tmTuneDone = true) (hphase : (s.port p).lane.train.phase = .tune ∨ (s.port p).lane.train.phase = .measure) :
    ∃ t, exec (.tuneDone p) s = .next t ∧
      ((t.port p).pane.link = (s.port p).pane.link ∧ (t.port p).pane.rxq = (s.port p).pane.rxq.drop 1 ∧ t.front = s.front ∧ t.counters = s.counters) ∧
      (t.port p).lane.train.farPass = some (beAt x.body 24 2 % 8192) ∧ (t.port p).lane.train.phase = (s.port p).lane.train.phase := by
  have hexec : exec (.tuneDone p) s = .next (s.keep (((((s.rxPop p).heardTrain p x.body).modTrain p (fun q => { q with
      farPass := some (beAt x.body 24 2 % 8192) })).refuse p).leadOn p)) :=
    (act_trainHead hlive hcode _).trans (by rw [State.takeTrain_fresh hhead hcode htraining hfresh])
  obtain ⟨leads, target, hheard⟩ := State.heardTrain_round hround
  obtain ⟨hchange, lanes, hlane⟩ := (((s.rxPop p).heardTrain p x.body).modTrain p (fun q => { q with
    farPass := some (beAt x.body 24 2 % 8192) })).refuse_lane p
  rw [State.modTrain_port_same, hheard] at hlane
  rw [State.leadOn_phase (by rw [hlane]; rcases hphase with h | h <;> exact fun hnot => nomatch h.symm.trans hnot)
    (by rw [hlane]; rcases hphase with h | h <;> exact fun hnot => nomatch h.symm.trans hnot)
    (by rw [hlane]; rcases hphase with h | h <;> exact fun hnot => nomatch h.symm.trans hnot)] at hexec
  refine ⟨_, hexec, State.LanesChange.stays (.trans (.of_modTrain ..) hchange), ?_⟩
  rw [State.keep_port, hlane]
  exact ⟨rfl, rfl⟩

/-! ### GO and READY (R382) -/

theorem go_enters (hcode : s.trainHead p tmGo = true) (hphase : (s.port p).lane.train.phase = .going) : ∃ t, exec (.go p) s = .next t ∧
    (t.port p).pane.link = (s.port p).pane.link ∧ (t.port p).lane.step = (s.port p).lane.train.cfg.step ∧ (t.port p).lane.train.phase = .relock ∧
    (t.port p).lane.train.cfg = (s.port p).lane.train.cfg ∧ t.front = s.front := by
  have hexec : exec (.go p) s = .next (s.keep ((((s.rxPop p).heardTrain p x.body).takeGo p).leadOn p)) :=
    (act_trainHead hlive hcode _).trans (by rw [State.takeTrain_fresh hhead hcode htraining hfresh])
  obtain ⟨leads, target, hheard⟩ := State.heardTrain_round hround
  have hheardChange := (s.rxPop p).heardTrain_lanesChange p x.body
  have hlink := hheardChange.link.trans (s.rxPop_link p)
  have htake : ∃ u : State, ((s.rxPop p).heardTrain p x.body).takeGo p = u.enterStep p ∧ (u.port p).pane.link = (s.port p).pane.link ∧
      (u.port p).lane.train.cfg = (s.port p).lane.train.cfg ∧ u.front = s.front := by
    have hgoing : ¬ ((((s.rxPop p).heardTrain p x.body).port p).lane.train.phase != .going &&
        !((((s.rxPop p).heardTrain p x.body).port p).lane.train.phase == .ident && !((s.rxPop p).heardTrain p x.body).leads p)) = true := by
      have hsame : (((s.rxPop p).heardTrain p x.body).port p).lane.train.phase = .going := by rw [hheard]; exact hphase
      rw [hsame, bne_self_eq_false, Bool.false_and]
      exact Bool.false_ne_true
    unfold State.takeGo
    dsimp only
    rw [if_neg hgoing]
    split
    · exact ⟨_, rfl, hlink, by rw [hheard]; rfl, hheardChange.front⟩
    · refine ⟨_, rfl, ?_⟩
      obtain ⟨items, n, scr, msg, tseq, out, k, hport⟩ := ((s.rxPop p).heardTrain p x.body).saidNow_port p tmGo
        [BitVec.ofNat 8 (((s.rxPop p).heardTrain p x.body).port p).lane.train.cfg.step]
      rw [hport, (State.saidNow_rest ..).1]
      exact ⟨hlink, by rw [hheard]; rfl, hheardChange.front⟩
  obtain ⟨u, htake, hulink, hucfg, hufront⟩ := htake
  obtain ⟨hchange, lanes, hlane⟩ := u.enterStep_lane p
  rw [htake, State.leadOn_phase (by rw [hlane]; nofun) (by rw [hlane]; nofun) (by rw [hlane]; nofun)] at hexec
  refine ⟨_, hexec, ?_⟩
  rw [State.keep_port, State.keep_front, hchange.link, hchange.front, hlane]
  exact ⟨hulink, congrArg TrainCfg.step hucfg, rfl, hucfg, hufront⟩

theorem ready_serves (hcode : s.trainHead p tmReady = true) (hphase : (s.port p).lane.train.phase = .service)
    (hdue : (s.port p).lane.retrainDue = false) : ∃ t, exec (.ready p) s = .next t ∧ (t.port p).lane.active = (s.port p).lane.train.cfg.active ∧
      (t.port p).lane.width = (s.port p).lane.train.cfg.width ∧ (t.port p).lane.rxActive = (s.port p).lane.train.cfg.active ∧
      (t.port p).lane.rxWidth = (s.port p).lane.train.cfg.width ∧ (t.port p).lane.step = (s.port p).lane.train.cfg.step ∧
      (t.port p).pane.link = (if (s.port p).lane.train.cfg.width = 12 ∧ (s.port p).lane.train.cfg.step = (t.port p).lane.target then .up else .degraded) ∧
      (t.port p).pane.resuming = true ∧ (t.port p).pane.creditStart = s.now := by
  have hexec : exec (.ready p) s = .next (s.keep ((((s.rxPop p).heardTrain p x.body).takeReady p).leadOn p)) :=
    (act_trainHead hlive hcode _).trans (by rw [State.takeTrain_fresh hhead hcode htraining hfresh])
  obtain ⟨leads, target, hheard⟩ := State.heardTrain_round hround
  have hnow : ((s.rxPop p).heardTrain p x.body).now = s.now := ((s.rxPop p).heardTrain_lanesChange p x.body).now
  have htake : ∃ u : State, ((s.rxPop p).heardTrain p x.body).takeReady p = u.enterService p ∧
      (u.port p).lane.train.cfg = (s.port p).lane.train.cfg ∧ (u.port p).lane.retrainDue = false ∧ u.now = s.now := by
    have hservice : ¬ ((((s.rxPop p).heardTrain p x.body).port p).lane.train.phase != .service) = true := by
      have hsame : (((s.rxPop p).heardTrain p x.body).port p).lane.train.phase = .service := by rw [hheard]; exact hphase
      rw [hsame, bne_self_eq_false]
      exact Bool.false_ne_true
    unfold State.takeReady
    dsimp only
    rw [if_neg hservice]
    split
    · exact ⟨_, rfl, by rw [hheard]; rfl, by rw [hheard]; exact hdue, hnow⟩
    · refine ⟨_, rfl, ?_⟩
      obtain ⟨items, n, scr, msg, tseq, out, k, hport⟩ := ((s.rxPop p).heardTrain p x.body).saidNow_port p tmReady []
      rw [hport, (State.saidNow_rest ..).2]
      exact ⟨by rw [hheard]; rfl, by rw [hheard]; exact hdue, hnow⟩
  obtain ⟨u, htake, hcfg, hudue, hunow⟩ := htake
  have hserves := State.enterService_serves hudue
  have hlink := hserves.link
  have houtside : (u.enterService p).inTraining p = false := by
    rw [State.inTraining, hlink]
    split <;> rfl
  rw [htake, State.leadOn_outside houtside] at hexec
  rw [← hserves.target, hcfg] at hlink
  refine ⟨_, hexec, ?_⟩
  rw [State.keep_port, ← hcfg, ← hunow]
  refine ⟨hserves.active, hserves.width, hserves.rxActive, hserves.rxWidth, hserves.step, ?_, hserves.resuming, hserves.creditStart⟩
  rw [hcfg, hlink]
  simp only [Bool.and_eq_true, decide_eq_true_eq]

end

/-! ### LOOP_REQ (R399) -/

theorem loopReq_sets (hlive : s.linkLive = true) (hhead : s.rxHead p ptTrain = some x) (hcode : s.trainHead p tmLoopReq = true)
    (hserving : s.serving p = false) (htraining : s.inTraining p = false) (htesting : (s.port p).lane.testing = true)
    (hfresh : (s.port p).lane.train.repeats tmLoopReq (beAt x.body 2 2) = false) : ∃ t, exec (.loopReq p) s = .next t ∧
      (x.body.getD 24 0 = 1 → (t.port p).lane.farLoop = some (beAt x.body 25 2 % 8192)) ∧ (x.body.getD 24 0 = 0 → (t.port p).lane.farLoop = none) ∧
      (t.port p).lane = { (s.port p).lane with farLoop := (t.port p).lane.farLoop, train := (t.port p).lane.train } ∧
      ∀ q, q ≠ p → t.port q = s.port q := by
  have hserves : (s.rxPop p).serving p = false := by rwa [State.serving, s.rxPop_link p]
  have htrains : (s.rxPop p).inTraining p = false := by rwa [State.inTraining, s.rxPop_link p]
  have hexec : exec (.loopReq p) s = .next (s.keep (((s.rxPop p).modTrain p (fun t => { t with
      heard := Table.put 0 t.heard tmLoopReq (beAt x.body 2 2 + 1) })).modLane p (fun l => { l with
        farLoop := if x.body.getD 24 0 = 1 then some (beAt x.body 25 2 % 8192) else if x.body.getD 24 0 = 0 then none else l.farLoop }))) := by
    refine (act_trainHead hlive hcode _).trans ?_
    unfold State.takeTrain
    rw [hhead]
    dsimp only
    rw [hserves, Bool.false_and, if_neg Bool.false_ne_true, htrains, if_neg Bool.false_ne_true, State.rxPop_lane, htesting, if_pos rfl, hfresh,
      if_neg Bool.false_ne_true]
  have hchange : s.PortChange p (((s.rxPop p).modTrain p (fun t => { t with
      heard := Table.put 0 t.heard tmLoopReq (beAt x.body 2 2 + 1) })).modLane p (fun l => { l with
        farLoop := if x.body.getD 24 0 = 1 then some (beAt x.body 25 2 % 8192) else if x.body.getD 24 0 = 0 then none else l.farLoop })) :=
    ((State.PortChange.of_modPane ..).trans (.of_modLane ..)).trans (.of_modLane ..)
  refine ⟨_, hexec, ?_⟩
  simp only [State.keep_port]
  rw [State.modLane_port_same, State.modTrain_port_same, State.rxPop_lane]
  exact ⟨fun hone => if_pos hone, fun hzero => by rw [hzero]; rfl, rfl, hchange.others⟩

end

/-- Settles O38: every TRAIN message is first heard (`heardTrain`), then acted on by its own rule, and the leader may go on (`leadOn`). -/
theorem trainingMessages : Obligations.TrainingMessages := by
  unfold Obligations.TrainingMessages
  refine ⟨fun s p x hlive hhead => ⟨fun hcode => ?_, fun hcode => ?_, fun hcode hfresh hfollows => ?_, fun m hcode hfresh hleads hmsg hconfig => ⟨fun hreject => ?_,
    fun haccept hcopy => ?_⟩, fun hcode hfresh hphase hround => ?_, fun hcode hfresh hphase hround => ?_⟩, fun s p x hlive hhead => ⟨fun hcode hours => ?_,
    fun hcode hours => ?_, fun hcode hours => ?_, fun hcode hours => ?_, fun hcode hours => ?_, fun hcode hserving htraining htesting hfresh => ?_⟩⟩
  · exact hello_begins hhead hcode (.inl rfl) (act_trainHead hlive hcode _)
  · exact hello_begins hhead hcode (.inr rfl) (act_trainHead hlive hcode _)
  · obtain ⟨htraining, hnew, -⟩ := hfresh
    obtain ⟨t, hexec, hchange, hmsg⟩ := config_answered hlive hhead hcode htraining hnew hfollows
    exact ⟨_, hexec, hchange.noted.1, hchange.noted.2, hmsg⟩
  · obtain ⟨htraining, hnew, -⟩ := hfresh
    obtain ⟨t, hexec, hchange, hround⟩ := configAck_rejected hlive hhead hcode htraining hnew hleads hmsg hconfig hreject
    exact ⟨_, hexec, hchange.noted.1, hchange.noted.2, hround⟩
  · obtain ⟨htraining, hnew, -⟩ := hfresh
    obtain ⟨t, hexec, hchange, hcfg⟩ := configAck_copied hlive hhead hcode htraining hnew hleads hmsg hconfig haccept hcopy
    exact ⟨_, hexec, hchange.noted.1, hchange.noted.2, hcfg⟩
  · obtain ⟨htraining, hnew, -⟩ := hfresh
    cases hfar : (s.port p).lane.train.identFar with
    | none => exact ident_told hlive hhead htraining hnew hphase hround hcode (fun f hf => nomatch hfar.symm.trans hf)
    | some f =>
      by_cases hmatch : s.identResult p x.body = 1 ∧ f = 1
      · obtain ⟨t, hexec, hresult, hnode, hport, hrxq, htold⟩ := ident_told hlive hhead htraining hnew hphase hround hcode
          (fun g hg => ⟨hmatch.1, (Option.some.inj (hfar.symm.trans hg)).symm.trans hmatch.2⟩)
        rw [hmatch.1] at htold
        exact ⟨t, hexec, hresult, hnode, hport, hrxq, by dsimp only; rw [if_pos hmatch]; exact htold⟩
      · obtain ⟨t, hexec, hresult, hnode, hport, hrxq, hdisabled⟩ := ident_disables hlive hhead htraining hnew hphase hround hcode hfar hmatch
        exact ⟨t, hexec, hresult, hnode, hport, hrxq, by dsimp only; rw [if_neg hmatch]; exact hdisabled⟩
  · obtain ⟨htraining, hnew, -⟩ := hfresh
    exact identAck_judged hlive hhead htraining hnew hphase hround hcode
  · exact tuneReq_answered hlive hhead hours.1 hours.2.1 hours.2.2 hcode
  · exact tuneRsp_goesOn hlive hhead hours.1 hours.2.1 hours.2.2 hcode
  · exact tuneDone_judges hlive hhead hours.1 hours.2.1 hours.2.2 hcode
  · exact go_enters hlive hhead hours.1 hours.2.1 hours.2.2 hcode
  · exact ready_serves hlive hhead hours.1 hours.2.1 hours.2.2 hcode
  · exact loopReq_sets hlive hhead hcode hserving htraining htesting hfresh

end Sys2Proof.Machine
end

section
/-!
PROOFS. Routes and blocks in the torus (R402, R412, R416, R419): the rules for hops along one axis and for the neighbour across a port, and the
statements EveryHopComesCloser and BlockDiameters.
-/
namespace Sys2Proof.Machine

/-! ### One axis (R412) -/

theorem subMod_of_lt {n c d : Nat} (hc : c < n) (hd : d < n) : subMod n d c = if c ≤ d then d - c else d + n - c := by
  rw [subMod, Nat.mod_eq_of_lt hc, Nat.mod_eq_of_lt hd]
  split
  · rw [show d + n - c = d - c + n by omega, Nat.add_mod_right, Nat.mod_eq_of_lt (by omega)]
  · rw [Nat.mod_eq_of_lt (by omega)]

/-- The hops from one coordinate to another along an axis. -/
def axisHops (n c d : Nat) : Nat := match axisWay n c d with
  | none => 0
  | some q => q.2

/-- Of the two ways round, the shorter. -/
theorem axisHops_eq_min (n c d : Nat) : axisHops n c d = min (subMod n d c) (n - subMod n d c) := by
  unfold axisHops axisWay
  dsimp only
  split_ifs <;> dsimp only <;> omega

theorem axisHops_self (n c : Nat) : axisHops n c c = 0 := by
  rw [axisHops_eq_min, subMod, Nat.add_sub_cancel_left, Nat.mod_self, Nat.zero_min]

theorem axisWay_isSome {n c d : Nat} (hc : c < n) (hd : d < n) (h : c ≠ d) : (axisWay n c d).isSome = true := by
  have hfar : subMod n d c ≠ 0 := by
    rw [subMod_of_lt hc hd]
    split <;> omega
  unfold axisWay
  dsimp only
  rw [if_neg hfar]
  split <;> rfl

/-- One hop along an axis of `n`, in the positive or the negative direction (R402). -/
def axisStep (n c : Nat) (pos : Bool) : Nat := if pos then (c + 1) % n else (c + n - 1) % n

theorem axisStep_eq {n c : Nat} (hc : c < n) (pos : Bool) : axisStep n c pos =
    if pos then (if c + 1 = n then 0 else c + 1) else (if c = 0 then n - 1 else c - 1) := by
  cases pos with
  | true =>
    by_cases hend : c + 1 = n
    · simp [axisStep, hend]
    · simp [axisStep, hend, Nat.mod_eq_of_lt (show c + 1 < n by omega)]
  | false =>
    by_cases hzero : c = 0
    · simp [axisStep, hzero, Nat.mod_eq_of_lt (show n - 1 < n by omega)]
    · rw [axisStep, if_neg Bool.false_ne_true, if_neg Bool.false_ne_true, if_neg hzero, show c + n - 1 = c - 1 + n by omega, Nat.add_mod_right,
        Nat.mod_eq_of_lt (by omega)]

theorem axisStep_lt {n c : Nat} (hc : c < n) (pos : Bool) : axisStep n c pos < n := by
  unfold axisStep
  split <;> exact Nat.mod_lt _ (by omega)

/-- A hop in the direction of the shorter way leaves one fewer on the axis (R412). -/
theorem axisHops_axisStep {n c d h : Nat} {pos : Bool} (hc : c < n) (hd : d < n) (hway : axisWay n c d = some (pos, h)) :
    axisHops n (axisStep n c pos) d + 1 = axisHops n c d := by
  rw [axisHops_eq_min, axisHops_eq_min, subMod_of_lt (axisStep_lt hc pos) hd, axisStep_eq hc]
  have hfar : subMod n d c ≠ 0 ∧ (pos = true ↔ subMod n d c ≤ n - subMod n d c) := by
    unfold axisWay at hway
    dsimp only at hway
    split_ifs at hway with hzero hle
    · obtain ⟨rfl, -⟩ : true = pos ∧ _ := by simpa using hway
      simp [hzero, hle]
    · obtain ⟨rfl, -⟩ : false = pos ∧ _ := by simpa using hway
      simp [hzero, hle]
  obtain ⟨hne, hpos⟩ := hfar
  rw [subMod_of_lt hc hd] at hne hpos ⊢
  cases pos with
  | true =>
    simp only [if_true, true_iff] at hpos ⊢
    split_ifs at * <;> omega
  | false =>
    simp only [Bool.false_eq_true, if_false, false_iff] at hpos ⊢
    split_ifs at * <;> omega

/-! ### Nodes and their neighbours (R401, R402) -/

theorem coord_nodeId {x y z : Nat} (hx : x < 16) (hy : y < 16) (hz : z < 32) (b : Nat) :
    coord (nodeId x y z) b = if b = 0 then x else if b = 1 then y else z := by
  have hX : nodeX (nodeId x y z) = x := by unfold nodeX nodeId; omega
  have hY : nodeY (nodeId x y z) = y := by unfold nodeY nodeId; omega
  have hZ : nodeZ (nodeId x y z) = z := by unfold nodeZ nodeId; omega
  rw [coord, hX, hY, hZ]

/-- A node ID is its three coordinates. -/
theorem node_ext {m n : Nat} (hm : m < 8192) (hn : n < 8192) (hx : nodeX m = nodeX n) (hy : nodeY m = nodeY n) (hz : nodeZ m = nodeZ n) : m = n := by
  unfold nodeX at hx
  unfold nodeY at hy
  unfold nodeZ at hz
  omega

theorem axisPort_div (a : Nat) (pos : Bool) : axisPort a pos / 2 = a := by cases pos <;> simp [axisPort]; omega
theorem axisPort_mod (a : Nat) (pos : Bool) : axisPort a pos % 2 = if pos then 0 else 1 := by cases pos <;> simp [axisPort]
theorem axisPort_lt {a : Nat} (ha : a < 3) (pos : Bool) : axisPort a pos < 6 := by cases pos <;> simp [axisPort] <;> omega

section
variable {t : InstallTable} {own dest : Nat}

/-- A node of the pod lies inside the extents on every axis. -/
theorem InstallTable.names_coord (h : t.names own = true) (a : Nat) : coord own a < t.extent a := by
  simp only [InstallTable.names, Bool.and_eq_true, decide_eq_true_eq] at h
  obtain ⟨⟨⟨⟨-, hx⟩, hy⟩, hz⟩, -⟩ := h
  unfold coord InstallTable.extent
  split_ifs
  · exact hx
  · exact hy
  · exact hz

theorem InstallTable.names_lt (h : t.names own = true) : own < 8192 := by
  simp only [InstallTable.names, Bool.and_eq_true, decide_eq_true_eq] at h
  exact h.1.1.1.1

section
variable (hex : t.ex ≤ 16) (hey : t.ey ≤ 16) (hez : t.ez ≤ 32) (hown : t.names own = true)
include hex hey hez hown

/-- The neighbour across a port is one hop off on the axis of the port and level with the node on the others (R402). -/
theorem coord_neighbour {a : Nat} (ha : a < 3) (pos : Bool) {b : Nat} (hb : b < 3) :
    coord (neighbour t own (axisPort a pos)) b = if b = a then axisStep (t.extent b) (coord own b) pos else coord own b := by
  have hstep : (if axisPort a pos % 2 = 0 then (coord own a + 1) % t.extent a else (coord own a + t.extent a - 1) % t.extent a) =
      axisStep (t.extent a) (coord own a) pos := by
    rw [axisPort_mod]
    cases pos <;> rfl
  have hlt (i : Nat) : axisStep (t.extent i) (coord own i) pos < t.extent i := axisStep_lt (InstallTable.names_coord hown i) pos
  have hx : (if a = 0 then axisStep (t.extent a) (coord own a) pos else nodeX own) < 16 := by
    split
    case isTrue h => subst h; exact (hlt 0).trans_le hex
    case isFalse => exact Nat.mod_lt _ (by decide)
  have hy : (if a = 1 then axisStep (t.extent a) (coord own a) pos else nodeY own) < 16 := by
    split
    case isTrue h => subst h; exact (hlt 1).trans_le hey
    case isFalse => exact Nat.mod_lt _ (by decide)
  have hz : (if a = 2 then axisStep (t.extent a) (coord own a) pos else nodeZ own) < 32 := by
    split
    case isTrue h => subst h; exact (hlt 2).trans_le hez
    case isFalse => exact Nat.mod_lt _ (by decide)
  rw [neighbour, axisPort_div, hstep, coord_nodeId hx hy hz]
  obtain rfl | rfl | rfl : b = 0 ∨ b = 1 ∨ b = 2 := by omega
  · by_cases h : a = 0
    · subst h; rfl
    · rw [if_pos rfl, if_neg h, if_neg (Ne.symm h)]; rfl
  · by_cases h : a = 1
    · subst h; rfl
    · rw [if_neg (by decide), if_pos rfl, if_neg h, if_neg (Ne.symm h)]; rfl
  · by_cases h : a = 2
    · subst h; rfl
    · rw [if_neg (by decide), if_neg (by decide), if_neg h, if_neg (Ne.symm h)]; rfl

end

/-! ### The route (R412, R416) -/

/-- The hops of a route on one axis. -/
def InstallTable.hopsOn (t : InstallTable) (own dest a : Nat) : Nat := axisHops (t.extent a) (coord own a) (coord dest a)

/-- The hops of a route are those of its axes. -/
theorem routeOf_hops (hdest : t.names dest = true) (own : Nat) :
    (routeOf t own dest).2 = t.hopsOn own dest 0 + t.hopsOn own dest 1 + t.hopsOn own dest 2 := by
  unfold routeOf
  rw [hdest, Bool.not_true, if_neg Bool.false_ne_true]
  by_cases hown : dest = own
  · subst hown
    simp [InstallTable.hopsOn, axisHops_self]
  · rw [if_neg hown]
    exact congrArg (· + t.hopsOn own dest 1 + t.hopsOn own dest 2) (Nat.zero_add _)

/-- The port of a route is that of the first axis on which the nodes differ, in the direction of the shorter way. -/
theorem routeOf_port (hown : t.names own = true) (hdest : t.names dest = true) (hne : own ≠ dest) : ∃ a pos h, a < 3 ∧
    (routeOf t own dest).1 = axisPort a pos ∧ axisWay (t.extent a) (coord own a) (coord dest a) = some (pos, h) := by
  have hport : (routeOf t own dest).1 = (([0, 1, 2].map (fun a => (a, axisWay (t.extent a) (coord own a) (coord dest a)))).findSome?
      (fun q => q.2.map (fun w => axisPort q.1 w.1))).getD 6 := by
    unfold routeOf
    rw [hdest, Bool.not_true, if_neg Bool.false_ne_true, if_neg (Ne.symm hne)]
    dsimp only [List.map, List.getD, List.getElem?_cons_zero, List.getElem?_cons_succ, Option.getD_some]
    congr 2
    funext q
    cases q.2 <;> rfl
  have hdiffer : ∃ a, a < 3 ∧ coord own a ≠ coord dest a := by
    by_contra hall
    push Not at hall
    exact hne (node_ext (InstallTable.names_lt hown) (InstallTable.names_lt hdest) (hall 0 (by decide)) (hall 1 (by decide)) (hall 2 (by decide)))
  obtain ⟨d, hd, hcoord⟩ := hdiffer
  have hsome := axisWay_isSome (InstallTable.names_coord hown d) (InstallTable.names_coord hdest d) hcoord
  have hfound : (([0, 1, 2].map (fun a => (a, axisWay (t.extent a) (coord own a) (coord dest a)))).findSome?
      (fun q => q.2.map (fun w => axisPort q.1 w.1))).isSome = true := by
    rw [List.findSome?_isSome_iff]
    refine ⟨(d, axisWay (t.extent d) (coord own d) (coord dest d)), List.mem_map.mpr ⟨d, by simp; omega, rfl⟩, ?_⟩
    rw [Option.isSome_map]
    exact hsome
  obtain ⟨port, hfirst⟩ := Option.isSome_iff_exists.mp hfound
  obtain ⟨q, hq, hqport⟩ := List.exists_of_findSome?_eq_some hfirst
  obtain ⟨a, ha, rfl⟩ := List.mem_map.mp hq
  obtain ⟨⟨pos, h⟩, hway, rfl⟩ := Option.map_eq_some_iff.mp hqport
  refine ⟨a, pos, h, by simp at ha; omega, ?_, hway⟩
  rw [hport, hfirst, Option.getD_some]

end

/-- Settles O60: the route's first hop shortens the shorter way round its own axis and leaves the other two (`coord_neighbour`, `axisHops_axisStep`). -/
theorem everyHopComesCloser : Obligations.EveryHopComesCloser := by
  unfold Obligations.EveryHopComesCloser
  intro t own dest hex hey hez hown hdest hne
  obtain ⟨a, pos, h, ha, hport, hway⟩ := routeOf_port hown hdest hne
  have hcloser : t.hopsOn (neighbour t own (axisPort a pos)) dest a + 1 = t.hopsOn own dest a := by
    rw [InstallTable.hopsOn, coord_neighbour hex hey hez hown ha pos ha, if_pos rfl]
    exact axisHops_axisStep (InstallTable.names_coord hown a) (InstallTable.names_coord hdest a) hway
  have hlevel {b : Nat} (hb : b < 3) (hab : b ≠ a) : t.hopsOn (neighbour t own (axisPort a pos)) dest b = t.hopsOn own dest b := by
    rw [InstallTable.hopsOn, coord_neighbour hex hey hez hown ha pos hb, if_neg hab, InstallTable.hopsOn]
  rw [hport, routeOf_hops hdest, routeOf_hops hdest]
  refine ⟨axisPort_lt ha pos, ?_⟩
  have hlevel0 := hlevel (b := 0) (by decide)
  have hlevel1 := hlevel (b := 1) (by decide)
  have hlevel2 := hlevel (b := 2) (by decide)
  obtain rfl | rfl | rfl : a = 0 ∨ a = 1 ∨ a = 2 := by omega
  all_goals omega

/-- Settles O59: the diameter is that sum by definition, and the times of Anneal are the definition's multiples of it. -/
theorem blockDiameters : Obligations.BlockDiameters := by
  unfold Obligations.BlockDiameters
  refine ⟨fun t b => rfl, fun t hx hy hz => ?_, fun s t b pav htable hblock => ?_⟩
  · simp [podBlock, Block.diameter, hx, hy, hz]
  · have hdiameter : s.blockDiameter pav = b.diameter t := by rw [State.blockDiameter, htable, hblock]
    rw [hdiameter]
    exact ⟨Nat.mul_comm .., Nat.mul_comm .., Nat.mul_comm ..⟩

end Sys2Proof.Machine
end

section
/-!
SUPPORT. What the readiness wave, the events and the start-up bound are told with (R421 to R424, R532): the record of the wave, messages to the neighbours,
and inbound messages taken.
-/
namespace Sys2Proof.Machine

/-! ### The record of the wave (R422, R423) -/

/-- A bit set or cleared reads back, and the others stay. -/
theorem setBitTo_testBit (m i j : Nat) (v : Bool) : (setBitTo m i v).testBit j = if j = i then v else m.testBit j := by
  unfold setBitTo
  rw [Nat.one_shiftLeft]
  by_cases hj : j = i
  · subst hj
    rw [if_pos rfl]
    cases v with
    | true => simp
    | false => cases hbit : m.testBit j <;> simp [hbit]
  · rw [if_neg hj]
    have hother : (2 ^ i).testBit j = false := Nat.testBit_two_pow_of_ne (Ne.symm hj)
    split_ifs <;> simp [hother]

section
variable (t : Topo)

@[simp] theorem Topo.settle_ready : t.settle.ready = t.ready := by unfold Topo.settle; split <;> rfl
@[simp] theorem Topo.settle_missing : t.settle.missing = t.missing := by unfold Topo.settle; split <;> rfl
@[simp] theorem Topo.settle_nodeDown : t.settle.nodeDown = t.nodeDown := by unfold Topo.settle; split <;> rfl
@[simp] theorem Topo.settle_linkEvents : t.settle.linkEvents = t.linkEvents := by unfold Topo.settle; split <;> rfl
@[simp] theorem Topo.settle_nodeEvents : t.settle.nodeEvents = t.nodeEvents := by unfold Topo.settle; split <;> rfl
@[simp] theorem Topo.settle_nodeReady : t.settle.nodeReady = t.nodeReady := by unfold Topo.settle; split <;> rfl
@[simp] theorem Topo.settle_bound : t.settle.bound = t.bound := by unfold Topo.settle; split <;> rfl
@[simp] theorem Topo.settle_reported : t.settle.reported = t.reported := by unfold Topo.settle; split <;> rfl
@[simp] theorem Topo.settle_allReported : t.settle.allReported = t.allReported := by unfold Topo.settle; split <;> rfl

/-- STATE of a node that has reported (R423). -/
theorem Topo.settle_state {t : Topo} {i : InstallTable} (hinstall : t.install = some i) (hreported : t.reported = true) :
    t.settle.state = if i.ids.all (fun n => t.ready.testBit n) && t.missing = 0 then .ready else .readyPartial := by
  simp [Topo.settle, hinstall, hreported]

end

section
variable (s : State) (ready missing : Nat)

@[simp] theorem State.setWave_ready : (s.setWave ready missing).topo.ready = ready := by
  unfold State.setWave
  split
  case isTrue h => rw [Bool.and_eq_true, decide_eq_true_eq] at h; exact h.1.symm
  case isFalse => simp
@[simp] theorem State.setWave_missing : (s.setWave ready missing).topo.missing = missing := by
  unfold State.setWave
  split
  case isTrue h => rw [Bool.and_eq_true, decide_eq_true_eq, decide_eq_true_eq] at h; exact h.2.symm
  case isFalse => simp
@[simp] theorem State.setWave_nodeReady : (s.setWave ready missing).topo.nodeReady = s.topo.nodeReady := by
  unfold State.setWave; split <;> simp
@[simp] theorem State.setWave_bound : (s.setWave ready missing).topo.bound = s.topo.bound := by unfold State.setWave; split <;> simp
@[simp] theorem State.setWave_ports : (s.setWave ready missing).ports = s.ports := by unfold State.setWave; split <;> rfl
@[simp] theorem State.setWave_front : (s.setWave ready missing).front = s.front := by unfold State.setWave; split <;> rfl
@[simp] theorem State.setWave_lodge : (s.setWave ready missing).lodge = s.lodge := by unfold State.setWave; split <;> rfl
@[simp] theorem State.setWave_counters : (s.setWave ready missing).counters = s.counters := by unfold State.setWave; split <;> rfl

end

/-! ### Messages to the neighbours (R422, R424) -/

/-- A message of the Lodge to the far end of a port joins the queue of that port. -/
theorem State.mgmtTo_eq {s : State} {i : InstallTable} (hinstall : s.topo.install = some i) (p : PortIx) (mtype sub : Nat) (payload : List LinkUnit) :
    ∃ x : TxMsg, x.msg = mkMgmt (neighbour i s.topo.node p) s.topo.node mtype sub payload ∧ x.ready = true ∧
      s.mgmtTo p mtype sub payload = s.modPane p (fun q => { q with txq := q.txq ++ [x] }) := by
  rw [State.mgmtTo, hinstall]
  dsimp only
  rw [State.sendVia, if_neg (by omega), dif_pos p.isLt]
  exact ⟨{ msg := mkMgmt (neighbour i s.topo.node p) s.topo.node mtype sub payload, vc := _, key := 0, sub := 0, ready := true, stream := 0, tag := none },
    rfl, rfl, rfl⟩

theorem State.mgmtTo_portChange (s : State) (p : PortIx) (mtype sub : Nat) (payload : List LinkUnit) : s.PortChange p (s.mgmtTo p mtype sub payload) := by
  cases hinstall : s.topo.install with
  | none => rw [State.mgmtTo, hinstall]; exact .refl p s
  | some i =>
    obtain ⟨x, -, -, heq⟩ := State.mgmtTo_eq hinstall p mtype sub payload
    rw [heq]
    exact .of_modPane ..

theorem State.mgmtTo_queues {s : State} {i : InstallTable} (hinstall : s.topo.install = some i) (p : PortIx) (mtype sub : Nat) (payload : List LinkUnit) :
    (s.mgmtTo p mtype sub payload).queues p.val (mkMgmt (neighbour i s.topo.node p) s.topo.node mtype sub payload) := by
  obtain ⟨x, hmsg, hready, heq⟩ := State.mgmtTo_eq hinstall p mtype sub payload
  rw [heq]
  refine ⟨fun hown => absurd p.isLt (by omega), fun _ => ⟨x, ?_, hmsg, hready⟩⟩
  rw [State.modPane_port_same]
  exact List.mem_append_right _ (List.mem_singleton_self x)

/-- A message queued on a port stays queued when another is sent there. -/
theorem State.queues_mgmtTo {s : State} {p : PortIx} {m : Msg} (h : s.queues p.val m) (mtype sub : Nat) (payload : List LinkUnit) :
    (s.mgmtTo p mtype sub payload).queues p.val m := by
  cases hinstall : s.topo.install with
  | none => rwa [State.mgmtTo, hinstall]
  | some i =>
    obtain ⟨y, -, -, heq⟩ := State.mgmtTo_eq hinstall p mtype sub payload
    rw [heq]
    obtain ⟨x, hx, hsays⟩ := h.2 p.isLt
    refine ⟨fun hown => absurd p.isLt (by omega), fun _ => ⟨x, ?_, hsays⟩⟩
    rw [State.modPane_port_same]
    exact List.mem_append_left _ hx

/-- A message flooded changes the queues of the ports alone. -/
theorem State.flood_keeps (s : State) (mtype sub : Nat) (payload : List LinkUnit) :
    (s.flood mtype sub payload).topo = s.topo ∧ (s.flood mtype sub payload).front = s.front := by
  refine foldl_keeps (R := fun a b : State => b.topo = a.topo ∧ b.front = a.front) (fun _ => ⟨rfl, rfl⟩)
    (fun h k => ⟨k.1.trans h.1, k.2.trans h.2⟩) (fun p _ a => ?_) s
  split
  · have hchange := a.mgmtTo_portChange p mtype sub payload
    exact ⟨hchange.topo, hchange.front⟩
  · exact ⟨rfl, rfl⟩

/-! ### Events applied (R424, R532) -/

/-- What a link event applied leaves, before STATE and UNREACH are settled. -/
def Topo.linked (t : Topo) (link : Nat) (up : Bool) (tick : Word) (now : Nat) : Topo :=
  { t with linkEvents := Table.put (0, 0) t.linkEvents link (tick.toNat + 1, b2n up), missing := setBitTo t.missing link (!up), changedAt := now }

/-- What a node event applied leaves, before STATE and UNREACH are settled. -/
def Topo.noded (t : Topo) (node event : Nat) (tick : Word) : Topo :=
  { t with nodeEvents := Table.put 0 t.nodeEvents node (tick.toNat + 1), nodeDown := setBitTo t.nodeDown node (event == 0) }

section
variable (t : Topo) (link node event now : Nat) (up : Bool) (tick : Word)

theorem Topo.linked_event : Table.get (0, 0) (t.linked link up tick now).linkEvents link = (tick.toNat + 1, b2n up) := by
  simp [Topo.linked]

theorem Topo.linked_missing (i : Nat) : (t.linked link up tick now).missing.testBit i = if i = link then !up else t.missing.testBit i :=
  setBitTo_testBit ..

theorem Topo.noded_event : Table.get 0 (t.noded node event tick).nodeEvents node = tick.toNat + 1 := by
  simp [Topo.noded]

theorem Topo.noded_nodeDown (n : Nat) : (t.noded node event tick).nodeDown.testBit n = if n = node then event == 0 else t.nodeDown.testBit n :=
  setBitTo_testBit ..

end

section
variable {s : State} {link node event reporter : Nat} {up : Bool} {tick : Word}

theorem State.applyLinkEvent_old (h : s.topo.newer link up tick.toNat = false) : s.applyLinkEvent link up reporter tick = s := by
  rw [State.applyLinkEvent, h, if_neg Bool.false_ne_true]

theorem State.applyLinkEvent_new (h : s.topo.newer link up tick.toNat = true) :
    (s.applyLinkEvent link up reporter tick).topo = (s.topo.linked link up tick s.now).settle ∧
      (s.applyLinkEvent link up reporter tick).front = s.front := by
  rw [State.applyLinkEvent, if_pos h]
  dsimp only
  rw [(State.flood_keeps ..).1, (State.flood_keeps ..).2, State.notice_topo, State.notice_front]
  exact ⟨rfl, rfl⟩

theorem State.applyNodeEvent_old (h : tick.toNat + 1 ≤ Table.get 0 s.topo.nodeEvents node) : s.applyNodeEvent node event tick = s := by
  rw [State.applyNodeEvent, if_neg (by omega)]

theorem State.applyNodeEvent_new (h : Table.get 0 s.topo.nodeEvents node < tick.toNat + 1) :
    (s.applyNodeEvent node event tick).topo = (s.topo.noded node event tick).settle ∧ (s.applyNodeEvent node event tick).front = s.front := by
  rw [State.applyNodeEvent, if_pos h, (State.flood_keeps ..).1, (State.flood_keeps ..).2]
  exact ⟨rfl, rfl⟩

end

/-! ### Inbound messages taken (R525) -/

section
variable (s : State)

@[simp] theorem State.dropInbound_topo : s.dropInbound.topo = s.topo := by unfold State.dropInbound; split <;> rfl
@[simp] theorem State.dropInbound_ports : s.dropInbound.ports = s.ports := by unfold State.dropInbound; split <;> rfl
@[simp] theorem State.dropInbound_front : s.dropInbound.front = s.front := by unfold State.dropInbound; split <;> rfl
@[simp] theorem State.dropInbound_counters : s.dropInbound.counters = s.counters := by unfold State.dropInbound; split <;> rfl

end

theorem State.takeInbound_eq {s : State} {p : PortIx} {f : Msg → Bool} {m : Msg} (h : s.inboundIs p f = some m) (g : Msg → State → State) :
    s.takeInbound p f g = .next (s.keep (g m s.dropInbound)) := by
  rw [State.takeInbound, h]
  rfl

/-! ### What a port that goes DOWN leaves of the start-up (R373, R421) -/

/-- Between two states the front end stays, and what the torus holds of the node's own start-up. -/
structure State.StartKept (s u : State) : Prop where
  front : u.front = s.front
  bound : u.topo.bound = s.topo.bound
  nodeReady : u.topo.nodeReady = s.topo.nodeReady

namespace State.StartKept

variable {s u v : State}

theorem of_topo (hfront : u.front = s.front) (htopo : u.topo = s.topo) : s.StartKept u := ⟨hfront, by rw [htopo], by rw [htopo]⟩

theorem refl (s : State) : s.StartKept s := of_topo rfl rfl

theorem trans (h : s.StartKept u) (k : u.StartKept v) : s.StartKept v :=
  ⟨k.front.trans h.front, k.bound.trans h.bound, k.nodeReady.trans h.nodeReady⟩

theorem of_linkChanged (s : State) (p : PortIx) (up : Bool) : s.StartKept (s.linkChanged p up) := by
  unfold State.linkChanged
  split
  · exact refl s
  case h_2 i _ =>
  split
  · cases hnew : s.topo.newer (linkNumber i s.topo.node p) up s.time.now.toNat with
    | false => rw [State.applyLinkEvent_old hnew]; exact refl s
    | true =>
      obtain ⟨htopo, hfront⟩ := State.applyLinkEvent_new (reporter := s.topo.node) hnew
      exact ⟨hfront, by rw [htopo, Topo.settle_bound, Topo.linked], by rw [htopo, Topo.settle_nodeReady, Topo.linked]⟩
  · exact refl s

theorem of_enterDown (s : State) (p : PortIx) (cause : Nat) : s.StartKept (s.enterDown p cause) := by
  have hdown := s.downed_portChange p cause
  have hlose : s.StartKept (s.downed p cause).loseTime := by
    refine .trans (.of_topo hdown.front hdown.topo) ?_
    unfold State.loseTime
    split
    · exact refl _
    · exact of_topo rfl rfl
  unfold State.enterDown
  dsimp only
  split
  · exact hlose
  · exact hlose.trans (of_linkChanged ..)

end State.StartKept

theorem State.enterDown_lane_other (s : State) {p o : PortIx} (ho : o ≠ p) (cause : Nat) :
    ((s.enterDown p cause).port o).lane = (s.port o).lane := by
  rw [(s.enterDown_downed p cause).moves.lane o, (s.downed_portChange p cause).others o ho]

/-- Ports taken DOWN together, each for the cause; the others keep their links and their lanes. -/
theorem State.foldl_enterDown (cause : Nat) (l : List PortIx) (s : State) :
    s.StartKept (l.foldl (fun a p => a.enterDown p cause) s) ∧
      (∀ q, q ∈ l → ((l.foldl (fun a p => a.enterDown p cause) s).port q).pane.link = .down ∧
        ((l.foldl (fun a p => a.enterDown p cause) s).port q).lane.causeOwn = cause) ∧
      ∀ q, q ∉ l → ((l.foldl (fun a p => a.enterDown p cause) s).port q).pane.link = (s.port q).pane.link ∧
        ((l.foldl (fun a p => a.enterDown p cause) s).port q).lane = (s.port q).lane := by
  induction l generalizing s with
  | nil => exact ⟨.refl s, fun q hq => absurd hq List.not_mem_nil, fun q _ => ⟨rfl, rfl⟩⟩
  | cons p l ih =>
    obtain ⟨hkept, hdown, hothers⟩ := ih (s.enterDown p cause)
    rw [List.foldl_cons]
    refine ⟨(State.StartKept.of_enterDown s p cause).trans hkept, fun q hq => ?_, fun q hq => ?_⟩
    · by_cases hl : q ∈ l
      · exact hdown q hl
      · obtain rfl : q = p := (List.mem_cons.mp hq).resolve_right hl
        obtain ⟨hlink, hlane⟩ := hothers q hl
        obtain ⟨e, hcause⟩ := s.enterDown_lane q cause
        rw [hlink, hlane, hcause]
        exact ⟨s.enterDown_link q cause, rfl⟩
    · obtain ⟨hne, hl⟩ := not_or.mp (mt List.mem_cons.mpr hq)
      obtain ⟨hlink, hlane⟩ := hothers q hl
      exact ⟨hlink.trans (s.enterDown_link_other p cause hne), hlane.trans (s.enterDown_lane_other hne cause)⟩

end Sys2Proof.Machine
end

section
/-!
PROOFS. The readiness wave, link and node events, start-up and the pod state (R421 to R424, R532): the statement TheWaveGoesRound.
-/
namespace Sys2Proof.Machine

section
variable {s : State} {p : PortIx} {m : Msg}

/-! ### WAVE and WAVE_SEND (R422, R532) -/

theorem wave_merges (hm : s.inboundIs p isWave = some m) : ∃ t, exec (.wave p) s = .next t ∧
    t.topo.ready = (if mgmtSub m.hdr = 0 then s.topo.ready ||| bitmapOf (m.body.take 64) else s.topo.ready) ∧
    t.topo.missing = (if mgmtSub m.hdr = 1 then s.topo.missing ||| bitmapOf (m.body.take 192) else s.topo.missing) ∧
    t.lodge = s.dropInbound.lodge ∧ t.ports = s.ports ∧ t.front = s.front ∧ t.counters = s.counters := by
  have hexec : exec (.wave p) s = .next (s.keep (
      if mgmtSub m.hdr = 0 then s.dropInbound.setWave (s.dropInbound.topo.ready ||| bitmapOf (m.body.take 64)) s.dropInbound.topo.missing
      else if mgmtSub m.hdr = 1 then s.dropInbound.setWave s.dropInbound.topo.ready (s.dropInbound.topo.missing ||| bitmapOf (m.body.take 192))
      else s.dropInbound)) := by
    show execWave p s = _
    rw [execWave, State.takeInbound_eq hm]
  refine ⟨_, hexec, ?_⟩
  by_cases hready : mgmtSub m.hdr = 0
  · simp [hready]
  by_cases hmissing : mgmtSub m.hdr = 1
  · simp [hmissing]
  · simp [hready, hmissing]

/-- The torus once the record of the wave is sent on a port. -/
def Topo.waveSent (t : Topo) (p : PortIx) (now : Nat) : Topo :=
  { t with waveDue := Table.put (0, 0) t.waveDue p.val (t.ready, t.missing), waveSentAt := Table.put none t.waveSentAt p.val (some now) }

theorem Topo.waveSent_due (t : Topo) (p : PortIx) (now : Nat) : Table.get (0, 0) (t.waveSent p now).waveDue p.val = (t.ready, t.missing) := by
  simp [Topo.waveSent]

theorem Topo.waveSent_at (t : Topo) (p : PortIx) (now : Nat) : Table.get none (t.waveSent p now).waveSentAt p.val = some now := by
  simp [Topo.waveSent]

/-- The record of the wave sent on a port: the bitmaps that have changed since join its queue, and the torus notes what was sent. -/
theorem State.sendWave_sends {i : InstallTable} (hinstall : s.topo.install = some i) :
    let last := Table.get (0, 0) s.topo.waveDue p.val
    let sends (t : State) (sub n v : Nat) : Prop := t.queues p.val (mkMgmt (neighbour i s.topo.node p) s.topo.node 2 sub (bitmapUnits n v))
    ∃ u, s.sendWave p = u.modTopo (fun t => t.waveSent p s.now) ∧ s.PortChange p u ∧ (last.1 ≠ s.topo.ready → sends u 0 64 s.topo.ready) ∧
      (last.2 ≠ s.topo.missing → sends u 1 192 s.topo.missing) := by
  intro last sends
  have hfirst : ∃ u, u = (if last.1 = s.topo.ready then s else s.mgmtTo p 2 0 (bitmapUnits 64 s.topo.ready)) ∧ s.PortChange p u ∧
      (last.1 ≠ s.topo.ready → sends u 0 64 s.topo.ready) := by
    refine ⟨_, rfl, ?_, fun hchanged => ?_⟩
    · split
      · exact .refl p s
      · exact s.mgmtTo_portChange ..
    · rw [if_neg hchanged]
      exact State.mgmtTo_queues hinstall ..
  obtain ⟨u, hu, hchange, hready⟩ := hfirst
  refine ⟨if last.2 = s.topo.missing then u else u.mgmtTo p 2 1 (bitmapUnits 192 s.topo.missing), ?_, ?_, fun hchanged => ?_, fun hchanged => ?_⟩
  · rw [hu]
    rfl
  · split
    · exact hchange
    · exact hchange.trans (u.mgmtTo_portChange ..)
  · split
    · exact hready hchanged
    · exact State.queues_mgmtTo (hready hchanged) ..
  · rw [if_neg hchanged]
    have hqueues := State.mgmtTo_queues (s := u) (hchange.topo ▸ hinstall) p 2 1 (bitmapUnits 192 s.topo.missing)
    rwa [hchange.topo] at hqueues

theorem waveSend_sends {i : InstallTable} (hturn : s.levelTurn 2 = true) (hdue : s.waveToSend p = true) (hinstall : s.topo.install = some i) :
    let last := Table.get (0, 0) s.topo.waveDue p.val
    let sends (t : State) (sub n v : Nat) : Prop := t.queues p.val (mkMgmt (neighbour i s.topo.node p) s.topo.node 2 sub (bitmapUnits n v))
    ∃ t, exec (.waveSend p) s = .next t ∧ (last.1 ≠ s.topo.ready → sends t 0 64 s.topo.ready) ∧ (last.2 ≠ s.topo.missing → sends t 1 192 s.topo.missing) ∧
      Table.get (0, 0) t.topo.waveDue p.val = (s.topo.ready, s.topo.missing) ∧ Table.get none t.topo.waveSentAt p.val = some s.now ∧
      t.topo.ready = s.topo.ready ∧ t.topo.missing = s.topo.missing ∧ ∀ q, q ≠ p → t.port q = s.port q := by
  intro last sends
  have hexec : exec (.waveSend p) s = .next (s.keep (s.sendWave p)) := by
    show act (s.levelTurn 2 && s.waveToSend p) s _ = _
    rw [hturn, hdue]
    rfl
  obtain ⟨u, hsend, hchange, hready, hmissing⟩ := State.sendWave_sends (p := p) hinstall
  refine ⟨_, hexec, ?_⟩
  rw [hsend]
  refine ⟨hready, hmissing, ?_, u.topo.waveSent_at p s.now, (congrArg Topo.ready hchange.topo :), (congrArg Topo.missing hchange.topo :), hchange.others⟩
  rw [State.keep_topo, State.modTopo_topo, hchange.topo]
  exact s.topo.waveSent_due p s.now

/-! ### LINK_EVENT and NODE_EVENT (R424, R532) -/

theorem linkEvent_moves (hm : s.inboundIs p (fun m => mgmtType m.hdr == 3) = some m) :
    let w : LinkUnit := m.body.getD 0 0
    let link := bits w 127 113
    let up := bit w 112
    let tick := (BitVec.ofNat 64 (bits w 63 0)).toNat
    (s.topo.newer link up tick = false → ∃ t, exec (.linkEvent p) s = .next t ∧ t.topo = s.topo ∧ t.ports = s.ports ∧ t.front = s.front) ∧
    (s.topo.newer link up tick = true → ∃ t, exec (.linkEvent p) s = .next t ∧ Table.get (0, 0) t.topo.linkEvents link = (tick + 1, b2n up) ∧
      t.topo.missing.testBit link = !up ∧ (∀ i, i ≠ link → t.topo.missing.testBit i = s.topo.missing.testBit i) ∧ t.topo.ready = s.topo.ready ∧
      t.front = s.front) := by
  intro w link up tick
  have hexec : exec (.linkEvent p) s = .next (s.keep (s.dropInbound.applyLinkEvent link up (bits w 108 96) (BitVec.ofNat 64 (bits w 63 0)))) := by
    show execLinkEvent p s = _
    rw [execLinkEvent, State.takeInbound_eq hm]
  refine ⟨fun hold => ⟨_, hexec, ?_⟩, fun hnew => ⟨_, hexec, ?_⟩⟩
  · rw [State.applyLinkEvent_old (by rwa [State.dropInbound_topo])]
    exact ⟨s.dropInbound_topo, s.dropInbound_ports, s.dropInbound_front⟩
  · obtain ⟨htopo, hfront⟩ := State.applyLinkEvent_new (s := s.dropInbound) (tick := BitVec.ofNat 64 (bits w 63 0)) (reporter := bits w 108 96)
      (by rwa [State.dropInbound_topo])
    rw [State.keep_topo, State.keep_front, htopo, hfront, State.dropInbound_topo, Topo.settle_linkEvents, Topo.settle_missing, Topo.settle_ready]
    exact ⟨Topo.linked_event .., (Topo.linked_missing ..).trans (if_pos rfl), fun i hi => (Topo.linked_missing ..).trans (if_neg hi), rfl, s.dropInbound_front⟩

theorem nodeEvent_moves (hm : s.inboundIs p (fun m => mgmtType m.hdr == 4) = some m) :
    let w : LinkUnit := m.body.getD 0 0
    let node := bits w 127 115
    let event := bits w 114 112
    let tick := (BitVec.ofNat 64 (bits w 63 0)).toNat
    ((2 ≤ event ∨ tick + 1 ≤ Table.get 0 s.topo.nodeEvents node) →
      ∃ t, exec (.nodeEvent p) s = .next t ∧ t.topo = s.topo ∧ t.ports = s.ports ∧ t.front = s.front) ∧
    (event < 2 → Table.get 0 s.topo.nodeEvents node < tick + 1 → ∃ t, exec (.nodeEvent p) s = .next t ∧ Table.get 0 t.topo.nodeEvents node = tick + 1 ∧
      t.topo.nodeDown.testBit node = (event == 0) ∧ (∀ n, n ≠ node → t.topo.nodeDown.testBit n = s.topo.nodeDown.testBit n) ∧ t.front = s.front) := by
  intro w node event tick
  have hexec : exec (.nodeEvent p) s = .next (s.keep (if 2 ≤ event then s.dropInbound
      else s.dropInbound.applyNodeEvent node event (BitVec.ofNat 64 (bits w 63 0)))) := by
    show execNodeEvent p s = _
    rw [execNodeEvent, State.takeInbound_eq hm]
  refine ⟨fun hidle => ⟨_, hexec, ?_⟩, fun hknown hnew => ⟨_, hexec, ?_⟩⟩
  · have hsame : (if 2 ≤ event then s.dropInbound else s.dropInbound.applyNodeEvent node event (BitVec.ofNat 64 (bits w 63 0))) = s.dropInbound := by
      split
      · rfl
      case isFalse hknown => exact State.applyNodeEvent_old (by rw [State.dropInbound_topo]; exact hidle.resolve_left hknown)
    rw [hsame]
    exact ⟨s.dropInbound_topo, s.dropInbound_ports, s.dropInbound_front⟩
  · obtain ⟨htopo, hfront⟩ := State.applyNodeEvent_new (s := s.dropInbound) (event := event) (tick := BitVec.ofNat 64 (bits w 63 0))
      (by rwa [State.dropInbound_topo])
    rw [if_neg (by omega), State.keep_topo, State.keep_front, htopo, hfront, State.dropInbound_topo, Topo.settle_nodeEvents, Topo.settle_nodeDown]
    exact ⟨Topo.noded_event .., (Topo.noded_nodeDown ..).trans (if_pos rfl), fun n hn => (Topo.noded_nodeDown ..).trans (if_neg hn), s.dropInbound_front⟩

/-! ### NODE_READY and STARTUP_BOUND (R421, R422) -/

theorem nodeReady_readies (hturn : s.levelTurn 2 = true) (hserved : s.retained.oos = false) (hnot : s.topo.nodeReady = false)
    (hinstall : s.topo.install.isSome = true) (hgood : s.topo.state ≠ .tableBad) (hports : s.portsReady = true) (htime : s.timeReady = true) :
    ∃ t, exec .nodeReady s = .next t ∧ t.topo.nodeReady = true ∧ t.topo.ready.testBit s.topo.node = true ∧
      t.topo.missing = s.topo.missing ||| s.linksOf (fun q => (s.topo.port q).disabled) ∧ t.ports = s.ports ∧ t.front = s.front := by
  have hexec : exec .nodeReady s = .next (s.keep (s.becomeReady (fun q => (s.topo.port q).disabled))) := by
    show execNodeReady s = _
    rw [execNodeReady, hturn, hserved, hnot, hinstall, bne_iff_ne.mpr hgood, hports, htime]
    rfl
  refine ⟨_, hexec, ?_⟩
  simp [State.becomeReady, setBitTo_testBit]

/-- The state at the start-up bound once every overdue port is DOWN. -/
def State.overdueDown (s : State) : State := s.overdue.foldl (fun a q => a.enterDown q lcTimeout) (s.modTopo (fun t => { t with bound := true }))

theorem State.overdueDown_nodeReady (s : State) : s.overdueDown.topo.nodeReady = s.topo.nodeReady := (State.foldl_enterDown ..).1.nodeReady

/-- At the bound a node that is not ready becomes so, where a table places it and it is not out of service; only the record of the wave changes else. -/
theorem State.startupBound_eq (s : State) : ∃ b ready missing,
    s.startupBound = (s.overdueDown.modTopo (fun t => { t with nodeReady := b })).setWave ready missing ∧
      (s.retained.oos = false → s.topo.install.isSome = true → s.topo.state ≠ .tableBad → b = true) := by
  have hstart : s.startupBound = if s.topo.nodeReady || s.retained.oos || s.topo.install.isNone || s.topo.state == .tableBad then
      s.overdueDown.setWave s.overdueDown.topo.ready (s.overdueDown.topo.missing ||| s.overdueDown.linksOf (fun p => p ∈ s.overdue))
    else s.overdueDown.becomeReady (fun p => s.portMissing p) := rfl
  rw [hstart]
  split
  case isTrue hstays =>
    refine ⟨s.topo.nodeReady, s.overdueDown.topo.ready, s.overdueDown.topo.missing ||| s.overdueDown.linksOf (fun p => p ∈ s.overdue), ?_,
      fun hserved hinstall hgood => ?_⟩
    · rw [← s.overdueDown_nodeReady]
      rfl
    · simpa [hserved, Option.isSome_iff_ne_none.mp hinstall, hgood] using hstays
  case isFalse => exact ⟨true, _, _, rfl, fun _ _ _ => rfl⟩

theorem startupBound_ends (hturn : s.levelTurn 2 = true) (hpast : s.pastBound = true) (hdue : s.topo.bound = false ∨ s.overdue ≠ []) :
    ∃ t, exec .startupBound s = .next t ∧ t.topo.bound = true ∧ (∀ q, q ∈ s.overdue → (t.port q).pane.link = .down ∧ (t.port q).lane.causeOwn = lcTimeout) ∧
      (∀ q, q ∉ s.overdue → (t.port q).pane.link = (s.port q).pane.link) ∧
      (s.retained.oos = false → s.topo.install.isSome = true → s.topo.state ≠ .tableBad → t.topo.nodeReady = true) ∧ t.front = s.front := by
  have hexec : exec .startupBound s = .next (s.keep s.startupBound) := by
    have hwork : (!s.topo.bound || !s.overdue.isEmpty) = true := by
      rcases hdue with hfirst | hlate
      · rw [hfirst]; rfl
      · simp [hlate]
    show act (s.levelTurn 2 && s.pastBound && (!s.topo.bound || !s.overdue.isEmpty)) s _ = _
    rw [hturn, hpast, hwork]
    rfl
  obtain ⟨hkept, hdown, hothers⟩ : (s.modTopo (fun t => { t with bound := true })).StartKept s.overdueDown ∧
      (∀ q, q ∈ s.overdue → (s.overdueDown.port q).pane.link = .down ∧ (s.overdueDown.port q).lane.causeOwn = lcTimeout) ∧
      ∀ q, q ∉ s.overdue → (s.overdueDown.port q).pane.link = (s.port q).pane.link ∧ (s.overdueDown.port q).lane = (s.port q).lane :=
    State.foldl_enterDown ..
  obtain ⟨b, ready, missing, hstart, hready⟩ := s.startupBound_eq
  have hport (q : PortIx) : (s.keep s.startupBound).port q = s.overdueDown.port q := by
    rw [hstart, State.keep_port, State.port_congr (State.setWave_ports ..), State.port_congr (State.modTopo_ports ..)]
  refine ⟨_, hexec, ?_, fun q hq => by rw [hport]; exact hdown q hq, fun q hq => by rw [hport]; exact (hothers q hq).1,
    fun hserved hinstall hgood => ?_, ?_⟩
  · rw [hstart, State.keep_topo, State.setWave_bound]
    exact hkept.bound
  · rw [hstart, State.keep_topo, State.setWave_nodeReady]
    exact hready hserved hinstall hgood
  · rw [hstart, State.keep_front, State.setWave_front]
    exact hkept.front

/-! ### POD_STATE_REPORT (R423) -/

/-- The torus once the pod state is reported. -/
def Topo.reporting (t : Topo) : Topo := ({ t with reported := true, allReported := t.allReported || t.allReady } : Topo).settle

theorem podStateReport_reports {i : InstallTable} (hturn : s.levelTurn 2 = true) (hready : s.topo.nodeReady = true) (hinstall : s.topo.install = some i)
    (hdue : (s.topo.allReady = true ∧ s.topo.allReported = false) ∨ (s.topo.reported = false ∧ s.pastBound = true ∧ s.usPassed s.topo.changedAt 1000 = true))
    (hroom : s.lodge.notices.length < 256) :
    ∃ t, exec .podStateReport s = .next t ∧ t.topo.reported = true ∧ t.topo.allReported = (s.topo.allReported || s.topo.allReady) ∧
      t.topo.state = (if i.ids.all (fun n => s.topo.ready.testBit n) && s.topo.missing = 0 then .ready else .readyPartial) ∧
      t.lodge = { s.lodge with notices := s.lodge.notices ++ [{ code := (if t.topo.state = .ready then 0x01 else 0x02), tick := s.time.now, data := padTo 16 [] }] } ∧
      t.ports = s.ports ∧ t.front = s.front := by
  have hreport : s.reportDue = true := by
    rcases hdue with ⟨hall, hunsaid⟩ | ⟨hunsaid, hpast, hsettled⟩
    · rw [State.reportDue, hall, hunsaid]; rfl
    · rw [State.reportDue, hunsaid, hpast, hsettled, Bool.or_eq_true_iff]; exact .inr rfl
  have hexec : exec .podStateReport s = .next (s.keep ((s.modTopo Topo.reporting).notice (if s.topo.reporting.state = .ready then 0x01 else 0x02) [])) := by
    show act (s.levelTurn 2 && s.topo.nodeReady && s.reportDue) s _ = _
    rw [hturn, hready, hreport]
    rfl
  have hroom' : (s.modTopo Topo.reporting).lodge.notices.length < 256 := hroom
  refine ⟨_, hexec, ?_⟩
  rw [State.notice, if_pos hroom']
  exact ⟨Topo.settle_reported _, Topo.settle_allReported _, Topo.settle_state hinstall rfl, rfl, rfl, rfl⟩

end

/-- Settles O45: a message merged or an event applied by what its own operation leaves of the record (`setWave`, `applyLinkEvent`, `applyNodeEvent`), and
the start-up by the ports that go DOWN together (`foldl_enterDown`). -/
theorem theWaveGoesRound : Obligations.TheWaveGoesRound := by
  unfold Obligations.TheWaveGoesRound
  intro s p
  refine ⟨fun m hm => wave_merges hm, fun i hturn hdue hinstall => waveSend_sends hturn hdue hinstall, fun m hm => linkEvent_moves hm,
    fun m hm => nodeEvent_moves hm, fun hturn => ⟨fun hserved hnot hinstall hgood hports htime => ?_, fun hpast hdue => startupBound_ends hturn hpast hdue,
      fun i hready hinstall hdue hroom => podStateReport_reports hturn hready hinstall hdue hroom⟩⟩
  exact nodeReady_readies hturn hserved hnot hinstall hgood hports htime

end Sys2Proof.Machine
end

section
/-!
SUPPORT. What the configuration tables are read and taken with (R12, R404, R575): the torus while operations end, ranges read side by side, and ports that
change one after another.
-/
namespace Sys2Proof.Machine

/-! ### The torus while operations end (R114, R119, R575) -/

section
variable (s : State)

@[simp] theorem State.countBuffer_topo (i : Nat) (b : Buffer) (st k : Nat) : (s.countBuffer i b st k).topo = s.topo := by
  unfold State.countBuffer
  dsimp only
  repeat' split
  all_goals simp

theorem State.countHeads_topo (i n : Nat) (s : State) : (s.countHeads i n).topo = s.topo := by
  induction n generalizing s with
  | zero => rfl
  | succ n ih =>
    unfold State.countHeads
    split
    · rfl
    · exact (ih _).trans (State.countBuffer_topo ..)

@[simp] theorem State.counted_topo (i : Nat) : (s.counted i).topo = s.topo := State.countHeads_topo i 4 s
@[simp] theorem State.dropFetch_topo (f : FabUse → Bool) : (s.dropFetch f).topo = s.topo := rfl
@[simp] theorem State.dropWaiting_topo (i : Nat) : (s.dropWaiting i).topo = s.topo := rfl
@[simp] theorem State.countOpEnd_topo (pav bin st : Nat) : (s.countOpEnd pav bin st).topo = s.topo := by
  simp [State.countOpEnd]
@[simp] theorem State.failSlot_topo (m : Nat) : (s.failSlot m).topo = s.topo := by
  unfold State.failSlot
  dsimp only
  split <;> rfl

/-- A fold whose every step leaves the torus leaves it. -/
theorem State.foldl_topo {β : Type} {f : State → β → State} (hf : ∀ b a, (f a b).topo = a.topo) (l : List β) : (l.foldl f s).topo = s.topo :=
  foldl_keeps (R := fun a b : State => b.topo = a.topo) (fun _ => rfl) (fun h k => k.trans h) (fun b _ a => hf b a) s

@[simp] theorem State.failSlots_topo (i : Nat) : (s.failSlots i).topo = s.topo := s.foldl_topo (fun _ a => a.failSlot_topo _) _

theorem State.noteEnd_topo (pav bin : Nat) (o : OpSlot) : (s.noteEnd pav bin o).topo = s.topo := by
  unfold State.noteEnd
  dsimp only
  split
  · split
    · exact State.countOpEnd_topo ..
    · rw [State.failSlot_topo, State.countOpEnd_topo]
  · exact State.countOpEnd_topo ..

@[simp] theorem State.turnBuf_topo (i : Nat) (b : Buffer) (f : Buffer → Buffer) : (s.turnBuf i b f).topo = s.topo :=
  State.foldl_topo (s.modChan i (fun c => c.modBuf b.ring f)) (fun o a => a.noteEnd_topo _ _ o) _

@[simp] theorem State.dropHeld_topo (i : Nat) : (s.dropHeld i).topo = s.topo := by
  unfold State.dropHeld
  refine State.foldl_topo (s.modXfer _) (fun w a => ?_) _
  exact State.modOp_topo ..

@[simp] theorem State.stopEngines_topo (i : Nat) (guilty : Bool) : (s.stopEngines i guilty).topo = s.topo := by
  unfold State.stopEngines
  dsimp only
  rw [State.modChan_topo, State.foldl_topo _ (fun b a => a.turnBuf_topo i b _), State.dropHeld_topo]
  refine s.foldl_topo (fun w a => ?_) _
  exact a.disarm_topo w.1

@[simp] theorem State.startRetire_topo (i status : Nat) (keepFail : Bool) (next : AfterRetire) : (s.startRetire i status keepFail next).topo = s.topo := by
  simp [State.startRetire]

@[simp] theorem State.guilty_topo (i st k : Nat) : (s.guilty i st k).topo = s.topo := by
  unfold State.guilty
  dsimp only
  split
  · rfl
  split
  · simp
  split
  · simp
  · rfl

theorem State.released_topo (o : OpRef) : (s.released o).topo = s.topo := by
  have hcount : (s.countWait o).topo = s.topo := by
    unfold State.countWait
    repeat' split
    all_goals rfl
  have hwatch (t : State) : (t.releaseWatch o).topo = t.topo := by
    unfold State.releaseWatch
    split <;> simp
  have hjobs (t : State) : (t.dropJobsOf o).topo = t.topo := by
    unfold State.dropJobsOf
    dsimp only
    split <;> rfl
  exact (hjobs _).trans ((hwatch _).trans hcount)

/-- The end of an operation is none of the torus's. -/
@[simp] theorem State.endOp_topo (o : OpRef) (st fl : Nat) (own : Bool) : (s.endOp o st fl own).topo = s.topo := by
  cases hb : (s.chan o.chan).buf o.ring with
  | none => simp [State.endOp, hb]
  | some b =>
    have hended : (s.endedIn o b st fl own).topo = s.topo := (State.turnBuf_topo ..).trans (s.released_topo o)
    rw [State.endOp_eq hb]
    split
    · exact (State.guilty_topo ..).trans hended
    · exact hended

@[simp] theorem State.checkWaiting_topo : s.checkWaiting.topo = s.topo := by
  refine s.foldl_topo (fun e a => ?_) _
  split
  · exact State.endOp_topo ..
  · rfl

/-- With no operation waiting there is nothing to check. -/
theorem State.checkWaiting_idle {s : State} (h : s.waitingOps = []) : s.checkWaiting = s := by
  rw [State.checkWaiting, h, List.foldl_nil]

end

/-! ### Ranges read side by side (R12) -/

section
variable (s : State) {j k : ContentKey} (addr len pav : Nat)

@[simp] theorem State.dropContent_topo : (s.dropContent k).topo = s.topo := rfl
@[simp] theorem State.readContent_topo : (s.readContent k addr len pav).topo = s.topo := by simp [State.readContent]

theorem State.dropContent_contentRead_other (h : j ≠ k) : (s.dropContent k).contentRead j = s.contentRead j := by
  rw [State.contentRead, State.contentRead, State.dropContent, State.modFab, List.find?_filter]
  congr 1
  funext c
  by_cases hc : c.key = j
  · simp [hc, h]
  · simp [hc]

theorem State.readContent_contentRead_other (h : j ≠ k) : (s.readContent k addr len pav).contentRead j = s.contentRead j := by
  rw [State.readContent, State.issueAll_contentRead, ← s.dropContent_contentRead_other h]
  simp [State.contentRead, State.modFab, Ne.symm h]

theorem State.readContent_content_other (h : j ≠ k) : (s.readContent k addr len pav).content j = s.content j := by
  rw [State.content, State.content, s.readContent_contentRead_other addr len pav h]

/-- An access asked for is still asked for when a range is read. -/
theorem State.asks_readContent {s : State} {q : FabRequest} (h : s.asks q) : (s.readContent k addr len pav).asks q := by
  have hsame : ((s.dropContent k).modFab (fun f => { f with contents := f.contents ++ [{ key := k, len := len }] })).asks q := h
  exact State.asks_issueAll _ hsame

end

/-! ### Ports that change one after another -/

section
variable {f : State → PortIx → State} (hf : ∀ a p, State.PortChange p a (f a p))
include hf

/-- Each port of a list changed leaves the rest of the block but for the free values taken. -/
theorem State.foldl_portChange_rest (l : List PortIx) (s : State) : ∃ ports count, l.foldl f s = { s with ports := ports, freeCount := count } :=
  foldl_keeps (R := fun a b : State => ∃ ports count, b = { a with ports := ports, freeCount := count }) (fun a => ⟨a.ports, a.freeCount, rfl⟩)
    (by rintro a b c ⟨p, n, rfl⟩ ⟨q, m, rfl⟩; exact ⟨q, m, rfl⟩) (fun p _ a => ⟨_, _, (hf a p).rest⟩) s

/-- Each port of a list is changed once, as it stood. -/
theorem State.foldl_portChange_port {l : List PortIx} (hl : l.Nodup) (s : State) {p : PortIx} (hp : p ∈ l) :
    ∃ a, a.topo = s.topo ∧ a.port p = s.port p ∧ (l.foldl f s).port p = (f a p).port p := by
  induction l generalizing s with
  | nil => cases hp
  | cons q l ih =>
    obtain ⟨hq, hl⟩ := List.nodup_cons.mp hl
    rcases List.mem_cons.mp hp with rfl | hp
    · refine ⟨s, rfl, rfl, ?_⟩
      have hlater : ∀ r ∈ l, ∀ a : State, (f a r).port p = a.port p := fun r hr a => (hf a r).others p (fun e => hq (e ▸ hr))
      exact foldl_keeps (R := fun a b : State => b.port p = a.port p) (fun _ => rfl) (fun h k => k.trans h) hlater _
    · obtain ⟨a, htopo, hport, hlast⟩ := ih hl (f s q) hp
      exact ⟨a, htopo.trans (hf s q).topo, hport.trans ((hf s q).others p (fun e => hq (e ▸ hp))), hlast⟩

end

end Sys2Proof.Machine
end

section
/-!
PROOFS. The configuration tables and the route table (R404 to R408, R416, R420, R575): the statement TablesPlaceTheNode.
-/
namespace Sys2Proof.Machine

section
variable {s : State}

/-! ### Tables read (R404, R405) -/

theorem exec_tableLoad (hlive : s.live = true) (hrunning : s.lodge.running = true) (hcounter : s.topo.tableCounter.isSome = true)
    (hneed : s.topo.state = .noTable ∨ ∃ p, (s.topo.port p).disabled = true) (hinstall : s.readingContent .installation = false)
    (hboard : s.readingContent .board = false) : exec .tableLoad s = .next (s.keep s.takeTables) := by
  have hdue : (s.topo.state == .noTable || allPorts.any (fun p => (s.topo.port p).disabled)) = true := by
    rcases hneed with hnone | ⟨p, hp⟩
    · rw [hnone]; rfl
    · exact Bool.or_eq_true_iff.mpr (.inr (List.any_eq_true.mpr ⟨p, mem_allPorts p, hp⟩))
  show execTableLoad s = _
  rw [execTableLoad, hlive, hrunning, hcounter, hinstall, hboard, hdue]
  rfl

/-- Nothing read yet: both tables are asked for, the installation table's first 64 bytes. -/
theorem State.takeTables_unread (hinstall : s.content .installation = none) :
    s.takeTables = (s.readContent .installation s.topo.installAddr 64 0).readContent .board s.topo.boardAddr 896 0 := by
  rw [State.takeTables, hinstall]

/-- The first 64 bytes read: the rest of the installation table is asked for. -/
theorem State.takeTables_begun {l : List Byte} {x : ReadResult} (hinstall : s.content .installation = some (.data l)) (hboard : s.content .board = some x)
    (hbegins : installBegins l = true) : s.takeTables = s.readContent .installation s.topo.installAddr (installLength l) 0 := by
  rw [State.takeTables, hinstall, hboard]
  exact if_pos hbegins

/-- Both read whole: they are verified. -/
theorem State.takeTables_read {x y : ReadResult} (hinstall : s.content .installation = some x) (hboard : s.content .board = some y)
    (hwhole : ∀ l, x = .data l → installBegins l = false) :
    s.takeTables = ((s.dropContent .installation).dropContent .board).loadTables (bytesOf (some x)) (bytesOf (some y)) := by
  rw [State.takeTables, hinstall, hboard]
  cases x with
  | data l => exact if_neg (Bool.eq_false_iff.mp (hwhole l rfl))
  | fault => rfl
  | ue => rfl
  | partReset => rfl

theorem tableLoad_reads (hlive : s.live = true) (hrunning : s.lodge.running = true) (hcounter : s.topo.tableCounter.isSome = true)
    (hneed : s.topo.state = .noTable ∨ ∃ p, (s.topo.port p).disabled = true) (hinstall : s.contentRead .installation = none)
    (hboard : s.contentRead .board = none) :
    let reads (t : State) (k : ContentKey) (addr n : Nat) : Prop :=
      (t.contentRead k).isSome = true ∧ ∀ w ∈ readPieces addr n 0 (fun o => .content k o), t.asks w
    ∃ t, exec .tableLoad s = .next t ∧ reads t .installation s.topo.installAddr 64 ∧ reads t .board s.topo.boardAddr 896 ∧ t.topo = s.topo ∧
      t.ports = s.ports ∧ t.front = s.front := by
  have hexec := exec_tableLoad hlive hrunning hcounter hneed (State.readingContent_of_unread hinstall) (State.readingContent_of_unread hboard)
  rw [State.takeTables_unread (State.content_of_unread hinstall)] at hexec
  refine ⟨_, hexec, ⟨?_, fun w hw => State.asks_readContent _ _ _ (s.readContent_asks .installation _ _ _ hw)⟩,
    ⟨State.readContent_contentRead .., fun w hw => State.readContent_asks _ _ _ _ _ hw⟩, ?_, ?_, ?_⟩
  · refine (congrArg Option.isSome (State.readContent_contentRead_other _ _ _ _ (by decide))).trans ?_
    exact s.readContent_contentRead ..
  · rw [State.keep_topo, State.readContent_topo, State.readContent_topo]
  · rw [State.keep_ports, State.readContent_ports, State.readContent_ports]
  · rw [State.keep_front, State.readContent_front, State.readContent_front]

theorem tableLoad_readsOn (hlive : s.live = true) (hrunning : s.lodge.running = true) (hcounter : s.topo.tableCounter.isSome = true)
    (hneed : s.topo.state = .noTable ∨ ∃ p, (s.topo.port p).disabled = true) {l : List Byte} {x : ReadResult}
    (hinstall : s.content .installation = some (.data l)) (hboard : s.content .board = some x) (hbegins : installBegins l = true) :
    let reads (t : State) (k : ContentKey) (addr n : Nat) : Prop :=
      (t.contentRead k).isSome = true ∧ ∀ w ∈ readPieces addr n 0 (fun o => .content k o), t.asks w
    ∃ t, exec .tableLoad s = .next t ∧ reads t .installation s.topo.installAddr (installLength l) ∧ t.content .board = some x ∧ t.topo = s.topo ∧
      t.ports = s.ports ∧ t.front = s.front := by
  have hexec := exec_tableLoad hlive hrunning hcounter hneed (State.readingContent_of_read hinstall) (State.readingContent_of_read hboard)
  rw [State.takeTables_begun hinstall hboard hbegins] at hexec
  refine ⟨_, hexec, ⟨State.readContent_contentRead .., fun w hw => State.readContent_asks _ _ _ _ _ hw⟩, ?_, ?_, ?_, ?_⟩
  · exact (s.readContent_content_other _ _ _ (by decide)).trans hboard
  · rw [State.keep_topo, State.readContent_topo]
  · rw [State.keep_ports, State.readContent_ports]
  · rw [State.keep_front, State.readContent_front]

/-! ### Tables refused (R408) -/

theorem State.loadTables_refused {a b : Option (List Byte)} (h : a.bind s.acceptInstall = none ∨ b.bind s.acceptBoard = none) :
    s.loadTables a b = s.tableBad := by
  unfold State.loadTables
  rcases h with h | h
  · rw [h]
  · rw [h]
    cases a.bind s.acceptInstall <;> rfl

/-- A refused table is noted, and what waits is checked. -/
theorem State.tableBad_notes (s : State) : s.tableBad.topo = { s.topo with state := .tableBad } ∧
    (s.waitingOps = [] → s.tableBad = { s with topo := { s.topo with state := .tableBad } }) :=
  ⟨State.checkWaiting_topo _, fun hidle => State.checkWaiting_idle (s := s.modTopo (fun t => { t with state := .tableBad })) hidle⟩

theorem tableLoad_refuses (hlive : s.live = true) (hrunning : s.lodge.running = true) (hcounter : s.topo.tableCounter.isSome = true)
    (hneed : s.topo.state = .noTable ∨ ∃ p, (s.topo.port p).disabled = true) {x y : ReadResult} (hinstall : s.content .installation = some x)
    (hboard : s.content .board = some y) (hwhole : ∀ l, x = .data l → installBegins l = false)
    (hrefused : (bytesOf (some x)).bind s.acceptInstall = none ∨ (bytesOf (some y)).bind s.acceptBoard = none) :
    (∃ t, exec .tableLoad s = .next t ∧ t.topo = { s.topo with state := .tableBad }) ∧
    (s.waitingOps = [] → exec .tableLoad s = .next { (s.dropContent .installation).dropContent .board with topo := { s.topo with state := .tableBad } }) := by
  have hexec := exec_tableLoad hlive hrunning hcounter hneed (State.readingContent_of_read hinstall) (State.readingContent_of_read hboard)
  rw [State.takeTables_read hinstall hboard hwhole, State.loadTables_refused (s := (s.dropContent .installation).dropContent .board) hrefused] at hexec
  obtain ⟨hnoted, hidle⟩ := ((s.dropContent .installation).dropContent .board).tableBad_notes
  refine ⟨⟨_, hexec, hnoted⟩, fun hnone => ?_⟩
  rw [hexec, hidle hnone]
  rfl

/-! ### Tables accepted (R406, R407, R420) -/

/-- A table accepted is longer than the 64 bytes it begins with. -/
theorem State.acceptInstall_whole {l : List Byte} {i : InstallTable} (h : s.acceptInstall l = some i) : installBegins l = false := by
  have hlayout : installLayout l = true := by
    unfold State.acceptInstall at h
    dsimp only at h
    split at h
    case isTrue hgood =>
      simp only [Bool.and_eq_true] at hgood
      exact hgood.1.1.1
    case isFalse => cases h
  have hlength : l.length = 64 + 32 * ((readInstall l).ex * (readInstall l).ey * (readInstall l).ez) + 96 := by
    simp only [installLayout, Bool.and_eq_true] at hlayout
    obtain ⟨⟨⟨⟨⟨-, hlength⟩, -⟩, -⟩, -⟩, -⟩ := hlayout
    exact beq_iff_eq.mp hlength
  have hlong : (l.length == 64) = false := beq_eq_false_iff_ne.mpr (by omega)
  simp only [installBegins, hlong, Bool.false_and]

theorem State.loadTables_accepted {a b : List Byte} {i : InstallTable} {c : BoardTable} (hinstall : s.acceptInstall a = some i)
    (hboard : s.acceptBoard b = some c) :
    s.loadTables (some a) (some b) = allPorts.foldl State.enablePort (((s.takePlace i c).extend 4 i.digest).extend 5 c.digest) := by
  rw [State.loadTables, Option.bind_some, Option.bind_some, hinstall, hboard]

theorem State.present_congr {s u : State} (h : u.topo = s.topo) (p : PortIx) : u.present p = s.present p := by rw [State.present, State.present, h]

/-- A port enabled (R373, R420). -/
theorem State.enablePort_portChange (s : State) (p : PortIx) : s.PortChange p (s.enablePort p) := by
  unfold State.enablePort
  dsimp only
  split
  · split
    · exact .trans (.trans (.of_modLane ..) (.of_modKeys ..)) (State.startTraining_portChange ..)
    · exact .trans (.of_modLane ..) (.of_modKeys ..)
  · exact .refl p s

theorem State.enablePort_absent {p : PortIx} (h : s.present p = false) : s.enablePort p = s := by
  rw [State.enablePort, h, if_neg Bool.false_ne_true]

/-- A PRESENT port has ENABLE 1, and one that was DOWN and not in test trains. -/
theorem State.enablePort_enables {p : PortIx} (h : s.present p = true) : ((s.enablePort p).port p).lane.enabled = true ∧
    ((s.port p).pane.link = .down → (s.port p).lane.testing = false →
      ((s.enablePort p).port p).pane.link = .training ∧ ((s.enablePort p).port p).lane.causeOwn = lcInit) := by
  have hset : ((s.modLane p (fun l => { l with trainCtl := l.trainCtl ||| 1#64 })).modKeys p (fun k => { k with disabled := false })).port p =
      { s.port p with lane := { (s.port p).lane with trainCtl := (s.port p).lane.trainCtl ||| 1#64 }, keys := { (s.port p).keys with disabled := false } } := by
    rw [State.modKeys_port_same, State.modLane_port_same]
  rw [State.enablePort, if_pos h]
  dsimp only
  split
  case isTrue =>
    obtain ⟨lanes, hlane⟩ := ((s.modLane p (fun l => { l with trainCtl := l.trainCtl ||| 1#64 })).modKeys p
      (fun k => { k with disabled := false })).startTraining_lane p lcInit
    rw [State.startTraining_pane, hlane, hset]
    exact ⟨bit_or_one _, fun _ _ => ⟨rfl, rfl⟩⟩
  case isFalse hnot =>
    refine ⟨by rw [hset]; exact bit_or_one _, fun hdown htest => absurd ?_ hnot⟩
    simp [hdown, htest]

/-- Every port in turn enabled: those marked PRESENT by the node's own record, as they stood. -/
theorem State.enablePorts_port (s : State) (p : PortIx) :
    (s.present p = true → ((allPorts.foldl State.enablePort s).port p).lane.enabled = true ∧
      ((s.port p).pane.link = .down → (s.port p).lane.testing = false →
        ((allPorts.foldl State.enablePort s).port p).pane.link = .training ∧ ((allPorts.foldl State.enablePort s).port p).lane.causeOwn = lcInit)) ∧
    (s.present p = false → (allPorts.foldl State.enablePort s).port p = s.port p) := by
  obtain ⟨a, htopo, hport, hlast⟩ := State.foldl_portChange_port State.enablePort_portChange (l := allPorts) (by decide) s (mem_allPorts p)
  rw [hlast, ← hport, ← State.present_congr htopo]
  exact ⟨State.enablePort_enables, fun habsent => by rw [State.enablePort_absent habsent]⟩

section
variable {i : InstallTable} {c : BoardTable} {n : Nat} (hfind : i.places.find? (fun n => (i.record n).serial == s.global.serial) = some n)
include hfind

/-- The node's place by its own record (R420). -/
theorem State.takePlace_topo : (s.takePlace i c).topo.install = some i ∧ (s.takePlace i c).topo.board = some c ∧ (s.takePlace i c).topo.node = n ∧
    (s.takePlace i c).topo.x = n % 16 ∧ (s.takePlace i c).topo.y = n / 16 % 16 ∧ (s.takePlace i c).topo.z = n / 256 % 32 ∧
    (s.topo.reported = false → (s.takePlace i c).topo.state = .starting) := by
  rw [State.takePlace, hfind]
  exact ⟨rfl, rfl, rfl, rfl, rfl, rfl, fun hunsaid => if_neg (Bool.eq_false_iff.mp hunsaid)⟩

/-- The node's time role (R302, R420). -/
theorem State.takePlace_time : (s.takePlace i c).time.master = i.master ∧ (s.takePlace i c).time.isMaster = decide (n = i.master) ∧
    (s.takePlace i c).time.parent = (if n = i.master then 7 else (routeOf i n i.master).1) := by
  rw [State.takePlace, hfind]
  exact ⟨rfl, rfl, rfl⟩

end

/-- The state once both tables are taken and the measurement log is extended with their digests, before the ports are enabled. -/
def State.placedBy (s : State) (i : InstallTable) (c : BoardTable) : State :=
  ((((s.dropContent .installation).dropContent .board).takePlace i c).extend 4 i.digest).extend 5 c.digest

theorem State.placedBy_rest (s : State) (i : InstallTable) (c : BoardTable) :
    (s.placedBy i c).pins.rotTx = s.pins.rotTx ++ [.extend 4 i.digest, .extend 5 c.digest] ∧ (s.placedBy i c).front = s.front ∧
      ∀ p, (s.placedBy i c).port p = s.port p := ⟨List.append_assoc .., rfl, fun _ => rfl⟩

theorem tableLoad_places (hlive : s.live = true) (hrunning : s.lodge.running = true) (hcounter : s.topo.tableCounter.isSome = true)
    (hneed : s.topo.state = .noTable ∨ ∃ p, (s.topo.port p).disabled = true) {a b : List Byte} {i : InstallTable} {c : BoardTable} {n : Nat}
    (hinstall : s.content .installation = some (.data a)) (hboard : s.content .board = some (.data b)) (haccept : s.acceptInstall a = some i)
    (hacceptBoard : s.acceptBoard b = some c) (hfind : i.places.find? (fun n => (i.record n).serial == s.global.serial) = some n) :
    ∃ t, exec .tableLoad s = .next t ∧ t.topo.install = some i ∧ t.topo.board = some c ∧ t.topo.node = n ∧ t.topo.x = n % 16 ∧
      t.topo.y = n / 16 % 16 ∧ t.topo.z = n / 256 % 32 ∧ (s.topo.reported = false → t.topo.state = .starting) ∧ t.time.master = i.master ∧
      t.time.isMaster = decide (n = i.master) ∧ t.time.parent = (if n = i.master then 7 else (routeOf i n i.master).1) ∧
      t.pins.rotTx = s.pins.rotTx ++ [.extend 4 i.digest, .extend 5 c.digest] ∧ t.front = s.front ∧
      ∀ p, (t.present p = true → (t.port p).lane.enabled = true ∧
          ((s.port p).pane.link = .down → (s.port p).lane.testing = false → (t.port p).pane.link = .training ∧ (t.port p).lane.causeOwn = lcInit)) ∧
        (t.present p = false → t.port p = s.port p) := by
  have hload : s.takeTables = allPorts.foldl State.enablePort (s.placedBy i c) :=
    (State.takeTables_read hinstall hboard (fun l hl => by cases hl; exact State.acceptInstall_whole haccept)).trans
      (State.loadTables_accepted (s := (s.dropContent .installation).dropContent .board) haccept hacceptBoard)
  have hexec := exec_tableLoad hlive hrunning hcounter hneed (State.readingContent_of_read hinstall) (State.readingContent_of_read hboard)
  rw [hload] at hexec
  obtain ⟨ports, count, hrest⟩ := State.foldl_portChange_rest State.enablePort_portChange allPorts (s.placedBy i c)
  have htopo : (s.keep (allPorts.foldl State.enablePort (s.placedBy i c))).topo = (s.placedBy i c).topo := (congrArg State.topo hrest :)
  have htime : (s.keep (allPorts.foldl State.enablePort (s.placedBy i c))).time = (s.placedBy i c).time := (congrArg State.time hrest :)
  obtain ⟨hinstalled, hboarded, hnode, hx, hy, hz, hstarting⟩ := State.takePlace_topo (s := (s.dropContent .installation).dropContent .board) (c := c) hfind
  obtain ⟨hmaster, hisMaster, hparent⟩ := State.takePlace_time (s := (s.dropContent .installation).dropContent .board) (c := c) hfind
  obtain ⟨hpins, hfront, hports⟩ := s.placedBy_rest i c
  refine ⟨_, hexec, ?_⟩
  rw [htopo, htime]
  refine ⟨hinstalled, hboarded, hnode, hx, hy, hz, hstarting, hmaster, hisMaster, hparent, (congrArg (fun u => u.pins.rotTx) hrest :).trans hpins,
    (congrArg State.front hrest :).trans hfront, fun p => ?_⟩
  rw [State.present_congr htopo, State.keep_port, ← hports p]
  exact State.enablePorts_port ..

/-! ### ROUTE_TABLE_BUILT (R416, R575) -/

theorem routeTableBuilt_builds (hlive : s.live = true) (hrunning : s.lodge.running = true) (hinstall : s.topo.install.isSome = true)
    (hgood : s.topo.state ≠ .tableBad) (hunbuilt : s.topo.routeBuilt = false) :
    (∃ t, exec .routeTableBuilt s = .next t ∧ t.topo = { s.topo with routeBuilt := true }) ∧
    (s.waitingOps = [] → exec .routeTableBuilt s = .next { s with topo := { s.topo with routeBuilt := true } }) := by
  have hexec : exec .routeTableBuilt s = .next (s.keep (s.modTopo (fun t => { t with routeBuilt := true })).checkWaiting) := by
    show execRouteTableBuilt s = _
    rw [execRouteTableBuilt, hlive, hrunning, hinstall, bne_iff_ne.mpr hgood, hunbuilt]
    rfl
  refine ⟨⟨_, hexec, State.checkWaiting_topo _⟩, fun hidle => ?_⟩
  rw [hexec, State.checkWaiting_idle (s := s.modTopo (fun t => { t with routeBuilt := true })) hidle]
  rfl

end

/-- Settles O46: a TABLE_LOAD by what has been read (`takeTables`), tables accepted by the place taken and each PRESENT port enabled, a refused one by
`tableBad`. -/
theorem tablesPlaceTheNode : Obligations.TablesPlaceTheNode := by
  unfold Obligations.TablesPlaceTheNode
  refine fun s hlive hrunning => ⟨fun hcounter hneed => ⟨fun hinstall hboard => ?_, fun l x hinstall hboard hbegins => ?_,
    fun a b i c n hinstall hboard haccept hacceptBoard hfind => ?_, fun x y hinstall hboard hwhole hrefused => ?_⟩, fun hinstall hgood hunbuilt => ?_⟩
  · exact tableLoad_reads hlive hrunning hcounter hneed hinstall hboard
  · exact tableLoad_readsOn hlive hrunning hcounter hneed hinstall hboard hbegins
  · exact tableLoad_places hlive hrunning hcounter hneed hinstall hboard haccept hacceptBoard hfind
  · exact tableLoad_refuses hlive hrunning hcounter hneed hinstall hboard hwhole hrefused
  · exact routeTableBuilt_builds hlive hrunning hinstall hgood hunbuilt

end Sys2Proof.Machine
end
